-- ==== Sys2Proof/Word.lean ====
section
/-!
DEFINITION. The word types of the T36 model and the sparse table in one canonical form that every large array of the
module is kept in.
-/

namespace Sys2Proof

/-- One byte. -/
abbrev Byte := BitVec 8

/-- A 64-bit word: a register, a sync cell, an address while it is computed. -/
abbrev Word := BitVec 64

/-- A run of bytes, lowest address first (a descriptor, a record, the data of a message). -/
abbrev Bytes := List Byte

/-- A sparse array: its keys rise strictly and no entry equals what an unlisted key reads as. -/
abbrev Tab (α : Type) := List (Nat × α)

end Sys2Proof
end

