-- ==== Sys2Proof/Types.lean ====
section
/-!
DEFINITION. The manual's own enumerations, and the plain-data operands that commands carry and the state stores.
-/

namespace Sys2Proof

/-- The status codes of Table 8.8 (R274), in the order of their codes. -/
inductive Status where
  | ok | badOpcode | badField | range | align | locked | oversubscribed | absent | staleEpoch | checksum
  | uncorrectable | timeout | partialDone | tempForbidden | permission | aborted | inconsistent | unsealed
  deriving DecidableEq, Repr

/-- What the host's memory answers to a DMA read of the module (R278). -/
inductive HostReply where
  /-- The bytes read, lowest address first. -/
  | data (b : Bytes)
  /-- Unsupported Request or Completer Abort. -/
  | unsupported
  /-- A poisoned completion. -/
  | poisoned
  deriving DecidableEq, Repr

/-- Who makes an access to a local address (the requesters that R23, R64, R110, R143, R197, R221 and R246 tell apart). -/
inductive Master where
  /-- A programmable core, by agent ID 0 to 383. -/
  | core (a : Nat)
  /-- An M-core, by its index 16t + 4r + p. -/
  | mcore (i : Nat)
  /-- A pump running a task's command, with the core that issued it. -/
  | taskPump (a : Nat)
  /-- A host pump running a command of function `fn`; `priv` is the privileged flag. -/
  | hostPump (fn : Nat) (priv : Bool)
  /-- Host ingress through BAR4, which only the physical function has. -/
  | bar4
  /-- The Wellkeeper. -/
  | wellkeeper
  /-- The Wellhead monitor. -/
  | monitor
  /-- A remote module's request that arrived on Aquifer port `p`, from module `smod`. -/
  | aquifer (p smod : Nat)
  /-- A partner site's request (0 A, 1 B) with its class label. -/
  | partner (site cls : Nat)
  /-- A catchment unit of region `n`. -/
  | catchment (n : Nat)
  deriving DecidableEq, Repr

/-- The kinds of access that checks tell apart. -/
inductive AccKind where
  | load | store | amo | fetch
  deriving DecidableEq, Repr

/-- The A-extension read-modify-write operations that a core may make (R41, profile of R40). -/
inductive AmoOp where
  | swap | add | xor | and | or | min | max | minu | maxu
  deriving DecidableEq, Repr

/-- What a store-like core access does with the bytes (R206: AMO and LR count as stores). -/
inductive StoreOp where
  /-- A plain store. -/
  | write
  /-- An AMO; the old value goes to `rd`. -/
  | amo (op : AmoOp) (rd : Nat)
  /-- Load-reserved; the value goes to `rd`. -/
  | lr (rd : Nat)
  /-- Store-conditional; `rd` receives 0 on success and 1 on failure. -/
  | sc (rd : Nat)
  /-- The part of a vector store in one line: its bytes start at byte `off` of the register group from `vs` on; `last` marks the
  part that retires the instruction (R206). -/
  | vector (vs off : Nat) (last : Bool)
  deriving DecidableEq, Repr

/-- A register reached by a write or a read that has no row of its own (R9, R259). -/
inductive RegPath where
  /-- An 8-byte access to BAR0 of function `fn` at an offset (Table 8.2). -/
  | bar0 (fn off : Nat)
  /-- An aligned 8-byte access to a local address of the diagnostic and management space. -/
  | diag (who : Master) (addr : Nat)
  /-- A core's access to its own cache registers, by word 0 to 7 (R221). -/
  | ownCache (agent word : Nat)
  /-- A CSR access by a core (R45, R48). -/
  | csr (agent num : Nat)
  /-- The mask bit of an MSI-X vector of a function (R271). -/
  | msixMask (fn vec : Nat)
  /-- NumVFs with VF Enable set, in the SR-IOV capability (R253). -/
  | numVfs
  /-- The BAR4 size chosen through the Resizable BAR capability, in GiB (R254). -/
  | bar4Size
  deriving DecidableEq, Repr

/-- Cache states of Table 6.3. -/
inductive CState where
  | m | e | f | s | i | is | im | sm | wb | wbx
  deriving DecidableEq, Repr

/-- The RESULT of a SNP_RSP (Table 6.4). -/
inductive SnpResult where
  | fwd | ack | miss
  deriving DecidableEq, Repr

/-- The coherence messages of Table 6.4. -/
inductive CohKind where
  | rdS | rdX | upg | rdU | peek | wrU | putM | putC | snpS | snpX | snpU | snpP | inv | stashOffer
  | dataR | dataM | dataPoison | ackUpg | wrAck | wbAck | snpRsp | stashAcc | stashDec
  deriving DecidableEq, Repr

/-- A coherence message: its kind, its line number x (R196), the agent that sends it or that it is for, and what
Table 6.4 says it carries. Fields a kind does not carry are at their defaults. -/
structure CohMsg where
  kind : CohKind := .rdS
  /-- Line number: local address divided by 128. -/
  line : Nat := 0
  /-- The caching agent or requester that sends a request or answer, or receives a snoop or reply. -/
  agent : Nat := 0
  /-- The requester named in a forwarding snoop. -/
  req : Nat := 0
  /-- Line data, or the bytes of an uncached access. -/
  data : Bytes := []
  /-- First byte within the line of an uncached access. -/
  off : Nat := 0
  /-- Length in bytes of an uncached read. -/
  len : Nat := 0
  /-- State granted or offered. -/
  st : CState := .i
  /-- Transaction tag of a write-back. -/
  tag : Nat := 0
  keep : Bool := false
  poison : Bool := false
  cancel : Bool := false
  hasData : Bool := false
  result : SnpResult := .miss
  /-- Stash target of a WR_U. -/
  stash : Option Nat := none
  /-- Bytes of the data that the byte mask of a WR_U leaves out, by their place in the data. -/
  hole : List Nat := []
  /-- Class label (R149). -/
  cls : Nat := 0
  /-- Status of a reply to a partner (R368, R370). -/
  status : Status := .ok
  deriving DecidableEq, Repr

/-- The kinds of Aquifer message of Table 10.5; `reserved` is any MKIND it reserves. -/
inductive MKind where
  | rd | wr | sync | rdr | wrack | syncr | catc | coll | barr | slow | abort | cdig | reserved
  deriving DecidableEq, Repr

/-- The operations on a sync cell (Table 9.1). -/
inductive CellOp where
  | read | set | add | cas | waitGe | waitEq | arm
  deriving DecidableEq, Repr

/-- An Aquifer message: the header of Table 10.4 and its data. -/
structure AqMsg where
  kind : MKind := .rd
  cls : Nat := 0
  level : Nat := 0
  len : Nat := 0
  dmod : Nat := 0
  smod : Nat := 0
  tag : Nat := 0
  /-- Local address at DMOD, for RD, WR, SYNC and CATC. -/
  addr : Nat := 0
  /-- Status byte of a reply. -/
  status : Status := .ok
  /-- Group, sequence and element offset of collective kinds. -/
  group : Nat := 0
  seq : Nat := 0
  elem : Nat := 0
  data : Bytes := []
  deriving DecidableEq, Repr

/-- What stage S0 finds (Table 12.1). -/
structure S0Find where
  bank0Ok : Bool
  bank1Ok : Bool
  aqclk : Bool
  /-- Duration in microseconds from power good. -/
  dur : Nat
  deriving DecidableEq, Repr

/-- What stage S1 finds: the trained link and the failed lanes. -/
structure S1Find where
  trained : Bool
  gen : Nat
  width : Nat
  lanesFailed : Nat
  dur : Nat
  deriving DecidableEq, Repr

/-- What stage S2 finds: a fatal base-die failure, rows (slice, sub-array, row) and columns (slice, sub-array, bit)
that the march test fails. -/
structure S2Find where
  fatal : Bool
  badRows : List (Nat × Nat × Nat)
  badCols : List (Nat × Nat × Nat)
  dur : Nat
  deriving DecidableEq, Repr

/-- Failed bonds of one direction of one slice port: one count per bond group (8) and one for the frame bundle. -/
structure PortFind where
  region : Nat
  port : Nat
  /-- 0 up, 1 down. -/
  dir : Nat
  groups : List Nat
  frame : Nat
  deriving DecidableEq, Repr

/-- What stage S3 finds: the ports with failed bonds and the sites whose stand-alone tests fail. -/
structure S3Find where
  ports : List PortFind
  badSites : List Nat
  dur : Nat
  deriving DecidableEq, Repr

/-- What stage S4 finds: bad core positions (region, row, physical position) and sites that fail as a whole. -/
structure S4Find where
  badCores : List (Nat × Nat × Nat)
  badSites : List Nat
  dur : Nat
  deriving DecidableEq, Repr

/-- What stage S5 finds: per stack the highest passing rate code (3 for none), the rows that post-package repair mends (of the
stack's fuse map, and of those the field-repair record lists, oldest first), and the identity built from the stack's own identification; and the unit ranges the generator test overwrites, each
(stack, channel, pseudo-channel, first unit, units). -/
structure S5Find where
  rates : List Nat
  ppr : List (Nat × Nat)
  idents : List Bytes
  tested : List (Nat × Nat × Nat × Nat × Nat)
  dur : Nat
  deriving DecidableEq, Repr

/-- What stage S6 finds: directory entries that fail clearing, cells that fail zeroing, and the regions that hold them. -/
structure S6Find where
  badDir : Nat
  badCells : Nat
  regions : Nat
  dur : Nat
  deriving DecidableEq, Repr

/-- What stage S7 finds at one partner site: whether the sideband trains, and the descriptor read. -/
structure PartnerFind where
  trained : Bool
  desc : Bytes
  deriving DecidableEq, Repr

/-- What training one Aquifer port finds: the width and rate codes, and the peer's provisional ID and port. -/
structure PortTrain where
  up : Bool
  width : Nat
  rate : Nat
  /-- None when the peer presents no provisional ID. -/
  peer : Option Nat
  peerPort : Nat
  deriving DecidableEq, Repr

/-- What one housekeeping round reads (R430). -/
structure Readings where
  /-- Input voltage in mV, current in 10 mA and power in W. -/
  vin : Nat
  iin : Nat
  pin : Nat
  /-- Diode readings by diode in units of 0.125 degrees; none when open, and the second list names shorted ones. -/
  diodes : List (Option Int)
  shorted : List Nat
  /-- Stack temperatures, none when the read fails. -/
  hbms : List (Option Nat)
  /-- Flash device temperature in degrees. -/
  flash : Int
  /-- Output current (0.1 A) and temperature of each phase. -/
  phases : List (Nat × Nat)
  /-- Power of each stack in 0.1 W. -/
  stackPower : List Nat
  /-- Power of each island in 0.1 W. -/
  islandPower : List Nat
  deriving DecidableEq, Repr

/-- What an in-service test segment or a TEST command runs on (Table 13.6, Table 8.16). -/
inductive TestUnit where
  /-- A programmable core or M-core position: logical tile, row, position. -/
  | core (tile row pos : Nat)
  /-- A spare site, by region number. -/
  | spare (region : Nat)
  /-- A march over 64 lines of a slice from a first line. -/
  | march (slice line : Nat)
  /-- Region logic. -/
  | region (n : Nat)
  deriving DecidableEq, Repr

/-- The outcome of a TEST run: the number of failing units of a region or tile test, and the mismatching granules of a
channel test, each (unit offset, granule, expected XOR read). -/
structure TestFind where
  /-- Core positions of a tile whose segment fails. -/
  cores : List (Nat × Nat)
  /-- Failing units of a region's logic. -/
  failing : Nat
  mismatches : List (Nat × Nat × Word)
  deriving DecidableEq, Repr

/-- How a request at a float valve is treated (R312). -/
inductive ValveKind where
  /-- An ordinary request: charged and held without allowance. -/
  | ordinary
  /-- A write-back, snoop answer, reply or stash response: charged and never held. -/
  | passing
  deriving DecidableEq, Repr

/-- Float valves (R13, R311): 0 to 35 the bond crossbars of the tiles over regions 0 to 35, 36 to 199 pumps 0 to 163, 200 BAR4,
201 to 212 the Aquifer ingress ports, 213 to 220 the UCIe modules of partner sites A and B, 221 to 256 the catchment units.
[DESIGN CHOICE, log entry 48] -/
def valveCount : Nat := 257

/-- A request presented at a float valve. -/
structure ValveReq where
  /-- Identifies the request at the HBM controller. -/
  id : Nat
  valve : Nat
  agent : Nat
  cls : Nat
  addr : Nat
  len : Nat
  kind : ValveKind
  /-- DEADLINE tick of its host command, when non-zero. -/
  deadline : Option Nat
  deriving DecidableEq, Repr

/-- A command that may write host memory: the function or the command it names, and whether the host takes the write. -/
structure HostPut where
  no : Nat
  taken : Bool
  deriving DecidableEq, Repr

/-- The form of a core's load: sign extension, and for one access of a vector instruction its byte offset in the register group and
whether it is the last. -/
structure LoadForm where
  signed : Bool
  vec : Option (Nat × Bool) := none
  deriving DecidableEq, Repr

/-- What a bank of a stack presents: the requests that hit an open row, and the on-die reports of granules (Table 7.2). -/
structure BankFind where
  rowHits : List Nat := []
  reports : List (Nat × Nat) := []
  deriving DecidableEq, Repr

/-- A beat received on a direction of a bond: its 64 data bytes and its frame (R353). -/
structure Beat where
  dir : Nat
  data : Bytes
  frame : BitVec 48
  deriving DecidableEq, Repr

/-- A contribution in the CAT channel (R185). -/
structure Contrib where
  addr : Nat
  /-- RD_OP encoding: 0 CSUM, 1 RSUM, 2 ISUM, 3 IMIN, 4 IMAX. -/
  op : Nat
  wide : Bool
  i64 : Bool
  scale : Int
  /-- Exact sum for CSUM and ISUM, the FP32 bits for RSUM, the value for IMIN and IMAX. -/
  sum : Int
  count : Nat
  flag : Bool
  nan : Bool
  /-- Region whose router it entered the network by, or at whose unit it was last joined; none when it came by a strip. -/
  src : Option Nat := none
  deriving DecidableEq, Repr

/-- Who waits on a sync cell, and so how the wait ends (R54, R103, R276, R283, R303). -/
inductive Waiter where
  /-- A core in TLK.SWGE or TLK.SWEQ with its destination register. -/
  | core (a rd : Nat)
  /-- An M-core in MWAIT. -/
  | mcore (i : Nat)
  /-- A dispatched SYNC_OP wait. -/
  | hostCmd (id : Nat)
  /-- A head command of a ring, waiting through WAIT; it compares by the 13-bit rule. -/
  | hostHead (ring : Nat)
  /-- A host ARM of a function, with its TAG below bit 32 and its cell above. -/
  | hostArm (fn tag : Nat)
  /-- A trigger slot of an S-core. -/
  | coreArm (a slot : Nat)
  /-- A remote module's wait, with the message tag and class to answer. -/
  | remote (smod tag cls : Nat)
  /-- A partner agent's wait, with the message tag and class to answer. -/
  | partner (site tag cls : Nat)
  deriving DecidableEq, Repr

/-- An unacknowledged vane message: a POSTED_ADD by its SEQ, or the WAKE of a waiter. -/
inductive VaneRef where
  | add (seq : Nat)
  | wake (w : Waiter)
  deriving DecidableEq, Repr

end Sys2Proof
end

