-- ==== Sys2Proof/Syntax.lean ====
section
/-!
DEFINITION. The commands of the T36: one constructor for each row of opcode_table.json, in the table's order.
The table gives the rows no operands; the operands are what the rule of the row names (log entry 9).
-/

namespace Sys2Proof

/-- A command of the T36. -/
inductive Instr where
  /-- POWER_ON. Input at `vin` mV with the converters ready, and whether REFCLK is present (R375). -/
  | powerOn (vin : Nat) (refclk : Bool)
  /-- STAGE_S0. Stage S0 ends with what it found (R377). -/
  | stageS0 (r : S0Find)
  /-- STAGE_S1. Stage S1 ends (R377, R381). -/
  | stageS1 (r : S1Find)
  /-- STAGE_S2. Stage S2 ends (R377, R469). -/
  | stageS2 (r : S2Find)
  /-- STAGE_S3. Stage S3 ends (R361). -/
  | stageS3 (r : S3Find)
  /-- STAGE_S4. Stage S4 ends (R17, R18, R34). -/
  | stageS4 (r : S4Find)
  /-- STAGE_S5. Stage S5 ends (R228, R242, R469). -/
  | stageS5 (r : S5Find)
  /-- STAGE_S6. Stage S6 ends (R377). -/
  | stageS6 (r : S6Find)
  /-- STAGE_S7. Stage S7 ends, with what was found at sites A and B (R365). -/
  | stageS7 (a b : PartnerFind) (dur : Nat)
  /-- STAGE_S8. Stage S8 ends, with the twelve ports (R384). -/
  | stageS8 (ports : List PortTrain) (dur : Nat)
  /-- STAGE_S9. Stage S9 compares the topology (R385). -/
  | stageS9 (dur : Nat)
  /-- STAGE_TIMEOUT. The running stage passes its bound (R378). -/
  | stageTimeout
  /-- PERST_ASSERT. PERST# is asserted (R389). -/
  | perstAssert
  /-- PERST_RELEASE. PERST# is released (R381). -/
  | perstRelease
  /-- UNDERVOLTAGE_STOP. The input has been at `mv` for 10 microseconds (R420). -/
  | undervoltageStop (mv : Nat)
  /-- OVERVOLTAGE_STOP. The input has been at `mv` for 10 microseconds (R420). -/
  | overvoltageStop (mv : Nat)
  /-- INPUT_BAND_CHANGE. The input is now at `mv` (R420). -/
  | inputBandChange (mv : Nat)
  /-- PHASE_FAIL. A converter phase fails (R421). -/
  | phaseFail (phase : Nat)
  /-- DROOP. Input current has been at 64 A for 2 microseconds (R424). -/
  | droop
  /-- DROOP_END. 100 microseconds of halved rate are over (R424). -/
  | droopEnd
  /-- PCIE_HOT_RESET. PCIe hot reset or link down (R389). -/
  | pcieHotReset
  /-- FUNCTION_LEVEL_RESET. FLR of a function (R257). -/
  | functionLevelReset (fn : Nat)
  /-- VF_ENABLE_CLEAR. VF Enable is cleared (R257). -/
  | vfEnableClear
  /-- POWER_STATE_CHANGE. A function moves to D3hot or D0 (R252). -/
  | powerStateChange (fn : Nat) (d3 : Bool)
  /-- PCIE_RETRAIN. The host link has retrained (R252). -/
  | pcieRetrain (gen width : Nat)
  /-- REGISTER_WRITE. A write of a register that has no row of its own (R9, R259). -/
  | registerWrite (path : RegPath) (v : Word)
  /-- READ_CLEAR. A read of a register with RC fields (R9). -/
  | readClear (path : RegPath)
  /-- CFG_COMMIT. A write of CFG_COMMIT (R260). -/
  | cfgCommit (fn group : Nat)
  /-- COMMIT_APPLY. The running commit of a function finishes (R260). -/
  | commitApply (fn : Nat)
  /-- AQ_COMMIT. A commit of the Aquifer set-up block (R336). -/
  | aqCommit (group : Nat)
  /-- PS_COMMIT. A commit of a partner-site group (R374). -/
  | psCommit (group : Nat)
  /-- DIAG_COMMIT. A commit of the service block (R391). -/
  | diagCommit (group : Nat)
  /-- PWR_COMMIT. A commit of the power and thermal block (R418). -/
  | pwrCommit (group : Nat)
  /-- PS_READMIT. A write of PS_READMIT (R373). -/
  | psReadmit (site : Nat) (epoch : BitVec 32)
  /-- DIAG_FLIP_WRITE. A write of DIAG_FLIPk (R394). -/
  | diagFlipWrite (k : Nat) (v : Word)
  /-- SQ_DOORBELL. A write of a submission ring's producer index (R268). -/
  | sqDoorbell (fn ring : Nat) (idx : BitVec 32)
  /-- CQ_DOORBELL. A write of a completion ring's consumer index (R268). -/
  | cqDoorbell (fn ring : Nat) (idx : BitVec 32)
  /-- SQ_FETCH. A read of up to 16 descriptors and the host's answer (R269). -/
  | sqFetch (ring : Nat) (reply : HostReply)
  /-- COMMAND_DISPATCH. The head command of a ring is taken through the steps of R275. -/
  | commandDispatch (ring : Nat)
  /-- COMMAND_DEADLINE. The deadline of the head command, or of a dispatched SYNC_OP wait, passes (R277). -/
  | commandDeadline (ring : Nat) (id : Option Nat)
  /-- CQ_POST. The next completion of a completion ring is written, if the host write can be issued (R270). -/
  | cqPost (ring : Nat) (writeOk : Bool)
  /-- IRQ_COALESCE_TIMEOUT. COAL_US expires (R271). -/
  | irqCoalesceTimeout (ring : Nat)
  /-- EVENT_POST. The oldest buffered event of a function is posted (R292). -/
  | eventPost (put : HostPut)
  /-- NOP. The dispatched NOP runs (R289). -/
  | nop (id : Nat)
  /-- HOST_COPY. The COPY of a host pump runs; the reply answers a host source (R280). -/
  | hostCopy (pump id : Nat) (reply : HostReply)
  /-- HOST_FILL. The FILL of a host pump runs (R280). -/
  | hostFill (pump : Nat) (put : HostPut)
  /-- HOST_SEAL. The SEAL of a host pump runs (R280). -/
  | hostSeal (pump id : Nat)
  /-- HOST_VERIFY. The VERIFY of a host pump runs (R280). -/
  | hostVerify (pump id : Nat)
  /-- LAUNCH. The dispatched LAUNCH checks, claims and loads (R70, R281). -/
  | launch (id : Nat)
  /-- LAUNCH_RELEASE. The slot counter has wrapped and the task is released (R155). -/
  | launchRelease (task : Nat)
  /-- HALT. The dispatched HALT runs (R282). -/
  | halt (id : Nat)
  /-- SYNC_OP_SET. SYNC_OP with OP SET (R283). -/
  | syncOpSet (id : Nat)
  /-- SYNC_OP_ADD. SYNC_OP with OP ADD (R283). -/
  | syncOpAdd (id : Nat)
  /-- SYNC_OP_CAS. SYNC_OP with OP CAS (R283). -/
  | syncOpCas (id : Nat)
  /-- SYNC_OP_WAIT_GE. SYNC_OP with OP WAIT_GE (R283). -/
  | syncOpWaitGe (id : Nat)
  /-- SYNC_OP_WAIT_EQ. SYNC_OP with OP WAIT_EQ (R283). -/
  | syncOpWaitEq (id : Nat)
  /-- SYNC_OP_ARM. SYNC_OP with OP ARM (R283). -/
  | syncOpArm (id : Nat)
  /-- COLLECTIVE_BARRIER. COLLECTIVE with CTYPE BARRIER starts (R345). -/
  | collectiveBarrier (id : Nat)
  /-- COLLECTIVE_ALL_REDUCE. COLLECTIVE with CTYPE ALL_REDUCE starts (R345). -/
  | collectiveAllReduce (id : Nat)
  /-- COLLECTIVE_BROADCAST. COLLECTIVE with CTYPE BROADCAST starts (R345). -/
  | collectiveBroadcast (id : Nat)
  /-- COLLECTIVE_REDUCE_SCATTER. COLLECTIVE with CTYPE REDUCE_SCATTER starts (R345). -/
  | collectiveReduceScatter (id : Nat)
  /-- COLLECTIVE_COMPLETE. Every peer has sent, and the member completes (R346). -/
  | collectiveComplete (group : Nat)
  /-- COLLECTIVE_TIMEOUT. The member's wait passes its deadline (R347). -/
  | collectiveTimeout (group : Nat)
  /-- CONFIG_STAGE. The dispatched CONFIG_STAGE runs (R285). -/
  | configStage (id : Nat)
  /-- CONFIG_COMMIT. The dispatched CONFIG_COMMIT commits (R285). -/
  | configCommit (id : Nat)
  /-- QUERY. The dispatched QUERY runs (R286). -/
  | query (put : HostPut)
  /-- REPAIR_FENCE. REPAIR with ACTION FENCE (R287, R402). -/
  | repairFence (id : Nat)
  /-- REPAIR_READMIT. REPAIR with ACTION READMIT (R407). -/
  | repairReadmit (id : Nat)
  /-- REPAIR_SPARE. REPAIR with ACTION SPARE (R405). -/
  | repairSpare (id : Nat)
  /-- ACCEPT_TOPOLOGY. REPAIR with ACTION ACCEPT_TOPOLOGY (R387). -/
  | acceptTopology (id : Nat)
  /-- REJECT_TOPOLOGY. REPAIR with ACTION REJECT_TOPOLOGY (R387). -/
  | rejectTopology (id : Nat)
  /-- PARTITION_RESET. The dispatched PARTITION_RESET runs (R288). -/
  | partitionReset (id : Nat)
  /-- TIMESTAMP. The dispatched TIMESTAMP runs (R289). -/
  | timestamp (id : Nat)
  /-- FENCE. The dispatched FENCE completes when its scope allows (R289). -/
  | fence (id : Nat)
  /-- TEST. The dispatched TEST runs, with what the hardware finds (R290). -/
  | test (id : Nat) (r : TestFind)
  /-- ACK_EVENT. The dispatched ACK_EVENT runs (R291). -/
  | ackEvent (id : Nat)
  /-- BAR4_READ. A host read through BAR4 (R255). -/
  | bar4Read (off size : Nat)
  /-- BAR4_WRITE. A host write through BAR4 (R255). -/
  | bar4Write (off : Nat) (data : Bytes)
  /-- TLK_SSET. TLK.SSET on core `a` (R52). -/
  | tlkSset (a rs1 rs2 : Nat)
  /-- TLK_SADD. TLK.SADD (R52, R165). -/
  | tlkSadd (a rd rs1 rs2 : Nat) (aq rl : Bool)
  /-- TLK_SWGE. TLK.SWGE (R53). -/
  | tlkSwge (a rd rs1 rs2 : Nat)
  /-- TLK_SWEQ. TLK.SWEQ (R53). -/
  | tlkSweq (a rd rs1 rs2 : Nat)
  /-- TLK_SARM. TLK.SARM (R54). -/
  | tlkSarm (a rd rs1 rs2 : Nat)
  /-- TLK_SCAS. TLK.SCAS (R52). -/
  | tlkScas (a rd rs1 rs2 rs3 : Nat)
  /-- TLK_MCQ. TLK.MCQ (R55). -/
  | tlkMcq (a rd rs1 rs2 : Nat)
  /-- TLK_PUMP. TLK.PUMP (R56). -/
  | tlkPump (a rd rs1 rs2 : Nat)
  /-- TLK_PFENCE. TLK.PFENCE (R57). -/
  | tlkPfence (a rd rs1 : Nat)
  /-- TLK_DTR. TLK.DTR (R58). -/
  | tlkDtr (a rd rs1 : Nat)
  /-- TLK_TIME. TLK.TIME (R59). -/
  | tlkTime (a rd : Nat)
  /-- TLK_EXIT. TLK.EXIT (R60). -/
  | tlkExit (a rs1 : Nat)
  /-- TASK_END. The task's end is performed (R73). -/
  | taskEnd (task : Nat)
  /-- WAIT_WAKE. A WAKE reaches a waiter (R300). -/
  | waitWake (w : Waiter)
  /-- VCORE_TRAP. V-core `a` takes an exception (R43). -/
  | vcoreTrap (a code : Nat) (tval : Word)
  /-- VCORE_RUN. S-core `a` writes 1 to tlk_vctl.RUN of the V-core that tlk_vsel names (R43). -/
  | vcoreRun (a : Nat)
  /-- VCORE_STOP. S-core `a` writes 0 to tlk_vctl.RUN of the V-core that tlk_vsel names (R44). -/
  | vcoreStop (a : Nat)
  /-- TLK_CLASS_WRITE. Core `a` writes tlk_class (R307). -/
  | tlkClassWrite (a : Nat) (v : Word)
  /-- MACHINE_TIMER. The time CSR has reached tlk_mtimecmp of S-core `a` (R466). -/
  | machineTimer (a : Nat)
  /-- SCORE_INTERRUPT. S-core `a` takes an interrupt (R466). -/
  | scoreInterrupt (a : Nat)
  /-- WFI. Core `a` executes WFI (R466). -/
  | wfi (a : Nat)
  /-- CORE_FETCH. Core `a` fetches the instruction at its pc (R468). -/
  | coreFetch (a : Nat)
  /-- CACHE_LOAD. A cacheable load; `vec` marks the part of a vector load in one line, with the place of its bytes in the register
  group from `rd` on and whether it is the last part (R206). -/
  | cacheLoad (a addr size rd : Nat) (form : LoadForm)
  /-- CACHE_STORE. A cacheable store, AMO, LR or SC (R206). -/
  | cacheStore (a addr size : Nat) (op : StoreOp) (v : Word)
  /-- UNCACHED_ACCESS. An uncached core access; an AMO here stands for any A-extension instruction (R193, R41); `vec` marks the
  part of a vector access in one line, its registers from `rd` on (R50). -/
  | uncachedAccess (a addr size : Nat) (kind : AccKind) (rd : Nat) (form : LoadForm) (v : Word)
  /-- LR_DEFER_TIMEOUT. 128 V/S cycles have passed since the LR (R207). -/
  | lrDeferTimeout (a : Nat)
  /-- CC_CLEAN. A store of CC_OP with OP CLEAN (R222). -/
  | ccClean (a : Nat) (v : Word)
  /-- CC_INVAL. A store of CC_OP with OP INVAL (R222). -/
  | ccInval (a : Nat) (v : Word)
  /-- CC_CLEAN_INVAL. A store of CC_OP with OP CLEAN_INVAL (R222). -/
  | ccCleanInval (a : Nat) (v : Word)
  /-- CC_PIN. A store of CC_PIN (R220). -/
  | ccPin (a : Nat) (v : Word)
  /-- CC_ENABLE. A store of CC_CTL with ENABLE set (R223). -/
  | ccEnable (a : Nat) (v : Word)
  /-- CC_DISABLE. A store of CC_CTL with ENABLE clear (R223). -/
  | ccDisable (a : Nat) (v : Word)
  /-- RD_S. The home receives RD_S (R208). -/
  | rdS (m : CohMsg)
  /-- RD_X. The home receives RD_X (R208). -/
  | rdX (m : CohMsg)
  /-- UPG. The home receives UPG (R208). -/
  | upg (m : CohMsg)
  /-- RD_U. The home receives RD_U (R211). -/
  | rdU (m : CohMsg)
  /-- PEEK. The home receives PEEK (R214). -/
  | peek (m : CohMsg)
  /-- WR_U. The home receives WR_U (R211). -/
  | wrU (m : CohMsg)
  /-- PUT_M. The home receives PUT_M (R208). -/
  | putM (m : CohMsg)
  /-- PUT_C. The home receives PUT_C (R208). -/
  | putC (m : CohMsg)
  /-- SNP_RSP. The home receives SNP_RSP (R209). -/
  | snpRsp (m : CohMsg)
  /-- STASH_ACC. The home receives STASH_ACC (R209). -/
  | stashAcc (m : CohMsg)
  /-- STASH_DEC. The home receives STASH_DEC (R209). -/
  | stashDec (m : CohMsg)
  /-- STASH_STEP. The home takes the stash step of a write (R213). -/
  | stashStep (line target : Nat)
  /-- SNP_S. A cache receives SNP_S (R205). -/
  | snpS (m : CohMsg)
  /-- SNP_X. A cache receives SNP_X (R205). -/
  | snpX (m : CohMsg)
  /-- SNP_U. A cache receives SNP_U (R205). -/
  | snpU (m : CohMsg)
  /-- SNP_P. A cache receives SNP_P (R205). -/
  | snpP (m : CohMsg)
  /-- INV. A cache receives INV (R205). -/
  | inv (m : CohMsg)
  /-- STASH_OFFER. A cache receives STASH_OFFER (R206). -/
  | stashOffer (m : CohMsg)
  /-- DATA_R. A cache receives DATA_R (R206). -/
  | dataR (m : CohMsg)
  /-- DATA_M. A cache receives DATA_M (R206). -/
  | dataM (m : CohMsg)
  /-- DATA_POISON. A requester receives DATA_POISON (R206). -/
  | dataPoison (m : CohMsg)
  /-- ACK_UPG. A cache receives ACK_UPG (R206). -/
  | ackUpg (m : CohMsg)
  /-- WR_ACK. A requester receives WR_ACK (R211). -/
  | wrAck (m : CohMsg)
  /-- WB_ACK. A cache receives WB_ACK (R206). -/
  | wbAck (m : CohMsg)
  /-- AGENT_RECLAIM. Every home reclaims a lost agent's lines (R215). -/
  | agentReclaim (agent : Nat)
  /-- MNOP. M-core `i` runs the MNOP at its head (R98). -/
  | mnop (i : Nat)
  /-- MMA. M-core `i` runs the MMA at its head (R83). -/
  | mma (i : Nat)
  /-- INT8_CLOCK_RESTORE. 1 microsecond without class-I work has passed in a tile (R78). -/
  | int8ClockRestore (tile : Nat)
  /-- MLOAD. M-core `i` runs the MLOAD at its head (R100). -/
  | mload (i : Nat)
  /-- MSTORE. M-core `i` runs the MSTORE at its head (R101). -/
  | mstore (i : Nat)
  /-- MSEND. M-core `i` runs the MSEND at its head (R102). -/
  | msend (i : Nat)
  /-- MSEND_ARRIVE. The oldest transfer sent by M-core `i` lands (R106). -/
  | msendArrive (i : Nat)
  /-- MSYNC. M-core `i` runs the MSYNC at its head (R103). -/
  | msync (i : Nat)
  /-- MWAIT. M-core `i` runs the MWAIT at its head (R103). -/
  | mwait (i : Nat)
  /-- M_SIG. M-core `i` performs its oldest SIG addition (R107). -/
  | mSig (i : Nat)
  /-- MS_RESUME. A write of MS_CTL.RESUME (R110). -/
  | msResume (who : Master) (i : Nat)
  /-- MS_FLUSH. A write of MS_CTL.FLUSH (R110). -/
  | msFlush (who : Master) (i : Nat)
  /-- PUMP_START. Pump `p` starts its next accepted command (R167). -/
  | pumpStart (p : Nat)
  /-- COPY. A started COPY of pump `p` runs (R170). -/
  | copy (p id : Nat)
  /-- GATHER. A started GATHER runs (R171). -/
  | gather (p id : Nat)
  /-- SCATTER. A started SCATTER runs (R171). -/
  | scatter (p id : Nat)
  /-- FILL. A started FILL runs (R172). -/
  | fill (p id : Nat)
  /-- MCAST. A started MCAST sends its first chunk (R177). -/
  | mcast (p id : Nat)
  /-- MC_ACK. A destination has written a chunk and acknowledges it (R178). -/
  | mcAck (p id dest : Nat)
  /-- MCAST_TIMEOUT. A destination has not accepted a chunk within TIMEOUT (R180). -/
  | mcastTimeout (p id dest : Nat)
  /-- SEAL. A started SEAL runs (R172). -/
  | seal (p id : Nat)
  /-- VERIFY. A started VERIFY runs (R239). -/
  | verify (p id : Nat)
  /-- CSEND. A started CSEND runs (R184). -/
  | csend (p id : Nat)
  /-- CINSTALL. A started CINSTALL runs (R183). -/
  | cinstall (p id : Nat)
  /-- CRELEASE. A started CRELEASE runs (R189). -/
  | crelease (p id : Nat)
  /-- PUMP_COMPLETE. A finished command of pump `p` completes (R175). -/
  | pumpComplete (p id : Nat)
  /-- CONTRIBUTION_ARRIVE. A contribution reaches its destination unit (R186). -/
  | contributionArrive (c : Contrib)
  /-- CONTRIBUTION_JOIN. Two contributions waiting in the unit of region `n` are joined (R185). -/
  | contributionJoin (n : Nat) (c d : Contrib)
  /-- SLOT_COMPLETE. Every element of a slot is written and performed (R187). -/
  | slotComplete (n slot : Nat)
  /-- SLIP_TIMEOUT. A scheduled flit slips toward an output port, by holding timeout or by a full buffer (R156). -/
  | slipTimeout (region port : Nat) (full : Bool)
  /-- MERGE_WINDOW_END. A merge group's window ends (R126). -/
  | mergeWindowEnd (granule : Nat)
  /-- CORRECTIVE_WRITEBACK. A corrected granule is written back (R139). -/
  | correctiveWriteback (granule : Nat)
  /-- VANE_RESEND. A sender resends an unacknowledged vane message (R164). -/
  | vaneResend (src dst : Nat) (ref : VaneRef)
  /-- FLOW_ACK. The receiver has the message and its FLOW_ACK reaches the sender (R164). -/
  | flowAck (src dst seq : Nat)
  /-- VANE_REORDER_RELEASE. An earlier SEQ has been missing for 6 microseconds (R164). -/
  | vaneReorderRelease (src dst vc : Nat)
  /-- CELL_READ. READ of a cell (R295). -/
  | cellRead (cell : Nat) (who : Master)
  /-- CELL_SET. SET of a cell (R295). -/
  | cellSet (cell : Nat) (x : Word)
  /-- CELL_ADD. ADD to a cell (R295). -/
  | cellAdd (cell : Nat) (x : Word) (posted : Bool)
  /-- CELL_CAS. CAS of a cell (R295). -/
  | cellCas (cell : Nat) (e n : Word)
  /-- CELL_WAIT_GE. WAIT_GE on a cell (R298). -/
  | cellWaitGe (cell : Nat) (b : Word) (w : Waiter)
  /-- CELL_WAIT_EQ. WAIT_EQ on a cell (R298). -/
  | cellWaitEq (cell : Nat) (x : Word) (w : Waiter)
  /-- CELL_ARM. ARM on a cell (R298). -/
  | cellArm (cell : Nat) (b : Word) (w : Waiter)
  /-- WAITER_QUEUED_ENTER. The oldest waiting registration of a region enters the table (R299). -/
  | waiterQueuedEnter (region : Nat)
  /-- WAITER_CANCEL. A waiter stops waiting (R301). -/
  | waiterCancel (w : Waiter)
  /-- REGULATION_TICK. A regulation tick (R316). -/
  | regulationTick
  /-- QOS_WINDOW_END. The window of class `c` ends (R323). -/
  | qosWindowEnd (c : Nat)
  /-- VALVE_REQUEST. A request is presented at a float valve (R312). -/
  | valveRequest (r : ValveReq)
  /-- HBM_BANK_SCHEDULE. A bank of stack `h` is ready for the requests named, some of them row hits (R321); the stack gives on-die
  reports for granules (Table 7.2). -/
  | hbmBankSchedule (h : Nat) (ready : List Nat) (find : BankFind)
  /-- HOUSEKEEPING_ROUND. A housekeeping round with its readings (R430). -/
  | housekeepingRound (r : Readings)
  /-- HBM_DERATE. A stack has exceeded 1,000 corrected errors in 1 s, or is above its cap (R249). -/
  | hbmDerate (h : Nat)
  /-- HBM_RETRAIN_DONE. A stack's retraining ends (R249). -/
  | hbmRetrainDone (h : Nat) (ok : Bool)
  /-- HBM_REMAP. The Wellkeeper remaps a DRAM row, whose unit offsets and failed granules are named (R243). -/
  | hbmRemap (h ch pc sid bank row : Nat) (units : List Nat) (bad : List Nat)
  /-- TG_START. A write of TG_CTL with START (R245), with the mismatches the hardware would find. -/
  | tgStart (h c : Nat) (v : Word) (mismatches : List (Nat × Nat × Word))
  /-- TG_STOP. A write of TG_CTL with STOP (R246). -/
  | tgStop (h c : Nat)
  /-- TG_DONE. The generator completes its range (R246). -/
  | tgDone (h c : Nat)
  /-- SCRUB_READ. The scrubber of a region or stack reads its next granule (R392). -/
  | scrubRead (hbm : Bool) (unit : Nat) (late : Bool)
  /-- CISTERN_REMAP. The Wellkeeper remaps a Cistern row (R396). -/
  | cisternRemap (slice sub row : Nat)
  /-- CISTERN_COLUMN. The Wellkeeper switches a spare column in (R396). -/
  | cisternColumn (slice sub bit : Nat)
  /-- UNIT_RETIRE. An allocation unit with no spare row left is retired (R397). -/
  | unitRetire (region unit : Nat)
  /-- BOND_NAK_RETRY. A beat received with a CRC mismatch or a reserved CH is discarded and resent (R353, R355). -/
  | bondNakRetry (region port : Nat) (beat : Beat)
  /-- BOND_RETRAIN. A slice port retrains, finding failed bonds (R355). -/
  | bondRetrain (f : PortFind) (ok : Bool)
  /-- TILE_DIE_RESET. A tile die is reset or loses its clock (R362). -/
  | tileDieReset (tile : Nat)
  /-- TILE_CLOCK_RETURN. The tile's clock returns; whether retraining and the logic segment pass (R408). -/
  | tileClockReturn (tile : Nat) (ok : Bool)
  /-- TILE_CLOCK_WAIT_EXPIRE. The clock has not returned within 5 ms (R408). -/
  | tileClockWaitExpire (tile : Nat)
  /-- AQ_FLIT_RECEIVE. A flit arrives on port p; fec is 0 for a clean one, 1 for a corrected codeword, 2 for an uncorrectable one
  (R328 to R330). -/
  | aqFlitReceive (p fec : Nat) (fseq ack : BitVec 16) (creds : BitVec 32) (body : Bytes) (crc : Word)
  /-- AQ_LANE_FAIL. An Aquifer lane fails (R326). -/
  | aqLaneFail (p lane : Nat)
  /-- AQ_PEER_TRAIN. A DOWN port answers a peer's training (R380). -/
  | aqPeerTrain (p : Nat) (t : PortTrain)
  /-- RD. A remote read arrives on port `p`; 12 and 13 stand for partner sites A and B (R338, R368). -/
  | rd (p : Nat) (m : AqMsg)
  /-- WR. A remote write arrives (R338). -/
  | wr (p : Nat) (m : AqMsg)
  /-- SYNC. A remote sync-cell operation arrives (R303). -/
  | sync (p : Nat) (m : AqMsg)
  /-- RDR. A read reply arrives (R341). -/
  | rdr (p : Nat) (m : AqMsg)
  /-- WRACK. A write acknowledgement arrives (R339). -/
  | wrack (p : Nat) (m : AqMsg)
  /-- SYNCR. A remote sync-cell result arrives (R303). -/
  | syncr (p : Nat) (m : AqMsg)
  /-- CATC. A remote contribution arrives (R338). -/
  | catc (p : Nat) (m : AqMsg) (c : Contrib)
  /-- COLL. Collective element data arrives (R345). -/
  | coll (p : Nat) (m : AqMsg)
  /-- BARR. A barrier arrival arrives (R345). -/
  | barr (p : Nat) (m : AqMsg)
  /-- SLOW. A slow notice arrives (R343). -/
  | slow (p : Nat) (m : AqMsg)
  /-- ABORT. An abort arrives (R347). -/
  | abort (p : Nat) (m : AqMsg)
  /-- CDIG. A digest message arrives (R345). -/
  | cdig (p : Nat) (m : AqMsg)
  /-- REMOTE_TIMEOUT. A remote request has no reply at its deadline (R341). -/
  | remoteTimeout (tag : Nat)
  /-- SLOW_RENEW. 500 microseconds of a slow cause have passed, or it has ended (R342). -/
  | slowRenew
  /-- PWR_ASK. A partner asks for power (R371). -/
  | pwrAsk (site watts : Nat)
  /-- PWR_TELE. A partner reports power and temperature (R371). -/
  | pwrTele (site watts temp : Nat)
  /-- PARTNER_OVERRUN. A partner has been over its limits for 10 ms, or 10 ms more after the cut (R371). -/
  | partnerOverrun (site : Nat) (lasted : Bool)
  /-- PARTNER_FENCE. A partner die is reset, loses its clock or goes silent (R373). -/
  | partnerFence (site : Nat)
  /-- UCIE_LANE_FAIL. A lane of a UCIe module fails; whether a redundant lane replaces it (R372). -/
  | ucieLaneFail (site m : Nat) (repaired : Bool)
  /-- BUDGET_ROUND. The 100 microsecond budget round (R425). -/
  | budgetRound
  /-- PWR_REQ. A tile agent's report and ask in 0.1 W (R425). -/
  | pwrReq (tile power ask : Nat)
  /-- PWR_GRANT. A tile agent receives its grant and takes the operating points that fit it (R426). -/
  | pwrGrant (tile mhz vsMhz gate : Nat)
  /-- GRANT_TIMEOUT. A tile has had no grant for 500 microseconds (R426). -/
  | grantTimeout (tile : Nat)
  /-- THERMAL_EVAL. The thermal model is evaluated (R428). -/
  | thermalEval
  /-- THERMAL_SHUTDOWN. An island is at 115 degrees in two evaluations (R434). -/
  | thermalShutdown (island : Nat)
  /-- SHUTDOWN_RECORD_WRITE. The shutdown record is written (R435). -/
  | shutdownRecordWrite
  /-- REGION_CLOCK_CHANGE. A quadrant's region clock changes (R427). -/
  | regionClockChange (q mhz : Nat)
  /-- ISLAND_CLOCK_STOP. The M-row islands or the V/S island of a tile stop their clock (R440). -/
  | islandClockStop (tile : Nat) (vs : Bool)
  /-- ISLAND_WAKE. A request toward a stopped island starts its clock (R442). -/
  | islandWake (island : Nat)
  /-- TILE_POWER_DOWN. A tile has been idle for PWR_GATE.IDLE (R440). -/
  | tilePowerDown (tile : Nat)
  /-- PLL_LOCK_LOSS. An island PLL has not relocked within 100 microseconds (R401). -/
  | pllLockLoss (tile : Nat)
  /-- UNIT_FAILURE. A tile, or its core at (row, position), is found to have failed (R401). -/
  | unitFailure (tile : Nat) (core : Option (Nat × Nat))
  /-- QUIESCE_DRAINED. The quiesced row or partition has drained (R403). -/
  | quiesceDrained (tile : Nat) (row : Option Nat)
  /-- SPARE_TAKEOVER. The spare takes over, or fails doing so (R404, R406). -/
  | spareTakeover (tile : Nat) (row : Option Nat) (ok : Bool)
  /-- DRIZZLE_SEGMENT. An in-service test segment starts (R410). -/
  | drizzleSegment (u : TestUnit)
  /-- DRIZZLE_SEGMENT_END. A test segment ends (R412). -/
  | drizzleSegmentEnd (u : TestUnit) (pass : Bool)
  /-- DRIZZLE_ABORT. A segment aborts (R411). -/
  | drizzleAbort (u : TestUnit)
  /-- DRIZZLE_OVERDUE. A unit has had no passing segment within PERIOD (R412). -/
  | drizzleOverdue (u : TestUnit)
  /-- BAROMETER_REPLAN. An island is re-planned from the slacks in ps that its sensors report, sensor number first (R413, R414). -/
  | barometerReplan (island : Nat) (slacks : List (Nat × Int))
  /-- DISTANCE_TABLE_UPDATE. The Wellkeeper updates the distance table (R30). -/
  | distanceTableUpdate
  /-- EVENT_LOG_WRITE. The next held record is written to the log ring (R415). -/
  | eventLogWrite
  /-- FLASH_HOLD_FLUSH. Flash may be written again (R416, R400). -/
  | flashHoldFlush
  /-- LOCKSTEP_ERROR. The Wellkeeper cores' outputs differ (R446). -/
  | lockstepError
  /-- SET_ENDPOINT_ID. Set Endpoint ID on a binding (R447). -/
  | setEndpointId (pcie : Bool) (eid : BitVec 8)
  /-- PLDM_SENSOR_READ. A PLDM sensor read (R452). -/
  | pldmSensorRead (id : Nat)
  /-- PLDM_EFFECTER_WRITE. A write of effecter 512 (R453). -/
  | pldmEffecterWrite (v : BitVec 16)
  /-- REQUEST_UPDATE. A PLDM firmware update is requested (R454). -/
  | requestUpdate
  /-- FIRMWARE_TRANSFER. Image data arrives (R454). -/
  | firmwareTransfer (data : Bytes)
  /-- VERIFY_COMPLETE. The transferred image is checked against its CRC (R454). -/
  | verifyComplete (crc : BitVec 32)
  /-- ACTIVATE_FIRMWARE. ActivateFirmware, with whether the image accepts the handover block (R455). -/
  | activateFirmware (accepts : Bool)
  /-- FW_FALLBACK. The new image fails its self-check (R456). -/
  | fwFallback
  /-- GET_IDENTITY. GET_IDENTITY (R449). -/
  | getIdentity (index : Nat)
  /-- GET_STAGE_REPORT. GET_STAGE_REPORT (R449). -/
  | getStageReport (stage : Nat)
  /-- GET_LOG. GET_LOG (R449). -/
  | getLog (first : BitVec 32) (count : Nat)
  /-- GET_SNAPSHOT. GET_SNAPSHOT (R449). -/
  | getSnapshot
  /-- WRITE_TOPOLOGY. WRITE_TOPOLOGY (R450). -/
  | writeTopology (pcie : Bool) (rec : Bytes)
  /-- RESET_MODULE. RESET_MODULE (R449). -/
  | resetModule (pcie : Bool) (confirm : Byte)
  /-- GET_LIFECYCLE. GET_LIFECYCLE (R449). -/
  | getLifecycle
  /-- MON_HELP. HELP (R458). -/
  | monHelp
  /-- MON_ID. ID (R458). -/
  | monId
  /-- MON_LCS. LCS (R458). -/
  | monLcs
  /-- MON_STAGE. STAGE (R458). -/
  | monStage (stage : Nat)
  /-- MON_SENSORS. SENSORS (R458). -/
  | monSensors
  /-- MON_LOG. LOG (R458). -/
  | monLog (first : BitVec 32) (count : Nat)
  /-- UNLOCK_CHALLENGE. UNLOCK with a level: 1 DIAG, 2 FULL (R459). -/
  | unlockChallenge (level : Nat)
  /-- UNLOCK_RESPONSE. UNLOCK with a level and a code (R459). -/
  | unlockResponse (level : Nat) (code : BitVec 32)
  /-- UNLOCK_EXPIRE. 30 minutes without a command have passed (R459). -/
  | unlockExpire
  /-- LOCK. LOCK (R459). -/
  | lock
  /-- BAUD. BAUD (R458). -/
  | baud (rate : Nat)
  /-- MON_PEEK. PEEK (R458). -/
  | monPeek (addr count : Nat)
  /-- MON_DRIZZLE. DRIZZLE runs one segment (R458). -/
  | monDrizzle (u : TestUnit) (pass : Bool)
  /-- MON_TG. TG runs the generator (R458). -/
  | monTg (h c pc mode op : Nat) (seed : BitVec 32) (base len : Nat) (r : TestFind)
  /-- POKE. POKE (R458). -/
  | poke (addr : Nat) (v : Word)
  /-- DIEMODE. DIEMODE (R458). -/
  | diemode (index mode : Nat)
  /-- MON_RESET. RESET (R458). -/
  | monReset
  /-- IDCODE. The TAP instruction IDCODE (R460). -/
  | idcode
  /-- BYPASS. The TAP instruction BYPASS (R460). -/
  | bypass
  /-- SAMPLE_PRELOAD. SAMPLE/PRELOAD, with the value preloaded (R460). -/
  | samplePreload (bits : Bytes)
  /-- EXTEST. EXTEST (R460). -/
  | extest
  /-- DIESEL. DIESEL selects a die's wrapper (R461). -/
  | diesel (index : Nat)
  /-- DIESCAN. DIESCAN shifts the selected wrapper (R461). -/
  | diescan (shift : Bytes)
  /-- PARTNER_DIE_RETURN. A fenced partner die comes back (R373). -/
  | partnerDieReturn (site : Nat) (f : PartnerFind)
  /-- CANCEL_UPDATE. The update agent cancels an update (R454). -/
  | cancelUpdate
  deriving DecidableEq, Repr

end Sys2Proof
end

