-- ==== Sys2Proof/WellFormed.lean ====
section
/-!
DEFINITION. Well-formed commands: every unit, cell, register and size that a command names is one the manual gives the module.
-/

namespace Sys2Proof

/-- Sizes of a core access: powers of two up to 8 bytes (R41). -/
def sizeOk (n : Nat) : Bool := n == 1 || n == 2 || n == 4 || n == 8

/-- Sizes of the part of a vector access in one line (R206). -/
def lineOk (n : Nat) : Bool := decide (1 ≤ n) && decide (n ≤ 128)

/-- A vector store. -/
def isVector : StoreOp → Bool
  | .vector _ _ _ => true
  | _ => false

/-- Whether every number in a command names something the module has. -/
def wellFormed : Instr → Bool
  | .powerOn _ _ => true
  | .stageS0 _ => true
  | .stageS1 _ => true
  | .stageS2 _ => true
  | .stageS3 _ => true
  | .stageS4 _ => true
  | .stageS5 _ => true
  | .stageS6 _ => true
  | .stageS7 _ _ _ => true
  | .stageS8 _ _ => true
  | .stageS9 _ => true
  | .stageTimeout => true
  | .perstAssert => true
  | .perstRelease => true
  | .undervoltageStop _ => true
  | .overvoltageStop _ => true
  | .inputBandChange _ => true
  | .phaseFail phase => decide (phase < 24)
  | .droop => true
  | .droopEnd => true
  | .pcieHotReset => true
  | .functionLevelReset fn => decide (fn < 8)
  | .vfEnableClear => true
  | .powerStateChange fn _ => decide (fn < 8)
  | .pcieRetrain _ _ => true
  | .registerWrite _ _ => true
  | .readClear _ => true
  | .cfgCommit fn _ => decide (fn < 8)
  | .commitApply fn => decide (fn < 12)
  | .aqCommit _ => true
  | .psCommit _ => true
  | .diagCommit _ => true
  | .pwrCommit _ => true
  | .psReadmit site _ => decide (site < 2)
  | .diagFlipWrite k _ => decide (k < 6)
  | .sqDoorbell fn ring _ => decide (fn < 8) && decide (ring < 256)
  | .cqDoorbell fn ring _ => decide (fn < 8) && decide (ring < 256)
  | .sqFetch ring _ => decide (ring < 256)
  | .commandDispatch ring => decide (ring < 256)
  | .commandDeadline ring _ => decide (ring < 256)
  | .cqPost ring _ => decide (ring < 256)
  | .irqCoalesceTimeout ring => decide (ring < 256)
  | .eventPost put => decide (put.no < 8)
  | .nop _ => true
  | .hostCopy pump _ _ => decide (pump < 8)
  | .hostFill pump _ => decide (pump < 8)
  | .hostSeal pump _ => decide (pump < 8)
  | .hostVerify pump _ => decide (pump < 8)
  | .launch _ => true
  | .launchRelease _ => true
  | .halt _ => true
  | .syncOpSet _ => true
  | .syncOpAdd _ => true
  | .syncOpCas _ => true
  | .syncOpWaitGe _ => true
  | .syncOpWaitEq _ => true
  | .syncOpArm _ => true
  | .collectiveBarrier _ => true
  | .collectiveAllReduce _ => true
  | .collectiveBroadcast _ => true
  | .collectiveReduceScatter _ => true
  | .collectiveComplete group => decide (group < 1024)
  | .collectiveTimeout group => decide (group < 1024)
  | .configStage _ => true
  | .configCommit _ => true
  | .query _ => true
  | .repairFence _ => true
  | .repairReadmit _ => true
  | .repairSpare _ => true
  | .acceptTopology _ => true
  | .rejectTopology _ => true
  | .partitionReset _ => true
  | .timestamp _ => true
  | .fence _ => true
  | .test _ _ => true
  | .ackEvent _ => true
  | .bar4Read _ _ => true
  | .bar4Write _ _ => true
  | .tlkSset a rs1 rs2 => decide (a < 384) && decide (rs1 < 32) && decide (rs2 < 32)
  | .tlkSadd a rd rs1 rs2 _ _ => decide (a < 384) && decide (rd < 32) && decide (rs1 < 32) && decide (rs2 < 32)
  | .tlkSwge a rd rs1 rs2 => decide (a < 384) && decide (rd < 32) && decide (rs1 < 32) && decide (rs2 < 32)
  | .tlkSweq a rd rs1 rs2 => decide (a < 384) && decide (rd < 32) && decide (rs1 < 32) && decide (rs2 < 32)
  | .tlkSarm a rd rs1 rs2 => decide (a < 384) && decide (rd < 32) && decide (rs1 < 32) && decide (rs2 < 32)
  | .tlkScas a rd rs1 rs2 rs3 => decide (a < 384) && decide (rd < 32) && decide (rs1 < 32) && decide (rs2 < 32) && decide (rs3 < 32)
  | .tlkMcq a rd rs1 rs2 => decide (a < 384) && decide (rd < 32) && decide (rs1 < 32) && decide (rs2 < 32)
  | .tlkPump a rd rs1 rs2 => decide (a < 384) && decide (rd < 32) && decide (rs1 < 32) && decide (rs2 < 32)
  | .tlkPfence a rd rs1 => decide (a < 384) && decide (rd < 32) && decide (rs1 < 32)
  | .tlkDtr a rd rs1 => decide (a < 384) && decide (rd < 32) && decide (rs1 < 32)
  | .tlkTime a rd => decide (a < 384) && decide (rd < 32)
  | .tlkExit a rs1 => decide (a < 384) && decide (rs1 < 32)
  | .taskEnd _ => true
  | .waitWake _ => true
  | .vcoreTrap a _ _ => decide (a < 384)
  | .vcoreRun a => decide (a < 384)
  | .vcoreStop a => decide (a < 384)
  | .tlkClassWrite a _ => decide (a < 384)
  | .machineTimer a => decide (a < 384)
  | .scoreInterrupt a => decide (a < 384)
  | .wfi a => decide (a < 384)
  | .coreFetch a => decide (a < 384)
  | .cacheLoad a _ size rd form => decide (a < 384) && (sizeOk size || form.vec.isSome && lineOk size) && decide (rd < 32)
  | .cacheStore a _ size op _ => decide (a < 384) && (sizeOk size || isVector op && lineOk size)
  | .uncachedAccess a _ size _ rd form _ => decide (a < 384) && (sizeOk size || form.vec.isSome && lineOk size) && decide (rd < 32)
  | .lrDeferTimeout a => decide (a < 384)
  | .ccClean a _ => decide (a < 384)
  | .ccInval a _ => decide (a < 384)
  | .ccCleanInval a _ => decide (a < 384)
  | .ccPin a _ => decide (a < 384)
  | .ccEnable a _ => decide (a < 384)
  | .ccDisable a _ => decide (a < 384)
  | .rdS m => decide (m.agent < 512)
  | .rdX m => decide (m.agent < 512)
  | .upg m => decide (m.agent < 512)
  | .rdU m => decide (m.agent < 512)
  | .peek m => decide (m.agent < 512)
  | .wrU m => decide (m.agent < 512)
  | .putM m => decide (m.agent < 512)
  | .putC m => decide (m.agent < 512)
  | .snpRsp m => decide (m.agent < 512)
  | .stashAcc m => decide (m.agent < 512)
  | .stashDec m => decide (m.agent < 512)
  | .stashStep _ _ => true
  | .snpS m => decide (m.agent < 512)
  | .snpX m => decide (m.agent < 512)
  | .snpU m => decide (m.agent < 512)
  | .snpP m => decide (m.agent < 512)
  | .inv m => decide (m.agent < 512)
  | .stashOffer m => decide (m.agent < 512)
  | .dataR m => decide (m.agent < 512)
  | .dataM m => decide (m.agent < 512)
  | .dataPoison m => decide (m.agent < 512)
  | .ackUpg m => decide (m.agent < 512)
  | .wrAck m => decide (m.agent < 512)
  | .wbAck m => decide (m.agent < 512)
  | .agentReclaim agent => decide (agent < 448)
  | .mnop i => decide (i < 512)
  | .mma i => decide (i < 512)
  | .int8ClockRestore tile => decide (tile < 32)
  | .mload i => decide (i < 512)
  | .mstore i => decide (i < 512)
  | .msend i => decide (i < 512)
  | .msendArrive i => decide (i < 512)
  | .msync i => decide (i < 512)
  | .mwait i => decide (i < 512)
  | .mSig i => decide (i < 512)
  | .msResume _ i => decide (i < 512)
  | .msFlush _ i => decide (i < 512)
  | .pumpStart p => decide (p < 156)
  | .copy p _ => decide (p < 156)
  | .gather p _ => decide (p < 156)
  | .scatter p _ => decide (p < 156)
  | .fill p _ => decide (p < 156)
  | .mcast p _ => decide (p < 156)
  | .mcAck p _ _ => decide (p < 156)
  | .mcastTimeout p _ _ => decide (p < 156)
  | .seal p _ => decide (p < 156)
  | .verify p _ => decide (p < 156)
  | .csend p _ => decide (p < 156)
  | .cinstall p _ => decide (p < 156)
  | .crelease p _ => decide (p < 156)
  | .pumpComplete p _ => decide (p < 156)
  | .contributionArrive _ => true
  | .contributionJoin n _ _ => decide (n < 36)
  | .slotComplete n slot => decide (n < 36) && decide (slot < 64)
  | .slipTimeout region port _ => decide (region < 36) && decide (port < 8)
  | .mergeWindowEnd _ => true
  | .correctiveWriteback _ => true
  | .vaneResend _ _ _ => true
  | .flowAck _ _ _ => true
  | .vaneReorderRelease _ _ _ => true
  | .cellRead cell _ => decide (cell < 73728)
  | .cellSet cell _ => decide (cell < 73728)
  | .cellAdd cell _ _ => decide (cell < 73728)
  | .cellCas cell _ _ => decide (cell < 73728)
  | .cellWaitGe cell _ _ => decide (cell < 73728)
  | .cellWaitEq cell _ _ => decide (cell < 73728)
  | .cellArm cell _ _ => decide (cell < 73728)
  | .waiterQueuedEnter region => decide (region < 36)
  | .waiterCancel _ => true
  | .regulationTick => true
  | .qosWindowEnd c => decide (c < 16)
  | .valveRequest r => decide (r.valve < valveCount) && decide (r.cls < 16)
  | .hbmBankSchedule h _ _ => decide (h < 8)
  | .housekeepingRound _ => true
  | .hbmDerate h => decide (h < 8)
  | .hbmRetrainDone h _ => decide (h < 8)
  | .hbmRemap h ch pc _ _ _ _ _ => decide (h < 8) && decide (ch < 32) && decide (pc < 2)
  | .tgStart h c _ _ => decide (h < 8) && decide (c < 32)
  | .tgStop h c => decide (h < 8) && decide (c < 32)
  | .tgDone h c => decide (h < 8) && decide (c < 32)
  | .scrubRead _ unit _ => decide (unit < 36)
  | .cisternRemap slice _ _ => decide (slice < 1152)
  | .cisternColumn slice _ _ => decide (slice < 1152)
  | .unitRetire region unit => decide (region < 36) && decide (unit < 1536)
  | .bondNakRetry region port beat =>
    decide (region < 36) && decide (port < 32) && decide (beat.dir < 2) && decide (beat.data.length = 64)
  | .bondRetrain _ _ => true
  | .tileDieReset tile => decide (tile < 32)
  | .tileClockReturn tile _ => decide (tile < 32)
  | .tileClockWaitExpire tile => decide (tile < 32)
  | .aqFlitReceive p fec _ _ _ body _ => decide (p < 12) && decide (fec < 3) && decide (body.length = 240)
  | .aqLaneFail p lane => decide (p < 12) && decide (lane < 8)
  | .aqPeerTrain p _ => decide (p < 12)
  | .rd p _ => decide (p < 14)
  | .wr p _ => decide (p < 14)
  | .sync p _ => decide (p < 14)
  | .rdr p _ => decide (p < 14)
  | .wrack p _ => decide (p < 14)
  | .syncr p _ => decide (p < 14)
  | .catc p _ _ => decide (p < 14)
  | .coll p _ => decide (p < 14)
  | .barr p _ => decide (p < 14)
  | .slow p _ => decide (p < 14)
  | .abort p _ => decide (p < 14)
  | .cdig p _ => decide (p < 14)
  | .remoteTimeout _ => true
  | .slowRenew => true
  | .pwrAsk site _ => decide (site < 2)
  | .pwrTele site _ _ => decide (site < 2)
  | .partnerOverrun site _ => decide (site < 2)
  | .partnerFence site => decide (site < 2)
  | .ucieLaneFail site _ _ => decide (site < 2)
  | .budgetRound => true
  | .pwrReq tile _ _ => decide (tile < 32)
  | .pwrGrant tile _ _ _ => decide (tile < 32)
  | .grantTimeout tile => decide (tile < 32)
  | .thermalEval => true
  | .thermalShutdown island => decide (island < 192)
  | .shutdownRecordWrite => true
  | .regionClockChange q _ => decide (q < 4)
  | .islandClockStop tile _ => decide (tile < 32)
  | .islandWake island => decide (island < 192)
  | .tilePowerDown tile => decide (tile < 32)
  | .pllLockLoss tile => decide (tile < 32)
  | .unitFailure tile _ => decide (tile < 32)
  | .quiesceDrained tile _ => decide (tile < 32)
  | .spareTakeover tile _ _ => decide (tile < 32)
  | .drizzleSegment _ => true
  | .drizzleSegmentEnd _ _ => true
  | .drizzleAbort _ => true
  | .drizzleOverdue _ => true
  | .barometerReplan island _ => decide (island < 192)
  | .distanceTableUpdate => true
  | .eventLogWrite => true
  | .flashHoldFlush => true
  | .lockstepError => true
  | .setEndpointId _ _ => true
  | .pldmSensorRead _ => true
  | .pldmEffecterWrite _ => true
  | .requestUpdate => true
  | .firmwareTransfer _ => true
  | .verifyComplete _ => true
  | .activateFirmware _ => true
  | .fwFallback => true
  | .getIdentity _ => true
  | .getStageReport _ => true
  | .getLog _ _ => true
  | .getSnapshot => true
  | .writeTopology _ _ => true
  | .resetModule _ _ => true
  | .getLifecycle => true
  | .monHelp => true
  | .monId => true
  | .monLcs => true
  | .monStage _ => true
  | .monSensors => true
  | .monLog _ _ => true
  | .unlockChallenge level => (level == 1 || level == 2)
  | .unlockResponse level _ => (level == 1 || level == 2)
  | .unlockExpire => true
  | .lock => true
  | .baud _ => true
  | .monPeek _ _ => true
  | .monDrizzle _ _ => true
  | .monTg h _ _ _ _ _ _ _ _ => decide (h < 8)
  | .poke _ _ => true
  | .diemode _ _ => true
  | .monReset => true
  | .idcode => true
  | .bypass => true
  | .samplePreload _ => true
  | .extest => true
  | .diesel _ => true
  | .diescan _ => true
  | .partnerDieReturn site _ => decide (site < 2)
  | .cancelUpdate => true

end Sys2Proof
end

