-- ==== Sys2Proof/Decode.lean ====
section
/-!
DEFINITION. The commands that a word spells. No row of the table has bits, so no word spells a command.
-/

namespace Sys2Proof

/-- The command that a word of the table spells: none, since no row of the table gives bits. [DESIGN CHOICE, log entry 49] -/
def decodeTableWord (_nbits _w : Nat) : Option Instr := none

end Sys2Proof
end

