-- ==== Sys2Proof/Config.lean ====
section
/-!
DEFINITION. What one module's fuses, sensors and analogue parts fix, and the values the spec leaves open. Every constant
here is opaque: nothing can be proved about its value, so a claim about it holds for every value.
-/

namespace Sys2Proof.Config

/-- A byte the spec leaves undefined, by a fresh index (R72, R134, R175). [DESIGN CHOICE, log entry 1] -/
opaque freeByte : Nat → Byte

/-- A word the spec leaves open, by a fresh index. [DESIGN CHOICE, log entry 1] -/
opaque freeWord : Nat → Word

/-- A number the spec leaves open, by a fresh index. [DESIGN CHOICE, log entry 1] -/
opaque freeNat : Nat → Nat

/-- The challenge drawn from the base die's random source, by a fresh index (R459). [DESIGN CHOICE, log entry 1] -/
opaque challenge : Nat → BitVec 32

/-- The response that the maker's service gives for a challenge, the module serial and a level (R459).
[DESIGN CHOICE, log entry 48] -/
opaque unlockResponse : BitVec 32 → Bytes → Nat → BitVec 32

/-- Whether an image's signature matches the key digest in the fuses (R454). [DESIGN CHOICE, log entry 48] -/
opaque signatureOk : Bytes → Bool

/-- Fused thermal resistance of a node to the cold plate, in degrees per watt (R428). [DESIGN CHOICE, log entry 48] -/
opaque thermR : Nat → Rat

/-- Fused coupling resistance between two nodes; zero when they are no neighbours (R428). [DESIGN CHOICE, log entry 48] -/
opaque thermRij : Nat → Nat → Rat

/-- Fused thermal capacitance of a node, in joules per degree (R428). [DESIGN CHOICE, log entry 48] -/
opaque thermC : Nat → Rat

/-- Fused baseline slack in ps of path-delay sensor k at a clock in MHz and a rail in mV (R413); the spec gives no figures.
[DESIGN CHOICE, log entry 48] -/
opaque baroBase : Nat → Nat → Nat → Int

/-- Which of the five islands of its site tile sensor k belongs to (R413): 0 to 3 the M-rows, 4 the V/S island; the spec does not
say. [DESIGN CHOICE, log entry 48] -/
opaque sensorIsland : Nat → Fin 5

/-- Fused Barometer recovery of an island in ps per mV (R414). [DESIGN CHOICE, log entry 48] -/
opaque baroK : Nat → Rat

/-- Fused Barometer cost of an island in ps per MHz (R414). [DESIGN CHOICE, log entry 48] -/
opaque baroQ : Nat → Rat

/-- Clock of a strip or corner island in MHz ("its own clock", Table 1.4). [DEDUCED, log entry 45] -/
opaque ownClock : Nat → Nat

/-- The rail voltage of an island at a clock in MHz, before any Barometer offset (R423).
[DEDUCED, log entry 45; DESIGN CHOICE, log entry 48] -/
opaque vfTable : Nat → Nat → Nat

/-- Forecast power of a tile at an M-row and a V/S clock in MHz, in units of 0.1 W (R426). [DEDUCED, log entry 45] -/
opaque forecast : Nat → Nat → Nat → Nat

/-- JEP106 manufacturer code of the TAP's IDCODE (R460). [DESIGN CHOICE, log entry 48] -/
opaque jep106 : BitVec 11

/-- Value a die's wrapper shifts out, by die index and fresh index (R461). [DESIGN CHOICE, log entry 1] -/
opaque wrapperBits : Nat → Nat → Bytes

/-- Boundary value sampled at the pins, by fresh index (R460). [DESIGN CHOICE, log entry 1] -/
opaque pinSample : Nat → Bytes

/-- Performance-counter and cycle values, by agent, CSR number and fresh index (R45, R467). [DESIGN CHOICE, log entry 1] -/
opaque counter : Nat → Nat → Nat → Word

end Sys2Proof.Config
end

