-- ==== Sys2Proof/Machine/State.lean ====
section
/-!
DEFINITION. The state of the T36: everything the manual gives the module, as plain data, with its value before power-on.
Large arrays are sparse tables (`Tab`), whose default entries are named beside the operations that read them.
-/

namespace Sys2Proof.Machine

/-- Why the machine stops. [DESIGN CHOICE, log entry 11] -/
inductive Fault where
  /-- A command names a unit that the spec says does not exist (a core above 383, a ring above 255 and so on).
  Raised by every meaning that takes a unit number. Safe: no such command exists. -/
  | noSuchUnit (kind : String) (n : Nat)
  deriving DecidableEq, Repr

/-- Why the model gives a command no meaning. -/
inductive Refusal where
  /-- The command has no meaning yet. Raised by `exec` alone. Safe: nothing is claimed of it. -/
  | notModelled (mnemonic : String)
  deriving DecidableEq, Repr

/-- The fuses of the base die and of the tile dies (R2, R17, R376, R457, R462, R463). [DESIGN CHOICE, log entry 4] -/
structure Fuse where
  /-- 0 T36-HX, 1 T36-SX, 2 T36-LX. -/
  variant : Nat := 0
  /-- Silicon revision. -/
  rev : Nat := 1
  /-- Partner codes of sites A and B, two ASCII characters each. -/
  partA : Nat := 0x3030
  partB : Nat := 0x3030
  /-- Lifecycle state, Table 15.4. -/
  lifecycle : Nat := 1
  /-- Region number of the spare site of each quadrant (R17). -/
  spareSites : List Nat := [7, 11, 32, 27]
  /-- Sixteen ASCII characters (R463). -/
  serial : Bytes := []
  /-- The 32-byte identities of the base die (index 0) and of the tile dies (index 1 + region). -/
  idents : Tab Bytes := []
  /-- The fuse map of Cistern spare rows (slice, sub-array, row) and columns (slice, sub-array, bit). -/
  rows : List (Nat × Nat × Nat) := []
  cols : List (Nat × Nat × Nat) := []
  deriving DecidableEq, Repr

/-- An entry of the field-repair record: its type, SR_BOOT at entry and payload (R399). [DESIGN CHOICE, log entry 4] -/
structure RepairEntry where
  kind : Nat
  boot : Nat
  payload : Nat
  deriving DecidableEq, Repr

/-- A record waiting to be written to the event log (R415, R416). [DESIGN CHOICE, log entry 4] -/
structure LogRec where
  code : Nat
  src : Nat
  injected : Bool
  time : Nat
  boot : Nat
  temp : Nat
  result : Nat
  data : Bytes
  delayed : Bool
  deriving DecidableEq, Repr

/-- The serial flash (R383, R399, R415, R435, R454). [DESIGN CHOICE, log entry 4] -/
structure Flash where
  /-- Bank marked active, and whether each bank holds an image that passes its check. -/
  active : Nat := 0
  ok0 : Bool := true
  ok1 : Bool := false
  /-- The two bank images. -/
  bank0 : Bytes := []
  bank1 : Bytes := []
  /-- The two copies of the expected topology record. -/
  topo0 : Option Bytes := none
  topo1 : Option Bytes := none
  /-- The field-repair record: entries, sequence number, and the copy written last. -/
  repair : List RepairEntry := []
  repairSeq : Nat := 0
  repairCopy : Nat := 0
  /-- The log ring: 64-byte record by slot; an unlisted slot is erased. -/
  log : Tab Bytes := []
  /-- Records written since manufacture: EL_SEQ of the next record. -/
  logSeq : Nat := 0
  /-- Slots 0 and 1 of the shutdown sector. -/
  shutRec : Option Bytes := none
  shutAck : Option Bytes := none
  /-- Start-ups and lockstep restarts since manufacture. -/
  boots : Nat := 0
  lockstep : Nat := 0
  deriving DecidableEq, Repr

/-- Start-up and readiness (R375 to R389). [DESIGN CHOICE, log entry 3] -/
structure Boot where
  /-- The module has power. -/
  powered : Bool := false
  /-- PERST# is asserted. -/
  perst : Bool := true
  refclk : Bool := false
  aqclk : Bool := false
  /-- Stage in progress or last run. -/
  stage : Nat := 0
  /-- A stage is in progress. -/
  running : Bool := false
  /-- READY, HELD and COMPUTE_OFF (R386, R387). -/
  ready : Bool := false
  held : Bool := false
  computeOff : Bool := false
  /-- Start-up has ended in a failure, or in the rejection of the topology (R378, R387). -/
  failed : Bool := false
  rejected : Bool := false
  /-- The start-up in progress is a power-on, not a module reset. -/
  cold : Bool := true
  /-- The timebase runs (from the end of S0, R47). -/
  ticking : Bool := false
  /-- Timebase at the start of the stage. -/
  start : Nat := 0
  /-- Stage reports that have been written, 256 bytes each. -/
  reports : Tab Bytes := []
  /-- Trained PCIe generation and width. -/
  gen : Nat := 0
  width : Nat := 0
  /-- Firmware bank in use. -/
  bank : Nat := 0
  fallback : Bool := false
  /-- The valid expected topology record found by S0. -/
  topo : Option Bytes := none
  shutPending : Bool := false
  /-- The module is in the shutdown state of R434. -/
  shut : Bool := false
  /-- Limits the boot ROM wrote (R376). -/
  limitW : Nat := 0
  ceilMhz : Nat := 0
  /-- Functions in D3hot, and the virtual functions enabled. -/
  d3 : List Nat := []
  numVf : Nat := 0
  /-- BAR4 size in GiB. -/
  bar4Gib : Nat := 1
  /-- THERMTRIP# is asserted. -/
  thermtrip : Bool := false
  /-- The shutdown record that waits for flash (R435). -/
  shutLog : Option LogRec := none
  deriving DecidableEq, Repr

/-- A die test mode and the health of a tile site (R17, R34, R360). [DESIGN CHOICE, log entry 5] -/
structure Site where
  good : Bool := true
  powered : Bool := false
  /-- BS_STATE (Table 11.2): 0 UNTRAINED, 1 TRAINING, 2 BONDED, 3 ISOLATED, 4 UNPOWERED. -/
  bs : Nat := 0
  /-- BS_MODE: NORMAL and the test modes of R360. -/
  dieMode : Nat := 0
  /-- Bad physical core positions (row, position). -/
  badPos : List (Nat × Nat) := []
  /-- Timebase of the last passing Drizzle coverage. -/
  cover : Nat := 0
  deriving DecidableEq, Repr

/-- A logical tile (R18 to R20, R25, R34, R402). [DESIGN CHOICE, log entry 5] -/
structure Tile where
  /-- Region number of its site; none when the number is absent. -/
  site : Option Nat := none
  epoch : Nat := 0
  /-- The whole tile is fenced. -/
  fenced : Bool := false
  /-- Fenced logical cores (row, position). -/
  fencedCores : List (Nat × Nat) := []
  /-- Physical position of each logical position, row by row; none when absent. -/
  rows : List (List (Option Nat)) := []
  /-- Rows that have used their spare position. -/
  shifted : List Nat := []
  /-- Powered down by R440. -/
  off : Bool := false
  /-- The partition whose rectangle held its site at the last commit (R263). -/
  part : Option Nat := none
  /-- The task that runs on it or claims it. -/
  task : Option Nat := none
  /-- Last measured power and ask, in 0.1 W; none when it has not asked in this round. -/
  meas : Nat := 0
  ask : Option Nat := none
  /-- Grant in force, in 0.1 W; none at the lowest operating point for want of a grant. -/
  grant : Option Nat := none
  /-- Grant that the Wellkeeper has sent and the tile has not received. -/
  sent : Option Nat := none
  /-- Share of each microsecond the M-row clock is gated, in thousandths (R426). -/
  gated : Nat := 0
  /-- The M-row islands run at no more than 1.00 GHz for class-I work (R78). -/
  classI : Bool := false
  /-- The tile's clock has been lost and is awaited (R408). -/
  clockLost : Bool := false
  deriving DecidableEq, Repr

/-- A clock island (R21, R414, R427, R432). [DESIGN CHOICE, log entry 3] -/
structure Island where
  /-- Clock in MHz in force. -/
  clk : Nat := 0
  /-- Operating point the budget allows; zero before the first. -/
  point : Nat := 0
  /-- Thermal cap. -/
  cap : Option Nat := none
  /-- 0 normal, 1 WARNING, 2 THROTTLE. -/
  state : Nat := 0
  /-- Evaluations in a row at 115 degrees or above. -/
  hot : Nat := 0
  /-- Temperature of the last evaluation and of the one before, in 0.125 degrees. -/
  temp : Int := 0
  last : Int := 0
  stopped : Bool := false
  off : Bool := true
  /-- Reported power in 0.1 W. -/
  power : Nat := 0
  /-- The array issues in alternate cycles (R424). -/
  halved : Bool := false
  /-- Barometer plan (R414): offset in mV, ceiling in MHz (0 for none planned), last loss, re-plans. -/
  offset : Nat := 0
  ceil : Nat := 0
  capped : Bool := false
  loss : Nat := 0
  replan : Nat := 0
  deriving DecidableEq, Repr

/-- A calibration diode (R431). [DESIGN CHOICE, log entry 3] -/
structure Diode where
  /-- Last reading in 0.125 degrees. -/
  reading : Int := 0
  broken : Bool := false
  /-- Consecutive rounds within every limit while broken. -/
  okRounds : Nat := 0
  deriving DecidableEq, Repr

/-- Input power, budgets and temperature (R418 to R440). [DESIGN CHOICE, log entry 3] -/
structure Power where
  /-- Measured input: mV, 10 mA, W. -/
  vin : Nat := 0
  iin : Nat := 0
  pin : Nat := 0
  /-- The voltage band state: the input is in service outside 33 V to 52 V (R420). -/
  outBand : Bool := false
  /-- Failed converter phases. -/
  failed : List Nat := []
  /-- Output current and temperature of each phase. -/
  phases : List (Nat × Nat) := []
  droop : Bool := false
  droops : Nat := 0
  /-- Timebase of the last droop event raised. -/
  droopAt : Option Nat := none
  /-- Partner grants and requests in W. -/
  grantA : Nat := 0
  grantB : Nat := 0
  /-- Thermal model: the temperature of each node in degrees, 25 where unlisted, and the corrections of nodes by their diodes. -/
  nodes : Tab Rat := []
  offs : Tab Rat := []
  tref : Rat := 25
  diodes : Tab Diode := []
  /-- Flash device temperature in degrees. -/
  flashT : Int := 25
  /-- Housekeeping rounds since S0, and the last complete snapshot. -/
  rounds : Nat := 0
  snapshot : Bytes := []
  /-- Power of each stack in 0.1 W. -/
  stackPower : List Nat := []
  alert : Bool := false
  deriving DecidableEq, Repr

/-- Errors held in one protected word or granule (R139, R140, R394). -/
structure Gran where
  poison : Bool := false
  /-- Inverted codeword bits not yet corrected. -/
  flips : List Nat := []
  /-- The inversion was made by DIAG_FLIP. -/
  injected : Bool := false
  /-- The stack's on-die report for a read burst of the granule: 0 no error, 1 corrected, 2 uncorrected (Table 7.2). -/
  ode : Nat := 0
  deriving DecidableEq, Repr

/-- Error record of a Cistern slice (Table 4.6). -/
structure SliceErr where
  ce : Nat := 0
  ue : Nat := 0
  line : Nat := 0
  gran : Nat := 0
  kind : Nat := 0
  agent : Nat := 0
  deriving DecidableEq, Repr

/-- A read of a merge group (R126). -/
structure MergeGroup where
  gran : Nat
  members : Nat
  deriving DecidableEq, Repr

/-- The Cistern beside its bytes (chapter 4, R395 to R397). -/
structure Cistern where
  errs : Tab SliceErr := []
  /-- Open merge groups by granule index. -/
  groups : List MergeGroup := []
  /-- Spare rows in use: slice, sub-array, row. -/
  rows : List (Nat × Nat × Nat) := []
  /-- Spare columns in use: slice, sub-array, bit. -/
  cols : List (Nat × Nat × Nat) := []
  /-- Retired and PENDING allocation units, 1,536 × region + unit. -/
  retired : List Nat := []
  unitsPending : List Nat := []
  /-- Granules waiting for their corrective write-back. -/
  correct : List Nat := []
  /-- Errors found since the last repair (R396): granule, time in ns, and the bit of a corrected error; none when uncorrectable. -/
  found : List (Nat × Nat × Option Nat) := []
  deriving DecidableEq, Repr

/-- A run of a channel's traffic generator: what its START took in, and the granules, by unit offset and number, that the DRAM
returns wrong, with the wrong bits of their first 8 bytes. -/
structure TgRun where
  mode : Nat
  op : Nat
  pc : Nat
  seed : Nat
  base : Nat
  len : Nat
  wrong : List (Nat × Nat × Word)
  deriving DecidableEq, Repr

/-- Channel block of an HBM channel (Table 7.6). -/
structure Chan where
  ce : Nat := 0
  ue : Nat := 0
  ode : Nat := 0
  kind : Nat := 0
  lostwr : Nat := 0
  addr : Nat := 0
  mode : Nat := 0
  op : Nat := 0
  pc : Nat := 0
  seed : Nat := 0
  base : Nat := 0
  len : Nat := 0
  busy : Bool := false
  done : Bool := false
  fail : Bool := false
  aborted : Bool := false
  refused : Bool := false
  errcnt : Nat := 0
  failOff : Nat := 0
  failGran : Nat := 0
  diff : Nat := 0
  /-- Held out of service for a test. -/
  held : Bool := false
  /-- The run under way. -/
  run : Option TgRun := none
  /-- Reads of the last 24 h that found an error: granule, time, and whether it was uncorrectable (R243). -/
  found : List (Nat × Nat × Bool) := []
  deriving DecidableEq, Repr

/-- A request in the queue of an HBM controller (R319 to R321): when it came, and its deadline tick. -/
structure QEnt where
  r : ValveReq
  t0 : Nat
  dl : Option Nat
  deriving DecidableEq, Repr

/-- An HBM stack and its controller (chapter 7). -/
structure Stack where
  rate : Nat := 3
  refx2 : Bool := false
  hot : Bool := false
  halt : Bool := false
  tlost : Bool := false
  temp : Nat := 0
  misses : Nat := 0
  ppr : Nat := 0
  /-- Activates limited by its strip island's THROTTLE (R432). -/
  limited : Bool := false
  retraining : Bool := false
  /-- Remap entries by index: bits [34:1] of Table 7.4. -/
  remap : Tab (Option Nat) := []
  /-- Global-window addresses of retired granules. -/
  retired : List Nat := []
  /-- Requests in the controller's queue of 1,024 entries, and those that wait at the strip-link input, oldest first. -/
  queue : List QEnt := []
  input : List QEnt := []
  /-- Class that round robin serves next, and the request served last. -/
  rr : Nat := 0
  served : Option Nat := none
  /-- Write-backs that wait for the stack to resume (R250). -/
  heldPuts : List CohMsg := []
  /-- Identity built at S5. -/
  ident : Bytes := []
  deriving DecidableEq, Repr

/-- A scrubber's position (R392). -/
structure Scrub where
  next : Nat := 0
  late : Bool := false
  logged : Bool := false
  deriving DecidableEq, Repr

/-- How a core waits (R53, R466). -/
inductive CoreWait where
  | none
  /-- In TLK.SWGE or TLK.SWEQ, with the cell and the destination register. -/
  | cell (c rd : Nat)
  /-- In a remote wait, with the tag. -/
  | remote (tag rd : Nat)
  /-- In WFI. -/
  | wfi
  /-- In TLK.PFENCE, with the ticket and the destination register. -/
  | pfence (ticket rd : Nat)
  /-- On a memory access that its cache has sent: address, size, register, signed. -/
  | mem (addr size rd : Nat) (signed : Bool)
  deriving DecidableEq, Repr

/-- A trigger slot of an S-core (R54). -/
structure Slot where
  cell : Nat
  bound : Nat
  deriving DecidableEq, Repr

/-- A programmable core (R40 to R63). [DESIGN CHOICE, log entry 6] -/
structure Core where
  /-- Integer, floating-point and vector registers; register 0 of the first is hard-wired to zero. -/
  xr : Tab Word := []
  fr : Tab Word := []
  vr : Tab Nat := []
  pc : Word := 0
  /-- Standard CSRs with storage, by number. -/
  csr : Tab Word := []
  umode : Bool := false
  run : Bool := false
  /-- RUN has been cleared while an access or a remote operation was under way: the V-core stops when it retires (R44). -/
  stopping : Bool := false
  wait : CoreWait := .none
  /-- Exit code of TLK.EXIT, in the present task. -/
  exit : Option Nat := none
  cls : Nat := 0
  stream : Bool := false
  /-- tlk_syncpend, one bit per slot. -/
  syncpend : BitVec 8 := 0
  slots : Tab (Option Slot) := []
  vsel : Bool := false
  trapped : Bool := false
  vcause : Word := 0
  vepc : Word := 0
  vtval : Word := 0
  mtimecmp : Word := BitVec.allOnes 64
  mtip : Bool := false
  /-- Pump commands accepted (the next ticket). -/
  tickets : Nat := 0
  /-- Outstanding tickets, and completed ones whose status is not yet reported. -/
  outst : List Nat := []
  stat : List (Nat × Status) := []
  /-- The granule kept by an uncached fetch, by its address divided by 32, and its bytes (R468). -/
  kept : Option (Nat × Bytes) := none
  /-- The 32-bit word of the last fetch. -/
  fetched : Nat := 0
  /-- LR reservation, by 128 B line number. -/
  resv : Option Nat := none
  /-- Performance counters 3 to 10. -/
  hpm : Tab Nat := []
  /-- Single-bit errors corrected in the tightly coupled memory (R66). -/
  tcmCe : Nat := 0
  deriving DecidableEq, Repr

/-- A completion record or event on its way to a completion ring. -/
structure Rec where
  tag : Nat
  status : Status
  detail : Nat
  evt : Bool
  result : Nat
  /-- It qualifies for an interrupt (R271). -/
  irq : Bool
  /-- Submission ring and number of the dispatched command it reports; none for an event or a command never dispatched. -/
  cmd : Option (Nat × Nat)
  deriving DecidableEq, Repr

/-- Ring r: its submission and completion sides (R266 to R270). -/
structure Ring where
  pi : Nat := 0
  ci : Nat := 0
  sqErr : Nat := 0
  /-- Descriptors fetched and not yet consumed, oldest first. -/
  fetched : List Bytes := []
  /-- Tick D of the head, once it has become head with a deadline; the outer none means not yet set. -/
  headTick : Option (Option Nat) := none
  /-- The head has registered its WAIT, and the WAIT has been met. -/
  headWaits : Bool := false
  headMet : Bool := false
  cqPi : Nat := 0
  cqCi : Nat := 0
  cqErr : Nat := 0
  phase : Bool := true
  /-- Records that wait for space or for their turn. -/
  backlog : List Rec := []
  /-- Qualifying records since the last interrupt. -/
  coal : Nat := 0
  deriving DecidableEq, Repr

/-- A command that has been dispatched and has not completed. -/
structure HostCmd where
  id : Nat
  ring : Nat
  fn : Nat
  desc : Bytes
  /-- Its deadline tick D. -/
  tick : Option Nat
  /-- It is registered and waits (SYNC_OP waits, remote operations, collectives). -/
  waiting : Bool := false
  deriving DecidableEq, Repr

/-- A commit unit: CFG_STATUS and its like (R260, R336). -/
structure CommitUnit where
  busy : Bool := false
  overrun : Bool := false
  code : Nat := 0
  group : Nat := 0
  field : Nat := 0xFFFF
  seq : Nat := 0
  /-- The group of the commit that runs, its staging words as captured at the write, and the CONFIG_COMMIT that asked. -/
  running : Nat := 0
  captured : List (Nat × Nat) := []
  cmd : Option Nat := none
  deriving DecidableEq, Repr

/-- An event on its way to a function (R292). -/
structure Event where
  code : Nat
  payload : Nat
  deriving DecidableEq, Repr

/-- Event buffer of a function. -/
structure EvBuf where
  waiting : List Event := []
  lost : Nat := 0
  deriving DecidableEq, Repr

/-- The host interface (chapter 8). -/
structure HostIf where
  /-- Active and staging copies of registers, by key (see Machine/Registers.lean). -/
  regs : Tab Word := []
  stag : Tab Word := []
  units : Tab CommitUnit := []
  rings : Tab Ring := []
  cmds : List HostCmd := []
  nextId : Nat := 0
  evbuf : Tab EvBuf := []
  /-- MSI-X vectors whose mask bit is clear, and pending bits, 256 × function + vector. -/
  unmasked : List Nat := []
  pba : List Nat := []
  /-- Outstanding SYNC_OP ARMs: function, tag, cell, bound. -/
  arms : List (Nat × Nat × Nat × Nat) := []
  deriving DecidableEq, Repr

/-- What the module has sent out, for the outside world to read: the model's own fields. [DESIGN CHOICE, log entry 8] -/
structure Out where
  /-- Bytes the module wrote to host memory. -/
  hostMem : List Host.Cell := []
  /-- MSI-X messages sent: function, vector. -/
  msix : List (Nat × Nat) := []
  /-- The last word read at a register, BAR or monitor. -/
  rdata : Word := 0
  /-- Bytes of the last BAR4 read, TAP scan or management reply, and its status. -/
  reply : Bytes := []
  status : Status := .ok
  /-- PLDM completion code of the last PLDM request: 0 SUCCESS, 1 ERROR_INVALID_DATA, 2 unavailable,
  3 UNABLE_TO_INITIATE_UPDATE, 4 verify failed, 5 module reset required, 6 activation refused. -/
  pldm : Nat := 0
  /-- Messages handed to an Aquifer port or a partner link, oldest first: port, message. -/
  sent : List (Nat × AqMsg) := []
  /-- What the TAP instruction register captured when the present instruction was shifted in (R460). -/
  capture : Nat := 1
  deriving DecidableEq, Repr

/-- An installed Cistern map entry (Table 4.2). -/
structure MapEnt where
  base : Nat
  units : Nat
  owner : Nat
  perm : Nat
  deriving DecidableEq, Repr

/-- An entry of a class table (R308). -/
structure ClassEnt where
  cls : Nat
  data : Bytes
  deriving DecidableEq, Repr

/-- A task, from its claim to its end (R70 to R73). -/
structure Task where
  id : Nat
  fn : Nat
  ring : Nat
  hostId : Nat
  part : Nat
  mask : Nat
  /-- Class of the descriptor and donecell, exit block. -/
  cls : Nat
  done : Nat
  xaddr : Nat
  /-- Released: its S-cores have started. -/
  released : Bool
  /-- Exit codes written so far: agent, code. -/
  exits : List (Nat × Nat)
  classMask : Nat
  /-- First notice cell (R310). -/
  notice : Option Nat
  /-- Ranges of the Cistern that the image is loaded into: address, bytes (R72). -/
  ranges : List (Nat × Nat)
  deriving DecidableEq, Repr

/-- A partition's task-visible set-up (R131 to R134). -/
structure Part where
  map : List MapEnt := []
  /-- Logical tile of each image tile of the task that installed the map. -/
  tiles : List Nat := []
  classes : List ClassEnt := []
  resetting : Bool := false
  deriving DecidableEq, Repr

/-- A unit under recovery (R403 to R406). -/
structure Repair where
  tile : Nat
  /-- Row and position of a failed core; none for the whole tile. -/
  core : Option (Nat × Nat)
  /-- Its row or partition is quiesced for it. -/
  quiet : Bool
  /-- What it quiesces has drained. -/
  drained : Bool
  /-- The recovery was asked for by REPAIR SPARE, with the command to complete. -/
  cmd : Option Nat
  deriving DecidableEq, Repr

/-- In-service test and repair (chapter 13). -/
structure Service where
  repairs : List Repair := []
  segments : List TestUnit := []
  /-- Units without a passing segment within PERIOD. -/
  overdue : List TestUnit := []
  dzfail : Nat := 0
  scrubs : Tab Scrub := []
  /-- Armed flip registers, by k. -/
  flips : Tab Word := []
  /-- Records held for flash, oldest first, and records lost. -/
  logq : List LogRec := []
  logLost : Nat := 0
  /-- Records of one code and source suppressed since the last one written: code, source, count. -/
  suppressed : List (Nat × Nat × Nat) := []
  /-- Records written in the present second: code, source, count, second. -/
  rateNow : List (Nat × Nat × Nat × Nat) := []
  /-- Field-repair entries held until flash may be written. -/
  heldRepairs : List RepairEntry := []
  /-- Last measured slack in ps of each path-delay sensor: sensor j of region n is number 32n + j, sensor j of the tile site over
  region n is number 1,152 + 12n + j (R13, R413). -/
  slacks : Tab Int := []
  deriving DecidableEq, Repr

/-- A firmware update in progress (R454). -/
structure Update where
  data : Bytes
  verified : Bool
  deriving DecidableEq, Repr

/-- The management complex (chapter 15). -/
structure Mgmt where
  eidSmbus : Option Nat := none
  eidPcie : Option Nat := none
  update : Option Update := none
  /-- Timebase when the new image was started, while its self-check runs; the bank it replaced. -/
  trial : Option Nat := none
  /-- The monitor: 0 LOCKED, 1 DIAG, 2 FULL. -/
  level : Nat := 0
  chal : Option (BitVec 32 × Nat × Nat) := none
  fails : Nat := 0
  lockUntil : Nat := 0
  baud : Nat := 115200
  /-- TAP instruction: 0 IDCODE, 1 BYPASS, 2 SAMPLE, 3 EXTEST, 4 DIESEL, 5 DIESCAN. -/
  ir : Nat := 0
  refused : Bool := false
  boundary : Bytes := []
  driven : Bool := false
  die : Option Nat := none
  wrapper : Tab Bytes := []
  deriving DecidableEq, Repr

/-- The distance table (R23 to R32). -/
structure Dist where
  gen : Nat := 0
  words : Tab Word := []
  /-- Quadrants whose spare site has failed, and quadrants whose spare site holds a logical number. -/
  spareBad : List Nat := []
  spareUsed : List Nat := []
  /-- Spare site of each quadrant, as S4 chose it. -/
  spares : List Nat := []
  /-- A cause of Table 1.10 has come since the last update. -/
  dirty : Bool := false
  deriving DecidableEq, Repr

/-- A waiter entry: its cell, condition (0 GE, 1 EQ, 2 the 13-bit GE and 3 the 13-bit EQ of R276, 4 ARM) and bound. -/
structure WaitEnt where
  cell : Nat
  kind : Nat
  bound : Nat
  w : Waiter
  deriving DecidableEq, Repr

/-- Sync status of a region (Table 9.3). -/
structure SyncReg where
  ce : Nat := 0
  ue : Nat := 0
  cell : Nat := 0
  peak : Nat := 0
  deriving DecidableEq, Repr

/-- A WAKE on its way: the waiter, the value, and how the wait ends. -/
structure Wake where
  w : Waiter
  val : Word
  st : Status
  /-- Resends made. -/
  tries : Nat
  deriving DecidableEq, Repr

/-- The sync units (R293 to R305). -/
structure Sync where
  cells : Tab Word := []
  errs : Tab Gran := []
  regions : Tab SyncReg := []
  table : List WaitEnt := []
  queued : List WaitEnt := []
  wakes : List Wake := []
  deriving DecidableEq, Repr

/-- A POSTED_ADD that its sender holds until FLOW_ACK (R163 to R165). -/
structure VMsg where
  src : Nat
  dst : Nat
  seq : Nat
  cell : Nat
  val : Word
  /-- Resends made. -/
  tries : Nat
  /-- The receiver has it in its reorder store. -/
  arrived : Bool
  /-- The cell has been added to. -/
  performed : Bool
  /-- The core whose instruction the addition is. -/
  agent : Option Nat
  deriving DecidableEq, Repr

/-- Types of vane messages (Table 5.4). The codes 0xD and 0xE are reserved. [DEDUCED, log entry 27] -/
inductive VType where
  | syncReq | syncRsp | wake | postedAdd | doorbell | irq | pwrReq | pwrGrant | errReport | repairCmd | repairAck | release | mcAck
  | flowAck
  deriving DecidableEq, Repr

/-- TYPE of a vane message. -/
def VType.code : VType → Nat
  | .syncReq => 0 | .syncRsp => 1 | .wake => 2 | .postedAdd => 3 | .doorbell => 4 | .irq => 5 | .pwrReq => 6 | .pwrGrant => 7
  | .errReport => 8 | .repairCmd => 9 | .repairAck => 10 | .release => 11 | .mcAck => 12 | .flowAck => 15

/-- Virtual channel of a vane message (R160, Table 5.4): VC1 carries replies, wake-ups and acknowledgements. -/
def VType.vc : VType → Nat
  | .syncRsp | .wake | .pwrGrant | .repairAck | .mcAck | .flowAck => 1
  | _ => 0

/-- The vane network (R160 to R165). -/
structure Vane where
  held : List VMsg := []
  /-- Next SEQ of each source (times 64 plus destination), modulo 16. -/
  seqs : Tab Nat := []
  deriving DecidableEq, Repr

/-- A command of a pump, from its acceptance to its completion (R167, R175). -/
structure PCmd where
  id : Nat
  desc : Bytes
  /-- The core that issued it. -/
  agent : Nat
  ticket : Nat
  cls : Nat
  started : Bool := false
  /-- Its outcome, once it has ended: status, DETAIL, RESULT. -/
  fin : Option (Status × Nat × Nat) := none
  /-- MCAST: the destination list read, chunk in progress and its bytes, list entries that have not acknowledged it,
  failure mask. -/
  dests : List Nat := []
  chunk : Nat := 0
  buf : Bytes := []
  live : List Nat := []
  failed : Nat := 0
  /-- Remote requests still unanswered, the first bad status they brought, and the bytes they have moved. -/
  waits : List Nat := []
  bad : Status := .ok
  moved : Nat := 0
  /-- RESULT of a command that a remote request has failed with ST_UNCORRECTABLE. -/
  badAt : Nat := 0
  deriving DecidableEq, Repr

/-- A reduction slot of a catchment unit (Table 5.17) with its descriptor. -/
structure CatSlot where
  state : Nat := 0
  code : Nat := 0
  flags : Nat := 0
  done : Nat := 0
  desc : Bytes := []
  /-- Class of the installer, and the collective group that holds the slot. -/
  cls : Nat := 0
  group : Option Nat := none
  /-- Elements whose output has been written. -/
  written : List Nat := []
  /-- Elements whose accumulator entry was written by others while the slot was ACTIVE (R183). -/
  tainted : List Nat := []
  deriving DecidableEq, Repr

/-- The catchment unit of a region (R181). -/
structure CatUnit where
  service : Bool := false
  orphans : Nat := 0
  orphanAddr : Nat := 0
  /-- Timebase of the last CATCH_ORPHAN raised. -/
  raised : Option Nat := none
  slots : Tab CatSlot := []
  deriving DecidableEq, Repr

/-- An installed mesh schedule (Table 5.2) and the output ports that have turned to credited mode (R156, R158). -/
structure MeshSched where
  task : Nat
  part : Nat
  sect : Bytes
  /-- In effect since a slot-counter wrap. -/
  active : Bool
  credited : List Nat := []
  deriving DecidableEq, Repr

/-- Mesh, pumps and catchment (chapter 5). -/
structure Mesh where
  /-- Commands of pump p, oldest accepted first: 0 to 143 region, 144 to 155 Aquifer. -/
  pumps : Tab (List PCmd) := []
  nextId : Nat := 0
  cats : Tab CatUnit := []
  scheds : Tab (Option MeshSched) := []
  /-- Contributions in flight toward their destination units, some of them waiting in a unit on the way (R185). -/
  flights : List Contrib := []
  /-- Landing buffers (R178), by 2 × region + channel (0 MCA, 1 MCB): the pump, command and list entry that holds each. -/
  landing : Tab (Option (Nat × Nat × Nat)) := []
  /-- The slot counters of each quadrant's regions, which are always aligned (R150), in thousandths of a region cycle. -/
  phases : List Nat := [0, 0, 0, 0]
  deriving DecidableEq, Repr

/-- A matrix command in the queue of an M-core (R76): its 64 bytes, class label and push number. -/
structure MCmd where
  desc : Bytes
  cls : Nat
  seq : Nat
  deriving DecidableEq, Repr

/-- An MSEND on a neighbour link (R102): the started command, where it goes, and its data. -/
structure MXfer where
  cmd : MCmd
  /-- The destination is a V-core, by agent; else an M-core, by index. -/
  toV : Bool
  dst : Nat
  buf : Nat
  base : Nat
  lf : Nat
  data : Bytes
  /-- The data has landed; a full flag counter holds the increment (R106). -/
  landed : Bool := false
  deriving DecidableEq, Repr

/-- An M-core (R74, Table 3.14). [DESIGN CHOICE, log entry 6] -/
structure MCore where
  queue : List MCmd := []
  /-- Transfers it has sent and that have not landed, oldest first. -/
  xfers : List MXfer := []
  /-- Cells whose SIG addition is due, oldest first. -/
  sigs : List Nat := []
  /-- The head MWAIT is registered and waits. -/
  waiting : Bool := false
  /-- Buffers A, B and accumulator: byte b of buffer k under 262,144k + b, and errors by 8-byte word. -/
  bufs : Tab Byte := []
  errs : Tab Gran := []
  /-- Single-bit buffer errors corrected (R74). -/
  ce : Nat := 0
  faulted : Bool := false
  /-- Fenced: FAULTED with ST_STALE_EPOCH until READMIT (Table 13.5). -/
  stale : Bool := false
  code : Nat := 0
  opc : Nat := 0
  field : Nat := 0
  seq : Nat := 0
  /-- MS_FLAGS: CLAMP, OVF, SAT, NANOUT. -/
  clamp : Bool := false
  ovf : Bool := false
  sat : Bool := false
  nanout : Bool := false
  lf : List Nat := [0, 0, 0, 0]
  /-- Commands pushed and commands that have left the queue, since LAUNCH. -/
  pushes : Nat := 0
  done : Nat := 0
  deriving DecidableEq, Repr

/-- A directory entry (Table 6.2, R202). -/
structure DirEnt where
  line : Nat := 0
  /-- 0 FREE, 1 OWNED, 2 SHARED_F, 3 SHARED, 4 BUSY_F, 5 BUSY_I, 6 BUSY_O, 7 BUSY_E. -/
  st : Nat := 0
  /-- DE_PTR0 to DE_PTR3; none when not valid. -/
  ptrs : List (Option Nat) := [none, none, none, none]
  ovf : Bool := false
  /-- Order of allocation. -/
  age : Nat := 0
  /-- The stable state before a snoop or an offer. -/
  prev : Nat := 0
  /-- The request in service. -/
  req : Option CohMsg := none
  /-- Agents whose answers are outstanding. -/
  wait : List Nat := []
  /-- Data that answers brought, and a mask of its granules that hold an uncorrectable byte. -/
  data : Option Bytes := none
  mask : Nat := 0
  /-- PUTs held until the answer of their agent (R210). -/
  held : List CohMsg := []
  deriving DecidableEq, Repr

/-- An entry of a core cache (R201). -/
structure CacheEnt where
  line : Nat := 0
  st : CState := .i
  data : Bytes := []
  /-- SM remembers F; IS marked for one use; WB attributes D and K. -/
  wasF : Bool := false
  oneUse : Bool := false
  dirty : Bool := false
  keep : Bool := false
  /-- Poison sent with the write-back. -/
  poison : Bool := false
  /-- Inverted codeword bits, 13 x byte + bit, and whether DIAG_FLIP made them. -/
  flips : List Nat := []
  /-- The line was asked for by a prefetch. -/
  pf : Bool := false
  deriving DecidableEq, Repr

/-- An access that a cache performs when its line is ready. -/
structure Acc where
  addr : Nat
  size : Nat
  /-- None for a load, else the store operation. -/
  op : Option StoreOp
  rd : Nat
  signed : Bool
  val : Word
  /-- 0 for a data access; 1 and 2 for the first and second half of an instruction. -/
  fetch : Nat := 0
  /-- Of a vector load: the first byte of the register group from rd on that it fills. -/
  vec : Option Nat := none
  deriving DecidableEq, Repr

/-- A stride tracker (R219). -/
structure Tracker where
  pc : Nat
  line : Nat
  delta : Int
  trained : Bool
  deriving DecidableEq, Repr

/-- Registers and work of a core cache (Table 6.11). -/
structure CacheCtl where
  enable : Bool := false
  pfEn : Bool := false
  stashEn : Bool := false
  pfDist : Nat := 0
  invdone : Bool := false
  last : Nat := 0
  pin : Nat := 0
  lfsr : Nat := 0xACE1
  ce : Nat := 0
  ue : Nat := 0
  errEntry : Nat := 0
  errKind : Nat := 0
  off : Nat := 0
  /-- The access in progress, which stalls the core. -/
  acc : Option Acc := none
  /-- Line of a fill that waits for the write-back of its entry: entry, line, ownership wanted. -/
  fill : Option (Nat × Nat × Bool) := none
  /-- Snoops deferred (R207). -/
  deferred : List CohMsg := []
  /-- Line for which an LR defers snoops. -/
  lrHold : Option Nat := none
  trackers : List Tracker := []
  /-- Entries whose write-back a maintenance operation awaits, and what follows: 1 sets INVDONE, 2 disables, 3 pins. -/
  maint : List Nat := []
  after : Nat := 0
  pinNext : Nat := 0
  /-- The supervising S-core whose store through the alias began the maintenance operation (R222). -/
  issuer : Option Nat := none
  /-- Times of the corrected errors that each entry has counted in the window of R224. -/
  ces : Tab (List Nat) := []
  deriving DecidableEq, Repr

/-- The coherent domain (chapter 6). -/
structure Coh where
  dir : Tab DirEnt := []
  /-- Entry e of agent a's cache under 48a + e. -/
  ents : Tab CacheEnt := []
  ctls : Tab CacheCtl := []
  /-- Messages in flight. -/
  msgs : List CohMsg := []
  /-- Requests that wait at their homes, oldest first. -/
  waiting : List CohMsg := []
  /-- Cancelled write-backs not yet met: agent, tag. -/
  cancelled : List (Nat × Nat) := []
  /-- Lines allocated so far. -/
  ages : Nat := 0
  /-- Writes that a home refused after their WR_U had waited (R141), by requester and granule address, until the requester
  takes note. -/
  refused : List (Nat × Nat) := []
  /-- Negotiated partner agents (R199, R365). -/
  partners : List Nat := []
  deriving DecidableEq, Repr

/-- Measurement of a class (Table 9.8, R314, R323). -/
structure QosClass where
  meas : Nat := 0
  dem : Nat := 0
  effg : Nat := 0
  scaled : Bool := false
  heldReq : Bool := false
  dlmiss : Nat := 0
  misses : Nat := 0
  /-- Bytes released and presented in the present window. -/
  released : Nat := 0
  wanted : Nat := 0
  /-- Cause 0 and cause 1 raised in the present window. -/
  told0 : Bool := false
  told1 : Bool := false
  deriving DecidableEq, Repr

/-- Float valves and the regulator (R311 to R323). -/
structure Qos where
  /-- Allowance in bytes of valve v, class c, stack h under 128v + 8c + h. -/
  allow : Tab Rat := []
  /-- Bytes presented since the last tick under 128v + 8c + h. -/
  shown : Tab Nat := []
  /-- Requests held at valves, oldest first. -/
  held : List ValveReq := []
  classes : Tab QosClass := []
  /-- The last tick throttled a class below its demand on a derated stack (R322). -/
  throttled : Bool := false
  /-- Register words that commits since the last tick replaced, by offset: they stay in force until the next (R314). -/
  before : List (Nat × Nat) := []
  deriving DecidableEq, Repr

/-- One direction of a slice port (Table 11.2). -/
structure BondDir where
  /-- 0 FULL, 1 FOLDED, 2 FAILED, 3 UNTRAINED; it resets to 0 (Table 11.2). -/
  st : Nat := 0
  /-- BD_GRPg of the eight groups, and BD_FRAME. -/
  grps : List Nat := [0, 0, 0, 0, 0, 0, 0, 0]
  frame : Nat := 0
  crc : Nat := 0
  retrains : Nat := 0
  /-- Timebase of the CRC errors of the last millisecond, and retrains failed in a row. -/
  recent : List Nat := []
  fails : Nat := 0
  retraining : Bool := false
  deriving DecidableEq, Repr

/-- A UCIe module of a partner site: PS_MODm (Table 11.7). -/
structure UMod where
  role : Nat := 7
  width : Nat := 0
  rate : Nat := 0
  deriving DecidableEq, Repr

/-- A partner site (R363 to R374). -/
structure PSite where
  /-- 0 EMPTY, 1 DISCOVERY, 2 UP, 3 FENCED, 4 DOWN, 5 FAILED. -/
  st : Nat := 0
  proto : Nat := 0
  overrun : Bool := false
  epoch : Nat := 0
  mods : List UMod := [{}, {}, {}, {}]
  agents : Nat := 0
  cache : Nat := 0
  pgrant : Nat := 0
  pmeas : Nat := 0
  tmeas : Nat := 0
  drop : Nat := 0
  /-- Descriptor read at S7 or on return. -/
  desc : Bytes := []
  deriving DecidableEq, Repr

/-- An Aquifer port (Table 10.2, R328 to R330). -/
structure AqPort where
  /-- 0 DOWN, 1 TRAINING, 2 UP. -/
  st : Nat := 0
  width : Nat := 3
  rate : Nat := 3
  lanes : Nat := 0
  peer : Nat := 0
  peerPort : Nat := 0
  fecce : Nat := 0
  fecue : Nat := 0
  replay : Nat := 0
  drop : Nat := 0
  slow : Nat := 0
  /-- Last FSEQ received in order, and whether later flits are discarded until the replayed one. -/
  rxSeq : Nat := 4095
  nak : Bool := false
  /-- Bytes of a message whose end is still to come in a later flit (R328). -/
  rxPart : Bytes := []
  /-- FSEQ of the next flit, and the flits that no ACK covers, each with the message it carries a part of. -/
  txSeq : Nat := 0
  unacked : List (Nat × AqMsg) := []
  /-- Messages that wait for a replay buffer or for credits, and the 16-byte units that each virtual channel has in use at the
  receiver (R329). -/
  txq : List AqMsg := []
  used : Tab Nat := []
  deriving DecidableEq, Repr

/-- Who made a remote request, and so how it ends (R338, R341). -/
inductive RemUser where
  /-- A core's load into rd. -/
  | load (a addr size rd : Nat) (signed : Bool)
  | store (a : Nat)
  /-- A core's sync-cell operation; rd receives the result. -/
  | cell (a rd : Nat)
  /-- A core's remote wait. -/
  | wait (a rd : Nat)
  /-- A core's ARM in a slot. -/
  | arm (a slot : Nat)
  /-- A host SYNC_OP, or its ARM of a function. -/
  | host (id : Nat)
  | hostArm (fn tag : Nat)
  /-- A read of an Aquifer pump's command, of which n bytes from `off` go to local memory, and a write. -/
  | pumpRead (p id dst off n : Nat)
  | pumpWrite (p id n : Nat)
  deriving DecidableEq, Repr

/-- A remote request without its reply (R341). -/
structure RemReq where
  tag : Nat
  dmod : Nat
  port : Nat
  kind : MKind
  cls : Nat
  user : RemUser
  t0 : Nat
  /-- Waits and ARMs have no deadline. -/
  timed : Bool
  /-- Line of a read that fills the far cache: global address and epoch. -/
  far : Option (Nat × Nat) := none
  /-- Address at the module asked, and length. -/
  addr : Nat := 0
  len : Nat := 0
  deriving DecidableEq, Repr

/-- A line of the far cache (R349, R350), by global line number. -/
structure FarLine where
  line : Nat
  cls : Nat
  epoch : Nat
  data : Bytes
  /-- Set and way that it lies in (R349). -/
  set : Nat := 0
  way : Nat := 0
  deriving DecidableEq, Repr

/-- A collective that runs at this member (R345). -/
structure GroupRun where
  /-- Its host command and sequence number. -/
  cmd : Nat
  seq : Nat
  /-- Timebase at its dispatch. -/
  start : Nat
  /-- The step it waits in. -/
  step : Nat := 0
  /-- Elements received: phase (0 up, 1 down, 2 digest, 3 barrier, 4 flags), rank, count. -/
  got : List (Nat × Nat × Nat) := []
  /-- CLAMP, OVF, SAT and NANOUT of every element written, as far as they are known here. -/
  flags : Nat := 0
  /-- Digest of the operands. -/
  digest : Nat := 0
  ready : Bool := false
  deriving DecidableEq, Repr

/-- A collective group (Table 10.8). -/
structure Group where
  members : List Nat := []
  seq : Nat := 0
  slot : Nat := 0
  digest : Nat := 0
  last : Nat := 0
  run : Option GroupRun := none
  /-- Messages of a sequence that this member has not begun. -/
  early : List AqMsg := []
  deriving DecidableEq, Repr

/-- Aquifer and the module's place among modules (chapter 10). -/
structure Aq where
  modid : Nat := 0
  valid : Bool := false
  ports : Tab AqPort := []
  reqs : List RemReq := []
  nextTag : Nat := 0
  /-- expiry[m] of R343. -/
  expiry : Tab Nat := []
  far : List FarLine := []
  groups : Tab Group := []
  /-- A slow notice of cause 1 is in force (R342). -/
  slow : Bool := false
  deriving DecidableEq, Repr

/-- The T36. -/
structure State where
  /-- Commands that wait, first in, first out. -/
  pending : List Instr := []
  /-- Module timebase in ns (R47). -/
  now : Nat := 0
  /-- The model's own counter behind every free value. -/
  free : Nat := 0
  fuse : Fuse := {}
  flash : Flash := {}
  boot : Boot := {}
  power : Power := {}
  islands : Tab Island := []
  sites : Tab Site := []
  tiles : Tab Tile := []
  dist : Dist := {}
  /-- Bytes of the Cistern, HBM (by global-window address) and tightly coupled memories (by alias). -/
  mem : List Host.Cell := []
  /-- Errors of 32 B granules (by address div 32) and of 8 B words of tightly coupled memory (by address div 8). -/
  grans : Tab Gran := []
  tcmErrs : Tab Gran := []
  cistern : Cistern := {}
  chans : Tab Chan := []
  hbms : Tab Stack := []
  /-- Seal states of the block checksum table by entry: 0, 1 or 2 (R237). -/
  seals : Tab Nat := []
  cores : Tab Core := []
  /-- M-core p of row r of tile t under 16t + 4r + p. -/
  mcores : Tab MCore := []
  host : HostIf := {}
  out : Out := {}
  tasks : List Task := []
  nextTask : Nat := 0
  parts : Tab Part := []
  svc : Service := {}
  mgmt : Mgmt := {}
  sync : Sync := {}
  vane : Vane := {}
  mesh : Mesh := {}
  coh : Coh := {}
  aq : Aq := {}
  qos : Qos := {}
  /-- Direction d (0 up, 1 down) of port p of the site over region n under 64n + 2p + d. -/
  bonds : Tab BondDir := []
  psites : Tab PSite := []
  deriving DecidableEq, Repr

/-- The module without power: nothing runs until POWER_ON (R375). [DESIGN CHOICE, log entries 2, 3] -/
def State.reset : State := {}

end Sys2Proof.Machine
end

