-- ==== Sys2Proof/Machine/Ops.lean ====
section
/-!
DEFINITION. The operations every meaning shares: sparse tables, byte strings and their fields, CRC-32C, ordered checks,
how a meaning answers, and the reading and writing of the state's tables.
-/

namespace Sys2Proof.Machine

/-! ### Sparse tables -/

/-- The entry of key `k`; `d` gives what an unlisted key reads as. -/
def tget {α : Type} (d : Nat → α) : Tab α → Nat → α
  | [], k => d k
  | (j, v) :: t, k => if k = j then v else tget d t k

/-- Drop the entries of key `k`. -/
def tclear {α : Type} (k : Nat) (t : Tab α) : Tab α := t.filter (fun e => e.1 != k)

/-- Set the entry of key `k`, keeping the keys rising and no entry equal to what its key reads as unlisted. -/
def tset {α : Type} [DecidableEq α] (d : Nat → α) : Tab α → Nat → α → Tab α
  | [], k, v => if v = d k then [] else [(k, v)]
  | (j, w) :: t, k, v =>
    if k < j then (if v = d k then tclear k ((j, w) :: t) else (k, v) :: (j, w) :: t)
    else if k = j then (if v = d k then tclear k t else (k, v) :: t)
    else (j, w) :: tset d t k v

/-- The canonical form: keys above `lo` rise strictly and no entry equals its default. -/
def twfFrom {α : Type} [DecidableEq α] (d : Nat → α) : Nat → Tab α → Bool
  | _, [] => true
  | lo, (k, v) :: t => decide (lo ≤ k) && decide (v ≠ d k) && twfFrom d (k + 1) t

/-- The canonical form of a table. -/
def twf {α : Type} [DecidableEq α] (d : Nat → α) (t : Tab α) : Bool := twfFrom d 0 t

/-- Drop every entry whose key satisfies `p`: those keys read as their default again. -/
def tdrop {α : Type} (p : Nat → Bool) (t : Tab α) : Tab α := t.filter (fun e => !p e.1)

/-- The keys that are listed. -/
def tkeys {α : Type} (t : Tab α) : List Nat := t.map (·.1)

/-! ### Numbers and bytes -/

/-- Bits [hi:lo] of a number. -/
def bits (v hi lo : Nat) : Nat := (v / 2 ^ lo) % 2 ^ (hi + 1 - lo)

/-- Bit `i` of a number. -/
def bit (v i : Nat) : Bool := v.testBit i

/-- 1 for true. -/
def b2n (b : Bool) : Nat := if b then 1 else 0

/-- The number whose bits [hi:lo] are those of `x` and whose others are those of `v`. -/
def setBits (v hi lo x : Nat) : Nat :=
  v - bits v hi lo * 2 ^ lo + (x % 2 ^ (hi + 1 - lo)) * 2 ^ lo

/-- The little-endian number in a run of bytes. -/
def ofLe : Bytes → Nat
  | [] => 0
  | b :: t => b.toNat + 256 * ofLe t

/-- `n` bytes of a number, lowest first. -/
def toLe : Nat → Nat → Bytes
  | 0, _ => []
  | n + 1, v => BitVec.ofNat 8 v :: toLe n (v / 256)

/-- The `n`-byte little-endian field at byte `off` of a record; bytes past its end count as zero. -/
def le (b : Bytes) (off n : Nat) : Nat := ofLe ((b.drop off).take n)

/-- `n` zero bytes. -/
def zeros (n : Nat) : Bytes := List.replicate n 0

/-- Whether `n` bytes from `off` are all zero. -/
def zeroAt (b : Bytes) (off n : Nat) : Bool := ((b.drop off).take n).all (· == 0)

/-- A record with the bytes at `off` replaced. -/
def putAt (b : Bytes) (off : Nat) (x : Bytes) : Bytes := b.take off ++ x ++ b.drop (off + x.length)

/-- One step of CRC-32C over a bit (R235: Castagnoli, bit-reflected). -/
def crcBit (c : BitVec 32) : BitVec 32 :=
  if c.getLsbD 0 then (c >>> 1) ^^^ 0x82F63B78#32 else c >>> 1

/-- CRC-32C over one byte. -/
def crcByte (c : BitVec 32) (b : Byte) : BitVec 32 :=
  let x := c ^^^ b.zeroExtend 32
  crcBit (crcBit (crcBit (crcBit (crcBit (crcBit (crcBit (crcBit x)))))))

/-- CRC-32C of a run of bytes (R235). -/
def crc32c (b : Bytes) : Nat := ((b.foldl crcByte 0xFFFFFFFF#32) ^^^ 0xFFFFFFFF#32).toNat

/-- ASCII bytes of a string. -/
def ascii (t : String) : Bytes := t.toList.map (fun c => BitVec.ofNat 8 c.toNat)

/-- Saturating count at a bound. -/
def satAdd (v n cap : Nat) : Nat := min (v + n) cap

/-- Sign of an `n`-bit number. -/
def toInt (n v : Nat) : Int := if v % 2 ^ n < 2 ^ (n - 1) then (v % 2 ^ n : Nat) else ((v % 2 ^ n : Nat) : Int) - (2 ^ n : Nat)

/-- Two's complement of an integer in `n` bits. -/
def ofInt (n : Nat) (i : Int) : Nat := (i % (2 ^ n : Nat)).toNat

/-- Ceiling of a quotient. -/
def ceilDiv (a b : Nat) : Nat := (a + b - 1) / b

/-! ### Status codes -/

/-- The code of a status (Table 8.8). -/
def stCode : Status → Nat
  | .ok => 0 | .badOpcode => 1 | .badField => 2 | .range => 3 | .align => 4 | .locked => 5 | .oversubscribed => 6
  | .absent => 7 | .staleEpoch => 8 | .checksum => 9 | .uncorrectable => 10 | .timeout => 11 | .partialDone => 12
  | .tempForbidden => 13 | .permission => 14 | .aborted => 15 | .inconsistent => 16 | .unsealed => 17

/-- The status of a code; a reserved code reads as ST_ABORTED. [DEDUCED, log entry 36] -/
def stOf (n : Nat) : Status :=
  [.ok, .badOpcode, .badField, .range, .align, .locked, .oversubscribed, .absent, .staleEpoch, .checksum, .uncorrectable, .timeout,
    .partialDone, .tempForbidden, .permission, .aborted, .inconsistent, .unsealed].getD n .aborted

/-- Ordered checks: the status of the first condition that does not hold, or ST_OK (Tables 2.13, 5.11 and the like). -/
def firstFail : List (Bool × Status) → Status
  | [] => .ok
  | (ok, st) :: t => if ok then firstFail t else st

/-- The first status that is not ST_OK. -/
def firstBad : List Status → Status
  | [] => .ok
  | st :: t => if st = .ok then firstBad t else st

/-! ### How a meaning answers -/

/-- The answer of a command: the state `t`, with the queue, the fuses and the timebase of `s`, which no command of this
kind changes (R47, R376, R457). [DESIGN CHOICE, log entry 11] -/
def done (s t : State) : Host.Outcome State Fault Refusal :=
  .next { t with pending := s.pending, fuse := s.fuse, now := s.now }

/-- As `done`, for the two commands that start or restart the timebase (R47). [DESIGN CHOICE, log entry 11] -/
def doneAt (s t : State) (ns : Nat) : Host.Outcome State Fault Refusal :=
  .next { t with pending := s.pending, fuse := s.fuse, now := ns }

/-- A command about unit `n` of a kind of which the module has `count`. [DESIGN CHOICE, log entry 11] -/
def within (kind : String) (n count : Nat) (r : Host.Outcome State Fault Refusal) : Host.Outcome State Fault Refusal :=
  if n < count then r else .fault (.noSuchUnit kind n)

/-! ### Tables of the state -/

/-- Register of a table of structures whose unlisted entries are at their defaults. -/
def tab {α : Type} [Inhabited α] (t : Tab α) (k : Nat) : α := tget (fun _ => default) t k

/-- Core of agent `a`. -/
def State.core (s : State) (a : Nat) : Core := tget (fun _ => {}) s.cores a
/-- Set the core of agent `a`. -/
def State.setCore (s : State) (a : Nat) (c : Core) : State := { s with cores := tset (fun _ => {}) s.cores a c }
/-- Logical tile `t`. -/
def State.tile (s : State) (t : Nat) : Tile := tget (fun _ => {}) s.tiles t
/-- Set logical tile `t`. -/
def State.setTile (s : State) (t : Nat) (x : Tile) : State := { s with tiles := tset (fun _ => {}) s.tiles t x }
/-- Tile site over region `n`. -/
def State.site (s : State) (n : Nat) : Site := tget (fun _ => {}) s.sites n
/-- Set the tile site over region `n`. -/
def State.setSite (s : State) (n : Nat) (x : Site) : State := { s with sites := tset (fun _ => {}) s.sites n x }
/-- Clock island `i`. -/
def State.island (s : State) (i : Nat) : Island := tget (fun _ => {}) s.islands i
/-- Set clock island `i`. -/
def State.setIsland (s : State) (i : Nat) (x : Island) : State :=
  { s with islands := tset (fun _ => {}) s.islands i x }
/-- HBM stack `h`. -/
def State.stack (s : State) (h : Nat) : Stack := tget (fun _ => {}) s.hbms h
/-- Set HBM stack `h`. -/
def State.setStack (s : State) (h : Nat) (x : Stack) : State := { s with hbms := tset (fun _ => {}) s.hbms h x }
/-- HBM channel 32h + c. -/
def State.chan (s : State) (k : Nat) : Chan := tget (fun _ => {}) s.chans k
/-- Set HBM channel 32h + c. -/
def State.setChan (s : State) (k : Nat) (x : Chan) : State := { s with chans := tset (fun _ => {}) s.chans k x }
/-- Ring `r`. -/
def State.ring (s : State) (r : Nat) : Ring := tget (fun _ => {}) s.host.rings r
/-- Set ring `r`. -/
def State.setRing (s : State) (r : Nat) (x : Ring) : State :=
  { s with host.rings := tset (fun _ => {}) s.host.rings r x }
/-- Commit unit `u`. -/
def State.unit (s : State) (u : Nat) : CommitUnit := tget (fun _ => {}) s.host.units u
/-- Set commit unit `u`. -/
def State.setUnit (s : State) (u : Nat) (x : CommitUnit) : State :=
  { s with host.units := tset (fun _ => {}) s.host.units u x }
/-- Event buffer of function `f`. -/
def State.evbuf (s : State) (f : Nat) : EvBuf := tget (fun _ => {}) s.host.evbuf f
/-- Set the event buffer of function `f`. -/
def State.setEvbuf (s : State) (f : Nat) (x : EvBuf) : State :=
  { s with host.evbuf := tset (fun _ => {}) s.host.evbuf f x }
/-- Partition `p`. -/
def State.part (s : State) (p : Nat) : Part := tget (fun _ => {}) s.parts p
/-- Set partition `p`. -/
def State.setPart (s : State) (p : Nat) (x : Part) : State := { s with parts := tset (fun _ => {}) s.parts p x }

/-- M-core 16t + 4r + p. -/
def State.mc (s : State) (i : Nat) : MCore := tget (fun _ => {}) s.mcores i
/-- Set M-core 16t + 4r + p. -/
def State.setMc (s : State) (i : Nat) (x : MCore) : State := { s with mcores := tset (fun _ => {}) s.mcores i x }

/-- A register of a core; register 0 reads zero. -/
def Core.x (c : Core) (r : Nat) : Word := if r = 0 then 0 else tget (fun _ => 0) c.xr r
/-- Write a register of a core; a write of register 0 is discarded. -/
def Core.setX (c : Core) (r : Nat) (v : Word) : Core :=
  if r = 0 then c else { c with xr := tset (fun _ => 0) c.xr r v }
/-- The core after an instruction, or the part of one, that moves the pc by `n`: a V-core whose RUN has been cleared stops when the
instruction is over (R44). -/
def Core.step (c : Core) (n : Word) : Core :=
  if c.stopping && n != 0 then
    { c with pc := c.pc + n, wait := .none, stopping := false, run := false, vepc := c.pc + n }
  else { c with pc := c.pc + n, wait := .none }
/-- The core after an instruction: the pc moves past its 4 bytes. -/
def Core.retire (c : Core) : Core := c.step 4

/-! ### Bytes of memory -/

/-- What a byte of memory that nothing has written reads as. [DESIGN CHOICE, log entry 7] -/
def memDefault : Nat → Byte := fun _ => 0
/-- The byte of memory at a canonical address. [DESIGN CHOICE, log entry 7] -/
def State.byte (s : State) (a : Nat) : Byte := tget memDefault s.mem a
/-- Write one byte of memory. -/
def State.setByte (s : State) (a : Nat) (b : Byte) : State := { s with mem := tset memDefault s.mem a b }
/-- Write a run of bytes in a table of bytes. -/
def putBytes : Tab Byte → Nat → Bytes → Tab Byte
  | m, _, [] => m
  | m, a, b :: t => putBytes (tset memDefault m a b) (a + 1) t
/-- Memory's canonical form. [DESIGN CHOICE, log entry 7] -/
def State.memWf (s : State) : Bool := twf memDefault s.mem
/-- Zero the bytes from `lo` up to but not including `hi`. -/
def State.zeroMem (s : State) (lo hi : Nat) : State :=
  { s with mem := tdrop (fun a => decide (lo ≤ a) && decide (a < hi)) s.mem }

/-- A fresh byte that the spec leaves undefined, and the counter moved on. [DESIGN CHOICE, log entry 1] -/
def State.freshByte (s : State) : Byte × State := (Config.freeByte s.free, { s with free := s.free + 1 })
/-- A fresh number that the spec leaves open. [DESIGN CHOICE, log entry 1] -/
def State.freshNat (s : State) : Nat × State := (Config.freeNat s.free, { s with free := s.free + 1 })

/-! ### Numbering -/

/-- Quadrant of a region number (R12). -/
def quadOf (n : Nat) : Nat := (if n % 6 < 3 then 0 else 1) + (if n / 6 < 3 then 0 else 2)
/-- The sites of a quadrant in the order of R18. -/
def quadSites (q : Nat) : List Nat := (List.range 36).filter (fun n => quadOf n == q)
/-- Agent of core k of tile t (R46). -/
def agentOf (t k : Nat) : Nat := 12 * t + k
/-- Logical tile of an agent. -/
def tileOf (a : Nat) : Nat := a / 12
/-- Whether an agent is an S-core. -/
def isScore (a : Nat) : Bool := a % 12 < 4
/-- Row and logical position of an agent (R46). -/
def rowPos (a : Nat) : Nat × Nat := if a % 12 < 4 then (5, a % 12) else (4, a % 12 - 4)
/-- The agents of a tile. -/
def tileAgents (t : Nat) : List Nat := (List.range 12).map (agentOf t)
/-- Physical position of a logical core, none when absent (R34). -/
def Tile.phys (x : Tile) (r p : Nat) : Option Nat := ((x.rows[r]?).bind (·[p]?)).join
/-- Whether a logical core is present. -/
def State.present (s : State) (t r p : Nat) : Bool := (s.tile t).site.isSome && ((s.tile t).phys r p).isSome
/-- Whether the core of an agent is present. -/
def State.corePresent (s : State) (a : Nat) : Bool := s.present (tileOf a) (rowPos a).1 (rowPos a).2
/-- Whether a tile, or one of its cores, is fenced: what TL_STATE shows (R402). -/
def Tile.isFenced (x : Tile) : Bool := x.fenced || !x.fencedCores.isEmpty || x.off
/-- Whether an agent's core is fenced, alone or with its tile. -/
def State.coreFenced (s : State) (a : Nat) : Bool :=
  (s.tile (tileOf a)).fenced || (s.tile (tileOf a)).off || (s.tile (tileOf a)).fencedCores.contains (rowPos a)
/-- Region below an M-core's tile, whose agent ID and vane node it uses (Table 6.1, R162). -/
def State.mRegion (s : State) (i : Nat) : Nat := ((s.tile (i / 16)).site).getD 0
/-- Whether M-core i is present. -/
def State.mPresent (s : State) (i : Nat) : Bool := s.present (i / 16) (i / 4 % 4) (i % 4)
/-- Whether a row of a tile is quiesced for a recovery: its own row, or its partition (R403). -/
def State.quiesced (s : State) (t row : Nat) : Bool :=
  s.svc.repairs.any (fun r => r.quiet && (match r.core with
    | some (q, _) => r.tile == t && q == row
    | none => r.tile == t || ((s.tile t).part.isSome && (s.tile r.tile).part == (s.tile t).part)))
/-- Whether a partition is quiesced for a tile's recovery (R403). -/
def State.partQuiesced (s : State) (p : Nat) : Bool :=
  s.svc.repairs.any (fun r => r.quiet && r.core.isNone && (s.tile r.tile).part == some p)
/-- V-core that S-core `a` supervises and `sel` picks (R39). -/
def supervised (a : Nat) (sel : Bool) : Nat := a - a % 12 + 4 + 2 * (a % 12) + b2n sel
/-- S-core that supervises V-core `a` (R39). -/
def supervisor (a : Nat) : Nat := a - a % 12 + (a % 12 - 4) / 2
/-- M-row island of row r of the site over region n, and its V/S island (Table 13.7). -/
def mIsland (n r : Nat) : Nat := 4 + 4 * n + r
/-- V/S island of the site over region n. -/
def vsIsland (n : Nat) : Nat := 148 + n

end Sys2Proof.Machine
end

