-- ==== Sys2Proof/Machine/RegFile.lean ====
section
/-!
DEFINITION. The staged registers: where each lies, its writable bits, its reset value and its commit group, and the
reading and writing of the active and staging copies (R9, R10, R259). Blocks: 0 to 7 the registers of one function, 8 the
registers that functions share in BAR0, 9 the Aquifer set-up block, 10 the partner block, 11 the service block, 12 the
power block. A register's key is 0x10000 times its block plus its offset.
-/

namespace Sys2Proof.Machine

/-- A staged register: its writable bits, its reset value and its commit group. -/
structure RegSpec where
  mask : Nat
  reset : Nat
  group : Nat
  deriving DecidableEq, Repr

/-- The number with ones in the fields [hi:lo] listed. -/
def fields (l : List (Nat × Nat)) : Nat := (l.map (fun f => (2 ^ (f.1 + 1 - f.2) - 1) * 2 ^ f.2)).sum

/-- Staged registers of BAR0 shared by the functions (Tables 4.4, 4.5, 5.14, 7.9, 8.2 to 8.5, 9.7, 9.8). -/
def bar0Spec (o : Nat) : Option RegSpec :=
  if o % 8 ≠ 0 then none
  else if o = 0x30 then some ⟨fields [(47, 30)], 0, 6⟩
  else if o = 0x38 then some ⟨0xF, 0, 3⟩
  else if o = 0x40 then some ⟨0xFFFF, 0, 4⟩
  else if o = 0x48 ∨ o = 0x50 then some ⟨2 ^ 64 - 1, 0x7FFF7FFF7FFF7FFF, 6⟩
  else if 0x1000 ≤ o ∧ o < 0x1800 ∧ o % 0x100 < 0x80 then
    some ⟨fields [(1, 0), (31, 16), (47, 32)], 0, 0x10 + (o - 0x1000) / 0x100⟩
  else if 0x1000 ≤ o ∧ o < 0x1800 ∧ o % 0x100 = 0x80 then some ⟨fields [(13, 0)], 50, 0x10 + (o - 0x1000) / 0x100⟩
  else if 0x2000 ≤ o ∧ o < 0x2080 ∧ o % 16 = 0 then
    some ⟨fields [(2, 0), (6, 4), (10, 8), (14, 12), (18, 16), (24, 24), (39, 32)],
      if o = 0x2000 then 0xFF01005500 else 0, 2⟩
  else if 0x2000 ≤ o ∧ o < 0x2080 ∧ o % 16 = 8 then
    some ⟨2 ^ 32 - 1, if o = 0x2008 then 384 * 2 ^ 16 else 0, 2⟩
  else if 0x2800 ≤ o ∧ o < 0x2BC0 ∧ o % 0x40 = 0 then
    some ⟨fields [(40, 0), (57, 48)], 16 * 2 ^ 32 + 100 * 2 ^ 48, 0x20 + (o - 0x2800) / 0x40⟩
  else if 0x2800 ≤ o ∧ o < 0x2BC0 ∧ o % 0x40 = 8 then
    some ⟨fields [(10, 0), (24, 16), (47, 32)], 504 * 2 ^ 16, 0x20 + (o - 0x2800) / 0x40⟩
  else if o = 0x2C00 then some ⟨0xFFFF, 32, 0x2F⟩
  else if 0x3000 ≤ o ∧ o < 0x3080 then some ⟨2 ^ 64 - 1, 0, 5⟩
  else if 0x4000 ≤ o ∧ o < 0x8000 then
    let g := 0x100 + (o - 0x4000) / 64
    match (o % 64) / 8 with
    | 0 => some ⟨fields [(63, 12)], 0, g⟩
    | 1 => some ⟨fields [(63, 12)], 0, g⟩
    | 2 => some ⟨fields [(4, 0), (8, 8), (23, 16), (26, 24)], 6, g⟩
    | 3 => some ⟨fields [(4, 0), (9, 8), (23, 16), (31, 24), (47, 32)], 6, g⟩
    | 4 => some ⟨fields [(63, 6)], 0, g⟩
    | _ => none
  else none

/-- Staged registers of the Aquifer set-up block (Tables 10.6 and 10.8). -/
def aqSpec (o : Nat) : Option RegSpec :=
  if o = 0x18 then some ⟨0xFFFF, 100, 1⟩
  else if o = 0x20 then some ⟨fields [(16, 0), (31, 31)], 0, 1⟩
  else if 0x40 ≤ o ∧ o < 0x80 ∧ o % 8 = 0 then some ⟨fields [(3, 0), (27, 16), (43, 32)], 0xFFF * 2 ^ 32, 2⟩
  else if 0x1000 ≤ o ∧ o < 0x1200 ∧ o % 8 = 0 then some ⟨0x0F0F0F0F0F0F0F0F, 0x0F0F0F0F0F0F0F0F, 3⟩
  else if 0x2000 ≤ o ∧ o < 0x12000 ∧ o % 8 = 0 then
    let g := 0x100 + (o - 0x2000) / 64
    match (o % 64) / 8 with
    | 0 => some ⟨fields [(10, 0), (26, 16), (32, 32), (42, 40), (63, 48)], 1000 * 2 ^ 48, g⟩
    | 1 => some ⟨2 ^ 48 - 1, 0, g⟩
    | 2 => some ⟨2 ^ 64 - 1, 0, g⟩
    | _ => none
  else none

/-- Staged registers of the partner block (Table 11.7). -/
def psSpec (o : Nat) : Option RegSpec :=
  if o = 0x118 then some ⟨fields [(2, 0), (11, 8), (31, 16)], 0, 1⟩
  else if o = 0x218 then some ⟨fields [(2, 0), (11, 8), (31, 16)], 0, 2⟩
  else none

/-- Staged registers of the service block (Table 13.1). -/
def diagSpec (o : Nat) : Option RegSpec :=
  if o = 0x10 then some ⟨fields [(15, 0), (47, 32)], 600 + 1440 * 2 ^ 32, 1⟩
  else if o = 0x18 then some ⟨fields [(0, 0), (15, 8), (25, 16), (47, 32)], 1 + 2 * 2 ^ 8 + 500 * 2 ^ 16 + 24 * 2 ^ 32, 2⟩
  else if o = 0x20 then some ⟨1, 1, 3⟩
  else none

/-- Staged registers of the power and thermal block (Table 14.1). -/
def pwrSpec (o : Nat) : Option RegSpec :=
  if o = 0x10 then some ⟨0xFFFF, 0, 1⟩
  else if o = 0x18 then some ⟨0xFFFF, 100 + 100 * 2 ^ 8, 1⟩
  else if o = 0x20 then some ⟨0xF, 5, 2⟩
  else if o = 0x28 then some ⟨0xF, 5, 3⟩
  else if o = 0x30 then some ⟨fields [(0, 0), (15, 8)], 100 * 2 ^ 8, 3⟩
  else none

/-- The staged register at an offset of a block; CFG_ENABLE is each function's own. The Aquifer block's offsets pass
0xFFFF, so its keys take a range of their own (`rkey`). -/
def regSpec (blk o : Nat) : Option RegSpec :=
  if blk < 8 then (if o = 0x28 then some ⟨fields [(1, 0), (15, 8)], 0, 1⟩ else none)
  else if blk = 8 then bar0Spec o
  else if blk = 9 then aqSpec o
  else if blk = 10 then psSpec o
  else if blk = 11 then diagSpec o
  else if blk = 12 then pwrSpec o
  else none

/-- The key of a register: blocks are 0x20000 apart. -/
def rkey (blk o : Nat) : Nat := blk * 0x20000 + o

/-- What a register reads as when nothing has written it: its reset value. -/
def regReset (k : Nat) : Word :=
  match regSpec (k / 0x20000) (k % 0x20000) with
  | some r => BitVec.ofNat 64 r.reset
  | none => 0

/-- Active value of a register. -/
def State.reg (s : State) (blk o : Nat) : Nat := (tget regReset s.host.regs (rkey blk o)).toNat
/-- Value held by the staging copy, reserved bits as written. -/
def State.staged (s : State) (blk o : Nat) : Nat := (tget regReset s.host.stag (rkey blk o)).toNat
/-- Set the active value. -/
def State.setReg (s : State) (blk o v : Nat) : State :=
  { s with host.regs := tset regReset s.host.regs (rkey blk o) (BitVec.ofNat 64 v) }
/-- Set the staging copy. -/
def State.setStaged (s : State) (blk o v : Nat) : State :=
  { s with host.stag := tset regReset s.host.stag (rkey blk o) (BitVec.ofNat 64 v) }

/-- Offsets of the registers of a commit group of a block, in address order. -/
def groupRegs (blk g : Nat) : List Nat :=
  if blk < 8 then (if g = 1 then [0x28] else [])
  else if blk = 8 then
    if g = 2 then (List.range 16).map (fun i => 0x2000 + 8 * i)
    else if g = 3 then [0x38]
    else if g = 4 then [0x40]
    else if g = 5 then (List.range 16).map (fun i => 0x3000 + 8 * i)
    else if g = 6 then [0x30, 0x48, 0x50]
    else if 0x10 ≤ g ∧ g < 0x18 then (List.range 17).map (fun i => 0x1000 + 0x100 * (g - 0x10) + 8 * i)
    else if 0x20 ≤ g ∧ g < 0x2F then [0x2800 + 0x40 * (g - 0x20), 0x2808 + 0x40 * (g - 0x20)]
    else if g = 0x2F then [0x2C00]
    else if 0x100 ≤ g ∧ g < 0x200 then (List.range 5).map (fun i => 0x4000 + 64 * (g - 0x100) + 8 * i)
    else []
  else if blk = 9 then
    if g = 1 then [0x18, 0x20]
    else if g = 2 then (List.range 8).map (fun i => 0x40 + 8 * i)
    else if g = 3 then (List.range 64).map (fun i => 0x1000 + 8 * i)
    else if 0x100 ≤ g ∧ g < 0x500 then (List.range 3).map (fun i => 0x2000 + 64 * (g - 0x100) + 8 * i)
    else []
  else if blk = 10 then (if g = 1 then [0x118] else if g = 2 then [0x218] else [])
  else if blk = 11 then (if g = 1 then [0x10] else if g = 2 then [0x18] else if g = 3 then [0x20] else [])
  else if blk = 12 then (if g = 1 then [0x10, 0x18] else if g = 2 then [0x20] else if g = 3 then [0x28, 0x30] else [])
  else []

/-! ### Fields other units read -/

/-- PART_RECTp: VALID. -/
def State.partValid (s : State) (p : Nat) : Bool := bit (s.reg 8 (0x2000 + 16 * p)) 24
/-- PART_RECTp: OWNER. -/
def State.partOwner (s : State) (p : Nat) : Nat := bits (s.reg 8 (0x2000 + 16 * p)) 18 16
/-- PART_RECTp: whether the rectangle holds the site over region n. -/
def rectHas (w n : Nat) : Bool :=
  decide (bits w 2 0 ≤ n % 6) && decide (n % 6 ≤ bits w 10 8) && decide (bits w 6 4 ≤ n / 6) &&
    decide (n / 6 ≤ bits w 14 12)
/-- The valid partition whose rectangle holds region n. -/
def State.regionPart (s : State) (n : Nat) : Option Nat :=
  (List.range 8).find? (fun p => s.partValid p && rectHas (s.reg 8 (0x2000 + 16 * p)) n)
/-- The partition of an agent's tile. -/
def State.agentPart (s : State) (a : Nat) : Option Nat := (s.tile (tileOf a)).part
/-- Whether function f owns the partition of region n. -/
def State.ownsRegion (s : State) (f n : Nat) : Bool :=
  match s.regionPart n with
  | some p => s.partOwner p == f
  | none => false
/-- Owner of ring r; 15 for none. -/
def State.ringOwner (s : State) (r : Nat) : Nat := bits (s.reg 8 (0x3000 + 8 * (r / 16))) (4 * (r % 16) + 3) (4 * (r % 16))
/-- Classes a function may use. -/
def State.fnClasses (s : State) (f : Nat) : Nat :=
  bits (s.reg 8 (if f < 4 then 0x48 else 0x50)) (16 * (f % 4) + 15) (16 * (f % 4))
/-- MiB of each region block in the far-cache carve-out. -/
def State.carve (s : State) : Nat := bits (s.reg 8 0x38) 3 0
/-- CMD_EN of a function. -/
def State.cmdEn (s : State) (f : Nat) : Bool := bit (s.reg f 0x28) 0
/-- EVT_EN of a function. -/
def State.evtEn (s : State) (f : Nat) : Bool := bit (s.reg f 0x28) 1
/-- EVCQ of a function. -/
def State.evcq (s : State) (f : Nat) : Nat := bits (s.reg f 0x28) 15 8
/-- HYST of the thermal thresholds. -/
def State.hyst (s : State) : Nat := bits (s.reg 12 0x20) 3 0
/-- AUTOSPARE. -/
def State.autospare (s : State) : Bool := bit (s.reg 11 0x20) 0

end Sys2Proof.Machine
end

