-- ==== Sys2Proof/Machine/Operands.lean ====
section
/-!
DEFINITION. Address operands: the module's address map (R5 to R7), the places of Cistern and HBM addresses (R116, R230,
R231), and which requester may reach what (R64, R130, R133, R232, R265, R280, R338, R370).
-/

namespace Sys2Proof.Machine

/-- Where a 64-bit address leads. Memory places carry the address that the model keeps the byte under. -/
inductive Place where
  | hbm (g : Nat)
  | cistern (a : Nat)
  | tcm (a : Nat)
  | cell (i : Nat)
  | diag (off : Nat)
  | priv (off : Nat)
  | remote (m a : Nat)
  | bad
  deriving DecidableEq, Repr

/-- First address of the Cistern. -/
def cisternBase : Nat := 0x008000000000
/-- Bytes of one region block. -/
def blockBytes : Nat := 0x06000000
/-- First address past the Cistern. -/
def cisternEnd : Nat := cisternBase + 36 * blockBytes
/-- First address of the block checksum table in the global window (R232). -/
def tableBase : Nat := 0x005FE8000000
/-- First address past the HBM global window. -/
def hbmEnd : Nat := 0x006000000000
/-- First stack-local window, and its span. -/
def localBase : Nat := 0x00A000000000
def localSpan : Nat := 0x000C00000000
/-- First sync cell. -/
def cellBase : Nat := 0x009000000000
/-- First alias of a tightly coupled memory. -/
def tcmBase : Nat := 0x010040000000
/-- First address of the diagnostic and management space. -/
def diagBase : Nat := 0x010000000000
/-- First address of the core-private space (R63). -/
def privBase : Nat := 0x010080000000
/-- Sync cells of the module. -/
def nCells : Nat := 73728

/-- A DRAM place: stack, channel, pseudo-channel, unit offset, byte. -/
structure Dram where
  h : Nat
  c : Nat
  p : Nat
  o : Nat
  byte : Nat
  deriving DecidableEq, Repr

/-- The DRAM place of a global-window address (R230). -/
def dramOf (a : Nat) : Dram :=
  let g := a / 256
  let q := (g % 512) ^^^ (bits g 17 9) ^^^ (bits g 26 18) ^^^ (bits g 30 27)
  ⟨q % 8, bits q 7 3, q / 256 % 2, g / 512, a % 256⟩

/-- The global-window address of a DRAM place. -/
def globalOf (d : Dram) : Nat :=
  let q := d.h + 8 * d.c + 256 * d.p
  let low := q ^^^ (d.o % 512) ^^^ (bits d.o 17 9) ^^^ (bits d.o 21 18)
  (d.o * 512 + low) * 256 + d.byte

/-- The DRAM place of offset `a` of the stack-local window of stack `h` (R231). -/
def dramLocal (h a : Nat) : Dram :=
  let g := a / 256
  let l := (g % 64) ^^^ (bits g 11 6) ^^^ (bits g 17 12) ^^^ (bits g 23 18) ^^^ (bits g 27 24)
  ⟨h, l % 32, l / 32 % 2, g / 64, a % 256⟩

/-- The offset in its stack's local window of a DRAM place. -/
def localOf (d : Dram) : Nat :=
  let l := d.c + 32 * d.p
  let low := l ^^^ (d.o % 64) ^^^ (bits d.o 11 6) ^^^ (bits d.o 17 12) ^^^ (bits d.o 21 18)
  (d.o * 64 + low) * 256 + d.byte

/-- A Cistern place (R116): region, line in the slice, slice in the region, granule, unit. -/
structure CisPlace where
  n : Nat
  line : Nat
  slice : Nat
  gran : Nat
  unit : Nat
  deriving DecidableEq, Repr

/-- The place of a Cistern address (R116). -/
def cisPlace (a : Nat) : CisPlace :=
  let d := a - cisternBase
  let e := d % blockBytes
  let l := e / 4096
  let j := e / 128 % 32
  ⟨d / blockBytes, l, j ^^^ (l % 32) ^^^ (l / 32 % 32), e % 128 / 32, l / 16⟩

/-- The Cistern address of line `l` of slice `s` of region `n`, byte `b` (R116). -/
def cisAddr (n s l b : Nat) : Nat :=
  cisternBase + n * blockBytes + 4096 * l + 128 * (s ^^^ (l % 32) ^^^ (l / 32 % 32)) + b

/-- The window of a local address in HBM: 8 for the global window, else the stack. -/
def hbmWindow (a : Nat) : Option Nat :=
  if a < hbmEnd then some 8
  else if localBase ≤ a ∧ a < diagBase then some ((a - localBase) / localSpan)
  else none

/-- Where a local address leads (R5). -/
def placeLocal (a : Nat) : Place :=
  if a < hbmEnd then .hbm a
  else if cisternBase ≤ a ∧ a < cisternEnd then .cistern a
  else if cellBase ≤ a ∧ a < cellBase + 8 * nCells then .cell ((a - cellBase) / 8)
  else if localBase ≤ a ∧ a < diagBase then
    .hbm (globalOf (dramLocal ((a - localBase) / localSpan) ((a - localBase) % localSpan)))
  else if tcmBase ≤ a ∧ a < tcmBase + 384 * 0x20000 then
    (if (a - tcmBase) / 0x20000 % 12 < 4 ∧ 0x10000 ≤ (a - tcmBase) % 0x20000 then .bad else .tcm a)
  else if privBase ≤ a ∧ a < privBase + 0x10000000 then .priv (a - privBase)
  else if diagBase ≤ a ∧ a < diagBase + 0x100000000 then .diag (a - diagBase)
  else .bad

/-- The local address that an address names, when it is local or carries the module's own ID (R6). -/
def State.localAddr (s : State) (a : Nat) : Option Nat :=
  if a < 2 ^ 48 then some a
  else if 2 ^ 63 ≤ a ∧ bits a 62 60 = 0 ∧ bits a 59 48 = s.aq.modid then some (a % 2 ^ 48)
  else none

/-- Where an address leads (R6, R7). -/
def State.place (s : State) (a : Nat) : Place :=
  match s.localAddr a with
  | some x => placeLocal x
  | none => if 2 ^ 63 ≤ a ∧ a < 2 ^ 64 ∧ bits a 62 60 = 0 then .remote (bits a 59 48) (a % 2 ^ 48) else .bad

/-- The address that the model keeps a memory byte under. -/
def State.canon (s : State) (a : Nat) : Option Nat :=
  match s.place a with
  | .hbm g => some g
  | .cistern x => some x
  | .tcm x => some x
  | _ => none

/-- Kinds of place, for a range whose bytes must all be of one kind. -/
inductive Kind where
  | hbm | cistern | tcm | cell | diag | priv | remote | bad
  deriving DecidableEq, Repr

/-- Kind of a place. -/
def Place.kind : Place → Kind
  | .hbm _ => .hbm | .cistern _ => .cistern | .tcm _ => .tcm | .cell _ => .cell | .diag _ => .diag
  | .priv _ => .priv | .remote _ _ => .remote | .bad => .bad

/-- Whether intervals [a, a + m) and [b, b + n) share an address. -/
def overlap (a m b n : Nat) : Bool := decide (a < b + n) && decide (b < a + m) && decide (0 < m) && decide (0 < n)

/-- Whether a Cistern range avoids the carve-out (R138). -/
def State.outsideCarve (s : State) (a n : Nat) : Bool :=
  let top := s.carve * 2 ^ 20
  decide (s.carve = 0) ||
    (decide ((a - cisternBase) / blockBytes = (a + n - 1 - cisternBase) / blockBytes) &&
      decide ((a + n - 1 - cisternBase) % blockBytes < blockBytes - top))

/-- Whether a Cistern range avoids the retired units (R144). -/
def State.outsideRetired (s : State) (a n : Nat) : Bool :=
  s.cistern.retired.all (fun u => !overlap a n (cisternBase + 65536 * u) 65536)

/-- Whether an HBM range (local address, one window) avoids every 4 KiB block that holds a retired granule (R243). -/
def State.outsideBadBlocks (s : State) (a n : Nat) : Bool :=
  (List.range 8).all (fun h => (s.stack h).retired.all (fun g =>
    match hbmWindow a with
    | some 8 => !overlap a n (g / 4096 * 4096) 4096
    | some w => w != h || !overlap (a - localBase - w * localSpan) n (localOf (dramOf g) / 4096 * 4096) 4096
    | none => true))

/-- Whether an HBM range avoids the checksum table in its window (R232). -/
def outsideTable (a n : Nat) : Bool :=
  match hbmWindow a with
  | some 8 => decide (a + n ≤ tableBase)
  | some w => decide (a - localBase - w * localSpan + n ≤ 0xBFD000000)
  | none => true

/-- Whether the whole range lies in one window of HBM, in the Cistern, or in one tightly coupled memory, and the spec
calls no byte of it out of range (R7, R138, R144, R232, R243). `mgr` is the Wellkeeper, and `table` a read of the checksum table that
R241 grants. -/
def State.memRange (s : State) (mgr : Bool) (a n : Nat) (table : Bool := false) : Bool :=
  match s.localAddr a with
  | none => false
  | some x =>
    decide (0 < n) &&
    (match placeLocal x, placeLocal (x + n - 1) with
     | .hbm _, .hbm _ => decide (hbmWindow x = hbmWindow (x + n - 1)) &&
        (mgr || ((table || outsideTable x n) && s.outsideBadBlocks x n))
     | .cistern _, .cistern _ => mgr || (s.outsideCarve x n && s.outsideRetired x n)
     | .tcm _, .tcm _ => decide ((x - tcmBase) / 0x20000 = (x + n - 1 - tcmBase) / 0x20000)
     | _, _ => false)

/-- Whether a partition holds an HBM range: its global-window range or a granted local window (R265). -/
def State.hbmGranted (s : State) (p a n : Nat) : Bool :=
  let w0 := s.reg 8 (0x2000 + 16 * p)
  let w1 := s.reg 8 (0x2008 + 16 * p)
  match hbmWindow a with
  | some 8 => decide (bits w1 15 0 * 2 ^ 30 ≤ a) && decide (a + n ≤ (bits w1 15 0 + bits w1 31 16) * 2 ^ 30)
  | some h => bit w0 (32 + h)
  | none => false

/-- Regions that a Cistern range touches. -/
def cisRegions (a n : Nat) : List Nat :=
  let lo := (a - cisternBase) / blockBytes
  let hi := (a + n - 1 - cisternBase) / blockBytes
  (List.range (hi - lo + 1)).map (· + lo)

/-- Whether a range of memory or cells lies in partition `p` (R130, R263). -/
def State.inPart (s : State) (p a n : Nat) : Bool :=
  match s.localAddr a with
  | none => false
  | some x =>
    match placeLocal x with
    | .hbm _ => s.hbmGranted p x n
    | .cistern _ => (cisRegions x n).all (fun r => s.regionPart r == some p)
    | .tcm _ => (s.tile ((x - tcmBase) / 0x20000 / 12)).part == some p
    | .cell i => s.regionPart (i / 2048) == some p
    | _ => false

/-- Whether a range lies in partitions that function `f` owns. [DEDUCED, log entry 34] -/
def State.inFn (s : State) (f a n : Nat) : Bool :=
  (List.range 8).any (fun p => s.partValid p && s.partOwner p == f && s.inPart p a n) ||
    (match s.localAddr a with
     | some x => (match placeLocal x with
        | .cistern _ => (cisRegions x n).all (fun r => s.ownsRegion f r)
        | _ => false)
     | none => false)

/-- Whether an installed map lets image tile `it` make an access of a kind to the whole range (R133). Bytes of a range may
be admitted by different entries. -/
def mapAdmits (map : List MapEnt) (it : Option Nat) (k : AccKind) (a n : Nat) : Bool :=
  let ok (x : Nat) : Bool := map.any (fun e =>
    decide (e.base ≤ x) && decide (x < e.base + 65536 * e.units) && (e.owner == 0xFF || some e.owner == it) &&
    (match k with
     | .load => bit e.perm 0
     | .store => bit e.perm 1
     | .amo => bit e.perm 0 && bit e.perm 1
     | .fetch => bit e.perm 2))
  decide (0 < n) && ok a && ok (a + n - 1) &&
    (List.range ((a + n - 1) / 65536 - a / 65536)).all (fun i => ok ((a / 65536 + 1 + i) * 65536))

/-- Image tile index of a logical tile in the map its partition has installed. -/
def State.imageTile (s : State) (t : Nat) : Option Nat :=
  match (s.tile t).part with
  | some p => (s.part p).tiles.findIdx? (· == t)
  | none => none

/-- Stacks that an HBM range touches. -/
def stacksOf (a n : Nat) : List Nat :=
  match hbmWindow a with
  | some 8 =>
    if 2048 * 256 ≤ n then List.range 8
    else ((List.range ((a + n - 1) / 256 - a / 256 + 1)).map (fun i => (dramOf ((a / 256 + i) * 256)).h)).eraseDups
  | some h => [h]
  | none => []

/-- Whether a stack is in self-refresh: halted (R250), or after a thermal shutdown (R434). -/
def State.selfRefresh (s : State) (h : Nat) : Bool := (s.stack h).halt || s.boot.shut

/-- What the stacks of a range answer: ST_ABSENT when one is offline (R470), ST_TEMP_FORBIDDEN when one is halted
or shut down (R250, R434). [DEDUCED, log entry 44] -/
def State.stackStatus (s : State) (a n : Nat) : Status :=
  if (stacksOf a n).any (fun h => (s.stack h).rate == 3) then .absent
  else if (stacksOf a n).any s.selfRefresh then .tempForbidden
  else .ok

/-- What the tile of a tightly coupled memory answers: ST_ABSENT when the core is absent (R405), ST_ABORTED while the tile is powered
down, its die is isolated, or the die is in a test mode (R360, R362, R440). [DEDUCED, log entry 33] -/
def State.tileStatus (s : State) (a : Nat) : Status :=
  match placeLocal a with
  | .tcm x =>
    let g := (x - tcmBase) / 0x20000
    if !s.corePresent g then .absent
    else
      let x := s.tile (tileOf g)
      let mode := match x.site with | some n => (s.site n).dieMode | none => 0
      if x.off || x.clockLost || mode != 0 then .aborted else .ok
  | _ => .ok

/-- Agent ID under which a requester's requests travel (Table 6.1). -/
def agentId (s : State) : Master → Nat
  | .core a => a
  | .mcore i => 448 + ((s.tile (i / 16)).site).getD 0
  | .taskPump a => 448 + ((s.tile (tileOf a)).site).getD 0
  | .hostPump _ _ => 485
  | .bar4 => 484
  | .wellkeeper => 505
  | .monitor => 506
  | .aquifer p _ => 493 + p
  | .partner site _ => 507 + site
  | .catchment n => 448 + n

/-- Whether a partition is being reset (R304, R409). -/
def State.placeResetting (s : State) (a n : Nat) : Bool :=
  (List.range 8).any (fun p => (s.part p).resetting && s.inPart p a n)

/-- The check a memory access passes before it is performed, in the order of the tables: range (R7), permission (R64,
R130, R133, R265, R280, R338, R370), then a partition under reset (R409) and the state of the stacks (R250, R470) and of the tile
(R362, R440). -/
def State.memCheck (s : State) (who : Master) (k : AccKind) (a n : Nat) : Status :=
  let x := (s.localAddr a).getD a
  let mgr := match who with | .wellkeeper => true | _ => false
  let peek := decide (k = .load) && (n == 4 || n == 8) && x % n == 0
  let table : Bool := match who with | .bar4 => decide (k = .load) | .monitor | .hostPump _ true => peek | _ => false
  let noAlias : Bool := match placeLocal x with | .tcm _ => false | _ => true
  let task (t : Nat) (part : Option Nat) : Bool :=
    match placeLocal x with
    | .cistern _ => (match part with
        | some p => mapAdmits (s.part p).map (s.imageTile t) k x n
        | none => false)
    | _ => (match part with | some p => s.inPart p x n | none => false)
  let allowed : Bool := match who with
    | .core g => task (tileOf g) (s.agentPart g)
    | .taskPump g => task (tileOf g) (s.agentPart g)
    | .mcore i => task (i / 16) ((s.tile (i / 16)).part)
    | .hostPump f _ => noAlias && (f == 0 || s.inFn f x n)
    | .bar4 => true
    | .wellkeeper => true
    | .monitor => noAlias
    | .aquifer _ sm => noAlias && (List.range 8).any (fun p =>
        let w := s.reg 9 (0x40 + 8 * p)
        s.partValid p && s.inPart p x n && bit w (match k with | .load => 0 | _ => 1) &&
          decide (bits w 27 16 ≤ sm) && decide (sm ≤ bits w 43 32))
    | .partner site cls =>
        let w := s.reg 10 (0x118 + 0x100 * site)
        noAlias && s.inPart (bits w 2 0) x n && bit w (match k with | .load => 8 | _ => 9) && bit w (16 + cls)
    | .catchment r => noAlias && (match s.regionPart r with | some p => s.inPart p x n | none => false)
  firstBad [
    if s.memRange mgr a n table then .ok else .range,
    if allowed then .ok else .permission,
    if s.placeResetting a n && !mgr then .aborted else .ok,
    s.stackStatus x n,
    s.tileStatus x]

end Sys2Proof.Machine
end

