-- ==== Sys2Proof/Machine/Flags.lean ====
section
/-!
DEFINITION. Every flag and count that commands share: events and their buffers (R292), the event log (R415, R416), error
records of slices and channels (R142, R234), local interrupts of S-cores (R466), and the derived status fields.
-/

namespace Sys2Proof.Machine

/-- Hottest island: its temperature in whole degrees and its number, the lowest of those equal (THERM_STAT). -/
def State.hottest (s : State) : Int × Nat :=
  let m := (List.range 192).foldl (fun (m : Int × Nat) i => if m.1 < (s.island i).temp then ((s.island i).temp, i) else m)
    ((s.island 0).temp, 0)
  (m.1 / 8, m.2)

/-- Put an event into a function's buffer of 256, or count it lost (R292). A function with EVT_EN clear receives none,
but an event of the stages S2 to S8 is buffered for it (R379). [DEDUCED, log entry 19] -/
def State.postTo (s : State) (f code payload : Nat) : State :=
  if s.evtEn f || (s.boot.running && decide (2 ≤ s.boot.stage)) then
    let b := s.evbuf f
    s.setEvbuf f (if b.waiting.length < 256 then { b with waiting := b.waiting ++ [⟨code, payload⟩] }
      else { b with lost := satAdd b.lost 1 0xFFFF })
  else s

/-- Enter a record for the event log: it waits in the buffer of 1,024, or is counted lost when the buffer is full
(R415, R416). -/
def State.logRec (s : State) (code src result : Nat) (data : Bytes := []) (injected : Bool := false) : State :=
  if s.svc.logq.length < 1024 then
    { s with svc.logq := s.svc.logq ++ [⟨code, src, injected, s.now, s.flash.boots, (ofInt 8 s.hottest.1), result, data, false⟩] }
  else { s with svc.logLost := satAdd s.svc.logLost 1 0xFFFF }

/-- Events that the log does not take (R415). -/
def unlogged (code : Nat) : Bool := [0x001, 0x010, 0x011, 0x012, 0x013].contains code

/-- Raise an event for the physical function and for the functions `fns`, each once (R292), and log it (R415).
[DEDUCED, log entry 19] -/
def State.raise (s : State) (code payload : Nat) (fns : List Nat := []) (src : Nat := 0xFF)
    (injected : Bool := false) : State :=
  let s1 := (0 :: fns).eraseDups.foldl (fun t f => t.postTo f code payload) s
  if unlogged code then s1 else s1.logRec code src payload [] injected

/-- Raise an event for the functions `fns` only. [DEDUCED, log entry 19] -/
def State.raiseOnly (s : State) (code payload : Nat) (fns : List Nat) (src : Nat := 0xFF) : State :=
  let s1 := fns.eraseDups.foldl (fun t f => t.postTo f code payload) s
  if unlogged code then s1 else s1.logRec code src payload

/-- Owner of the partition of region n, as a list for `raise`. [DEDUCED, log entry 19] -/
def State.regionOwner (s : State) (n : Nat) : List Nat :=
  match s.regionPart n with | some p => [s.partOwner p] | none => []

/-- Owners of the partitions whose global-window range or stack-local grant holds a granule (R292). [DEDUCED, log entry 19] -/
def State.granOwners (s : State) (g : Nat) : List Nat :=
  ((List.range 8).filter (fun p => s.partValid p &&
    (s.hbmGranted p g 32 || bit (s.reg 8 (0x2000 + 16 * p)) (32 + (dramOf g).h)))).map s.partOwner

/-- Note a cause of Table 1.10: the distance table waits for its next update (R30, R32). [DEDUCED, log entry 50] -/
def State.markDist (s : State) : State := { s with dist.dirty := true }

/-- UNIT_FENCED's payload for a tile or one of its cores (Table 8.17). -/
def unitPayload (tile : Nat) (core : Option (Nat × Nat)) : Nat :=
  match core with
  | some (r, p) => tile + 2 ^ 8 * r + 2 ^ 12 * p
  | none => tile + 2 ^ 16

/-! ### Error records -/

/-- Slice error record i. -/
def State.slice (s : State) (i : Nat) : SliceErr := tget (fun _ => {}) s.cistern.errs i
/-- Set slice error record i. -/
def State.setSlice (s : State) (i : Nat) (e : SliceErr) : State :=
  { s with cistern.errs := tset (fun _ => {}) s.cistern.errs i e }

/-- Module-wide slice number of a Cistern address. -/
def sliceNo (a : Nat) : Nat := 32 * (cisPlace a).n + (cisPlace a).slice

/-- Errors of granule `g` (a canonical address divided by 32). -/
def State.gran (s : State) (g : Nat) : Gran := tget (fun _ => {}) s.grans g
/-- Set the errors of granule `g`. -/
def State.setGran (s : State) (g : Nat) (x : Gran) : State := { s with grans := tset (fun _ => {}) s.grans g x }
/-- Errors of an 8-byte word of tightly coupled memory. -/
def State.tcmErr (s : State) (w : Nat) : Gran := tget (fun _ => {}) s.tcmErrs w
/-- Set the errors of an 8-byte word of tightly coupled memory. -/
def State.setTcmErr (s : State) (w : Nat) (x : Gran) : State := { s with tcmErrs := tset (fun _ => {}) s.tcmErrs w x }

/-- Granules poisoned in slice i, at most 255 (CS_ERR.POISONED). -/
def State.poisonedIn (s : State) (i : Nat) : Nat :=
  min 255 (s.grans.filter (fun e => e.2.poison && decide (cisternBase ≤ 32 * e.1) && decide (32 * e.1 < cisternEnd)
    && decide (sliceNo (32 * e.1) = i))).length

/-- Channel number 32h + c of a global-window address. -/
def chanNo (g : Nat) : Nat := 32 * (dramOf g).h + (dramOf g).c

/-- 24 hours in ns (R243). -/
def dayNs : Nat := 86400 * 10 ^ 9

/-- Keep an error of a Cistern granule for the repair thresholds: a refused write and an injected error do not count (R394, R396).
[DEDUCED, log entry 32] -/
def State.seeCistern (s : State) (g kind : Nat) (injected : Bool) : State :=
  if kind = 3 || injected then s
  else { s with cistern.found := (s.cistern.found.filter (fun e => e.2.2.isNone || decide (s.now < e.2.1 + dayNs))) ++
    [(g, s.now, if kind = 2 then none else (s.gran g).flips.head?)] }

/-- Record an error of a granule: kind 1 corrected, 2 uncorrectable, 3 refused write; the last two raise CISTERN_UE or
HBM_UE (R139, R142, R233, R234). -/
def State.granError (s : State) (g kind agent : Nat) (injected : Bool) : State :=
  let a := 32 * g
  if a < hbmEnd then
    let c := s.chan (chanNo a)
    let s1 := s.setChan (chanNo a) { c with
      ce := if kind = 1 then satAdd c.ce 1 0xFFFF else c.ce
      ue := if kind = 2 then satAdd c.ue 1 0xFF else c.ue
      kind := kind
      addr := a
      found := if kind = 3 then c.found
        else (c.found.filter (fun e => e.2.2 || decide (s.now < e.2.1 + dayNs))) ++ [(g, s.now, kind == 2)] }
    if kind = 1 then s1
    else s1.raise 0x004 (a + 2 ^ 48 * agent) (s.granOwners a) (36 + (if (dramOf a).h < 4 then 0 else 1)) injected
  else
    let p := cisPlace a
    let e := s.slice (sliceNo a)
    let s1 := (s.setSlice (sliceNo a) { e with
      ce := if kind = 1 then satAdd e.ce 1 0xFFFF else e.ce
      ue := if kind = 2 then satAdd e.ue 1 0xFF else e.ue
      line := p.line
      gran := p.gran
      kind := kind
      agent := agent }).seeCistern g kind injected
    if kind = 1 then s1
    else s1.raise 0x003 (sliceNo a + 2 ^ 11 * p.line + 2 ^ 26 * p.gran + 2 ^ 28 * agent) (s.regionOwner p.n) p.n injected

/-! ### Armed flips (R394) -/

/-- The bits that an armed DIAG_FLIPk inverts in the next write to a target, when it is armed for it. -/
def State.armedFlip (s : State) (k target : Nat) : Option (List Nat) :=
  let w := (tget (fun _ => (0 : Word)) s.svc.flips k).toNat
  if bit w 0 && decide (bits w 63 48 = target) then
    (if bit w 1 then (if bits w 24 16 = bits w 40 32 then some [] else some [bits w 24 16, bits w 40 32])
     else some [bits w 24 16])
  else none

/-- The write clears ARM. -/
def State.clearFlip (s : State) (k : Nat) : State :=
  let w := (tget (fun _ => (0 : Word)) s.svc.flips k).toNat
  { s with svc.flips := tset (fun _ => (0 : Word)) s.svc.flips k (BitVec.ofNat 64 (setBits w 0 0 0)) }

/-! ### Interrupts of an S-core (R43, R49, R466) -/

/-- mip of S-core `a`: 7 machine timer, 16 SYNC, 17 VTRAP, 18 MFAULT. -/
def State.mip (s : State) (a : Nat) (mfault : Bool) : Nat :=
  let c := s.core a
  2 ^ 7 * b2n (c.mtip || decide (c.mtimecmp.toNat ≤ s.now / 64)) + 2 ^ 16 * b2n (c.syncpend ≠ 0) +
    2 ^ 17 * b2n ((s.core (supervised a false)).trapped || (s.core (supervised a true)).trapped) + 2 ^ 18 * b2n mfault

/-! ### Derived fields -/

/-- HB_CAP of a stack in GB/s (R248). -/
def Stack.cap (x : Stack) : Nat :=
  if x.halt || x.rate == 3 then 0
  else
    let r10 := if x.rate = 0 then 24576 else if x.rate = 1 then 20480 else 16384
    let r := if x.refx2 then 90 else 95
    let t := if x.hot then 75 else 100
    r10 * r * t / 100000
/-- Sum of HB_CAP over the stacks (QOS_CAP.CAP). -/
def State.capSum (s : State) : Nat := ((List.range 8).map (fun h => (s.stack h).cap)).sum

/-- Good converter phases. -/
def State.goodPhases (s : State) : Nat := 24 - s.power.failed.length
/-- PLIM in W, the least of four terms (R422), 0 without power. -/
def State.plim (s : State) : Nat :=
  let cap := bits (s.reg 12 0x10) 15 0
  if !s.boot.powered then 0
  else min (min s.boot.limitW (if cap = 0 then s.boot.limitW else cap)) (min (95 * s.goodPhases) (64 * s.power.vin / 1000))

/-- Whether flash may be programmed now (R437). -/
def State.flashOk (s : State) : Bool := decide (0 ≤ s.power.flashT) && decide (s.power.flashT ≤ 100)

end Sys2Proof.Machine
end

