-- ==== Sys2Proof/Machine/Mem.lean ====
section
/-!
DEFINITION. Reading and writing memory through its error protection: Cistern and HBM granules of 32 bytes (R123, R139 to
R142, R233, R234), tightly coupled memory words of 8 bytes (R66, R472), and zeroing by the hardware (R394).
-/

namespace Sys2Proof.Machine

/-- The address, in the window that holds `a`, of the byte kept under `c`; none when that window does not reach it. -/
def seenAt (a c : Nat) : Option Nat :=
  if c < hbmEnd then
    match hbmWindow a with
    | some 8 => some c
    | some h => if (dramOf c).h = h then some (localBase + h * localSpan + localOf (dramOf c)) else none
    | none => none
  else some c

/-- Whether a granule, by index, meets the range [a, a + n). -/
def granMeets (a n g : Nat) : Bool :=
  match seenAt a (32 * g) with
  | some x => overlap a n x 32
  | none => false

/-- Whether the range [a, a + n) covers a granule wholly. -/
def granWhole (a n g : Nat) : Bool :=
  match seenAt a (32 * g) with
  | some x => decide (a ≤ x) && decide (x + 32 ≤ a + n)
  | none => false

/-- Listed granules with errors that meet a range (Cistern or HBM). -/
def State.badGrans (s : State) (a n : Nat) : List Nat := (tkeys s.grans).filter (granMeets a n)
/-- Listed words with errors that meet a range of tightly coupled memory. -/
def State.badWords (s : State) (a n : Nat) : List Nat := (tkeys s.tcmErrs).filter (fun w => overlap a n (8 * w) 8)

/-- A read burst that the stack corrects itself counts in HC_ERR.ODE (Table 7.2). -/
def State.countOde (s : State) (g : Nat) : State :=
  s.setChan (chanNo (32 * g)) { s.chan (chanNo (32 * g)) with ode := satAdd (s.chan (chanNo (32 * g))).ode 1 0xFFFF }

/-- A read meets granule `g`: a single-bit error is counted and its corrective write-back waits; an uncorrectable one
poisons the granule (R139, R140). The answer tells whether the granule is poisoned. -/
def State.readGran (s : State) (g agent : Nat) : State × Bool :=
  let e := s.gran g
  if e.poison then (s, true)
  else if e.ode = 2 then ((s.setGran g { e with poison := true, flips := [], ode := 0 }).granError g 2 agent e.injected, true)
  else match e.flips with
    | [] => (if e.ode = 1 then s.countOde g else s, false)
    | [_] => (({ s with cistern.correct := if s.cistern.correct.contains g then s.cistern.correct else s.cistern.correct ++ [g] }).granError g 1 agent e.injected, false)
    | _ => ((s.setGran g { e with poison := true, flips := [] }).granError g 2 agent e.injected, true)

/-- A read meets every listed granule of a range. -/
def State.readGrans (s : State) (agent : Nat) (gs : List Nat) : State × Bool :=
  gs.foldl (fun r g => let q := r.1.readGran g agent; (q.1, r.2 || q.2)) (s, false)

/-- The bytes of a range, without their checks. -/
def State.rawBytes (s : State) (a n : Nat) : Bytes :=
  (List.range n).map (fun i => match s.canon (a + i) with | some c => s.byte c | none => 0)

/-- The local form of an address. -/
def State.loc (s : State) (a : Nat) : Nat := (s.localAddr a).getD a

/-- Single-bit errors of some words of tightly coupled memory are corrected and counted at its core (R66). -/
def State.fixWords (s : State) (ws : List Nat) : State :=
  (ws.filter (fun w => (s.tcmErr w).flips.length == 1)).foldl (fun t w =>
    let g := (8 * w - tcmBase) / 0x20000
    (t.setTcmErr w {}).setCore g { t.core g with tcmCe := (t.core g).tcmCe + 1 }) s

/-- Read a range of memory: the bytes, or none when a granule or word of it is uncorrectable. -/
def State.readMem (s : State) (agent a n : Nat) : State × Option Bytes :=
  let x := s.loc a
  match placeLocal x with
  | .tcm _ =>
    if (s.badWords x n).any (fun w => 2 ≤ (s.tcmErr w).flips.length) then (s, none)
    else (s.fixWords (s.badWords x n), some (s.rawBytes a n))
  | _ =>
    let r := s.readGrans agent (s.badGrans x n)
    (r.1, if r.2 then none else some (s.rawBytes a n))

/-- Granules that a range touches, by index, in address order. -/
def State.touched (s : State) (a n : Nat) : List Nat :=
  ((List.range ((a + n - 1) / 32 - a / 32 + 1)).filterMap (fun i => (s.canon ((a / 32 + i) * 32)).map (· / 32))).eraseDups

/-- Unit and array type whose armed flip a write to a granule would take (Table 13.2). -/
def flipUnit (g : Nat) : Nat × Nat := if 32 * g < hbmEnd then (1, chanNo (32 * g)) else (0, sliceNo (32 * g))

/-- Put bytes at an address, leaving the granules of `skip` and the bytes of `hole` alone. -/
def State.putMem (s : State) (skip : List Nat) (a : Nat) (bs : Bytes) (hole : List Nat := []) : State :=
  { s with mem := ((List.range bs.length).zip bs).foldl (fun m e =>
      match s.canon (a + e.1) with
      | some c => if skip.contains (c / 32) || hole.contains e.1 then m else tset memDefault m c e.2
      | none => m) s.mem }

/-- Whether a byte mask leaves out a byte of granule `g` in a write at `a`. -/
def holeMeets (a : Nat) (hole : List Nat) (g : Nat) : Bool := hole.any (fun i => granMeets (a + i) 1 g)

/-- Let the write consume an armed flip of its first unit that has one (R394). -/
def State.takeFlip (s : State) (gs : List Nat) : State :=
  match gs.find? (fun g => (s.armedFlip (flipUnit g).1 (flipUnit g).2).isSome) with
  | none => s
  | some g =>
    match s.armedFlip (flipUnit g).1 (flipUnit g).2 with
    | none => s
    | some bs => (s.setGran g { flips := bs, injected := true }).clearFlip (flipUnit g).1

/-- Write a range of Cistern or HBM. A write of a whole granule clears its errors; a partial one reads the granule
first (R123, R139, R140), and is refused and recorded when it is then poisoned (R141). `hw` marks the writes that no flip touches. Answers whether no
part was refused. `hole` lists the bytes that a byte mask leaves out. -/
def State.writeGrans (s : State) (hw : Bool) (agent a : Nat) (bs : Bytes) (hole : List Nat := []) : State × Bool :=
  let n := bs.length
  let bad := s.badGrans a n
  let merged := bad.filter (fun g => !granWhole a n g || holeMeets a hole g)
  let s0 := (s.readGrans agent merged).1
  let refused := merged.filter (fun g => (s0.gran g).poison)
  let s1 := s0.putMem refused a bs hole
  let s2 := (bad.filter (fun g => !refused.contains g)).foldl (fun t g => t.setGran g {}) s1
  let s3 := refused.foldl (fun t g =>
    (t.setGran g { t.gran g with poison := true, flips := [] }).granError g 3 agent (t.gran g).injected) s2
  let ts := s.touched a n
  let s4 := { s3 with
    cistern.groups := s3.cistern.groups.filter (fun m => !ts.contains m.gran)
    cistern.correct := s3.cistern.correct.filter (fun g => !ts.contains g) }
  (if hw then s4 else s4.takeFlip (ts.filter (fun g => !refused.contains g)), refused.isEmpty)

/-- Write a range of tightly coupled memory (R66, R472). -/
def State.writeTcm (s : State) (hw : Bool) (a : Nat) (bs : Bytes) : State × Bool :=
  let n := bs.length
  let bad := s.badWords a n
  let whole (w : Nat) : Bool := decide (a ≤ 8 * w) && decide (8 * w + 8 ≤ a + n)
  if bad.any (fun w => !whole w && decide (2 ≤ (s.tcmErr w).flips.length)) then (s, false)
  else
    let s0 := s.fixWords (bad.filter (fun w => !whole w))
    let s1 := bad.foldl (fun t w => t.setTcmErr w {}) { s0 with mem := putBytes s0.mem a bs }
    let agent := (a - tcmBase) / 0x20000
    match (if hw then none else s1.armedFlip 3 agent) with
    | some f => ((s1.setTcmErr (a / 8) { flips := f, injected := true }).clearFlip 3, true)
    | none => (s1, true)

/-- Write a range of memory. -/
def State.writeMem (s : State) (hw : Bool) (agent a : Nat) (bs : Bytes) : State × Bool :=
  let x := s.loc a
  match placeLocal x with
  | .tcm c => s.writeTcm hw c bs
  | _ => s.writeGrans hw agent x bs

/-- Zero the canonical bytes from lo up to hi with valid check bits: no poison and no error stays (R394). -/
def State.zeroRange (s : State) (lo hi : Nat) : State :=
  let inside (g : Nat) : Bool := decide (lo ≤ 32 * g) && decide (32 * g < hi)
  { s.zeroMem lo hi with
    grans := tdrop inside s.grans
    cistern.groups := s.cistern.groups.filter (fun m => !inside m.gran)
    cistern.correct := s.cistern.correct.filter (fun g => !inside g) }

/-- Zero the tightly coupled memory of agent `a`. -/
def State.zeroTcm (s : State) (a : Nat) : State :=
  let lo := tcmBase + 0x20000 * a
  { s.zeroMem lo (lo + 0x20000) with
    tcmErrs := tdrop (fun w => decide (lo ≤ 8 * w) && decide (8 * w < lo + 0x20000)) s.tcmErrs }

/-- Poison the granules of a canonical range, as the home does: no event and no count but CS_ERR.POISONED (R142). The
write-back closes their merge groups (R126). -/
def State.poisonRange (s : State) (a n : Nat) : State :=
  let ts := s.touched a n
  ts.foldl (fun t g => t.setGran g { poison := true })
    { s with cistern.groups := s.cistern.groups.filter (fun m => !ts.contains m.gran) }

/-- Address of the first poisoned granule of a range. -/
def State.firstPoison (s : State) (a n : Nat) : Option Nat :=
  ((s.badGrans a n).filter (fun g => (s.gran g).poison)).filterMap (fun g => seenAt a (32 * g)) |>.min?

/-- Make every byte of a memory range undefined (R72, R108, R175): each is a free value. [DESIGN CHOICE, log entry 1] -/
def State.freeRange (s : State) (a n : Nat) : State :=
  let s1 := (List.range n).foldl (fun (t : State) i =>
    match t.canon (a + i) with
    | some c => { t.setByte c (Config.freeByte t.free) with free := t.free + 1 }
    | none => t) s
  s1

end Sys2Proof.Machine
end

