-- ==== Sys2Proof/Machine/Sync.lean ====
section
/-!
DEFINITION. The operations of a sync unit on its cells and waiters (R293 to R301), and the posted ADDs that the vane
network carries to it (R164, R165).
-/

namespace Sys2Proof.Machine

/-- Value of cell `i`. -/
def State.cell (s : State) (i : Nat) : Word := tget (fun _ => (0 : Word)) s.sync.cells i
/-- Errors of cell `i`. -/
def State.cellErr (s : State) (i : Nat) : Gran := tget (fun _ => {}) s.sync.errs i
/-- Set the errors of cell `i`. -/
def State.setCellErr (s : State) (i : Nat) (e : Gran) : State :=
  { s with sync.errs := tset (fun _ => {}) s.sync.errs i e }
/-- Sync status of region `n`. -/
def State.syncReg (s : State) (n : Nat) : SyncReg := tget (fun _ => {}) s.sync.regions n
/-- Set the sync status of region `n`. -/
def State.setSyncReg (s : State) (n : Nat) (e : SyncReg) : State :=
  { s with sync.regions := tset (fun _ => {}) s.sync.regions n e }
/-- Waiter entries of region `n` in use. -/
def State.waitUsed (s : State) (n : Nat) : Nat := (s.sync.table.filter (fun e => e.cell / 2048 == n)).length

/-- GE for a value and a bound (R296). -/
def ge64 (v b : Word) : Bool := decide ((v - b).toNat < 2 ^ 63)
/-- The 13-bit GE of the WAIT field (R276). -/
def ge13 (v val : Nat) : Bool := decide ((v + 2 ^ 13 - val % 2 ^ 13) % 2 ^ 13 < 2 ^ 12)

/-- Whether a waiter's condition holds for a value (R276, R296, R298). -/
def waitHolds (kind bound : Nat) (v : Word) : Bool :=
  match kind with
  | 0 => ge64 v (BitVec.ofNat 64 bound)
  | 1 => v == BitVec.ofNat 64 bound
  | 2 => ge13 v.toNat bound
  | 3 => v.toNat % 2 ^ 13 == bound % 2 ^ 13
  | _ => ge64 v (BitVec.ofNat 64 bound)

/-- Whether the inverted bits of a cell leave a byte with two errors (13 codeword bits a byte, R294). -/
def cellUncorrectable (flips : List Nat) : Bool :=
  (List.range 8).any (fun b => decide (2 ≤ (flips.filter (fun f => f / 13 == b)).length))

/-- After an operation produced value `v`, the entries of the cell whose condition holds are removed and woken with it
(R298). -/
def State.evalCell (s : State) (i : Nat) (v : Word) : State :=
  let hit (e : WaitEnt) : Bool := e.cell == i && waitHolds e.kind e.bound v
  { s with
    sync.table := s.sync.table.filter (fun e => !hit e)
    sync.wakes := s.sync.wakes ++ (s.sync.table.filter hit).map (fun e => ⟨e.w, v, .ok, 0⟩) }

/-- A cell becomes poisoned: it is counted and logged, its waiters fail and its triggers fire (R294). -/
def State.poisonCell (s : State) (i src : Nat) : State :=
  let e := s.cellErr i
  let r := s.syncReg (i / 2048)
  let s1 := (s.setCellErr i { e with poison := true, flips := [] }).setSyncReg (i / 2048)
    { r with ue := satAdd r.ue 1 0xFF, cell := i }
  let s2 := { s1 with
    sync.table := s1.sync.table.filter (fun (w : WaitEnt) => w.cell != i)
    sync.wakes := s1.sync.wakes ++ (s1.sync.table.filter (fun (w : WaitEnt) => w.cell == i)).map
      (fun (w : WaitEnt) => Wake.mk w.w (s.cell i) (if w.kind = 4 then .ok else .uncorrectable) 0) }
  s2.logRec 0x1008 (i / 2048) (i + 2 ^ 17 * src) [] e.injected

/-- Every operation but SET reads the cell: a single-bit error is corrected and counted, an uncorrectable one poisons it
(R294). None when the cell is poisoned. -/
def State.readCell (s : State) (i src : Nat) : State × Option Word :=
  let e := s.cellErr i
  if e.poison then (s, none)
  else if e.flips = [] then (s, some (s.cell i))
  else if cellUncorrectable e.flips then (s.poisonCell i src, none)
  else
    let r := s.syncReg (i / 2048)
    ((s.setCellErr i {}).setSyncReg (i / 2048) { r with ce := satAdd r.ce e.flips.length 0xFFFF, cell := i }, some (s.cell i))

/-- Store a value with new check bits, through an armed flip of the region, and evaluate the cell's waiters. -/
def State.putCell (s : State) (i : Nat) (v : Word) : State :=
  let s1 := { s with sync.cells := tset (fun _ => (0 : Word)) s.sync.cells i v }
  let s2 := match s1.armedFlip 5 (i / 2048) with
    | some f => (s1.setCellErr i { flips := f, injected := true }).clearFlip 5
    | none => s1.setCellErr i {}
  s2.evalCell i v

/-- SET (R295): it does not read the cell. -/
def State.cellSet (s : State) (i : Nat) (v : Word) : State := s.putCell i v

/-- ADD (R295); none when the cell is poisoned. -/
def State.cellAdd (s : State) (i : Nat) (x : Word) (src : Nat) : State × Option Word :=
  match s.readCell i src with
  | (s1, some v) => (s1.putCell i (v + x), some v)
  | (s1, none) => (s1, none)

/-- CAS (R295): the cell's waiters are evaluated with the value it then holds. -/
def State.cellCas (s : State) (i : Nat) (e n : Word) (src : Nat) : State × Option Word :=
  match s.readCell i src with
  | (s1, some v) => (if v = e then s1.putCell i n else s1.evalCell i v, some v)
  | (s1, none) => (s1, none)

/-- How a registration ends at once, or that it waits. -/
inductive WaitAns where
  | now (v : Word)
  | failed
  | waits
  deriving DecidableEq, Repr

/-- Enter a waiter into its region's table (R298). [DEDUCED, log entry 29] -/
def State.tableWait (s : State) (e : WaitEnt) : State :=
  let n := e.cell / 2048
  let s1 := { s with sync.table := s.sync.table ++ [e] }
  let r := s1.syncReg n
  s1.setSyncReg n { r with peak := max r.peak (s1.waitUsed n) }

/-- Enter a waiter into its region's table of 1,024, or behind those queued before it (R298, R299). [DEDUCED, log entry 29] -/
def State.enterWait (s : State) (e : WaitEnt) : State :=
  if s.waitUsed (e.cell / 2048) < 1024 ∧ !s.sync.queued.any (fun x => x.cell / 2048 == e.cell / 2048) then s.tableWait e
  else { s with sync.queued := s.sync.queued ++ [e] }

/-- Register a wait or an ARM: it is evaluated once against the current value (R298). -/
def State.register (s : State) (e : WaitEnt) (src : Nat) : State × WaitAns :=
  match s.readCell e.cell src with
  | (s1, none) => (s1, .failed)
  | (s1, some v) => if waitHolds e.kind e.bound v then (s1, .now v) else (s1.enterWait e, .waits)

/-- A waiter stops waiting: its entries and WAKEs are dropped (R301). [DEDUCED, log entry 29] -/
def State.cancelWait (s : State) (w : Waiter) : State :=
  { s with
    sync.table := s.sync.table.filter (fun e => e.w != w)
    sync.queued := s.sync.queued.filter (fun e => e.w != w)
    sync.wakes := s.sync.wakes.filter (fun e => e.w != w) }

/-- A posted ADD reaches its cell: dropped while the partition resets (R304), dropped and counted when the cell is poisoned
(R294). -/
def State.performAdd (s : State) (i : Nat) (x : Word) (src : Nat) : State :=
  if s.placeResetting (cellBase + 8 * i) 8 then s
  else match s.cellAdd i x src with
    | (s1, some _) => s1
    | (s1, none) =>
      let r := s1.syncReg (i / 2048)
      (s1.setSyncReg (i / 2048) { r with ue := satAdd r.ue 1 0xFF, cell := i }).logRec 0x1008 (i / 2048)
        (i + 2 ^ 17 * src + 2 ^ 23) [] (s1.cellErr i).injected

/-- Send a POSTED_ADD from a vane node to the unit of a cell (R165); its sender holds it. Two that wait for one cell are never
joined. [DEDUCED, log entries 27, 55] -/
def State.postAdd (s : State) (src cell : Nat) (x : Word) (agent : Option Nat := none) : State :=
  let dst := cell / 2048
  let q := tget (fun _ => 0) s.vane.seqs (64 * src + dst)
  { s with
    vane.held := s.vane.held ++ [⟨src, dst, q, cell, x, 0, false, false, agent⟩]
    vane.seqs := tset (fun _ => 0) s.vane.seqs (64 * src + dst) ((q + 1) % 16) }

/-- Whether an earlier message of the same source and destination has not been performed yet. -/
def earlierOpen (held : List VMsg) (m : VMsg) : Bool :=
  (held.takeWhile (fun x => x != m)).any (fun x => x.src == m.src && x.dst == m.dst && !x.performed)

/-- Perform, in order, the messages of a source that have arrived and have no unperformed predecessor (R164).
[DEDUCED, log entry 27] -/
def State.drainVane (s : State) (src dst : Nat) : Nat → State
  | 0 => s
  | k + 1 =>
    match s.vane.held.find? (fun m => m.src == src && m.dst == dst && !m.performed) with
    | some m =>
      if m.arrived then
        State.drainVane ({ s with vane.held := s.vane.held.map (fun x => if x = m then { x with performed := true } else x) }.performAdd m.cell m.val src) src dst k
      else s
    | none => s

/-- The vane node of a local agent (R162): a tile's cores use the region below it; the host interface is node 40, the
management complex 43. -/
def State.nodeOf (s : State) (tile : Nat) : Nat := ((s.tile tile).site).getD 0
/-- Vane node of the PCIe host interface. -/
def hostNode : Nat := 40
/-- Vane node of the management complex. -/
def mgmtNode : Nat := 43

/-- ADD 1 on the notice cell `k` of every running task that `p` selects (R310). -/
def State.notice (s : State) (k : Nat) (p : Task → Bool) : State :=
  (s.tasks.filter (fun t => t.released && t.notice.isSome && p t)).foldl
    (fun u t => u.postAdd mgmtNode (t.notice.getD 0 + k) 1) s

end Sys2Proof.Machine
end

