-- ==== Sys2Proof/Machine/Rings.lean ====
section
/-!
DEFINITION. The command rings (R266 to R278): doorbells, fetching, the steps of the head command, deadlines, completion
records, interrupts and event records.
-/

namespace Sys2Proof.Machine

/-! ### Ring registers -/

/-- SQ size 2^LOG. -/
def State.sqLog (s : State) (r : Nat) : Nat := bits (s.reg 8 (0x4010 + 64 * r)) 4 0
/-- SQ enabled. -/
def State.sqEn (s : State) (r : Nat) : Bool := bit (s.reg 8 (0x4010 + 64 * r)) 8
/-- Completion ring of SQ r. -/
def State.sqCq (s : State) (r : Nat) : Nat := bits (s.reg 8 (0x4010 + 64 * r)) 23 16
/-- Host pump of SQ r. -/
def State.sqPump (s : State) (r : Nat) : Nat := bits (s.reg 8 (0x4010 + 64 * r)) 26 24
/-- CQ size 2^LOG. -/
def State.cqLog (s : State) (r : Nat) : Nat := bits (s.reg 8 (0x4018 + 64 * r)) 4 0
/-- CQ enabled. -/
def State.cqEn (s : State) (r : Nat) : Bool := bit (s.reg 8 (0x4018 + 64 * r)) 8
/-- Entries CQ r holds. -/
def State.cqHeld (s : State) (r : Nat) : Nat := ((s.ring r).cqPi + 2 ^ 32 - (s.ring r).cqCi) % 2 ^ 32
/-- Entries SQ r holds. -/
def State.sqHeld (s : State) (r : Nat) : Nat := ((s.ring r).pi + 2 ^ 32 - (s.ring r).ci) % 2 ^ 32
/-- Commands of ring r dispatched and not completed (RING_STATE2.OUT). -/
def State.outCount (s : State) (r : Nat) : Nat := (s.host.cmds.filter (fun c => c.ring == r)).length
/-- A function whose BARs, rings and records work: start-up has completed, and it is not in D3hot (R252, R256). -/
def State.live (s : State) (f : Nat) : Bool := s.boot.ready && !s.boot.shut && !s.boot.d3.contains f
/-- The present tick of 64 ns (R277). [DESIGN CHOICE, log entry 14] -/
def State.tick (s : State) : Nat := s.now / 64

/-- Raise RING_ERROR for the ring's owner and the physical function (Table 8.17). [DEDUCED, log entry 19] -/
def State.ringError (s : State) (r side cause : Nat) : State :=
  s.raise 0x012 (r + 2 ^ 8 * side + 2 ^ 9 * cause) (if s.ringOwner r < 8 then [s.ringOwner r] else []) hostNode

/-! ### Descriptor fields (Table 8.6) -/

/-- OPCODE. -/
def dOp (d : Bytes) : Nat := le d 0 2
/-- FLAGS. -/
def dFlags (d : Bytes) : Nat := le d 2 1
/-- CLASS byte. -/
def dClass (d : Bytes) : Nat := le d 3 1
/-- TAG. -/
def dTag (d : Bytes) : Nat := le d 4 4
/-- DEADLINE word. -/
def dDeadline (d : Bytes) : Nat := le d 8 4
/-- WAIT word. -/
def dWait (d : Bytes) : Nat := le d 12 4

/-- Whether function f owns the region of a cell, or is the physical function. -/
def State.fnCell (s : State) (f cell : Nat) : Bool := f == 0 || s.ownsRegion f (cell / 2048)

/-- The common checks of R276, in order. -/
def commonCheck (s : State) (f : Nat) (d : Bytes) : Status :=
  let w := dWait d
  firstFail [
    (decide (dOp d < 0x12), .badOpcode),
    (bits (dFlags d) 7 5 == 0 && bits (dClass d) 7 4 == 0 && bits (dDeadline d) 31 20 == 0 && bits w 18 17 != 3
      && (bits w 18 17 != 0 || w == 0) && (!bit (dFlags d) 2 || dOp d == 1)
      && ((!bit (dFlags d) 3 && !bit (dFlags d) 4) || dOp d == 1), .badField),
    (decide (bits w 16 0 < nCells) || bits w 18 17 == 0, .range),
    ((!bit (dFlags d) 2 || f == 0) && bit (s.fnClasses f) (dClass d % 16)
      && (bits w 18 17 == 0 || s.fnCell f (bits w 16 0)), .permission)]

/-- The gate of a held, rejected or shut-down module (R256, R387). REPAIR's topology actions pass while held. -/
def gateCheck (s : State) (f : Nat) (d : Bytes) : Status :=
  let op := dOp d
  let always := op == 0 || op == 0xF || op == 0xE || op == 0xB
  let topo := op == 0xC && (le d 16 1 == 3 || le d 16 1 == 4)
  if s.boot.rejected then (if always then .ok else .locked)
  else if s.boot.held then (if f == 0 && (always || op == 0x11 || topo) then .ok else .locked)
  else if s.boot.computeOff && (op == 5 || op == 8 || op == 0x10) then .locked
  else .ok

/-! ### Completion -/

/-- Write bytes to host memory. [DESIGN CHOICE, log entry 8] -/
def State.hostWrite (s : State) (a : Nat) (b : Bytes) : State := { s with out.hostMem := putBytes s.out.hostMem a b }

/-- Enter a record into the backlog of a completion ring. -/
def State.backlog (s : State) (cq : Nat) (r : Rec) : State :=
  s.setRing cq { s.ring cq with backlog := (s.ring cq).backlog ++ [r] }

/-- Complete a dispatched command: it is no longer outstanding, and its record joins its completion ring's backlog in
completion order (R270, R273). -/
def State.complete (s : State) (c : HostCmd) (st : Status) (detail result : Nat) : State :=
  ({ s with host.cmds := s.host.cmds.filter (fun x => x.id != c.id) }).backlog (s.sqCq c.ring)
    ⟨dTag c.desc, st, detail, false, result, bit (dFlags c.desc) 1, some (c.ring, c.id)⟩

/-- Dispatched command `id`. -/
def State.cmd (s : State) (id : Nat) : Option HostCmd := s.host.cmds.find? (fun c => c.id == id)
/-- Run a dispatched command of an opcode; a command that names no such dispatched command does nothing. -/
def withCmd (s : State) (id op : Nat) (f : HostCmd → State) : State :=
  match s.cmd id with
  | some c => if dOp c.desc = op ∧ !c.waiting then f c else s
  | none => s
/-- Mark a dispatched command as waiting. -/
def State.cmdWaits (s : State) (id : Nat) : State :=
  { s with host.cmds := s.host.cmds.map (fun c => if c.id = id then { c with waiting := true } else c) }

/-- Tick D of a descriptor that becomes the head now (R277). [DESIGN CHOICE, log entry 14] -/
def State.deadlineTick (s : State) (d : Bytes) : Option Nat :=
  let t := bits (dDeadline d) 19 0
  if t = 0 then none else some (s.tick + (t + 2 ^ 20 - s.tick % 2 ^ 20) % 2 ^ 20)

/-- A fetched command that has just become the head takes its deadline tick. -/
def State.newHead (s : State) (r : Nat) : State :=
  let x := s.ring r
  match x.headTick, x.fetched with
  | none, d :: _ => s.setRing r { x with headTick := some (s.deadlineTick d) }
  | _, _ => s

/-- The consumer index advances past the head, and the next command becomes the head (R269, R275). [DEDUCED, log entry 20] -/
def State.popHead (s : State) (r : Nat) : State :=
  let x := s.ring r
  let ci := (x.ci + 1) % 2 ^ 32
  let s1 := s.setRing r { x with ci := ci, fetched := x.fetched.drop 1, headTick := none, headWaits := false, headMet := false }
  let a := s.reg 8 (0x4020 + 64 * r)
  (if bits a 63 6 = 0 then s1 else s1.hostWrite (bits a 63 6 * 64) (toLe 4 ci)).newHead r

/-- The head completes without being dispatched. [DEDUCED, log entry 20] -/
def State.endHead (s : State) (r : Nat) (d : Bytes) (st : Status) : State :=
  (s.cancelWait (.hostHead r)).backlog (s.sqCq r) ⟨dTag d, st, 0, false, 0, bit (dFlags d) 1, none⟩ |>.popHead r

/-- The head is dispatched (R275, step 5). [DEDUCED, log entry 20] -/
def State.dispatch (s : State) (r : Nat) (d : Bytes) : State :=
  let c : HostCmd := ⟨s.host.nextId, r, s.ringOwner r, d, ((s.ring r).headTick).join, false⟩
  { s with host.cmds := s.host.cmds ++ [c], host.nextId := s.host.nextId + 1 }.popHead r

/-- A command that a host pump executes (Table 8.9). -/
def onPump (d : Bytes) : Bool := decide (1 ≤ dOp d) && decide (dOp d ≤ 4)
/-- Commands that host pump p holds, in the order it accepted them (R167). -/
def State.pumpHolds (s : State) (p : Nat) : List HostCmd := s.host.cmds.filter (fun c => onPump c.desc && s.sqPump c.ring == p)
/-- The head cannot be dispatched yet: 64 commands of its ring are outstanding (R275), or its host pump's queue is full (R167). -/
def State.dispatchFull (s : State) (r : Nat) (d : Bytes) : Bool :=
  decide (64 ≤ s.outCount r) || (onPump d && decide (64 ≤ (s.pumpHolds (s.sqPump r)).length))

/-- Steps 4 and 5 of R275, once WAIT holds. -/
def State.afterWait (s : State) (r : Nat) (d : Bytes) : State :=
  match ((s.ring r).headTick).join with
  | some t => if t < s.tick then s.endHead r d .timeout
      else if s.dispatchFull r d then s else s.dispatch r d
  | none => if s.dispatchFull r d then s else s.dispatch r d

/-- Step 3 of R275: WAIT, by the 13-bit rule; the command is registered once and woken (R276). -/
def State.headWait (s : State) (r : Nat) (d : Bytes) : State :=
  let w := dWait d
  let x := s.ring r
  if bits w 18 17 = 0 || x.headMet then s.afterWait r d
  else if x.headWaits then s
  else
    match s.register ⟨bits w 16 0, bits w 18 17 + 1, bits w 31 19, .hostHead r⟩ hostNode with
    | (s1, .now _) => s1.setRing r { s1.ring r with headMet := true } |>.afterWait r d
    | (s1, .failed) => s1.endHead r d .uncorrectable
    | (s1, .waits) => s1.setRing r { s1.ring r with headWaits := true }

/-- Take the head of ring r through the steps of R275 as far as they go. [DEDUCED, log entry 20] -/
def State.stepHead (s : State) (r : Nat) : State :=
  match (s.ring r).fetched with
  | [] => s
  | d :: _ =>
    let f := s.ringOwner r
    if !s.sqEn r || !s.live f || decide (64 ≤ (s.ring (s.sqCq r)).backlog.length) then s
    else
      let st := firstBad [commonCheck s f d, gateCheck s f d]
      if st ≠ .ok then s.endHead r d st
      else if bit (dFlags d) 0 && decide (0 < s.outCount r) then s
      else s.headWait r d

/-! ### Records and interrupts -/

/-- The 16 bytes of a record (Table 8.7). -/
def recBytes (x : Rec) (phase : Bool) : Bytes :=
  toLe 4 x.tag ++ toLe 1 (stCode x.status) ++ toLe 3 (x.detail % 2 ^ 22 + 2 ^ 22 * b2n x.evt + 2 ^ 23 * b2n phase)
    ++ toLe 8 x.result

/-- Signal the vector of CQ r, or set its pending bit when it is masked (R271). [DESIGN CHOICE, log entry 8] -/
def State.signal (s : State) (r : Nat) : State :=
  let f := s.ringOwner r
  let v := bits (s.reg 8 (0x4018 + 64 * r)) 23 16
  let s1 := s.setRing r { s.ring r with coal := 0 }
  if s1.host.unmasked.contains (256 * f + v) then { s1 with out.msix := s1.out.msix ++ [(f, v)] }
  else { s1 with host.pba := if s1.host.pba.contains (256 * f + v) then s1.host.pba else s1.host.pba ++ [256 * f + v] }

/-- Write a record to CQ r, which has space (R270), and count it toward an interrupt (R271). -/
def State.writeRec (s : State) (r : Nat) (x : Rec) : State :=
  let q := s.ring r
  let size := 2 ^ s.cqLog r
  let slot := q.cqPi % size
  let base := bits (s.reg 8 (0x4008 + 64 * r)) 63 12 * 4096
  let s1 := s.hostWrite (base + 16 * slot) (recBytes x q.phase)
  let s2 := s1.setRing r { q with
    cqPi := (q.cqPi + 1) % 2 ^ 32
    phase := if slot + 1 = size then !q.phase else q.phase
    coal := q.coal + b2n x.irq }
  let ctl := s.reg 8 (0x4018 + 64 * r)
  if x.irq && bit ctl 9 && decide (bits ctl 31 24 + 1 ≤ (s2.ring r).coal) then s2.signal r else s2

/-- Whether CQ r can take a record now. -/
def State.cqReady (s : State) (r : Nat) : Bool :=
  s.cqEn r && decide ((s.ring r).cqErr = 0) && decide (s.cqHeld r < 2 ^ s.cqLog r) && s.live (s.ringOwner r)

/-- Post the oldest record of CQ r's backlog. -/
def State.postNext (s : State) (r : Nat) : State :=
  match (s.ring r).backlog with
  | [] => s
  | x :: rest => if s.cqReady r then (s.setRing r { s.ring r with backlog := rest }).writeRec r x else s

/-- Post as many records of CQ r as fit. -/
def State.drainCq (s : State) (r : Nat) : Nat → State
  | 0 => s
  | k + 1 => (s.postNext r).drainCq r k

/-! ### The commands -/

/-- SQ_DOORBELL (R268). [DEDUCED, log entry 20] -/
def execSqDoorbell (fn ring : Nat) (idx : BitVec 32) (s : State) : Host.Outcome State Fault Refusal :=
  within "function" fn 8 <| within "ring" ring 256 <|
  let x := s.ring ring
  let held := (idx.toNat + 2 ^ 32 - x.ci) % 2 ^ 32
  done s <|
    if !s.live fn || s.ringOwner ring != fn || !s.cmdEn fn || !s.sqEn ring || x.sqErr != 0 || idx.toNat == x.pi then s
    else if 2 ^ s.sqLog ring < held then (s.setRing ring { x with sqErr := 1 }).ringError ring 0 1
    else if held = 0 then (s.cancelWait (.hostHead ring)).setRing ring { x with
      pi := idx.toNat, fetched := [], headTick := none, headWaits := false, headMet := false }
    else s.setRing ring { x with pi := idx.toNat, fetched := x.fetched.take held }

/-- CQ_DOORBELL (R268, R270). [DEDUCED, log entry 20] -/
def execCqDoorbell (fn ring : Nat) (idx : BitVec 32) (s : State) : Host.Outcome State Fault Refusal :=
  within "function" fn 8 <| within "ring" ring 256 <|
  let x := s.ring ring
  done s <|
    if !s.live fn || s.ringOwner ring != fn || !s.cmdEn fn || !s.cqEn ring || x.cqErr != 0 || idx.toNat == x.cqCi then s
    else if s.cqHeld ring < (idx.toNat + 2 ^ 32 - x.cqCi) % 2 ^ 32 then
      (s.setRing ring { x with cqErr := 1 }).ringError ring 1 1
    else s.setRing ring { x with cqCi := idx.toNat }

/-- The descriptors of a read, 64 bytes each. -/
def chunks64 : Nat → Bytes → List Bytes
  | 0, _ => []
  | k + 1, b => b.take 64 :: chunks64 k (b.drop 64)

/-- SQ_FETCH (R269): at most 16 descriptors that the doorbell covers. -/
def execSqFetch (ring : Nat) (reply : HostReply) (s : State) : Host.Outcome State Fault Refusal :=
  within "ring" ring 256 <|
  let x := s.ring ring
  let n := min 16 (s.sqHeld ring - x.fetched.length)
  done s <|
    if !s.sqEn ring || x.sqErr != 0 || !s.live (s.ringOwner ring) || n == 0 then s
    else match reply with
      | .data b => (s.setRing ring { x with fetched := x.fetched ++ chunks64 (min n (b.length / 64)) b }).newHead ring
      | _ => (s.setRing ring { x with sqErr := 2 }).ringError ring 0 2

/-- COMMAND_DISPATCH (R275). -/
def execCommandDispatch (ring : Nat) (s : State) : Host.Outcome State Fault Refusal :=
  within "ring" ring 256 <| done s (s.stepHead ring)

/-- COMMAND_DEADLINE (R277): the head, or a SYNC_OP wait, is still waiting at its tick D. -/
def execCommandDeadline (ring : Nat) (id : Option Nat) (s : State) : Host.Outcome State Fault Refusal :=
  within "ring" ring 256 <|
  done s <|
    match id with
    | none =>
      (match (s.ring ring).headTick, (s.ring ring).fetched with
       | some (some _), d :: _ => s.endHead ring d .timeout
       | _, _ => s)
    | some i =>
      (match s.cmd i with
       | some c =>
         if c.ring = ring ∧ dOp c.desc = 7 ∧ c.waiting ∧ c.tick.isSome then
           (s.cancelWait (.hostCmd i)).complete c .timeout 0 0
         else s
       | none => s)

/-- CQ_POST (R270): the oldest completion of a completion ring is written, when the ring has space. -/
def execCqPost (ring : Nat) (writeOk : Bool) (s : State) : Host.Outcome State Fault Refusal :=
  within "ring" ring 256 <|
  done s <|
    match (s.ring ring).backlog with
    | [] => s
    | _ :: _ =>
      if !s.cqReady ring then s
      else if writeOk then s.postNext ring
      else (s.setRing ring { s.ring ring with cqErr := 2 }).ringError ring 1 2

/-- IRQ_COALESCE_TIMEOUT (R271): COAL_US after the first unsignalled qualifying record. -/
def execIrqCoalesceTimeout (ring : Nat) (s : State) : Host.Outcome State Fault Refusal :=
  within "ring" ring 256 <|
  done s <|
    let ctl := s.reg 8 (0x4018 + 64 * ring)
    if bit ctl 9 && bits ctl 47 32 != 0 && decide (0 < (s.ring ring).coal) then s.signal ring else s

/-- EVENT_POST (R292): the oldest event of a function's buffer is written to its EVCQ when that has space; a host write that
fails is a RING_ERROR, and the event goes on waiting (Table 8.5). -/
def execEventPost (put : HostPut) (s : State) : Host.Outcome State Fault Refusal :=
  let fn := put.no
  within "function" fn 8 <|
  done s <|
    match (s.evbuf fn).waiting with
    | [] => s
    | e :: rest =>
      if !s.evtEn fn || !s.cqReady (s.evcq fn) then s
      else if put.taken then
        (s.setEvbuf fn { waiting := rest, lost := 0 }).writeRec (s.evcq fn)
          ⟨e.code + 2 ^ 16 * (s.evbuf fn).lost, .ok, 0, true, e.payload, true, none⟩
      else (s.setRing (s.evcq fn) { s.ring (s.evcq fn) with cqErr := 2 }).ringError (s.evcq fn) 1 2

end Sys2Proof.Machine
end

