-- ==== Sys2Proof/Machine/EventLog.lean ====
section
/-!
DEFINITION. What is written to flash: event log records (R415, R416), field-repair entries (R399, R400), and the flush of
what was held while flash writes were refused (R437).
-/

namespace Sys2Proof.Machine

/-- The 64 bytes of an event log record (Table 13.8). -/
def logBytes (seq supp : Nat) (r : LogRec) : Bytes :=
  let b := toLe 4 seq ++ toLe 2 r.code ++ toLe 1 r.src ++ toLe 1 (b2n r.injected + 2 * b2n r.delayed) ++ toLe 8 r.time ++
    toLe 4 r.boot ++ toLe 1 r.temp ++ zeros 3 ++ toLe 8 r.result ++ (r.data ++ zeros 24).take 24 ++ toLe 4 supp
  b ++ toLe 4 (crc32c b)

/-- Records of a code and source suppressed since the last one written. -/
def State.suppCount (s : State) (code src : Nat) : Nat :=
  match s.svc.suppressed.find? (fun e => e.1 == code && e.2.1 == src) with
  | some e => e.2.2
  | none => 0

/-- Records of a code and source written in the present second. -/
def State.rateCount (s : State) (code src : Nat) : Nat :=
  match s.svc.rateNow.find? (fun e => e.1 == code && e.2.1 == src) with
  | some e => if e.2.2.2 = s.now / 1000000000 then e.2.2.1 else 0
  | none => 0

/-- Write one record to the log ring, or count it suppressed beyond 16 a second (R416). The sector that the write pointer
enters is erased first (R415). -/
def State.putLog (s : State) (r : LogRec) : State :=
  let n := s.rateCount r.code r.src
  let same (c k : Nat) : Bool := c == r.code && k == r.src
  if 16 ≤ n then
    { s with svc.suppressed := s.svc.suppressed.filter (fun e => !same e.1 e.2.1) ++ [(r.code, r.src, s.suppCount r.code r.src + 1)] }
  else
    let slot := s.flash.logSeq % 65536
    let erased := if slot % 1024 = 0 then tdrop (fun k => decide (slot ≤ k) && decide (k < slot + 1024)) s.flash.log else s.flash.log
    { s with
      flash.log := tset (fun _ => []) erased slot (logBytes s.flash.logSeq (s.suppCount r.code r.src) r)
      flash.logSeq := s.flash.logSeq + 1
      svc.suppressed := s.svc.suppressed.filter (fun e => !same e.1 e.2.1)
      svc.rateNow := s.svc.rateNow.filter (fun e => !same e.1 e.2.1) ++ [(r.code, r.src, n + 1, s.now / 1000000000)] }

/-- Write the oldest held record. -/
def State.writeOldest (s : State) : State :=
  match s.svc.logq with
  | [] => s
  | r :: rest => { s with svc.logq := rest }.putLog r

/-- EVENT_LOG_WRITE (R415): while flash writes are refused, the held records are marked as held. -/
def execEventLogWrite (s : State) : Host.Outcome State Fault Refusal :=
  done s <|
    if s.flashOk then s.writeOldest
    else { s with svc.logq := s.svc.logq.map (fun r => { r with delayed := true }) }

/-- Add an entry to the field-repair record in flash; a full record takes no more (R399, R400). -/
def State.flashRepair (s : State) (e : RepairEntry) : State :=
  if s.flash.repair.length < 4092 then
    { s with
      flash.repair := s.flash.repair ++ [e]
      flash.repairSeq := s.flash.repairSeq + 1
      flash.repairCopy := 1 - s.flash.repairCopy }
  else s

/-- Enter a repair: in flash when it may be written, else in RAM until then (R400). -/
def State.addRepair (s : State) (kind payload : Nat) : State :=
  let e : RepairEntry := ⟨kind, s.flash.boots, payload⟩
  if s.flashOk then s.flashRepair e else { s with svc.heldRepairs := s.svc.heldRepairs ++ [e] }

/-- Write every record that was held, oldest first. -/
def State.flushLog (s : State) : Nat → State
  | 0 => s
  | k + 1 => if s.svc.logq.any (·.delayed) then s.writeOldest.flushLog k else s

/-- FLASH_HOLD_FLUSH (R400, R416): once flash may be written, held entries and records are written in order. -/
def execFlashHoldFlush (s : State) : Host.Outcome State Fault Refusal :=
  done s <|
    if s.flashOk then
      let s1 := s.svc.heldRepairs.foldl (fun t e => t.flashRepair e) { s with svc.heldRepairs := [] }
      s1.flushLog s1.svc.logq.length
    else s

/-- The record a slot of the log holds; an erased slot reads all ones (R417). -/
def State.logSlot (s : State) (n : Nat) : Bytes :=
  match tget (fun _ => []) s.flash.log n with
  | [] => List.replicate 64 0xFF
  | b => b

/-- The report of stage i: a stage that has not run in the current start-up reads NOT_RUN (R382). -/
def State.report (s : State) (i : Nat) : Bytes :=
  match tget (fun _ => []) s.boot.reports i with
  | [] => toLe 1 i ++ [4] ++ zeros 254
  | b => b

/-- The log records that a first EL_SEQ and a count name, erased or overwritten ones left out (Table 15.2). -/
def State.logRead (s : State) (first count : Nat) : Bytes :=
  ((List.range count).map (fun i =>
    let b := tget (fun _ => []) s.flash.log ((first + i) % 65536)
    if b ≠ [] ∧ le b 0 4 = (first + i) % 2 ^ 32 then b else [])).flatten

end Sys2Proof.Machine
end

