-- ==== Sys2Proof/Machine/Power.lean ====
section
/-!
DEFINITION. Input bands, droop, budgets and the clocks of tile islands (R420, R422 to R427, R440, R442).
-/

namespace Sys2Proof.Machine

/-- Lowest clock of an island's range in MHz (Table 1.4, R432). -/
def islandFloor (i : Nat) : Nat :=
  if i < 4 then 1200 else if i < 148 then 500 else if i < 184 then 400 else Config.ownClock i
/-- Highest clock of an island's range in MHz (Table 1.4). -/
def islandTop (s : State) (i : Nat) : Nat :=
  if i < 4 then 1800 else if i < 148 then s.boot.ceilMhz else if i < 184 then 1800 else Config.ownClock i

/-- The least of the limits that act on an island (R427), but for class-I work and droop. [DEDUCED, log entry 45] -/
def State.islandLimit (s : State) (i : Nat) : Nat :=
  let x := s.island i
  let lim := min (islandTop s i) (if x.ceil = 0 then islandTop s i else x.ceil)
  match x.cap with
  | some c => min lim c
  | none => lim

/-- Logical tile of a site, when it holds one. -/
def State.tileAt (s : State) (n : Nat) : Option Nat := (List.range 32).find? (fun t => (s.tile t).site == some n)

/-- The clock of the M-row islands of logical tile t: the point its budget allows, within every limit of its four islands
(R38, R427); droop halves a clock of 1.0 GHz or above and otherwise halves the issue rate (R424). [DEDUCED, log entry 45] -/
def State.retimeTile (s : State) (t : Nat) : State :=
  match (s.tile t).site with
  | none => s
  | some n =>
    let rows := (List.range 4).map (mIsland n)
    let lim := rows.foldl (fun m i => min m (s.islandLimit i)) 1800
    let point := max 500 (s.island (mIsland n 0)).point
    let base := min lim point
    let base := if (s.tile t).classI then min base 1000 else base
    let clk := if s.power.droop && decide (1000 ≤ base) then base / 2 else base
    let s1 := rows.foldl (fun u i => u.setIsland i { u.island i with clk := clk, halved := s.power.droop && decide (base < 1000) }) s
    let v := vsIsland n
    if (s.island v).off then s else
    s1.setIsland v { s1.island v with clk := min (s1.islandLimit v) (max 400 (s1.island v).point) }

/-- Retime every tile. -/
def State.retimeAll (s : State) : State := (List.range 32).foldl State.retimeTile s

/-- THERMAL_THROTTLE for a cause that concerns the whole module (R433). -/
def State.throttleAll (s : State) (entry : Bool) (cause : Nat) : State :=
  s.raise 0x019 (0xFF + 2 ^ 8 * ofInt 8 s.hottest.1 + 2 ^ 16 * b2n entry + 2 ^ 17 * cause + 2 ^ 24 * s.goodPhases) [] mgmtNode

/-- INPUT_BAND_CHANGE (R420): the input enters or leaves the bands in which the module stays in service. -/
def execInputBandChange (mv : Nat) (s : State) : Host.Outcome State Fault Refusal :=
  done s <|
    let out := (decide (30000 ≤ mv) && decide (mv < 33000)) || (decide (52000 < mv) && decide (mv ≤ 54000))
    if !s.boot.powered || out == s.power.outBand then s
    else { s with power.outBand := out }.throttleAll out 4

/-- DROOP (R424). -/
def execDroop (s : State) : Host.Outcome State Fault Refusal :=
  done s <|
    if !s.boot.powered then s
    else
      let quiet := match s.power.droopAt with
        | some t => decide (s.now < t + 1000000)
        | none => false
      let s1 := { s with power.droop := true, power.droops := satAdd s.power.droops 1 0xFFFF }.retimeAll
      if quiet then s1 else { s1 with power.droopAt := some s.now }.throttleAll true 2

/-- DROOP_END (R424): the islands return to the points of their grants. -/
def execDroopEnd (s : State) : Host.Outcome State Fault Refusal :=
  done s <| if s.power.droop then { s with power.droop := false }.retimeAll else s

/-! ### Slice ports 0 and 1 (R354) -/

/-- Direction d of slice port p of the site over region n. -/
def State.bond (s : State) (n p d : Nat) : BondDir := tget (fun _ => {}) s.bonds (64 * n + 2 * p + d)
/-- Set direction d of slice port p of the site over region n. -/
def State.setBond (s : State) (n p d : Nat) (x : BondDir) : State :=
  { s with bonds := tset (fun _ => {}) s.bonds (64 * n + 2 * p + d) x }

/-- Slice ports that carry the vane, interrupt, debug and power messages of the site over region n: 0 and 1, but for one that has
failed or retrains (R354). -/
def State.sidePorts (s : State) (n : Nat) : List Nat :=
  [0, 1].filter (fun p => [0, 1].all (fun d => !(s.bond n p d).retraining && (s.bond n p d).st != 2))

/-- The channels of those ports in the order in which a port serves them (R354). -/
def sideOrder : List Nat := [0x7, 0x8, 0xA, 0x9]

/-- PWR_REQ (R425): a tile's report and ask; a powered-down tile asks for nothing. -/
def execPwrReq (tile power ask : Nat) (s : State) : Host.Outcome State Fault Refusal :=
  within "tile" tile 32 <|
  done s <|
    let x := s.tile tile
    match x.site with
    | some n => if x.off || s.sidePorts n == [] then s else s.setTile tile { x with meas := power, ask := some ask }
    | none => s

/-- One pass of the budget loop of R425: `open` tiles with their asks, `avail` in units of 0.1 W. -/
def budgetLoop : Nat → Rat → List (Nat × Nat) → List (Nat × Nat) → List (Nat × Nat)
  | 0, _, _, acc => acc
  | k + 1, avail, opn, acc =>
    if opn = [] then acc
    else
      let share : Rat := avail / (opn.length : Rat)
      let fits := opn.filter (fun t => decide ((t.2 : Rat) ≤ share))
      if fits = [] then acc ++ opn.map (fun t => (t.1, share.floor.toNat))
      else budgetLoop k (avail - ((fits.map (·.2)).sum : Nat)) (opn.filter (fun t => !decide ((t.2 : Rat) ≤ share))) (acc ++ fits)

/-- Measured power of the base die in 0.1 W: its region, strip and corner islands. -/
def State.basePower (s : State) : Nat := ((List.range 4 ++ (List.range 8).map (· + 184)).map (fun i => (s.island i).power)).sum

/-- Power available to the tiles in 0.1 W (R425). -/
def State.avail (s : State) : Rat :=
  let plim : Rat := 10 * (s.plim : Rat)
  plim - 105 / 100 * (s.basePower : Rat) - 105 / 100 * ((s.power.stackPower.sum : Nat) : Rat)
    - 10 * (s.power.grantA : Rat) - 10 * (s.power.grantB : Rat) - 2 / 100 * plim

/-- The grants of a budget round: tile, grant in 0.1 W. -/
def State.grants (s : State) : List (Nat × Nat) :=
  budgetLoop 33 s.avail ((List.range 32).filterMap (fun t => ((s.tile t).ask).map (fun a => (t, a)))) []

/-- BUDGET_ROUND (R425): the Wellkeeper computes the grants and sends each as PWR_GRANT.
[DEDUCED, log entry 45; DESIGN CHOICE, log entry 13] -/
def execBudgetRound (s : State) : Host.Outcome State Fault Refusal :=
  done s <|
    s.grants.foldl (fun u g => u.setTile g.1 { u.tile g.1 with sent := some g.2, ask := none }) s

/-- PWR_GRANT (R426): the tile receives its grant and takes the operating points that fit it, on 25 MHz steps; an M-row
setting above the fused ceiling is refused and the previous frequency kept (R376, R423). [DEDUCED, log entry 45] -/
def execPwrGrant (tile mhz vsMhz gate : Nat) (s : State) : Host.Outcome State Fault Refusal :=
  within "tile" tile 32 <|
  done s <|
    let x := s.tile tile
    match x.sent, x.site with
    | some g, some n =>
      if s.sidePorts n = [] then s else
      let s1 := s.setTile tile { x with grant := some g, sent := none, gated := min gate 1000 }
      let m := mhz / 25 * 25
      let s2 := if m ≤ s.boot.ceilMhz then
          (List.range 4).foldl (fun u r => u.setIsland (mIsland n r) { u.island (mIsland n r) with point := max 500 m }) s1
        else s1
      let v := min 1800 (vsMhz / 25 * 25)
      (s2.setIsland (vsIsland n) { s2.island (vsIsland n) with point := max 400 v }).retimeTile tile
    | _, _ => s

/-- GRANT_TIMEOUT (R426): without a grant for 500 microseconds a tile runs at its lowest operating point.
[DESIGN CHOICE, log entry 13] -/
def execGrantTimeout (tile : Nat) (s : State) : Host.Outcome State Fault Refusal :=
  within "tile" tile 32 <|
  done s <|
    match (s.tile tile).site with
    | some n =>
      let s1 := s.setTile tile { s.tile tile with grant := none }
      let s2 := ((List.range 4).map (mIsland n) ++ [vsIsland n]).foldl
        (fun u i => u.setIsland i { u.island i with point := 0 }) s1
      s2.retimeTile tile
    | none => s

/-- ISLAND_WAKE (R442): a request toward a stopped island starts its clock; a powered-down island is not woken. -/
def execIslandWake (island : Nat) (s : State) : Host.Outcome State Fault Refusal :=
  within "island" island 192 <|
  done s <|
    let x := s.island island
    if x.stopped && !x.off then s.setIsland island { x with stopped := false } else s

/-- The five islands of a site (Table 13.7). -/
def siteIslands (n : Nat) : List Nat := (List.range 4).map (mIsland n) ++ [vsIsland n]

/-! ### IVR domains (Table 1.4) -/

/-- An IVR domain (R21): the logic and the arrays of a region, a tile island, and the domains of a strip and of a corner. -/
inductive IvrDomain
  | regionLogic (n : Nat)
  | regionArrays (n : Nat)
  | tile (island : Nat)
  | strip (k j : Nat)
  | corner (k j : Nat)
  deriving DecidableEq, Repr

/-- The 288 IVR domains of the module. -/
def ivrDomains : List IvrDomain :=
  (List.range 36).flatMap (fun n => [.regionLogic n, .regionArrays n]) ++ (List.range 180).map (fun k => .tile (4 + k)) ++
    (List.range 4).flatMap (fun k => (List.range 6).map (.strip k)) ++ (List.range 4).flatMap (fun k => (List.range 3).map (.corner k))

/-- The island that a domain feeds. -/
def domainIsland : IvrDomain → Nat
  | .regionLogic n => quadOf n
  | .regionArrays n => quadOf n
  | .tile i => i
  | .strip k _ => 184 + k
  | .corner k _ => 188 + k

/-- Rail of an island in mV: its point of the voltage-and-frequency table with its Barometer offset, and 0 with its rail off. -/
def State.railMv (s : State) (i : Nat) : Nat :=
  let x := s.island i
  if x.off then 0 else Config.vfTable i x.clk + x.offset

/-- Whether a domain is on: it is switched with its island (R22, R440). -/
def State.domainOn (s : State) (d : IvrDomain) : Bool := !(s.island (domainIsland d)).off
/-- Rail of a domain in mV. -/
def State.domainMv (s : State) (d : IvrDomain) : Nat := s.railMv (domainIsland d)

/-- Switch the islands of a site on or off. -/
def State.powerSite (s : State) (n : Nat) (on : Bool) : State :=
  (siteIslands n).foldl (fun u i => u.setIsland i { u.island i with off := !on, stopped := false, clk := if on then (u.island i).clk else 0 })
    (s.setSite n { s.site n with powered := on })

/-- TILE_POWER_DOWN (R440): with PWR_GATE.EN set, an idle tile's island rails are switched off; TL_STATE reads FENCED.
[DEDUCED, log entry 45] -/
def execTilePowerDown (tile : Nat) (s : State) : Host.Outcome State Fault Refusal :=
  within "tile" tile 32 <|
  done s <|
    let x := s.tile tile
    match x.site with
    | some n =>
      if bit (s.reg 12 0x30) 0 && x.task.isNone && !x.off then
        ((s.setTile tile { x with off := true, ask := none, grant := none, sent := none }).powerSite n false).markDist
      else s
    | none => s

end Sys2Proof.Machine
end

