-- ==== Sys2Proof/Machine/Home.lean ====
section
/-!
DEFINITION. The home agents: the directory, the transitions of Tables 6.7 and 6.8, write-backs that cross snoops (R210),
the reclaim of lost agents (R215), and the home transactions that non-caching requesters make (R211). The `len` field of a
write-back or answer with POISON holds a mask of the bad granules.
-/

namespace Sys2Proof.Machine

/-- Home region of a line number (R117, R196). -/
def homeOf (x : Nat) : Nat :=
  let a := 128 * x
  if cisternBase ≤ a ∧ a < cisternEnd then (a - cisternBase) / blockBytes
  else ((x % 2 ^ 14) ^^^ (bits x 27 14) ^^^ (bits x 40 28)) % 36
/-- Directory set of a line number (R196). -/
def dirSet (x : Nat) : Nat := (x % 128) ^^^ (x / 128 % 128)
/-- Index of way 0 of the set of a line. -/
def dirBase (x : Nat) : Nat := 2048 * homeOf x + 16 * dirSet x

/-- Directory entry i. -/
def State.dirEnt (s : State) (i : Nat) : DirEnt := tget (fun _ => {}) s.coh.dir i
/-- Set directory entry i. -/
def State.setDir (s : State) (i : Nat) (e : DirEnt) : State := { s with coh.dir := tset (fun _ => {}) s.coh.dir i e }
/-- Free directory entry i. -/
def State.freeDir (s : State) (i : Nat) : State := s.setDir i {}
/-- Index of the entry that tracks a line. -/
def State.findWay (s : State) (x : Nat) : Option Nat :=
  ((List.range 16).map (· + dirBase x)).find? (fun i => (s.dirEnt i).st != 0 && (s.dirEnt i).line == x)
/-- Index of a FREE way of a line's set. -/
def State.freeWay (s : State) (x : Nat) : Option Nat :=
  ((List.range 16).map (· + dirBase x)).find? (fun i => (s.dirEnt i).st == 0)
/-- Index of the oldest stable way of a line's set (R200). -/
def State.oldestWay (s : State) (x : Nat) : Option Nat :=
  ((List.range 16).map (· + dirBase x)).foldl (fun (m : Option Nat) i =>
    if 1 ≤ (s.dirEnt i).st ∧ (s.dirEnt i).st ≤ 3 then
      match m with
      | some j => if (s.dirEnt i).age < (s.dirEnt j).age then some i else m
      | none => some i
    else m) none

/-- A stored CSR of a core. -/
def Core.csrv (c : Core) (n : Nat) : Nat := (tget (fun _ => (0 : Word)) c.csr n).toNat

/-- The S-core whose mhpmevent, mcountinhibit, mcounteren and PMP entries govern core a (R40, R45). -/
def governor (a : Nat) : Nat := if isScore a then a else supervisor a

/-- Count a performance event of core a (R467). -/
def State.count (s : State) (a ev : Nat) : State :=
  let g := s.core (governor a)
  let c := s.core a
  let hit := ((List.range 8).map (· + 3)).filter (fun n => g.csrv (0x320 + n) == ev && !bit (g.csrv 0x320) n)
  if hit = [] then s
  else s.setCore a { c with hpm := hit.foldl (fun h n => tset (fun _ => 0) h n ((tget (fun _ => 0) h n + 1) % 2 ^ 64)) c.hpm }

/-- Entry e of agent a's cache. -/
def State.cent (s : State) (a e : Nat) : CacheEnt := tget (fun _ => {}) s.coh.ents (48 * a + e)
/-- Set entry e of agent a's cache. -/
def State.setCent (s : State) (a e : Nat) (x : CacheEnt) : State :=
  { s with coh.ents := tset (fun _ => {}) s.coh.ents (48 * a + e) x }
/-- Control of agent a's cache. -/
def State.ctl (s : State) (a : Nat) : CacheCtl := tget (fun _ => {}) s.coh.ctls a
/-- Set the control of agent a's cache. -/
def State.setCtl (s : State) (a : Nat) (x : CacheCtl) : State :=
  { s with coh.ctls := tset (fun _ => {}) s.coh.ctls a x }
/-- Number of the entry of agent a's cache that concerns a line. -/
def State.findEnt (s : State) (a x : Nat) : Option Nat :=
  (List.range 48).find? (fun e => (s.cent a e).st != .i && (s.cent a e).line == x)

/-- A line leaves E or M in cache a: the reservation and the deferral of its LR are over (R207). -/
def State.leave (s : State) (a x : Nat) : State :=
  let s1 := if (s.core a).resv = some x then s.setCore a { s.core a with resv := none } else s
  if (s1.ctl a).lrHold = some x then s1.setCtl a { s1.ctl a with lrHold := none } else s1

/-- Codeword bits inverted in byte b of an entry. -/
def CacheEnt.flipsAt (c : CacheEnt) (b : Nat) : Nat := (c.flips.filter (fun f => f / 13 == b)).length
/-- A range of an entry holds an uncorrectable byte. -/
def CacheEnt.bad (c : CacheEnt) (off n : Nat) : Bool := (List.range n).any (fun i => decide (2 ≤ c.flipsAt (off + i)))
/-- Granules of an entry that hold an uncorrectable byte, as a mask. -/
def CacheEnt.badMask (c : CacheEnt) : Nat :=
  ((List.range 4).map (fun g => if c.bad (32 * g) 32 then 2 ^ g else 0)).sum

/-- Count a cache error (Table 6.11). -/
def State.cacheErr (s : State) (a e kind : Nat) : State :=
  let k := s.ctl a
  let s1 := s.setCtl a { k with
    ce := if kind = 1 then satAdd k.ce 1 0xFFFF else k.ce
    ue := if kind = 1 then k.ue else satAdd k.ue 1 0xFF
    errEntry := e
    errKind := kind }
  if kind = 1 then s1
  else s1.raise 0x00F (a + 2 ^ 16 * e) [] (((s1.tile (tileOf a)).site).getD 0xFF)

/-- Send a coherence message. [DESIGN CHOICE, log entry 12] -/
def State.send (s : State) (m : CohMsg) : State := { s with coh.msgs := s.coh.msgs ++ [m] }
/-- A message is received: it is no longer in flight. [DESIGN CHOICE, log entry 12] -/
def State.recv (s : State) (m : CohMsg) : State := { s with coh.msgs := s.coh.msgs.erase m }
/-- COHERENCE_ERR for an agent and a line. -/
def State.cohErr (s : State) (agent x : Nat) : State := s.raise 0x00C (agent + 2 ^ 16 * (128 * x)) [] (homeOf x)

/-- Caching agents present in the module (R199); a fenced core is no longer counted (R215). -/
def State.cachers (s : State) : List Nat :=
  (List.range 384).filter (fun a => s.corePresent a && !s.coreFenced a) ++ s.coh.partners

/-- Valid pointers of an entry. -/
def DirEnt.sharers (e : DirEnt) : List Nat := e.ptrs.filterMap id
/-- Remove an agent from an entry's pointers. -/
def DirEnt.remove (e : DirEnt) (a : Nat) : DirEnt := { e with ptrs := e.ptrs.map (fun p => if p = some a then none else p) }
/-- Record a sharer: it takes a free pointer other than DE_PTR0, or is unrecorded and sets DE_OVF (R198). -/
def DirEnt.addSharer (e : DirEnt) (a : Nat) : DirEnt :=
  if e.ptrs.contains (some a) then e
  else
    match (List.range 3).find? (fun i => e.ptrs[i + 1]? == some none) with
    | some i => { e with ptrs := e.ptrs.set (i + 1) (some a) }
    | none => if e.st ≠ 2 ∧ e.ptrs[0]? = some none then { e with ptrs := e.ptrs.set 0 (some a) } else { e with ovf := true }
/-- An agent takes DE_PTR0; the agent that held it becomes a sharer (R198). -/
def DirEnt.takePtr0 (e : DirEnt) (a : Nat) : DirEnt :=
  let old := (e.ptrs[0]?).join
  let e1 := { (e.remove a) with ptrs := (e.remove a).ptrs.set 0 (some a) }
  match old with
  | some o => if o = a then e1 else { e1 with st := 2 }.addSharer o
  | none => e1
/-- Whether sharers remain. -/
def DirEnt.anyLeft (e : DirEnt) : Bool := !e.sharers.isEmpty || e.ovf

/-! ### Partner agents (R364, R368 to R370, R373) -/

/-- Partner site a (0 A, 1 B). -/
def State.psite (s : State) (a : Nat) : PSite := tget (fun _ => {}) s.psites a
/-- Set partner site a. -/
def State.setPsite (s : State) (a : Nat) (x : PSite) : State := { s with psites := tset (fun _ => {}) s.psites a x }
/-- Count a message of a partner that is discarded or refused (PS_DROP); in CXL mode none is counted (R368, R370). -/
def State.psDrop (s : State) (site : Nat) : State :=
  let x := s.psite site
  if x.proto = 0 then s.setPsite site { x with drop := satAdd x.drop 1 0xFFFF } else s

/-- The partner site of an agent ID (Table 6.1). -/
def siteOf (a : Nat) : Option Nat :=
  if 384 ≤ a ∧ a < 448 then some ((a - 384) / 32) else if a = 507 ∨ a = 508 then some (a - 507) else none

/-- A CXL agent is never made a forwarder (R369). -/
def State.cxl (s : State) (a : Nat) : Bool := match siteOf a with | some x => (s.psite x).proto != 0 | none => false

/-- Whether a UCIe module of a site is up in a role that may send a coherence kind: RD_U and WR_U come from MEMORY and COHERENT
modules, PEEK from none, and the rest from COHERENT modules by the agents granted (R366 to R368). [DEDUCED, log entry 37] -/
def State.roleSends (s : State) (site agent : Nat) (k : CohKind) : Bool :=
  let up (r : Nat) : Bool := (s.psite site).mods.any (fun u => u.role == r && u.width != 3)
  match k with
  | .rdU | .wrU => decide (agent < 448) && (up 0 || up 1)
  | .peek => false
  | _ => decide (agent < 448) && decide (agent - 384 - 32 * site < (s.psite site).agents) && up 1

/-- The check of R370 on a coherence request of a partner: RD_U needs READ, WR_U needs WRITE, and the rest COHERENT.
[DEDUCED, log entry 37] -/
def State.siteGrants (s : State) (site : Nat) (m : CohMsg) (k : CohKind) : Status :=
  let w := s.reg 10 (0x118 + 0x100 * site)
  let a := 128 * m.line
  let memory : Bool := match placeLocal a with | .hbm _ | .cistern _ => true | _ => false
  firstFail [
    (memory && s.inPart (bits w 2 0) a 128 && bit w (match k with | .rdU => 8 | .wrU => 9 | _ => 11) && bit w (16 + m.cls), .permission),
    (s.memRange false a 128, .range),
    (!s.placeResetting a 128, .aborted)]

/-- What becomes of a coherence message from a partner site: none when it goes on, or why it ends here, ST_OK for one that is
discarded without a reply (R368, R370, R373). -/
def State.partnerStops (s : State) (m : CohMsg) (k : CohKind) : Option Status :=
  match siteOf m.agent with
  | none => none
  | some site =>
    let asks : Bool := match k with | .rdS | .rdX | .upg | .rdU | .wrU => true | _ => false
    if (s.psite site).st = 3 ∧ asks then some .staleEpoch
    else if (s.psite site).st ≠ 2 ∨ !s.roleSends site m.agent k then some .ok
    else if !asks then none
    else match s.siteGrants site m k with
      | .ok => none
      | st => some st

/-- Refuse or discard a partner's message: a reply carries the status, in CXL mode an error completion with poison, and PS_DROP
counts it (R368 to R370). -/
def State.stopPartner (s : State) (m : CohMsg) (k : CohKind) (st : Status) : State :=
  let t := match siteOf m.agent with | some x => s.psDrop x | none => s
  let kind : CohKind := match k with
    | .wrU => .wrAck
    | .upg => if s.cxl m.agent then .dataPoison else .ackUpg
    | .rdX => if s.cxl m.agent then .dataPoison else .dataM
    | _ => if s.cxl m.agent then .dataPoison else .dataR
  if st = .ok then t
  else { t with coh.msgs := t.coh.msgs ++ [{ kind := kind, line := m.line, agent := m.agent, tag := m.tag, status := st }] }

/-- A coherence message of kind `k` reaches the module: one of a partner passes its site first, and `f` is what it then does. -/
def State.letIn (s : State) (m : CohMsg) (k : CohKind) (f : State) : State :=
  match s.partnerStops m k with
  | none => f
  | some st => s.stopPartner m k st

/-! ### Accumulator entries of ACTIVE catchment slots (R183) -/

/-- Catchment unit of region n. -/
def State.cat (s : State) (n : Nat) : CatUnit := tget (fun _ => {}) s.mesh.cats n
/-- Set the catchment unit of region n. -/
def State.setCat (s : State) (n : Nat) (x : CatUnit) : State := { s with mesh.cats := tset (fun _ => {}) s.mesh.cats n x }
/-- Slot k of a catchment unit. -/
def CatUnit.slot (u : CatUnit) (k : Nat) : CatSlot := tget (fun _ => {}) u.slots k
/-- Set slot k of a catchment unit. -/
def CatUnit.setSlot (u : CatUnit) (k : Nat) (x : CatSlot) : CatUnit := { u with slots := tset (fun _ => {}) u.slots k x }
/-- RD_COUNT. -/
def rdCount (d : Bytes) : Nat := le d 24 4
/-- RD_ACC. -/
def rdAcc (d : Bytes) : Nat := le d 48 8
/-- The ACTIVE slots of reductions: region, slot number and slot. -/
def State.activeSlots (s : State) : List (Nat × Nat × CatSlot) :=
  (tkeys s.mesh.cats).flatMap (fun n => (tkeys (s.cat n).slots).filterMap (fun k =>
    let x := (s.cat n).slot k
    if x.state = 1 ∧ x.group.isNone then some (n, k, x) else none))

/-- Bytes read from the accumulator range of an ACTIVE slot are open. -/
def State.openAcc (s : State) (x : Nat) (b : Bytes) : State × Bytes :=
  let sl := s.activeSlots.filter (fun e => overlap x b.length (rdAcc e.2.2.desc) (32 * rdCount e.2.2.desc))
  if sl = [] then (s, b)
  else
    ({ s with free := s.free + b.length }, (List.range b.length).map (fun i =>
      if sl.any (fun e => overlap (x + i) 1 (rdAcc e.2.2.desc) (32 * rdCount e.2.2.desc)) then Config.freeByte (s.free + i)
      else b.getD i 0))

/-- A write of n bytes by another than the unit makes open the results of the elements whose entries it meets. -/
def State.taintAcc (s : State) (x n : Nat) : State :=
  s.activeSlots.foldl (fun t e =>
    let hit := (List.range (rdCount e.2.2.desc)).filter (fun i => overlap x n (rdAcc e.2.2.desc + 32 * i) 32)
    if hit = [] then t
    else t.setCat e.1 ((t.cat e.1).setSlot e.2.1 { e.2.2 with tainted := (e.2.2.tainted ++ hit).eraseDups })) s

/-- Read a line from memory: the bytes, and whether a granule is poisoned. [DEDUCED, log entry 28] -/
def State.lineRead (s : State) (agent x : Nat) : State × Bytes × Bool :=
  let r := s.readGrans agent (s.badGrans (128 * x) 128)
  let dead := s.stackStatus (128 * x) 128 != .ok
  let q := r.1.openAcc (128 * x) (r.1.rawBytes (128 * x) 128)
  (q.1, q.2, r.2 || dead)

/-- Write a line to memory; the granules of `mask` are poisoned instead (R225). [DEDUCED, log entry 28] -/
def State.lineWrite (s : State) (agent x : Nat) (data : Bytes) (mask : Nat) : State :=
  (List.range 4).foldl (fun t i =>
    if bit mask i then t.poisonRange (128 * x + 32 * i) 32
    else (t.writeGrans false agent (128 * x + 32 * i) ((data.drop (32 * i)).take 32)).1) (s.taintAcc (128 * x) 128)

/-- A write-back reaches memory: held for a halted stack, discarded and counted for an offline one (R250, R470); WB_ACK
follows the write. [DEDUCED, log entry 28] -/
def State.putMemory (s : State) (m : CohMsg) : State :=
  let ack : CohMsg := { kind := .wbAck, line := m.line, agent := m.agent, tag := m.tag }
  match s.stackStatus (128 * m.line) 128 with
  | .tempForbidden =>
    (match (stacksOf (128 * m.line) 128) with
     | h :: _ => s.setStack h { s.stack h with heldPuts := (s.stack h).heldPuts ++ [m] }
     | [] => s)
  | .absent =>
    (match s.canon (128 * m.line) with
     | some g => (s.setChan (chanNo g) { s.chan (chanNo g) with lostwr := satAdd (s.chan (chanNo g)).lostwr 1 0xFFFF }).send ack
     | none => s.send ack)
  | _ => (s.lineWrite m.agent m.line m.data (if m.poison then m.len else 0)).send ack

/-- Allocate an entry for a line with its first pointer. -/
def State.allocate (s : State) (i x st a : Nat) : State :=
  { s.setDir i { line := x, st := st, ptrs := [some a, none, none, none], age := s.coh.ages + 1 } with coh.ages := s.coh.ages + 1 }

/-- Agents that an invalidation reaches, other than `r` (R199). -/
def State.invTargets (s : State) (e : DirEnt) (r : Nat) : List Nat :=
  (if e.ovf then s.cachers else e.sharers).filter (· != r)

/-- Send INV to agents. -/
def State.sendInv (s : State) (x : Nat) (ags : List Nat) : State :=
  ags.foldl (fun t a => t.send { kind := .inv, line := x, agent := a }) s

/-- Answer a read of a line for which the home has the data (R211, R212). -/
def replyData (m : CohMsg) (st : CState) (data : Bytes) (poison : Bool) : CohMsg :=
  { kind := .dataM, line := m.line, agent := m.agent, st := st, data := data, poison := poison, off := m.off, len := m.len }

/-- A home refused a write whose WR_U had waited: the requester is yet to learn it (R141). -/
def State.noteRefused (s : State) (agent g : Nat) : State := { s with coh.refused := s.coh.refused ++ [(agent, g)] }

/-- A WR_U with a stash target leaves a stash step behind the requests that wait for its line (R213): the model keeps it among
the waiting requests, under the kind STASH_OFFER. [DESIGN CHOICE, log entry 12] -/
def State.laterStash (s : State) (m : CohMsg) : State :=
  match m.stash with
  | some t => { s with coh.waiting := s.coh.waiting ++ [{ kind := .stashOffer, line := m.line, agent := t }] }
  | none => s

/-- Write the bytes of a WR_U over memory and acknowledge it (R211). -/
def State.serveWrU (s : State) (m : CohMsg) : State :=
  let a := 128 * m.line + m.off
  let r := (s.taintAcc a m.data.length).writeGrans false m.agent a m.data m.hole
  let t := if r.2 then r.1 else r.1.noteRefused m.agent ((r.1.firstPoison a m.data.length).getD a)
  (t.send { kind := .wrAck, line := m.line, agent := m.agent }).laterStash m

/-- Merge a WR_U over the line's current data, which answers to invalidations brought, and write memory once (Table 6.8). A
granule with an uncorrectable byte is written when the WR_U covers it; otherwise its write is refused (R141, R225). -/
def State.mergeWrU (s : State) (m : CohMsg) (d : Bytes) (mask : Nat) : State :=
  let new (i : Nat) : Bool := decide (m.off ≤ i) && decide (i < m.off + m.data.length) && !m.hole.contains (i - m.off)
  let whole (g : Nat) : Bool := (List.range 32).all (fun i => new (32 * g + i))
  let hit (g : Nat) : Bool := (List.range 32).any (fun i => new (32 * g + i))
  let bad := (List.range 4).filter (fun g => bit mask g && !whole g)
  let t := (s.taintAcc (128 * m.line) 128).lineWrite m.agent m.line
    ((List.range 128).map (fun i => if new i then m.data.getD (i - m.off) 0 else d.getD i 0)) ((bad.map (2 ^ ·)).sum)
  let u := (bad.filter hit).foldl (fun (t : State) g =>
    match t.canon (128 * m.line + 32 * g) with
    | some c => (t.granError (c / 32) 3 m.agent false).noteRefused m.agent (128 * m.line + 32 * g)
    | none => t) t
  (u.send { kind := .wrAck, line := m.line, agent := m.agent }).laterStash m

/-- Read for an RD_U or PEEK: the granules that it covers are read, and the answer carries POISON when a granule of the line is
poisoned (R140, R212). [DEDUCED, log entry 28] -/
def State.readU (s : State) (agent a n : Nat) : State × Bool :=
  let r := s.readGrans agent (s.badGrans a n)
  let lo := a / 128 * 128
  let hi := (a + n + 127) / 128 * 128
  (r.1, (r.1.firstPoison lo (hi - lo)).isSome)

/-- Whether a requester's uncached reads may merge (R125): cores, region pumps, M-cores and host pumps. -/
def merges (agent : Nat) : Bool := decide (agent < 384) || (decide (448 ≤ agent) && decide (agent < 493) && agent != 484)

/-- An uncached read of one Cistern granule that no cache owns or forwards opens a merge group, or joins the open one (R125
to R127); the group closes at its 64th member. The answer tells whether it joined: it then makes no array access of its own.
[DEDUCED, log entry 28] -/
def State.mergeRead (s : State) (x n : Nat) : State × Bool :=
  let g := x / 32
  let owned : Bool := match s.findWay (x / 128) with
    | some i => decide (1 ≤ (s.dirEnt i).st) && decide ((s.dirEnt i).st ≤ 2)
    | none => false
  match placeLocal x with
  | .cistern _ =>
    if n == 0 || (x + n - 1) / 32 != g || owned then (s, false)
    else match s.cistern.groups.find? (fun m => m.gran == g) with
      | some m =>
        if 63 ≤ m.members then ({ s with cistern.groups := s.cistern.groups.filter (fun q => q.gran != g) }, true)
        else ({ s with cistern.groups := s.cistern.groups.map (fun q => if q.gran = g then { q with members := q.members + 1 } else q) }, true)
      | none =>
        if 16 ≤ (s.cistern.groups.filter (fun q => sliceNo (32 * q.gran) == sliceNo x)).length then (s, false)
        else ({ s with cistern.groups := s.cistern.groups ++ [⟨g, 1⟩] }, false)
  | _ => (s, false)

/-- Answer an RD_U or PEEK from memory (Table 6.7, FREE and SHARED). [DEDUCED, log entry 28] -/
def State.serveRdU (s : State) (m : CohMsg) : State :=
  let a := 128 * m.line + m.off
  let j := if m.kind = .rdU ∧ merges m.agent then s.mergeRead a m.len else (s, false)
  let r := if j.2 then (j.1, (j.1.firstPoison (128 * m.line) 128).isSome) else j.1.readU m.agent a m.len
  let dead := s.stackStatus (128 * m.line) 128 != .ok
  let q := r.1.openAcc (128 * m.line) (r.1.rawBytes (128 * m.line) 128)
  q.1.send (replyData m .i q.2 (r.2 || dead))

/-- Cache t holds a copy of line x. -/
def State.holdsCopy (s : State) (t x : Nat) : Bool :=
  match s.findEnt t x with
  | some e => (match (s.cent t e).st with | .m | .e | .f | .s | .sm | .wb => true | _ => false)
  | none => false

/-- The stash step of a write (R213). -/
def State.stash (s : State) (x t : Nat) : State :=
  let offer (s1 : State) (i : Nat) (e : DirEnt) (st : CState) (d : Bytes) : State :=
    (s1.setDir i { e with prev := e.st, st := 6, wait := [t] }).send
      { kind := .stashOffer, line := x, agent := t, st := st, data := d }
  if 384 ≤ t ∨ s.holdsCopy t x then s
  else
    let (s1, d, bad) := s.lineRead 448 x
    if bad then s
    else
      match s.findWay x with
      | some i =>
        let e := s.dirEnt i
        if e.st = 2 ∨ e.st = 3 then offer s1 i e .s d else s
      | none =>
        (match s.freeWay x with
         | some i => offer { s1 with coh.ages := s1.coh.ages + 1 } i { line := x, st := 0, age := s1.coh.ages + 1 } .e d
         | none => s)

/-- A way of the set of a request's line is being freed for that request (R200). -/
def State.evictingFor (s : State) (m : CohMsg) : Bool :=
  ((List.range 16).map (· + dirBase m.line)).any (fun i => (s.dirEnt i).st == 7 && (s.dirEnt i).req == some m)

/-- Lines of a march segment that starts at a line of a slice, as addresses. -/
def marchLines (sl line : Nat) : List Nat := (List.range 64).map (fun i => cisAddr (sl / 32) (sl % 32) (line + i) 0)

/-- An access to a line under march aborts its segment (R411). -/
def State.stopMarch (s : State) (x n : Nat) : State :=
  if s.svc.segments = [] then s
  else
    { s with svc.segments := s.svc.segments.filter (fun u => match u with
        | .march sl line => !(marchLines sl line).any (fun l => overlap l 128 x n)
        | _ => true) }

/-- Serve a request as the FREE row gives (Table 6.7). A line that needs an entry when its set has none evicts the oldest
stable way and waits (R200). -/
def State.serveFree (s : State) (m : CohMsg) : State :=
  match m.kind with
  | .rdS | .rdX | .upg =>
    (match s.freeWay m.line with
     | some i =>
       let (s1, d, bad) := s.lineRead m.agent m.line
       if bad then s1.send { kind := .dataPoison, line := m.line, agent := m.agent }
       else (s1.allocate i m.line 1 m.agent).send (replyData m .e d false)
     | none =>
       if s.evictingFor m then { s with coh.waiting := s.coh.waiting ++ [m] }
       else (match s.oldestWay m.line with
        | some j =>
          let e := s.dirEnt j
          let ts := s.invTargets e 512
          { (s.setDir j { e with prev := e.st, st := 7, wait := ts, req := some m, data := none }).sendInv e.line ts with
            coh.waiting := s.coh.waiting ++ [m] }
        | none => { s with coh.waiting := s.coh.waiting ++ [m] }))
  | .rdU | .peek => s.serveRdU m
  | .wrU => s.serveWrU m
  | .stashOffer => s.stash m.line m.agent
  | _ => s

/-- The count of a BUSY_I or BUSY_E entry is met (Table 6.8); a request of a lost agent, marked by `cancel`, is discarded
(R215). -/
def State.countMet (s : State) (i : Nat) : State :=
  let e := s.dirEnt i
  if e.st = 7 then
    let s1 := match e.data with
      | some d => s.lineWrite 448 e.line d e.mask
      | none => s
    s1.freeDir i
  else
    match e.req with
    | some m =>
      if m.cancel then
        (match e.data with
         | some d => s.lineWrite m.agent e.line d e.mask
         | none => s).freeDir i
      else (match m.kind with
       | .wrU =>
         (match e.data with
          | some d => s.mergeWrU m d e.mask
          | none => s.serveWrU m).freeDir i
       | .upg => (s.setDir i { line := e.line, st := 1, ptrs := [some m.agent, none, none, none], age := e.age }).send
           { kind := .ackUpg, line := m.line, agent := m.agent }
       | _ =>
         let s1 := match e.data with
           | some d => s.lineWrite m.agent e.line d e.mask
           | none => s
         let (s2, d, bad) := s1.lineRead m.agent e.line
         if bad then (s2.freeDir i).send { kind := .dataPoison, line := m.line, agent := m.agent }
         else (s2.setDir i { line := e.line, st := 1, ptrs := [some m.agent, none, none, none], age := e.age }).send
           (replyData m .e d false))
    | none => s.freeDir i

/-- Snoop that a request sends to an owner or forwarder (Table 6.7). -/
def snoopKind : CohKind → CohKind
  | .rdS => .snpS | .rdX => .snpX | .upg => .snpX | .rdU => .snpU | _ => .snpP

/-- Send the snoop of a request and enter BUSY_F. -/
def State.snoop (s : State) (i o : Nat) (m : CohMsg) : State :=
  let e := s.dirEnt i
  (s.setDir i { e with prev := e.st, st := 4, req := some m, wait := [o], data := none, mask := 0 }).send
    { kind := snoopKind m.kind, line := m.line, agent := o, req := m.agent, off := m.off, len := m.len }

/-- Invalidate the sharers for a request and enter BUSY_I; with nobody to ask the count is met at once. -/
def State.invalidate (s : State) (i : Nat) (m : CohMsg) : State :=
  let e := s.dirEnt i
  let ts := s.invTargets e (if e.st = 1 then 512 else m.agent)
  let m' : CohMsg := if m.kind = .upg ∧ !e.sharers.contains m.agent then { m with kind := .rdX } else m
  let s1 := (s.setDir i { e with prev := e.st, st := 5, req := some m', wait := ts, data := none, mask := 0 }).sendInv m.line ts
  if ts.isEmpty then s1.countMet i else s1

/-- Serve a request for a line (Table 6.7); one for a line in a transient state waits (R204). -/
def State.serve (s0 : State) (m : CohMsg) : State :=
  let s := s0.stopMarch (128 * m.line) 128
  match s.findWay m.line with
  | none => s.serveFree m
  | some i =>
    let e := s.dirEnt i
    let p0 := ((e.ptrs[0]?).join).getD 512
    match e.st with
    | 1 => (match m.kind with
        | .wrU => s.invalidate i m
        | .stashOffer => s
        | _ => s.snoop i p0 m)
    | 2 => (match m.kind with
        | .rdX | .upg | .wrU => s.invalidate i m
        | .stashOffer => s.stash m.line m.agent
        | _ => s.snoop i p0 m)
    | 3 => (match m.kind with
        | .rdX | .upg | .wrU => s.invalidate i m
        | .rdS =>
          let (s1, d, bad) := s.lineRead m.agent m.line
          if bad then s1.send { kind := .dataPoison, line := m.line, agent := m.agent }
          else if s.cxl m.agent then (s1.setDir i (e.addSharer m.agent)).send (replyData m .s d false)
          else (s1.setDir i { (e.takePtr0 m.agent) with st := 2 }).send (replyData m .f d false)
        | .stashOffer => s.stash m.line m.agent
        | _ => s.serveRdU m)
    | _ => { s with coh.waiting := s.coh.waiting ++ [m] }

/-- A request reaches its home: it waits behind the earlier requests for its line (R204). [DESIGN CHOICE, log entry 12] -/
def State.request (s : State) (m : CohMsg) : State :=
  if s.coh.waiting.any (fun w => w.line == m.line && w.kind != .stashOffer) then { s with coh.waiting := s.coh.waiting ++ [m] }
  else s.serve m

/-- A stash step of the set of line x could be taken now: its line is in no transient state. -/
def State.stashReady (s : State) (x : Nat) : Bool :=
  s.coh.waiting.any (fun w => w.kind == .stashOffer && dirBase w.line == dirBase x &&
    ((s.findWay w.line).all (fun i => decide ((s.dirEnt i).st ≤ 3))))

/-- Serve again, in their order, the requests that waited at the set of a line; the stash steps that this leaves come after
them (R213). -/
def State.settleGo : Nat → State → Nat → State
  | 0, s, _ => s
  | k + 1, s, x =>
    let mine := s.coh.waiting.filter (fun w => dirBase w.line == dirBase x)
    let t := mine.foldl (fun t m => t.request m)
      { s with coh.waiting := s.coh.waiting.filter (fun w => dirBase w.line != dirBase x) }
    let fresh (w : CohMsg) : Bool := w.kind == .stashOffer && !mine.contains w
    let u := { t with coh.waiting := t.coh.waiting.filter (fun w => !fresh w) ++ t.coh.waiting.filter fresh }
    if u.stashReady x then State.settleGo k u x else u

/-- Serve again the requests that waited at the set of a line. -/
def State.settle (s : State) (x : Nat) : State := State.settleGo (s.coh.waiting.length + 2) s x

/-- A PUT that no cancellation covers, for a line in a stable state or with no entry (Table 6.7, R208). -/
def State.putStable (s : State) (m : CohMsg) : State :=
  let ack : CohMsg := { kind := .wbAck, line := m.line, agent := m.agent, tag := m.tag }
  match s.findWay m.line with
  | none => (s.send ack).cohErr m.agent m.line
  | some i =>
    let e := s.dirEnt i
    if e.st = 1 ∧ e.ptrs[0]? = some (some m.agent) then
      (match m.kind with
       | .putM => let s1 := s.putMemory m
                  if m.keep then s1 else (s1.freeDir i).settle m.line
       | _ => ((s.send ack).freeDir i).settle m.line)
    else if e.st = 2 ∧ e.ptrs[0]? = some (some m.agent) then
      let e1 := e.remove m.agent
      ((s.send ack).setDir i (if e1.anyLeft then { e1 with st := 3 } else {})).settle m.line
    else (s.send ack).cohErr m.agent m.line

/-- PUT_M or PUT_C reaches its home (R204, R208 to R210). A stash offer holds it until the line is stable.
[DEDUCED, log entry 28] -/
def State.put (s : State) (m : CohMsg) : State :=
  let ack : CohMsg := { kind := .wbAck, line := m.line, agent := m.agent, tag := m.tag }
  if s.coh.cancelled.contains (m.agent, m.tag) then
    { s with coh.cancelled := s.coh.cancelled.erase (m.agent, m.tag) }.send ack
  else
    match s.findWay m.line with
    | none => s.putStable m
    | some i =>
      let e := s.dirEnt i
      if e.st ≤ 3 then s.putStable m
      else if e.wait.contains m.agent || e.st == 6 then s.setDir i { e with held := e.held ++ [m] }
      else (s.send ack).cohErr m.agent m.line

/-- The PUTs an entry held are taken once its answers are in. -/
def State.releasePuts (s : State) (puts : List CohMsg) : State := puts.foldl (fun t m => t.put m) s

/-- Put an entry in a stable state, then take its held PUTs and waiting requests. -/
def State.stable (s : State) (i : Nat) (e : DirEnt) (puts : List CohMsg) : State :=
  let e1 : DirEnt := { e with prev := 0, req := none, wait := [], data := none, mask := 0, held := [] }
  let e2 : DirEnt := if e1.st ≤ 1 then { e1 with ovf := false } else e1
  ((s.setDir i (if e2.st = 0 then {} else e2)).releasePuts puts).settle e.line

/-- SNP_RSP for a forwarding snoop (Table 6.8, BUSY_F). A lost requester, marked by `cancel`, is granted nothing; a line whose
only copy went to it is lost with it (R215). [DEDUCED, log entry 28] -/
def State.forwarded (s : State) (i : Nat) (m : CohMsg) : State :=
  let e := s.dirEnt i
  match e.req with
  | none => s
  | some q =>
    let s0 := if m.cancel then { s with coh.cancelled := s.coh.cancelled ++ [(m.agent, m.tag)] } else s
    let base : DirEnt := { e with st := e.prev }
    let without (d : DirEnt) : DirEnt :=
      let d1 := d.remove m.agent
      { d1 with st := if d1.anyLeft && e.prev == 2 then 3 else 0 }
    if m.poison then
      let s1 := s0.lineWrite m.agent e.line m.data m.len
      (if q.cancel then s1 else s1.send { kind := .dataPoison, line := e.line, agent := q.agent }).stable i (without base) e.held
    else
      match m.result with
      | .fwd =>
        let s1 := if m.hasData then s0.lineWrite m.agent e.line m.data 0 else s0
        (match q.kind with
         | .rdS =>
           if q.cancel then
             let d := if m.cancel then base.remove m.agent else base
             s1.stable i { d with st := if d.anyLeft then 3 else 0 } e.held
           else if s.cxl q.agent then
             let d := if m.cancel then base.remove m.agent else base
             s1.stable i ({ d with st := 3 }.addSharer q.agent) e.held
           else
           let e1 := { base with st := 2 }
           let e2 := if m.cancel then { (e1.remove m.agent) with ptrs := (e1.remove m.agent).ptrs.set 0 none } else e1
           s1.stable i { (e2.takePtr0 q.agent) with st := 2 } e.held
         | .rdX | .upg =>
           if q.cancel then (s1.poisonRange (128 * e.line) 128).stable i { base with st := 0 } e.held
           else s1.stable i { base with st := 1, ptrs := [some q.agent, none, none, none] } e.held
         | _ => s1.stable i (if m.cancel then without base else base) e.held)
      | _ =>
        let e1 := without base
        let s1 := s0.setDir i (if e1.st = 0 then {} else { e1 with req := none, wait := [], held := [] })
        ((if q.cancel then s1 else s1.serve q).releasePuts e.held).settle e.line

/-- SNP_RSP reaches its home (R209). -/
def State.snpAnswer (s : State) (m : CohMsg) : State :=
  match s.findWay m.line with
  | none => s
  | some i =>
    let e := s.dirEnt i
    if !e.wait.contains m.agent then s
    else if e.st = 4 then s.forwarded i m
    else if e.st = 5 ∨ e.st = 7 then
      let s0 := if m.cancel then { s with coh.cancelled := s.coh.cancelled ++ [(m.agent, m.tag)] } else s
      let e1 := { (e.remove m.agent) with
        wait := e.wait.erase m.agent
        data := if m.hasData then some m.data else e.data
        mask := if m.hasData then (if m.poison then m.len else 0) else e.mask
        held := [] }
      let s1 := s0.setDir i e1
      if e1.wait.isEmpty then ((s1.countMet i).releasePuts e.held).settle e.line
      else (s1.setDir i { e1 with held := e.held.filter (fun h => e1.wait.contains h.agent) }).releasePuts
        (e.held.filter (fun h => !e1.wait.contains h.agent))
    else s

/-- STASH_ACC or STASH_DEC reaches the home (Table 6.8, BUSY_O). -/
def State.stashAnswer (s : State) (m : CohMsg) (accepted : Bool) : State :=
  match s.findWay m.line with
  | none => s
  | some i =>
    let e := s.dirEnt i
    if e.st = 6 ∧ e.wait.contains m.agent then
      let base : DirEnt := { e with st := e.prev }
      if accepted then
        s.stable i (if e.prev = 0 then { base with st := 1, ptrs := [some m.agent, none, none, none] } else base.addSharer m.agent) e.held
      else s.stable i (if 2 ≤ e.prev ∧ !base.anyLeft then { base with st := 0 } else base) e.held
    else s

/-- One directory entry of a lost agent (R215): the entry, and whether its line is poisoned. [DEDUCED, log entry 28] -/
def State.reclaimEnt (s : State) (a i : Nat) : State × Nat :=
  let e0 := s.dirEnt i
  let e : DirEnt := { e0 with
    req := e0.req.map (fun m => if m.agent = a then { m with cancel := true } else m)
    held := e0.held.filter (fun m => m.agent != a) }
  let s := s.setDir i e
  let e1 := e.remove a
  let owner := e.ptrs[0]? = some (some a)
  if e.wait.contains a then
    let lost := decide (e.prev = 1)
    if e.st = 4 then
      (s.snpAnswer { kind := .snpRsp, line := e.line, agent := a, result := .miss, poison := lost, len := 15, data := zeros 128 }, b2n lost)
    else if e.st = 6 then (s.stashAnswer { kind := .stashDec, line := e.line, agent := a } false, 0)
    else
      ((if lost then s.poisonRange (128 * e.line) 128 else s).snpAnswer
        { kind := .snpRsp, line := e.line, agent := a, result := .miss }, b2n lost)
  else if e.st = 1 ∧ owner then ((s.poisonRange (128 * e.line) 128).freeDir i |>.settle e.line, 1)
  else if e.st = 2 ∧ owner then ((s.setDir i (if e1.anyLeft then { e1 with st := 3 } else {})).settle e.line, 0)
  else if e.st = 2 ∨ e.st = 3 then ((s.setDir i (if e1.anyLeft then e1 else {})).settle e.line, 0)
  else (s.setDir i (if e.prev = 2 ∧ owner then { e1 with prev := 3 } else e1), 0)

/-- Every home reclaims the lines of a lost agent, and DIR_RECLAIM is raised (R215). -/
def State.reclaim (s : State) (a : Nat) : State :=
  let s0 := { s with
    coh.msgs := s.coh.msgs.filter (fun m => m.agent != a || match m.kind with
      | .rdS | .rdX | .upg | .rdU | .wrU | .putM | .putC | .snpRsp | .stashAcc | .stashDec => false
      | _ => true)
    coh.waiting := s.coh.waiting.filter (fun m => m.agent != a)
    coh.cancelled := s.coh.cancelled.filter (fun c => c.1 != a) }
  let r := ((tkeys s0.coh.dir).filter (fun i => let e := s0.dirEnt i
    e.sharers.contains a || e.wait.contains a || e.held.any (fun m => m.agent == a) || e.req.any (fun m => m.agent == a))).foldl
    (fun (p : State × Nat) i => let q := p.1.reclaimEnt a i; (q.1, p.2 + q.2)) (s0, 0)
  let s1 := { r.1 with coh.ents := tdrop (fun k => k / 48 == a) r.1.coh.ents }
  (s1.setCtl a { s1.ctl a with enable := false, invdone := false, acc := none, fill := none, deferred := [], lrHold := none, maint := [] }).raise
    0x00D (a + 2 ^ 32 * r.2) []

/-! ### Write-backs and error counts of a cache -/

/-- Bytes of a range of an entry with a single-bit error, by their place in the line. -/
def CacheEnt.singles (c : CacheEnt) (off n : Nat) : List Nat :=
  ((List.range n).map (· + off)).filter (fun i => c.flipsAt i == 1)
/-- The entry with the single-bit errors of a range corrected (R224). -/
def CacheEnt.fixed (c : CacheEnt) (off n : Nat) : CacheEnt :=
  { c with flips := c.flips.filter (fun f => !(c.singles off n).contains (f / 13)) }

/-- V/S cycles of the tile of agent a that `ns` nanoseconds hold. -/
def State.vsCycles (s : State) (a ns : Nat) : Nat :=
  ns * (s.island (vsIsland (((s.tile (tileOf a)).site).getD 0))).clk / 1000

/-- Entry e of cache a counts k corrected errors (R224). The answer tells whether it has counted its third within 2^24 V/S
cycles of the first. -/
def State.countCe (s : State) (a e k : Nat) : State × Bool :=
  let old := tget (fun _ => []) (s.ctl a).ces e
  let recent := if old.head?.any (fun t => decide (s.vsCycles a (s.now - t) < 2 ^ 24)) then old else []
  let now := recent ++ List.replicate k s.now
  let s1 := s.setCtl a { s.ctl a with ces := tset (fun _ => []) (s.ctl a).ces e now }
  ((List.range k).foldl (fun t _ => t.cacheErr a e 1) s1, decide (3 ≤ now.length))

/-- Entry e of cache a disables itself, and the event says so (R224). -/
def State.entryOff (s : State) (a e : Nat) : State :=
  let k := s.ctl a
  (s.setCtl a { k with off := k.off ||| 2 ^ e, pin := setBits k.pin e e 0 }).raise 0x00E (a + 2 ^ 16 * e) []

/-- Send a write-back of entry e and enter WB (R218); the line leaves its state, and with it an LR's reservation (R207). Dirty
data is read, so that its single-bit errors are corrected and counted (R224); with an uncorrectable byte it is sent with POISON and
reported (R225). -/
def State.writeBack (s : State) (a e : Nat) (dirty keep poison : Bool) : State :=
  let c0 := s.cent a e
  let k := if dirty then (c0.singles 0 128).length else 0
  let c := if dirty then c0.fixed 0 128 else c0
  let s1 := s.setCent a e { c with st := .wb, dirty := dirty, keep := keep, poison := poison }
  let s2 := s1.leave a c.line
  let s3 := if poison then s2.cacheErr a e 3 else s2
  let s4 := (s3.count a 4).send {
    kind := if dirty then .putM else .putC, line := c.line, agent := a, tag := e, keep := keep, poison := poison,
    hasData := dirty, data := if dirty then c.data else [], len := if poison then c.badMask else 0, cls := (s.core a).cls }
  if k = 0 then s4 else let r := s4.countCe a e k; if r.2 then r.1.entryOff a e else r.1

/-- Evict entry e: an S line is dropped, an E or F line sends PUT_C, an M line PUT_M (R218). -/
def State.evict (s : State) (a e : Nat) : State :=
  let c := s.cent a e
  match c.st with
  | .s => (s.leave a c.line).setCent a e {}
  | .f | .e => s.writeBack a e false false false
  | .m => s.writeBack a e true false (c.badMask != 0)
  | _ => s

/-- Entry e of cache a counts k corrected errors; on the third it is cleaned and invalidated, or its pinned contents are
discarded, and it disables itself (R224). -/
def State.tallyCe (s : State) (a e k : Nat) : State :=
  if k = 0 then s
  else
    let r := s.countCe a e k
    if r.2 then
      (if bit (r.1.ctl a).pin e then (r.1.entryOff a e).setCent a e {} else (r.1.entryOff a e).evict a e)
    else r.1

/-- A read corrects single-bit errors of a range of entry e (R224). -/
def State.correct (s : State) (a e off n : Nat) : State :=
  let c := s.cent a e
  (s.setCent a e (c.fixed off n)).tallyCe a e (c.singles off n).length

/-! ### Home transactions of non-caching requesters, performed at once -/

/-- The home of a line is full: 128 of its lines are in transient states, or 256 requests wait at it (R204). -/
def State.homeFull (s : State) (x : Nat) : Bool :=
  decide (128 ≤ ((tkeys s.coh.dir).filter (fun i => i / 2048 == homeOf x && decide (4 ≤ (s.dirEnt i).st))).length) ||
    decide (256 ≤ (s.coh.waiting.filter (fun m => homeOf m.line == homeOf x)).length)

/-- A line leaves a cache for an uncached write: its dirty data goes to memory first, with the granules poisoned that hold an
uncorrectable byte (Table 6.5, INV; R225). -/
def State.dropCopy (s : State) (a x : Nat) : State :=
  let s := s.count a 6
  match s.findEnt a x with
  | none => s
  | some e =>
    let dirty := decide ((s.cent a e).st = .m) || (decide ((s.cent a e).st = .wb) && (s.cent a e).dirty)
    let k := if dirty then ((s.cent a e).singles 0 128).length else 0
    let c := if dirty then (s.cent a e).fixed 0 128 else s.cent a e
    let s0 := s.setCtl a { s.ctl a with lrHold := if (s.ctl a).lrHold = some x then none else (s.ctl a).lrHold }
    let s1 := s0.setCore a { s0.core a with resv := if (s0.core a).resv = some x then none else (s0.core a).resv }
    let s2 := if c.badMask ≠ 0 ∧ dirty then s1.cacheErr a e 3 else s1
    match c.st with
    | .m => ((s2.lineWrite a x c.data c.badMask).setCent a e {}).tallyCe a e k
    | .wb => State.tallyCe (a := a) (e := e) (k := k) <| { (if c.dirty then s2.lineWrite a x c.data c.badMask else s2).setCent a e { c with st := .wbx } with
        coh.cancelled := s2.coh.cancelled ++ [(a, e)] }
    | .sm => s1.setCent a e { c with st := .im }
    | .is => s1.setCent a e { c with oneUse := true }
    | .im | .wbx | .i => s1
    | _ => s1.setCent a e {}

/-- The home removes an agent that no longer holds a line in a stable state. -/
def State.dropPtr (s : State) (a x : Nat) : State :=
  match s.findWay x with
  | some i =>
    let e := s.dirEnt i
    let e1 := e.remove a
    if 3 < e.st then s else s.setDir i (if e1.anyLeft then { e1 with st := 3 } else {})
  | none => s

/-- Before an uncached read, an owner in M writes its data home and keeps the line in E (R211); a line with an uncorrectable
byte is written with its bad granules poisoned and leaves the cache (R212). -/
def State.cleanCopy (s : State) (a x : Nat) : State :=
  let s := s.count a 6
  match s.findEnt a x with
  | none => s
  | some e =>
    let fwd : Bool := match (s.cent a e).st with | .m | .e | .f | .wb => true | _ => false
    let k := if fwd then ((s.cent a e).singles 0 128).length else 0
    let c := if fwd then (s.cent a e).fixed 0 128 else s.cent a e
    let gone (k : Nat) : State := (((s.cacheErr a e k).leave a x).lineWrite a x c.data c.badMask).dropPtr a x
    State.tallyCe (a := a) (e := e) (k := k) <|
    match c.st with
    | .m => if c.badMask = 0 then (s.lineWrite a x c.data 0).setCent a e { c with st := .e } else (gone 3).setCent a e {}
    | .e | .f => if c.badMask = 0 then s.setCent a e c else (gone 2).setCent a e {}
    | .wb =>
      let w (t : State) : State := { t.setCent a e { c with st := .wbx } with coh.cancelled := t.coh.cancelled ++ [(a, e)] }
      if c.badMask = 0 then w ((if c.dirty then s.lineWrite a x c.data 0 else s).dropPtr a x) else w (gone (if c.dirty then 3 else 2))
    | _ => s

/-- Line numbers that a range of local addresses touches and that a directory entry tracks. -/
def State.tracked (s : State) (a n : Nat) : List Nat :=
  ((tkeys s.coh.dir).map (fun i => (s.dirEnt i).line)).filter (fun x => overlap a n (128 * x) 128)

/-- Cache a's entry for line x waits for data, its write-back is settled by another transaction, or its LR holds off the snoop
that a read sends (R207). -/
def State.unsettled (s : State) (x : Nat) (write : Bool) (a : Nat) : Bool :=
  decide (384 ≤ a) || (!write && (s.ctl a).lrHold == some x) || (match s.findEnt a x with
    | some e => (match (s.cent a e).st with | .is | .im | .sm | .wbx => true | _ => false)
    | none => false)

/-- An uncached transaction on line x cannot be performed at once: its line is in a transient state or has requests waiting, or
a cache or partner that it must snoop answers only later. [DEDUCED, log entry 28] -/
def State.lineBusy (s : State) (x : Nat) (write : Bool) : Bool :=
  s.coh.waiting.any (fun w => w.line == x) ||
    (match s.findWay x with
     | some i =>
       let e := s.dirEnt i
       decide (3 < e.st) ||
         (if write then (if e.ovf then s.cachers else e.sharers).any (s.unsettled x true)
          else decide (e.st ≤ 2) && ((e.ptrs[0]?).join).any (s.unsettled x false))
     | none => false)

/-- Lines of a range of local addresses that are busy for an uncached transaction. -/
def State.busyLines (s : State) (x n : Nat) (write : Bool) : List Nat :=
  (s.tracked x n ++ s.coh.waiting.map (fun w => w.line)).eraseDups.filter
    (fun l => overlap x n (128 * l) 128 && s.lineBusy l write)

/-- The part of a range of local addresses in line l: its first byte within the range, and its length. -/
def linePart (x n l : Nat) : Nat × Nat := (max x (128 * l) - x, min (x + n) (128 * l + 128) - max x (128 * l))

/-- The bytes that a read takes from busy lines are open: those of a transaction that is not yet settled. The read itself
waits at the home. [DEDUCED, log entry 28] -/
def State.openBytes (s : State) (agent x : Nat) (busy : List Nat) (b : Bytes) (cls : Nat := 0) : State × Bytes :=
  busy.foldl (fun (p : State × Bytes) l =>
    let q := linePart x b.length l
    (({ p.1 with free := p.1.free + q.2 }).request
      { kind := .rdU, line := l, agent := agent, off := (x + q.1) % 128, len := q.2, cls := cls },
     putAt p.2 q.1 ((List.range q.2).map (fun i => Config.freeByte (p.1.free + i))))) (s, b)

/-- A whole uncached read (R211): the bytes, and the address of the first uncorrectable granule. `joins` marks the reads that
merge (R125), and `cls` is their class label. [DEDUCED, log entry 28] -/
def State.cohRead (s : State) (agent a n : Nat) (joins : Bool := false) (cls : Nat := 0) : State × Option Nat × Bytes :=
  let x := s.loc a
  let busy := s.busyLines x n false
  let s := s.stopMarch x n
  let s1 := ((s.tracked x n).filter (fun l => !busy.contains l)).foldl (fun t l =>
    match t.findWay l with
    | some i => (match ((t.dirEnt i).ptrs[0]?).join with
        | some o => if (t.dirEnt i).st ≤ 2 then t.cleanCopy o l else t
        | none => t)
    | none => t) s
  match placeLocal x with
  | .tcm _ =>
    (match s1.readMem agent a n with
     | (s2, some b) => (s2, none, b)
     | (s2, none) => (s2, some x, s2.rawBytes a n))
  | _ =>
    let j := if joins then s1.mergeRead x n else (s1, false)
    let s2 := if j.2 then j.1 else (j.1.readU agent x n).1
    let lo := x / 128 * 128
    match s2.firstPoison lo ((x + n + 127) / 128 * 128 - lo) with
    | none =>
      let q := s2.openAcc x (s2.rawBytes a n)
      let r := q.1.openBytes agent x busy q.2 cls
      (r.1, none, r.2)
    | some g => (s2, some g, s2.rawBytes a n)

/-- A write of line x by another agent than `a` breaks the reservations on it (R41). -/
def State.breakResv (s : State) (x a : Nat) : State :=
  ((tkeys s.cores).filter (fun g => g != a && (s.core g).resv == some x)).foldl
    (fun t g => t.setCore g { t.core g with resv := none }) s

/-- The copies of the lines of a range are invalidated, but for those in a transaction; of a shared line, not that of the
requester (R199, R208). -/
def State.dropLines (s : State) (x n : Nat) (agent : Nat := 512) : State :=
  (s.tracked x n).foldl (fun t l =>
    match t.findWay l with
    | some i =>
      let e := t.dirEnt i
      if 3 < e.st then t
      else ((t.invTargets e (if e.st = 1 then 512 else agent)).foldl (fun u ag => u.dropCopy ag l) t).freeDir i
    | none => t) s

/-- An uncached write of one or more quiet lines (R211): their copies are invalidated first. -/
def State.quietWrite (s : State) (agent a : Nat) (bs : Bytes) : State × Option Nat :=
  let x := s.loc a
  let n := bs.length
  let s1 := s.dropLines x n agent
  let s1' := (List.range ((x + n - 1) / 128 - x / 128 + 1)).foldl (fun t i => t.breakResv (x / 128 + i) 512) s1
  match (s1'.taintAcc x n).writeMem false agent a bs with
  | (s2, true) => (s2, none)
  | (s2, false) => (s2, some ((s2.firstPoison x n).getD x))

/-- A whole uncached write (R211). A busy line gets a WR_U that waits at its home. The answer is the address of the first
refused granule. [DEDUCED, log entry 28] -/
def State.cohWrite (s : State) (agent a : Nat) (bs : Bytes) (stash : Option Nat := none) (cls : Nat := 0) : State × Option Nat :=
  let x := s.loc a
  let n := bs.length
  let busy := s.busyLines x n true
  let s := s.stopMarch x n
  if busy = [] then
    let r := s.quietWrite agent a bs
    match stash with
    | some t => ((List.range ((x + n - 1) / 128 - x / 128 + 1)).foldl (fun u i => u.stash (x / 128 + i) t) r.1, r.2)
    | none => r
  else
    (List.range ((x + n - 1) / 128 - x / 128 + 1)).foldl (fun (p : State × Option Nat) i =>
      let l := x / 128 + i
      let q := linePart x n l
      let part := (bs.drop q.1).take q.2
      if busy.contains l then
        ((p.1.breakResv l 512).request { kind := .wrU, line := l, agent := agent, off := (x + q.1) % 128, data := part, stash := stash, cls := cls }, p.2)
      else
        let r := p.1.quietWrite agent (a + q.1) part
        (match stash with | some t => r.1.stash l t | none => r.1, p.2.or r.2)) (s, none)

/-- Writes of a requester that no WR_ACK has confirmed yet (R211). -/
def State.writesOpen (s : State) (agent : Nat) : Bool :=
  let mine (m : CohMsg) : Bool := m.agent == agent && (m.kind == .wrU || m.kind == .wrAck)
  s.coh.msgs.any mine || s.coh.waiting.any mine ||
    (tkeys s.coh.dir).any (fun i => (s.dirEnt i).req.any mine)

/-- The requester takes note of the first refused write that meets a range of local addresses (R141). -/
def State.takeRefused (s : State) (agent x n : Nat) : State × Option Nat :=
  match s.coh.refused.find? (fun r => r.1 == agent && overlap x n r.2 32) with
  | some r => ({ s with coh.refused := s.coh.refused.erase r }, some r.2)
  | none => (s, none)

/-! ### The commands -/

/-- A request message reaches its home, which takes none while it is full (R204). -/
def State.homeRequest (s : State) (m : CohMsg) (k : CohKind) : State :=
  let m' : CohMsg := { m with kind := k }
  if s.homeFull m.line then s
  else s.letIn m k <|
    let t := (s.recv m').request m'
    if t.stashReady m.line then t.settle m.line else t

/-- RD_S (R208). -/
def execRdS (m : CohMsg) (s : State) : Host.Outcome State Fault Refusal :=
  within "agent" m.agent 509 <| done s (s.homeRequest m .rdS)
/-- RD_X (R208). -/
def execRdX (m : CohMsg) (s : State) : Host.Outcome State Fault Refusal :=
  within "agent" m.agent 509 <| done s (s.homeRequest m .rdX)
/-- UPG (R208). -/
def execUpg (m : CohMsg) (s : State) : Host.Outcome State Fault Refusal :=
  within "agent" m.agent 509 <| done s (s.homeRequest m .upg)
/-- RD_U (R211). -/
def execRdU (m : CohMsg) (s : State) : Host.Outcome State Fault Refusal :=
  within "agent" m.agent 509 <| done s (s.homeRequest m .rdU)
/-- PEEK (R214). -/
def execPeek (m : CohMsg) (s : State) : Host.Outcome State Fault Refusal :=
  within "agent" m.agent 509 <| done s (s.homeRequest m .peek)
/-- WR_U (R211). -/
def execWrU (m : CohMsg) (s : State) : Host.Outcome State Fault Refusal :=
  within "agent" m.agent 509 <| done s (s.homeRequest m .wrU)
/-- PUT_M (R208). -/
def execPutM (m : CohMsg) (s : State) : Host.Outcome State Fault Refusal :=
  within "agent" m.agent 509 <| done s (s.letIn m .putM ((s.recv { m with kind := .putM }).put { m with kind := .putM }))
/-- PUT_C (R208). -/
def execPutC (m : CohMsg) (s : State) : Host.Outcome State Fault Refusal :=
  within "agent" m.agent 509 <| done s (s.letIn m .putC ((s.recv { m with kind := .putC }).put { m with kind := .putC }))
/-- SNP_RSP (R209). -/
def execSnpRsp (m : CohMsg) (s : State) : Host.Outcome State Fault Refusal :=
  within "agent" m.agent 509 <| done s (s.letIn m .snpRsp ((s.recv { m with kind := .snpRsp }).snpAnswer { m with kind := .snpRsp }))
/-- STASH_ACC (R209). -/
def execStashAcc (m : CohMsg) (s : State) : Host.Outcome State Fault Refusal :=
  within "agent" m.agent 509 <| done s (s.letIn m .stashAcc ((s.recv { m with kind := .stashAcc }).stashAnswer m true))
/-- STASH_DEC (R209). -/
def execStashDec (m : CohMsg) (s : State) : Host.Outcome State Fault Refusal :=
  within "agent" m.agent 509 <| done s (s.letIn m .stashDec ((s.recv { m with kind := .stashDec }).stashAnswer m false))
/-- STASH_STEP (R213). -/
def execStashStep (line target : Nat) (s : State) : Host.Outcome State Fault Refusal :=
  within "agent" target 384 <| done s (s.stash line target)
/-- AGENT_RECLAIM (R215). -/
def execAgentReclaim (agent : Nat) (s : State) : Host.Outcome State Fault Refusal :=
  within "agent" agent 448 <| done s (s.reclaim agent)
/-- WR_ACK reaches its requester: the write is performed (R211). -/
def execWrAck (m : CohMsg) (s : State) : Host.Outcome State Fault Refusal :=
  within "agent" m.agent 509 <| done s (s.recv { m with kind := .wrAck })

end Sys2Proof.Machine
end

