-- ==== Sys2Proof/Machine/Remote.lean ====
section
/-!
DEFINITION. Sending over Aquifer: routes (R333 to R335), the transmit side of a port (R330), remote requests and their
deadlines (R341, R343), slow notices (R342) and the far cache (R349, R350).
-/

namespace Sys2Proof.Machine

/-- Aquifer port p. -/
def State.port (s : State) (p : Nat) : AqPort := tget (fun _ => {}) s.aq.ports p
/-- Set Aquifer port p. -/
def State.setPort (s : State) (p : Nat) (x : AqPort) : State := { s with aq.ports := tset (fun _ => {}) s.aq.ports p x }

/-- The port a message for module m leaves by (R334); none for unreachable. -/
def State.route (s : State) (m : Nat) : Option Nat :=
  if m / 8 = s.aq.modid / 8 then some ((m % 8 + 16 - s.aq.modid % 8 - 1) % 8)
  else
    let e := bits (s.reg 9 (0x1000 + 8 * (m / 64))) (8 * (m / 8 % 8) + 3) (8 * (m / 8 % 8))
    if e < 12 then some e else none

/-- Kind n of a message (R329): 0 REQ, 1 RSP, 2 CTL, 3 CAT. -/
def mkindNo (k : MKind) : Nat :=
  match k with
  | .rd | .wr | .sync | .reserved => 0
  | .rdr | .wrack | .syncr => 1
  | .barr | .slow | .abort | .cdig => 2
  | .catc | .coll => 3

/-- Virtual channel of a message (R329). -/
def aqVc (m : AqMsg) : Nat := 4 * (m.level % 4) + mkindNo m.kind

/-- 16-byte units of a message: its header and its data (R328, R331). -/
def aqUnits (m : AqMsg) : Nat := 1 + (m.data.length + 15) / 16

/-- Flits that carry a message, 15 units each, none shared with another message (R328). [DEDUCED, log entry 36] -/
def aqFlits (m : AqMsg) : Nat := (aqUnits m + 14) / 15

/-- Units that virtual channel v has in use at the receiver. -/
def AqPort.usedBy (x : AqPort) (v : Nat) : Nat := tget (fun _ => 0) x.used v

/-- Units of the shared 224 KiB in use: what each channel holds beyond its own 2 KiB (R329). -/
def AqPort.shared (x : AqPort) : Nat := ((List.range 16).map (fun v => x.usedBy v - 128)).sum

/-- The credits of a message's channel cover it (R329). -/
def AqPort.credit (x : AqPort) (m : AqMsg) : Bool :=
  decide (x.shared - (x.usedBy (aqVc m) - 128) + (x.usedBy (aqVc m) + (aqUnits m) - 128) ≤ 14336)

/-- Credits return: the receiver has freed units of some channels (R329). -/
def AqPort.credited (x : AqPort) (cs : List (Nat × Nat)) : AqPort :=
  cs.foldl (fun x c => { x with used := tset (fun _ => 0) x.used (c.1 % 16) (x.usedBy (c.1 % 16) - c.2) }) x

/-- The held messages that are the first of their channels. -/
def chanHeads : List Nat → List AqMsg → List AqMsg
  | _, [] => []
  | seen, m :: t => if seen.contains (aqVc m) then chanHeads seen t else m :: chanHeads ((aqVc m) :: seen) t

/-- The message that a port sends next: the first of its channel, with credits; RSP and CTL never wait behind REQ or CAT (R329). -/
def AqPort.next (x : AqPort) : Option AqMsg :=
  let l := (chanHeads [] x.txq).filter x.credit
  (l.find? (fun m => mkindNo m.kind == 1 || mkindNo m.kind == 2)).or l.head?

/-- Send what a port holds, as far as its replay buffer and its credits allow; `out.sent` takes one entry for each flit.
[DEDUCED, log entry 36] -/
def State.flushPort (s : State) (p : Nat) : Nat → State
  | 0 => s
  | k + 1 =>
    let x := s.port p
    match x.next with
    | none => s
    | some m =>
      let n := aqFlits m
      if x.st = 2 ∧ x.unacked.length + n ≤ 512 then
        State.flushPort { s.setPort p { x with
            txq := x.txq.erase m
            txSeq := (x.txSeq + n) % 4096
            unacked := x.unacked ++ (List.range n).map (fun i => ((x.txSeq + i) % 4096, m))
            used := tset (fun _ => 0) x.used (aqVc m) (x.usedBy (aqVc m) + (aqUnits m)) } with
          out.sent := s.out.sent ++ List.replicate n (p, m) } p k
      else s

/-- Hand a message to a port: an UP port sends it when a replay buffer is free and its channel has credits, a port in training
holds it, and one that is DOWN loses it (R326, R329, R330). [DEDUCED, log entry 36] -/
def State.transmit (s : State) (p : Nat) (m : AqMsg) : State :=
  let x := s.port p
  if x.st = 0 then s
  else (s.setPort p { x with txq := x.txq ++ [m] }).flushPort p (x.txq.length + 1)

/-- Send a message of this module toward another (R334). -/
def State.aqSend (s : State) (m : AqMsg) : State :=
  match s.route m.dmod with
  | some p => s.transmit p { m with smod := s.aq.modid }
  | none => s

/-- Make a remote request: none when this module's ID is not valid or no route exists (R332, R334). -/
def State.remote (s : State) (user : RemUser) (timed : Bool) (m : AqMsg) (far : Option (Nat × Nat) := none) :
    Option (State × Nat) :=
  if !s.aq.valid then none
  else
    match s.route m.dmod with
    | none => none
    | some p =>
      let tag := s.aq.nextTag % 65536
      let q : RemReq := ⟨tag, m.dmod, p, m.kind, m.cls, user, s.now, timed, far, m.addr, m.len⟩
      some ({ s with aq.nextTag := tag + 1, aq.reqs := s.aq.reqs ++ [q] }.aqSend { m with tag := tag }, tag)

/-- The outstanding remote request of a tag. -/
def State.req (s : State) (tag : Nat) : Option RemReq := s.aq.reqs.find? (fun r => r.tag == tag)
/-- A remote request is answered or given up. -/
def State.dropReq (s : State) (tag : Nat) : State := { s with aq.reqs := s.aq.reqs.filter (fun r => r.tag != tag) }

/-- expiry[m] (R343). -/
def State.expiry (s : State) (m : Nat) : Nat := tget (fun _ => 0) s.aq.expiry m

/-- Collective group g. -/
def State.group (s : State) (g : Nat) : Group := tget (fun _ => {}) s.aq.groups g
/-- Set collective group g. -/
def State.setGroup (s : State) (g : Nat) (x : Group) : State := { s with aq.groups := tset (fun _ => {}) s.aq.groups g x }
/-- Word w of group g's staged register, active copy. -/
def State.groupReg (s : State) (g w : Nat) : Nat := s.reg 9 (0x2000 + 64 * g + 8 * w)
/-- Group g is armed. -/
def State.armed (s : State) (g : Nat) : Bool := bit (s.groupReg g 0) 32

/-- Trained ports, whose neighbours take slow notices whether or not this module's ID is valid (R332, R342). -/
def State.slowPorts (s : State) : List Nat := (List.range 12).filter (fun p => (s.port p).st == 2)
/-- Modules other than neighbours that a slow notice goes to: the members of armed groups (R342). -/
def State.slowTargets (s : State) : List Nat :=
  (((List.range 1024).filter s.armed).flatMap (fun g => (s.group g).members)).eraseDups.filter
    (fun m => m != s.aq.modid && !s.slowPorts.any (fun p => (s.port p).peer == m))

/-- Send a slow notice: over its own link to each neighbour, and by the routes to the others (R342). -/
def State.slowNotice (s : State) (cause delay : Nat) : State :=
  let note (m : Nat) : AqMsg := { kind := .slow, dmod := m, len := 8, data := toLe 8 (delay + 2 ^ 16 * cause) }
  let t := s.slowPorts.foldl (fun t p => t.transmit p { note (s.port p).peer with smod := s.aq.modid }) s
  s.slowTargets.foldl (fun u m => u.aqSend (note m)) t

/-! ### The far cache -/

/-- FCMAX of a class, in lines. -/
def State.fcmax (s : State) (c : Nat) : Nat := bits (s.reg 8 (0x2808 + 0x40 * c)) 24 16 * 8192
/-- The far cache serves a class (R349). -/
def State.farOn (s : State) (c : Nat) : Bool :=
  bit (s.reg 9 0x20) 31 && s.carve != 0 && decide (c < 15) && s.fcmax c != 0
/-- The epoch cell's present low half (R350). -/
def State.farEpoch (s : State) : Nat :=
  (tget (fun _ => (0 : Word)) s.sync.cells (bits (s.reg 9 0x20) 16 0)).toNat % 2 ^ 32
/-- Lines of the far cache that a class holds. [PRESUMED, log entry 39] -/
def State.farUsed (s : State) (c : Nat) : Nat := (s.aq.far.filter (fun l => l.cls == c)).length
/-- Region and set of a global line number (R349). [PRESUMED, log entry 39] -/
def State.farSet (s : State) (x : Nat) : Nat × Nat := (x % 36, x / 36 % (1024 * s.carve))
/-- Address of the first byte of a line in the carve-out: set k lies in the 1,024 bytes that end 1,024 k bytes below the top of the
region block. [PRESUMED, log entry 39] -/
def FarLine.base (l : FarLine) : Nat :=
  cisternBase + blockBytes * (l.line % 36) + (blockBytes - 1024 * (l.set + 1)) + 128 * l.way
/-- A lookup: the line's data, when its tag is the present epoch. A line with an uncorrectable error is dropped (R349). -/
def State.farLook (s : State) (agent x : Nat) : State × Option Bytes :=
  match s.aq.far.find? (fun l => l.line == x && l.set == (s.farSet x).2 && l.epoch == s.farEpoch) with
  | none => (s, none)
  | some l =>
    let r := s.readGrans agent (s.badGrans l.base 128)
    if r.2 then ({ r.1 with aq.far := r.1.aq.far.erase l }, none) else (r.1, some l.data)
/-- Remove the oldest line that satisfies `p`. -/
def dropOldest (p : FarLine → Bool) : List FarLine → List FarLine
  | [] => []
  | l :: t => if p l then t else l :: dropOldest p t
/-- A line enters a way: its granules are written whole, which clears their errors. -/
def State.farPut (s : State) (far : List FarLine) (l : FarLine) : State :=
  let gs := (List.range 4).map (l.base / 32 + ·)
  State.takeFlip { s with aq.far := far ++ [l], grans := tdrop gs.contains s.grans } gs
/-- Fill a line for a class (R349). [DEDUCED, log entry 28] -/
def State.farFill (s : State) (c x epoch : Nat) (data : Bytes) : State :=
  if !s.farOn c || data.length != 128 then s
  else
    let far := s.aq.far.filter (fun l => l.line != x)
    let q := s.farSet x
    let here (l : FarLine) : Bool := l.line % 36 == q.1 && l.set == q.2
    let into (w : Nat) (rest : List FarLine) : State := s.farPut rest ⟨x, c, epoch, data, q.2, w⟩
    let displace (p : FarLine → Bool) : State :=
      match far.find? p with
      | some l => into l.way (dropOldest p far)
      | none => { s with aq.far := far }
    if s.fcmax c ≤ (far.filter (fun l => l.cls == c)).length then displace (fun l => here l && l.cls == c)
    else
      match (List.range 8).find? (fun w => !far.any (fun l => here l && l.way == w)) with
      | some w => into w far
      | none => displace here
/-- A write of this module updates a held copy (R349). -/
def State.farWrite (s : State) (a : Nat) (b : Bytes) : State :=
  { s with aq.far := s.aq.far.map (fun l =>
      if overlap a b.length (128 * l.line) 128 then
        { l with data := (List.range 128).map (fun i =>
            if a ≤ 128 * l.line + i ∧ 128 * l.line + i < a + b.length then b.getD (128 * l.line + i - a) 0 else l.data.getD i 0) }
      else l) }

end Sys2Proof.Machine
end

