-- ==== Sys2Proof/Machine/Distance.lean ====
section
/-!
DEFINITION. The distance table (R23 to R32): its words, the nominal figures of Table 1.9, and its updates.
-/

namespace Sys2Proof.Machine


/-- Slice ports of region n that are folded (TL_FOLDED). -/
def State.folded (s : State) (n : Nat) : List Nat :=
  (List.range 32).filter (fun p => (s.bond n p 0).st == 1 || (s.bond n p 1).st == 1)

/-- The number with the listed bits set. -/
def bitsOf (l : List Nat) : Nat := (l.map (2 ^ ·)).sum

/-- Clock in MHz of region n. -/
def State.regionMhz (s : State) (n : Nat) : Nat := (s.island (quadOf n)).clk

/-- The numbers from a toward b, both ends included. [DEDUCED, log entry 50] -/
def walk (a b : Nat) : List Nat :=
  if a ≤ b then (List.range (b - a + 1)).map (a + ·) else (List.range (a - b + 1)).map (a - ·)

/-- Regions that traffic crosses from region a to region b: along x first, then along y. [DEDUCED, log entry 50] -/
def regionPath (a b : Nat) : List Nat :=
  (walk (a % 6) (b % 6)).map (fun x => 6 * (a / 6) + x) ++ ((walk (a / 6) (b / 6)).drop 1).map (fun y => 6 * y + b % 6)

/-- One region cycle of region n in ns. [DEDUCED, log entry 50] -/
def State.cyc (s : State) (n : Nat) : Rat := 1000 / (s.regionMhz n : Rat)

/-- Crossing bound of the seam links of a path (R16, R441). [DEDUCED, log entry 50] -/
def State.seams (s : State) : List Nat → Rat
  | a :: b :: t =>
    (if quadOf a ≠ quadOf b ∧ s.regionMhz a ≠ s.regionMhz b then 3 * s.cyc a + 3 * s.cyc b else 0) + s.seams (b :: t)
  | _ => 0

/-- A target: the region where its path leaves the grid, whether a further link follows, its base latency in ns, region
cycles per hop, whether the figure is a round trip, its bandwidth and that of the fully trained target in units of
0.1 GB/s, whether the mesh limits it, and whether it is absent or throttled. -/
structure Target where
  exit : Nat
  extra : Bool
  base : Rat
  perHop : Nat
  round : Bool
  bw : Rat
  full : Rat
  limited : Bool
  absent : Bool
  hot : Bool

/-- Target k for the tile over region n (Tables 1.7 and 1.9). [DEDUCED, log entry 50] -/
def State.target (s : State) (n k : Nat) : Option Target :=
  let x := n % 6
  let y := n / 6
  if k < 36 then
    if k = n then
      let f : Rat := 32 - ((s.folded n).length : Rat) / 2
      some ⟨n, false, 32 * s.cyc n, 0, true, f * 64 * (s.regionMhz n : Rat) / 1000, 32 * 64 * (s.regionMhz n : Rat) / 1000, false, false, false⟩
    else some ⟨k, false, 32 * s.cyc k, 8, true, 0, 0, true, false, false⟩
  else if k < 44 then
    let st := s.stack (k - 36)
    let r : Rat := if st.rate = 0 then 24576 / 10 else if st.rate = 1 then 2048 else 16384 / 10
    some ⟨if k < 40 then 6 * y else 6 * y + 5, true, 90, 8, true, r, 24576 / 10, true, st.halt || st.rate == 3, st.hot⟩
  else if k < 56 then
    let p := s.port (k - 44)
    some ⟨if k < 50 then x else 30 + x, true, 30, 4, false, 200 / (2 ^ (p.rate + p.width) : Nat), 200, false, p.st != 2, false⟩
  else if k < 58 then
    let ps := s.psite (k - 56)
    let m (u : UMod) : Rat :=
      if u.role = 7 ∨ u.width = 3 then 0 else 256 / (if u.width = 1 then 2 else 1) / (if u.rate = 1 then 2 else 1)
    some ⟨if k = 56 then 5 else 30, true, 10, 4, false, (ps.mods.map m).sum, 1024, false, ps.st != 2, false⟩
  else if k = 58 then
    let g : Rat := match s.boot.gen with | 6 => 121 | 5 => 63 | 4 => 31 | 3 => 15 | _ => 0
    some ⟨0, true, 40, 4, false, g * (s.boot.width : Rat) / 16, 121, false, s.boot.width == 0, false⟩
  else if k = 59 then some ⟨35, true, 20, 4, false, 16, 16, false, false, false⟩
  else none

/-- The target entry word k of the tile over region n (Table 1.8). -/
def State.targetWord (s : State) (n k : Nat) : Nat :=
  match s.target n k with
  | none => 0
  | some t =>
    let path := regionPath n t.exit
    let leaving := if t.extra then path else path.dropLast
    let hops := leaving.length
    let lat := t.base + (leaving.map (fun r => (t.perHop : Rat) * s.cyc r)).sum + (if t.round then 2 else 1) * s.seams path
    let slow := (path.map s.regionMhz).foldl min (s.regionMhz n)
    let l : Rat := 1024 * (slow : Rat) / 1000
    let bw := if t.limited then (if k < 36 then l else min t.bw l) else t.bw
    let st := if t.absent then 2 else if t.hot || path.any (fun r => decide (s.regionMhz r < 1600)) then 3
      else if bw < (if t.limited && decide (36 ≤ k) then min t.full l else if t.limited then bw else t.full) then 1 else 0
    hops + 2 ^ 8 * ((4 * lat).ceil.toNat % 2 ^ 16) + 2 ^ 24 * (if t.absent then 0 else bw.floor.toNat % 2 ^ 16) + 2 ^ 40 * st

/-- TL_STATE of logical tile t. -/
def State.tileState (s : State) (t : Nat) : Nat :=
  if (s.tile t).site.isNone then 1 else if (s.tile t).isFenced then 2 else 0

/-- Word j of the block of logical tile t (Tables 1.6 and 1.8, R28). [DEDUCED, log entry 50] -/
def State.blockWord (s : State) (t j : Nat) : Nat :=
  let x := s.tile t
  match x.site with
  | none =>
    if j = 0 then t + 2 ^ 16 * (t / 8) + 2 ^ 24
    else if j = 1 then x.epoch
    else if 8 ≤ j then 0xFF + 2 ^ 8 * 0xFFFF + 2 ^ 40 * 2
    else 0
  | some n =>
    if j = 0 then t + 2 ^ 8 * (n % 6) + 2 ^ 12 * (n / 6) + 2 ^ 16 * (t / 8) + 2 ^ 24 * s.tileState t
    else if j = 1 then x.epoch + 2 ^ 32 * bitsOf (s.folded n)
    else if 8 ≤ j then s.targetWord n (j - 8)
    else 0

/-- DT_SPARE of quadrant q. -/
def State.spareByte (s : State) (q : Nat) : Nat :=
  match s.dist.spares[q]? with
  | some n => n % 6 + 8 * (n / 6) + 64 * b2n (s.dist.spareBad.contains q) + 128 * b2n (s.dist.spareUsed.contains q)
  | none => 0

/-- Word k of the table as the module's state gives it now, but for DT_GEN. -/
def State.tableWord (s : State) (k : Nat) : Nat :=
  if k = 0 then 0
  else if k = 1 then (List.range 4).foldl (fun m q => m + 2 ^ (8 * q) * s.spareByte q) 0
  else if k = 2 then (List.range 4).foldl (fun m q => m + 2 ^ (16 * q) * ((s.island q).clk % 2 ^ 16)) 0
  else if k < 8 then 0
  else s.blockWord ((k - 8) / 72) ((k - 8) % 72)

/-- Words of the distance table. -/
def dtWords : Nat := 2312

/-- Word k of the distance table as it reads; beyond its end it reads zero (R23, R24). -/
def State.dtWord (s : State) (k : Nat) : Word :=
  if k = 0 then BitVec.ofNat 64 (s.dist.gen + 2 ^ 32 + 2 ^ 48 * 32 + 2 ^ 56 * 64)
  else if k < dtWords then tget (fun _ => (0 : Word)) s.dist.words k
  else 0

/-- Owners of the partitions that hold a tile of a mask. [DEDUCED, log entry 19] -/
def State.maskOwners (s : State) (mask : Nat) : List Nat :=
  ((List.range 32).filter (bit mask)).flatMap (fun t => match (s.tile t).part with
    | some p => if s.partValid p then [s.partOwner p] else []
    | none => [])

/-- Word k of the table as an update writes it. -/
def State.freshWord (s : State) (k : Nat) : Word := BitVec.ofNat 64 (s.tableWord k)

/-- Word k of the table would change by an update. -/
def State.staleWord (s : State) (k : Nat) : Bool := s.freshWord k != tget (fun _ => (0 : Word)) s.dist.words k

/-- Logical tiles whose blocks an update changes (R32). -/
def State.staleTiles (s : State) : Nat :=
  bitsOf ((List.range 32).filter (fun t => (List.range 72).any (fun j => s.staleWord (8 + 72 * t + j))))

/-- Some word of the table, DT_GEN apart, would change by an update. -/
def State.stale (s : State) : Bool := (List.range 8).any (fun k => k != 0 && s.staleWord k) || s.staleTiles != 0

/-- Update the table: the changed words, DT_GEN advanced by 2, DISTANCE_UPDATE with the mask of the logical tiles whose
blocks changed, and the notice cells (R30, R32, R310). [DEDUCED, log entry 50] -/
def State.updateTable (s : State) : State :=
  let mask := s.staleTiles
  let words := (List.range dtWords).foldl (fun m k =>
    if k = 0 then m else tset (fun _ => (0 : Word)) m k (s.freshWord k)) s.dist.words
  let gen := (s.dist.gen + 2) % 2 ^ 32
  (({ s with dist.words := words, dist.gen := gen, dist.dirty := false }).raise 0x001 (gen + 2 ^ 32 * mask) (s.maskOwners mask)).notice 0 (fun _ => true)

/-- DISTANCE_TABLE_UPDATE (R30): an update, if a cause of Table 1.10 has come since the last and a word changes by it.
[DEDUCED, log entry 50] -/
def execDistanceTableUpdate (s : State) : Host.Outcome State Fault Refusal :=
  done s (if s.dist.dirty && s.stale then s.updateTable else { s with dist.dirty := false })

end Sys2Proof.Machine
end

