-- ==== Sys2Proof/Machine/MatArith.lean ====
section
/-!
DEFINITION. The arithmetic of the matrix cores (R79 to R97): exact binary numbers, the input formats, block values, FP32
accumulation, catchment words, rounding and output conversion.
-/

namespace Sys2Proof.Machine

/-- The exact number m × 2^e. -/
structure Dy where
  m : Int
  e : Int
  deriving DecidableEq, Repr

/-- m × 2^(e − f) as an integer, for f at most e. -/
def Dy.at (x : Dy) (f : Int) : Int := x.m * ((2 ^ (x.e - f).toNat : Nat) : Int)
/-- Exact sum. -/
def Dy.add (x y : Dy) : Dy := let f := min x.e y.e; ⟨x.at f + y.at f, f⟩
/-- Exact product. -/
def Dy.mul (x y : Dy) : Dy := ⟨x.m * y.m, x.e + y.e⟩

/-- What an element, a product, a block or an accumulator element is worth; `neg` is the sign, of a zero too. -/
inductive Val where
  | nan
  | inf (neg : Bool)
  | fin (neg : Bool) (x : Dy)
  deriving DecidableEq, Repr

/-- The special encodings of a floating-point format: IEEE infinities and NaNs, E4M3's two NaNs, or none. -/
inductive Special where
  | ieee | e4m3 | none
  deriving DecidableEq, Repr

/-- A floating-point format: exponent bits, fraction bits, bias. -/
structure FFmt where
  eb : Nat
  mb : Nat
  bias : Nat
  sp : Special
  deriving DecidableEq, Repr

/-- The formats of Tables 3.2 and 3.3. -/
def fp32 : FFmt := ⟨8, 23, 127, .ieee⟩
def bf16 : FFmt := ⟨8, 7, 127, .ieee⟩
def fp16 : FFmt := ⟨5, 10, 15, .ieee⟩
def e4m3 : FFmt := ⟨4, 3, 7, .e4m3⟩
def e5m2 : FFmt := ⟨5, 2, 15, .ieee⟩
def e2m3 : FFmt := ⟨2, 3, 1, .none⟩
def e3m2 : FFmt := ⟨3, 2, 3, .none⟩
def e2m1 : FFmt := ⟨2, 1, 1, .none⟩

/-- Exponent of the smallest subnormal. -/
def FFmt.emin (f : FFmt) : Int := 1 - (f.bias : Int) - (f.mb : Int)

/-- A number with a sign. -/
def signed (neg : Bool) (q : Nat) (e : Int) : Val := .fin neg ⟨if neg then -(q : Int) else q, e⟩

/-- The value of an encoding (R79). -/
def FFmt.decode (f : FFmt) (v : Nat) : Val :=
  let neg := bit v (f.eb + f.mb)
  let e := bits v (f.eb + f.mb - 1) f.mb
  let q := v % 2 ^ f.mb
  if f.sp = .ieee ∧ e = 2 ^ f.eb - 1 then (if q = 0 then .inf neg else .nan)
  else if f.sp = .e4m3 ∧ e = 15 ∧ q = 7 then .nan
  else if e = 0 then signed neg q f.emin
  else signed neg (2 ^ f.mb + q) (f.emin + e - 1)

/-- The value of one element in an input format code (Table 3.2). -/
def inDecode (code v : Nat) : Val :=
  match code with
  | 0 => bf16.decode v
  | 1 => fp16.decode v
  | 2 | 4 => e4m3.decode v
  | 3 | 5 => e5m2.decode v
  | 6 => e2m3.decode v
  | 7 => e3m2.decode v
  | 8 => e2m1.decode v
  | 9 => .fin (bit v 7) ⟨toInt 8 v, -6⟩
  | _ => .fin (bit v 7) ⟨toInt 8 v, 0⟩

/-- Bits of one element of an input format. -/
def inBits (code : Nat) : Nat :=
  if code ≤ 1 then 16 else if code = 6 ∨ code = 7 then 6 else if code = 8 then 4 else 8
/-- An MX format (R80). -/
def isMx (code : Nat) : Bool := decide (4 ≤ code) && decide (code ≤ 9)
/-- Bytes of K elements (R81). -/
def inBytes (code k : Nat) : Nat := k * inBits code / 8

/-- Element k of a packed row (R81). -/
def element (code : Nat) (row : Bytes) (k : Nat) : Val :=
  let w := inBits code
  inDecode code (le row (k * w / 8) 3 / 2 ^ (k * w % 8) % 2 ^ w)

/-- Operand classes of Table 3.1 (R82): 0 none, 1 F, 2 H, 3 D, 4 I. -/
def opClass (a b : Nat) : Nat :=
  if (a = 0 ∧ b = 0) ∨ (a = 1 ∧ b = 1) then 2
  else if (2 ≤ a ∧ a ≤ 5 ∧ 2 ≤ b ∧ b ≤ 8) ∨ (2 ≤ b ∧ b ≤ 5 ∧ 2 ≤ a ∧ a ≤ 8) then 1
  else if 6 ≤ a ∧ a ≤ 8 ∧ 6 ≤ b ∧ b ≤ 8 then 3
  else if (a = 10 ∧ b = 10) ∨ (a = 9 ∧ b = 9) then 4
  else 0

/-- Product of two elements. -/
def Val.mul : Val → Val → Val
  | .nan, _ => .nan
  | _, .nan => .nan
  | .inf a, .inf b => .inf (a != b)
  | .inf a, .fin b y => if y.m = 0 then .nan else .inf (a != b)
  | .fin a x, .inf b => if x.m = 0 then .nan else .inf (a != b)
  | .fin a x, .fin b y => .fin (a != b) (x.mul y)

/-- Exact sum of two values; a zero sum is −0 when both are −0 (R84, R86). -/
def Val.add : Val → Val → Val
  | .nan, _ => .nan
  | _, .nan => .nan
  | .inf a, .inf b => if a = b then .inf a else .nan
  | .inf a, .fin _ _ => .inf a
  | .fin _ _, .inf b => .inf b
  | .fin a x, .fin b y =>
    let z := x.add y
    .fin (if z.m = 0 then a && b else decide (z.m < 0)) z

/-- A value times 2^k. -/
def Val.scale (v : Val) (k : Int) : Val :=
  match v with
  | .fin n x => .fin n ⟨x.m, x.e + k⟩
  | w => w

/-- Scale exponent of an E8M0 byte; none for NaN (R80). -/
def e8m0 (b : Nat) : Option Int := if b = 0xFF then none else some ((b : Int) - 127)

/-- A value of an integer format has no −0 (R79). -/
def Val.unsignedZero (v : Val) : Val :=
  match v with
  | .fin _ z => if z.m = 0 then .fin false z else v
  | w => w

/-- The block value of 32 pairs of elements and two scales (R83, R84); `int` marks the integer formats, whose zero products are +0. -/
def blockValue (a b : List Val) (sa sb : Nat) (int : Bool := false) : Val :=
  match e8m0 sa, e8m0 sb with
  | some x, some y =>
    (match List.zipWith Val.mul a b with
     | [] => .fin false ⟨0, 0⟩
     | p :: ps => let v := (ps.foldl Val.add p).scale (x + y); if int then v.unsignedZero else v)
  | _, _ => .nan

/-! ### Rounding -/

/-- Rounding modes (Table 3.4); stochastic rounding carries u (R96). -/
inductive Rnd where
  | rne | rtz
  | sr (u : Nat)
  deriving DecidableEq, Repr

/-- The magnitude m × 2^e in units of 2^u, rounded. -/
def roundMag (r : Rnd) (m : Nat) (e u : Int) : Nat :=
  if u ≤ e then m * 2 ^ (e - u).toNat
  else
    let d := 2 ^ (u - e).toNat
    let q := m / d
    let x := m % d
    match r with
    | .rne => if d < 2 * x ∨ (2 * x = d ∧ q % 2 = 1) then q + 1 else q
    | .rtz => q
    | .sr w => if x ≠ 0 ∧ (2 ^ 32 - w) * d ≤ x * 2 ^ 32 then q + 1 else q

/-- A number rounded to an integer. -/
def roundInt (r : Rnd) (x : Dy) : Int :=
  let q : Int := (roundMag r x.m.natAbs x.e 0 : Nat)
  if x.m < 0 then -q else q

/-- The magnitude code of a number in a format whose exponent were unbounded above. -/
def FFmt.code (f : FFmt) (r : Rnd) (x : Dy) : Nat :=
  let m := x.m.natAbs
  if m = 0 then 0
  else
    let u := max f.emin (x.e + (Nat.log2 m : Int) - (f.mb : Int))
    (u - f.emin).toNat * 2 ^ f.mb + roundMag r m x.e u

/-- First magnitude code that is no finite number. -/
def FFmt.top (f : FFmt) : Nat :=
  match f.sp with
  | .ieee => (2 ^ f.eb - 1) * 2 ^ f.mb
  | .e4m3 => 0x7F
  | .none => 2 ^ (f.eb + f.mb)

/-- The sign bit of a format. -/
def FFmt.sign (f : FFmt) (neg : Bool) : Nat := if neg then 2 ^ (f.eb + f.mb) else 0

/-- FP32 bits of a value: overflow becomes infinity and every NaN 0x7FC00000 (R86). -/
def toFp32 : Val → Nat
  | .nan => 0x7FC00000
  | .inf n => fp32.sign n + fp32.top
  | .fin n x => fp32.sign n + min fp32.top (fp32.code .rne x)

/-- RNE(C + V) (R86). -/
def accFp32 (c : Nat) (v : Val) : Nat := toFp32 ((fp32.decode c).add v)

/-! ### Catchment words (R89 to R92); none is the catchment NaN -/

/-- Largest magnitude of an n-bit word. -/
def clampOf (n : Nat) : Int := (2 ^ (n - 1) - 1 : Nat)
/-- Limit an integer to ± the clamp of n bits, and whether that changed it. -/
def clampTo (n : Nat) (i : Int) : Int × Bool :=
  if clampOf n < i then (clampOf n, true) else if i < -clampOf n then (-clampOf n, true) else (i, false)
/-- A word of n bits: −2^(n−1) is the catchment NaN. -/
def wordOf (n v : Nat) : Option Int := if v % 2 ^ n = 2 ^ (n - 1) then none else some (toInt n v)
/-- The bits of a word of n bits. -/
def wordBits (n : Nat) : Option Int → Nat
  | none => 2 ^ (n - 1)
  | some i => ofInt n i

/-- Convert a value in at scale S and width n: the word, and CLAMP (R90). -/
def convIn (n : Nat) (sc : Int) : Val → Option Int × Bool
  | .nan => (none, false)
  | .inf neg => (some (if neg then -clampOf n else clampOf n), true)
  | .fin _ x => let r := clampTo n (roundInt .rne ⟨x.m, x.e - sc⟩); (some r.1, r.2)

/-- Add a contribution to a 128-bit accumulator element: the sum, and OVF (R91). -/
def accCatch (c v : Option Int) : Option Int × Bool :=
  match c, v with
  | some x, some y => let r := clampTo 128 (x + y); (some r.1, r.2)
  | _, _ => (none, false)

/-- Catchment scale of a 9-bit field (R89). -/
def cscale (v : Nat) : Int := toInt 9 v
/-- A catchment scale in range. -/
def cscaleOk (v : Nat) : Bool := decide (-160 ≤ cscale v) && decide (cscale v ≤ 100)

/-! ### Output conversion (R94 to R97) -/

/-- Sticky flags that a conversion or a sum sets. -/
structure MFlags where
  clamp : Bool := false
  ovf : Bool := false
  sat : Bool := false
  nanout : Bool := false
  deriving DecidableEq, Repr

/-- Both sets of flags. -/
def MFlags.or (a b : MFlags) : MFlags := ⟨a.clamp || b.clamp, a.ovf || b.ovf, a.sat || b.sat, a.nanout || b.nanout⟩

/-- Bytes of an output element (Table 3.3). -/
def outBytes (code : Nat) : Nat :=
  match code with
  | 0 | 5 => 4 | 1 | 2 => 2 | 3 | 4 | 6 => 1 | 7 => 8 | _ => 16

/-- Format of a floating-point output code. -/
def outFmt (code : Nat) : FFmt :=
  match code with
  | 0 => fp32 | 1 => bf16 | 2 => fp16 | 3 => e4m3 | _ => e5m2

/-- Canonical NaN of a floating-point output code. -/
def outNan (code : Nat) : Nat :=
  match code with
  | 0 => 0x7FC00000 | 1 => 0x7FC0 | 2 => 0x7E00 | 3 => 0x7F | _ => 0x7E

/-- Convert to a floating-point output (Tables 3.3 and 3.5). -/
def outFloat (code : Nat) (r : Rnd) (sat : Bool) : Val → Nat × MFlags
  | .nan => (outNan code, { nanout := true })
  | .inf n =>
    let f := outFmt code
    if f.sp = .e4m3 then (if sat then (f.sign n + f.top - 1, { sat := true }) else (outNan code, { nanout := true }))
    else (f.sign n + f.top, {})
  | .fin n x =>
    let f := outFmt code
    let c := f.code r x
    if c < f.top then (f.sign n + c, {})
    else if sat ∨ r = .rtz then (f.sign n + f.top - 1, { sat := true })
    else if f.sp = .e4m3 then (outNan code, { nanout := true })
    else (f.sign n + f.top, {})

/-- Convert to an n-bit integer (Table 3.5). -/
def outInt (n : Nat) (r : Rnd) : Val → Nat × MFlags
  | .nan => (0, { nanout := true })
  | .inf neg => (if neg then 2 ^ (n - 1) else 2 ^ (n - 1) - 1, { sat := true })
  | .fin _ x =>
    let i := roundInt r x
    if (2 ^ (n - 1) - 1 : Nat) < i then (2 ^ (n - 1) - 1, { sat := true })
    else if i < -((2 ^ (n - 1) : Nat) : Int) then (2 ^ (n - 1), { sat := true })
    else (ofInt n i, {})

/-- Convert an FP32 element to an output format. -/
def outOfFp32 (code : Nat) (r : Rnd) (sat : Bool) (c : Nat) : Nat × MFlags :=
  let v := fp32.decode c
  if code = 0 then (c, { nanout := v == .nan })
  else if code = 5 then outInt 32 r v
  else if code = 6 then outInt 8 r v
  else outFloat code r sat v

/-- Narrow a sum to an n-bit word (R92): the word, and OVF. -/
def narrow (n : Nat) : Option Int → Option Int × Bool
  | none => (none, false)
  | some i => let r := clampTo n i; (some r.1, r.2)

/-- Convert a catchment sum at scale S to an output format; a floating-point or integer format takes the word of `w` bits
(R92). -/
def outOfCatch (code w : Nat) (sat : Bool) (sc : Int) (c : Option Int) : Nat × MFlags :=
  if code = 7 then let r := narrow 64 c; (wordBits 64 r.1, { ovf := r.2, nanout := c.isNone })
  else if code = 8 then let r := narrow 128 c; (wordBits 128 r.1, { ovf := r.2, nanout := c.isNone })
  else
    let r := narrow w c
    let v : Val := match r.1 with
      | none => .nan
      | some i => .fin (decide (i < 0)) ⟨i, sc⟩
    let o := if code = 5 then outInt 32 .rne v else if code = 6 then outInt 8 .rne v else outFloat code .rne sat v
    (o.1, o.2.or { ovf := r.2 })

/-- One step of the LFSR of R96. -/
def lfsr32 (v : Nat) : Nat := if v % 2 = 1 then (v / 2) ^^^ 0x80200003 else v / 2

end Sys2Proof.Machine
end

