-- ==== Sys2Proof/Machine/Matrix.lean ====
section
/-!
DEFINITION. The matrix cores: the checks of Table 3.13, the matrix commands (R98 to R107), faults (R108 to R110) and the
class-I clock step (R78). The commands of one M-core run one at a time, in queue order; only an MSEND stays in flight.
-/

namespace Sys2Proof.Machine

/-! ### The checks of Table 3.13 -/

/-- A condition, its status, and the byte offset of its field. -/
abbrev FieldCheck := Bool × Status × Nat

/-- The first condition that does not hold. -/
def firstField : List FieldCheck → Option (Status × Nat)
  | [] => none
  | (ok, st, f) :: t => if ok then firstField t else some (st, f)

/-- A field that must be zero. -/
def mustZero (d : Bytes) (off n : Nat) : FieldCheck := (zeroAt d off n, .badField, off)

/-- What the checks need to know of the module: range and permission of a memory access, of a cell, carve-out rule of a
contribution, and a destination core: M-core or V-core, its presence and its fence. -/
structure MEnv where
  range : Nat → Nat → Bool
  perm : AccKind → Nat → Nat → Bool
  cell : Nat → Bool
  cat : Nat → Nat → Bool
  there : Bool → Nat → Status

/-- Destination of an MSEND from M-core i: a V-core by agent, or an M-core by index (R102). [DESIGN CHOICE, log entry 25] -/
def mDest (i dir : Nat) : Option (Bool × Nat) :=
  let r := i / 4 % 4
  let p := i % 4
  match dir with
  | 0 => if p < 3 then some (false, i + 1) else none
  | 1 => if 0 < p then some (false, i - 1) else none
  | 2 => if r < 3 then some (false, i + 4) else none
  | 3 => if 0 < r then some (false, i - 4) else none
  | 4 => if r = 3 then some (true, agentOf (i / 16) (4 + 2 * p)) else none
  | 5 => if r = 3 then some (true, agentOf (i / 16) (5 + 2 * p)) else none
  | _ => none

/-- Bytes of a buffer. -/
def bufBytes : Nat := 262144

/-- Check 2 of Table 3.13. An MNOP has no operands: its bytes from 8 on must be zero, as reserved bytes are.
[DEDUCED, log entry 55] -/
def mCheck2 (i : Nat) (d : Bytes) : List FieldCheck :=
  let b (o : Nat) := le d o 1
  let hdr : List FieldCheck := [
    (decide (b 1 < 4), .badField, 1),
    (bits (b 2) 6 2 == 0, .badField, 2),
    (if bit (b 2) 7 then b 3 != 0 else b 3 == 0, .badField, 3),
    (decide (le d 4 4 < 2 ^ 17) && (bit (b 1) 0 || le d 4 4 == 0), .badField, 4)]
  let small (o : Nat) : FieldCheck := (decide (le d o 4 < 2 ^ 18), .badField, o)
  hdr ++ (match b 0 with
    | 0 => [mustZero d 8 56]
    | 1 =>
      let mx := isMx (bits (b 8) 3 0)
      let my := isMx (bits (b 8) 7 4)
      let cat := bit (b 9) 0
      [(opClass (bits (b 8) 3 0) (bits (b 8) 7 4) != 0, .badField, 8),
       (decide (b 9 < 8) && (cat || !bit (b 9) 2), .badField, 9),
       small 16, small 20, small 24, small 28, small 32, small 36,
       (decide (le d 40 4 < 2 ^ 18) && (mx || le d 40 4 == 0), .badField, 40),
       (decide (le d 44 4 < 2 ^ 18) && (my || le d 44 4 == 0), .badField, 44),
       (mx || le d 48 2 == 0, .badField, 48),
       (my || le d 50 2 == 0, .badField, 50),
       (decide (le d 52 2 < 2 ^ 9) && (cat || le d 52 2 == 0), .badField, 52),
       mustZero d 54 10]
    | 2 => [(decide (b 8 < 3), .badField, 8), mustZero d 9 1, (zeroAt d 22 2, .badField, 16), mustZero d 36 28]
    | 3 =>
      let cat := bit (b 9) 0
      let rnd := bits (b 9) 2 1
      [(decide (b 8 ≤ 8) && (cat || decide (b 8 < 7)), .badField, 8),
       (decide (b 9 < 32) && rnd != 3 && (!cat || rnd == 0) && (!bit (b 9) 4 || decide (7 ≤ b 8)), .badField, 9),
       (decide (le d 14 2 < 2 ^ 9) && (cat || le d 14 2 == 0), .badField, 14),
       small 16, small 20, (zeroAt d 30 2, .badField, 24),
       (if rnd = 2 then le d 36 4 != 0 else le d 36 4 == 0, .badField, 36),
       mustZero d 40 24]
    | 4 =>
      let toV := match mDest i (b 9) with | some (v, _) => v | none => false
      [(decide (b 8 < 3), .badField, 8),
       ((mDest i (b 9)).isSome, .badField, 9),
       (decide (b 10 < 3) && (!toV || b 10 == 0), .badField, 10),
       (decide (b 11 < 4) && (!toV || b 11 == 0), .badField, 11),
       mustZero d 24 40]
    | _ => [(decide (b 8 < 2), .badField, 8), mustZero d 9 3, (decide (le d 12 4 < 2 ^ 17), .badField, 12), mustZero d 24 40])

/-- Bytes of an accumulator element. -/
def accBytes (cat : Bool) : Nat := if cat then 16 else 4

/-- Check 3 of Table 3.13. -/
def mCheck3 (d : Bytes) : List FieldCheck :=
  let b (o : Nat) := le d o 1
  let rng (o lo hi : Nat) : FieldCheck := (decide (lo ≤ le d o 2) && decide (le d o 2 ≤ hi), .range, o)
  [(decide (le d 4 4 < nCells), .range, 4)] ++ (match b 0 with
    | 1 => [rng 10 1 1024, rng 12 1 256,
        (decide (32 ≤ le d 14 2) && decide (le d 14 2 ≤ 8192) && le d 14 2 % 32 == 0, .range, 14),
        (decide (le d 12 2 * accBytes (bit (b 9) 0) ≤ le d 36 4), .range, 36),
        (cscaleOk (le d 52 2), .range, 52)]
    | 2 => [rng 10 1 4096, (decide (32 ≤ le d 12 4) && decide (le d 12 4 ≤ bufBytes), .range, 12),
        (decide (le d 12 4 ≤ le d 32 4), .range, 32)]
    | 3 => [rng 10 1 1024, rng 12 1 256, (cscaleOk (le d 14 2), .range, 14),
        (decide (le d 12 2 * accBytes (bit (b 9) 0) ≤ le d 20 4), .range, 20),
        (decide (le d 12 2 * outBytes (b 8) ≤ le d 32 4), .range, 32)]
    | 4 => [(decide (32 ≤ le d 12 4) && decide (le d 12 4 ≤ bufBytes), .range, 12)]
    | 5 | 6 => [(decide (le d 12 4 < nCells), .range, 12)]
    | _ => [])

/-- Check 4 of Table 3.13. -/
def mCheck4 (d : Bytes) : List FieldCheck :=
  let b (o : Nat) := le d o 1
  let al (o n m : Nat) : FieldCheck := (le d o n % m == 0, .align, o)
  match b 0 with
  | 1 => [al 16 4 8, al 20 4 8, al 24 4 8, al 28 4 8, al 32 4 (accBytes (bit (b 9) 0)), al 36 4 (accBytes (bit (b 9) 0))]
  | 2 => [al 12 4 32, al 16 8 32, al 24 4 32, al 28 4 32, al 32 4 32]
  | 3 => [al 16 4 (accBytes (bit (b 9) 0)), al 20 4 (accBytes (bit (b 9) 0)), al 24 8 (outBytes (b 8)), al 32 4 (outBytes (b 8))]
  | 4 => [al 12 4 32, al 16 4 32, al 20 4 32]
  | _ => []

/-- End of a strided range of rows. -/
def rowsEnd (base rows stride len : Nat) : Nat := base + (rows - 1) * stride + len

/-- Check 5 of Table 3.13. -/
def mCheck5 (i : Nat) (d : Bytes) : List FieldCheck :=
  let b (o : Nat) := le d o 1
  let fits (f e : Nat) : FieldCheck := (decide (e ≤ bufBytes), .range, f)
  match b 0 with
  | 1 =>
    let m := le d 10 2
    let n := le d 12 2
    let k := le d 14 2
    let fa := bits (b 8) 3 0
    let fb := bits (b 8) 7 4
    [fits 16 (rowsEnd (le d 16 4) m (le d 20 4) (inBytes fa k)),
     fits 24 (rowsEnd (le d 24 4) n (le d 28 4) (inBytes fb k)),
     fits 32 (rowsEnd (le d 32 4) m (le d 36 4) (n * accBytes (bit (b 9) 0))),
     fits 40 (if isMx fa then rowsEnd (le d 40 4) m (le d 48 2) (k / 32) else 0),
     fits 44 (if isMx fb then rowsEnd (le d 44 4) n (le d 50 2) (k / 32) else 0)]
  | 2 => [fits 28 (rowsEnd (le d 28 4) (le d 10 2) (le d 32 4) (le d 12 4))]
  | 3 => [fits 16 (rowsEnd (le d 16 4) (le d 10 2) (le d 20 4) (le d 12 2 * accBytes (bit (b 9) 0)))]
  | 4 =>
    let toV := match mDest i (b 9) with | some (v, _) => v | none => false
    [fits 16 (le d 16 4 + le d 12 4), (decide (le d 20 4 + le d 12 4 ≤ if toV then 131072 else bufBytes), .range, 20)]
  | _ => []

/-- Rows of memory a command touches: address and length of each, the kind of access, and the field. -/
def mRows (d : Bytes) : List (Nat × Nat) :=
  match le d 0 1 with
  | 2 => (List.range (le d 10 2)).map (fun r => (le d 16 8 + r * le d 24 4, le d 12 4))
  | 3 => (List.range (le d 10 2)).map (fun r => (le d 24 8 + r * le d 32 4, le d 12 2 * outBytes (le d 8 1)))
  | _ => []

/-- Checks 6 to 8 of Table 3.13. When a memory range and CELL both fail check 7, the memory range comes first.
[DEDUCED, log entry 55] -/
def mCheck6 (e : MEnv) (i : Nat) (d : Bytes) : List FieldCheck :=
  let op := le d 0 1
  let f := if op = 2 then 16 else 24
  let k : AccKind := if op = 2 then .load else .store
  let cat := op == 3 && bit (le d 9 1) 4
  (mRows d).map (fun r => ((if cat then e.cat r.1 r.2 else e.range r.1 r.2), .range, f)) ++
  (mRows d).map (fun r => (e.perm k r.1 r.2, .permission, f)) ++
  (if bit (le d 1 1) 0 then [(e.cell (le d 4 4), .permission, 4)] else []) ++
  (if op = 5 ∨ op = 6 then [(e.cell (le d 12 4), .permission, 12)] else []) ++
  (match op, mDest i (le d 9 1) with
   | 4, some (v, k) => [(e.there v k == .ok, e.there v k, 9)]
   | _, _ => [])

/-- Table 3.13 for a command at M-core i: its first failing check, and the field. -/
def mCheck (e : MEnv) (i : Nat) (d : Bytes) : Option (Status × Nat) :=
  firstField ([(decide (le d 0 1 < 7), Status.badOpcode, 0)] ++ mCheck2 i d ++ mCheck3 d ++ mCheck4 d ++ mCheck5 i d) <|>
  firstField (mCheck6 e i d)

/-- Presence of an MSEND destination: absent, or fenced (Table 13.5). -/
def State.mThere (s : State) (v : Bool) (k : Nat) : Status :=
  if v then (if !s.corePresent k then .absent else if s.coreFenced k then .staleEpoch else .ok)
  else (if !s.mPresent k then .absent else if (s.mc k).stale then .staleEpoch else .ok)

/-- Whether element addresses all lie in the Cistern outside the carve-out (R101) and the retired units (R144). -/
def State.catRange (s : State) (a n : Nat) : Bool :=
  match s.localAddr a with
  | some x => decide (cisternBase ≤ x) && decide (x + n ≤ cisternEnd) && s.outsideCarve x n && s.outsideRetired x n
  | none => false

/-- The environment of the checks of a running M-core's commands. -/
def State.mEnv (s : State) (i : Nat) : MEnv where
  range := s.memRange false
  perm := fun k a n => s.memCheck (.mcore i) k a n != .permission
  cell := fun c => match (s.tile (i / 16)).part with
    | some p => s.regionPart (c / 2048) == some p
    | none => false
  cat := s.catRange
  there := s.mThere

/-! ### Buffers -/

/-- Bytes of buffer k of an M-core. -/
def MCore.read (c : MCore) (k off n : Nat) : Bytes :=
  (List.range n).map (fun j => tget memDefault c.bufs (bufBytes * k + off + j))
/-- Whether a range of a buffer meets an uncorrectable word (R74). -/
def MCore.bad (c : MCore) (k off n : Nat) : Bool :=
  c.errs.any (fun e => decide (2 ≤ e.2.flips.length) && overlap (bufBytes * k + off) n (8 * e.1) 8)
/-- Words of a buffer range with a single-bit error. -/
def MCore.singles (c : MCore) (k off n : Nat) : List Nat :=
  (c.errs.filter (fun e => e.2.flips.length == 1 && overlap (bufBytes * k + off) n (8 * e.1) 8)).map (·.1)
/-- Single-bit errors of some words are corrected and counted (R74). -/
def MCore.fix (c : MCore) (ws : List Nat) : MCore :=
  { c with errs := c.errs.filter (fun e => !ws.contains e.1), ce := c.ce + ws.length }
/-- Write bytes of a buffer: each word gets new check bits. A word written in part is read first (R74). -/
def MCore.write (c : MCore) (k off : Nat) (b : Bytes) : MCore :=
  let lo := bufBytes * k + off
  let part := (c.singles k off b.length).filter (fun w => !(decide (lo ≤ 8 * w) && decide (8 * w + 8 ≤ lo + b.length)))
  { c.fix part with
    bufs := putBytes c.bufs lo b
    errs := c.errs.filter (fun e => !overlap lo b.length (8 * e.1) 8) }
/-- A command of M-core i reads some ranges of its buffers: single-bit errors there are corrected and counted (R74). -/
def State.mFix (s : State) (i : Nat) (rs : List (Nat × Nat × Nat)) : State :=
  rs.foldl (fun t r => t.setMc i ((t.mc i).fix ((t.mc i).singles r.1 r.2.1 r.2.2))) s
/-- Write a buffer of M-core i, through an armed flip (R394). -/
def State.mWrite (s : State) (i k off : Nat) (b : Bytes) : State :=
  let s1 := s.setMc i ((s.mc i).write k off b)
  match s1.armedFlip 4 i with
  | some f => (s1.setMc i { s1.mc i with
      errs := tset (fun _ => {}) (s1.mc i).errs ((bufBytes * k + off) / 8) { flips := f, injected := true } }).clearFlip 4
  | none => s1
/-- Make a range of a buffer undefined (R108). -/
def State.mFree (s : State) (i k off n : Nat) : State :=
  { s.setMc i ((s.mc i).write k off ((List.range n).map (fun j => Config.freeByte (s.free + j)))) with free := s.free + n }

/-! ### Running the head of a queue -/

/-- The head command faults (R108, R109). -/
def State.mFault (s : State) (i : Nat) (c : MCmd) (st : Status) (field : Nat) : State :=
  s.setMc i { s.mc i with faulted := true, waiting := false, code := stCode st, opc := le c.desc 0 1, field := field, seq := c.seq }

/-- A command completes: SIG's addition falls due, and DONE counts it (R107). -/
def State.mFinish (s : State) (i : Nat) (c : MCmd) : State :=
  let x := s.mc i
  s.setMc i { x with
    sigs := if bit (le c.desc 1 1) 0 then x.sigs ++ [le c.desc 4 4] else x.sigs
    done := (x.done + 1) % 2 ^ 32 }

/-- A class-I MMA that reaches the head of the queue of M-core i steps the M-row clock of its tile down (R78). -/
def State.mHead (s : State) (i : Nat) : State :=
  match (s.mc i).queue with
  | [] => s
  | c :: _ =>
    if le c.desc 0 1 = 1 ∧ opClass (bits (le c.desc 8 1) 3 0) (bits (le c.desc 8 1) 7 4) = 4 then
      ({ s with tiles := tset (fun _ => {}) s.tiles (i / 16) { s.tile (i / 16) with classI := true } }).retimeTile (i / 16)
    else s

/-- The head leaves the queue. [DESIGN CHOICE, log entry 25] -/
def State.mPop (s : State) (i : Nat) : State :=
  (s.setMc i { s.mc i with queue := (s.mc i).queue.drop 1, waiting := false }).mHead i

/-- A command is pushed at M-core i (R76). -/
def State.mPush (s : State) (i cls : Nat) (d : Bytes) : State :=
  let x := s.mc i
  (s.setMc i { x with queue := x.queue ++ [⟨d, cls, x.pushes⟩], pushes := (x.pushes + 1) % 2 ^ 32 }).mHead i

/-- Lines of memory that a command touches and that are in a transaction: it waits for them (R77, R204). -/
def State.mBusy (s : State) (d : Bytes) : Bool :=
  let store := le d 0 1 == 3
  !(store && bit (le d 9 1) 4) && (mRows d).any (fun r => !(s.busyLines (s.loc r.1) r.2 store).isEmpty)

/-- How a started command goes on: it has completed, it waits at the head of the queue, or it faults after its start. -/
inductive MEnd where
  | finished
  | waits
  | failed (st : Status)
  deriving DecidableEq, Repr

/-- What a started command does. -/
abbrev MEffect := State × MEnd

/-- Run the head of M-core i when its opcode satisfies `op`: the checks, then the conditions of R104, then the effect `f`.
[DESIGN CHOICE, log entry 25] -/
def State.runHead (s : State) (i : Nat) (op : Nat → Bool) (wait : Bool) (f : MCmd → State → MEffect) : State :=
  let x := s.mc i
  match x.queue with
  | [] => s
  | c :: _ =>
    let d := c.desc
    if !op (le d 0 1) || !s.mPresent i || x.faulted || x.waiting || s.quiesced (i / 16) (i / 4 % 4) then s
    else
      match mCheck (s.mEnv i) i d with
      | some (st, fl) => s.mFault i c st fl
      | none =>
        let n := le d 2 1 % 4
        let cnt := le d 3 1
        if x.lf.getD n 0 < cnt || ((bit (le d 1 1) 1 || wait) && !x.xfers.isEmpty) || s.mBusy d then s
        else
          match f c (s.setMc i { x with lf := x.lf.set n (x.lf.getD n 0 - cnt) }) with
          | (t, .finished) => (t.mPop i).mFinish i c
          | (t, .waits) => t.setMc i { t.mc i with waiting := true }
          | (t, .failed st) => t.mFault i c st 0xFF

/-! ### The commands -/

/-- MNOP (R98); a reserved opcode at the head faults here too (Table 3.7). [DESIGN CHOICE, log entry 25] -/
def execMnop (i : Nat) (s : State) : Host.Outcome State Fault Refusal :=
  within "M-core" i 512 <| done s (s.runHead i (fun o => o == 0 || decide (7 ≤ o)) false (fun _ t => (t, .finished)))

/-- Row m of A or column n of B as elements with its scale bytes. -/
def mRow (c : MCore) (k fmt base stride sbase sstride kk m : Nat) : List Val × List Nat :=
  let row := c.read k (base + m * stride) (inBytes fmt kk)
  ((List.range kk).map (element fmt row),
   if isMx fmt then (c.read k (sbase + m * sstride) (kk / 32)).map (·.toNat) else List.replicate (kk / 32) 0x7F)

/-- The block values of one output element. [DEDUCED, log entry 52] -/
def blockValues (int : Bool) : Nat → List Val → List Val → List Nat → List Nat → List Val
  | 0, _, _, _, _ => []
  | q + 1, a, b, sa, sb =>
    blockValue (a.take 32) (b.take 32) (sa.headD 0) (sb.headD 0) int ::
      blockValues int q (a.drop 32) (b.drop 32) (sa.drop 1) (sb.drop 1)

/-- One FP32 element (R86, R88). -/
def mmaFp32 (zeroc : Bool) (c : Nat) (vs : List Val) : Nat :=
  match zeroc, vs with
  | true, v :: t => t.foldl accFp32 (toFp32 v)
  | _, vs => vs.foldl accFp32 c

/-- One catchment element (R87, R88, R90, R91). -/
def mmaCatch (zeroc wide : Bool) (sc : Int) (c : Option Int) (vs : List Val) : Option Int × MFlags :=
  let n := if wide then 128 else 64
  let add (acc : Option Int × MFlags) (v : Val) : Option Int × MFlags :=
    let w := convIn n sc v
    let r := accCatch acc.1 w.1
    (r.1, acc.2.or { clamp := w.2, ovf := r.2 })
  vs.foldl add (if zeroc then some 0 else c, {})

/-- Record sticky flags (Table 3.14). -/
def State.mFlag (s : State) (i : Nat) (f : MFlags) : State :=
  let x := s.mc i
  s.setMc i { x with clamp := x.clamp || f.clamp, ovf := x.ovf || f.ovf, sat := x.sat || f.sat, nanout := x.nanout || f.nanout }

/-- A command that writes a range meets an uncorrectable word in it: any word when it reads the range too, and with `fresh`
only one that it overwrites in part. -/
def MCore.badOld (c : MCore) (fresh : Bool) (k off n : Nat) : Bool :=
  let lo := bufBytes * k + off
  c.errs.any (fun e => decide (2 ≤ e.2.flips.length) && overlap lo n (8 * e.1) 8 &&
    !(fresh && decide (lo ≤ 8 * e.1) && decide (8 * e.1 + 8 ≤ lo + n)))

/-- The effect of MMA (R83 to R91). -/
def mmaEffect (i : Nat) (cmd : MCmd) (s : State) : MEffect :=
  let d := cmd.desc
  let c := s.mc i
  let fa := bits (le d 8 1) 3 0
  let fb := bits (le d 8 1) 7 4
  let cat := bit (le d 9 1) 0
  let zeroc := bit (le d 9 1) 1
  let wide := bit (le d 9 1) 2
  let m := le d 10 2
  let n := le d 12 2
  let k := le d 14 2
  let w := accBytes cat
  let cb := le d 32 4
  let cs := le d 36 4
  let rowsBad (buf base rows stride len : Nat) : Bool := (List.range rows).any (fun r => c.bad buf (base + r * stride) len)
  let s0 := (s.mHead i).mFix i (((List.range m).map (fun r => (0, le d 16 4 + r * le d 20 4, inBytes fa k))) ++
    ((List.range n).map (fun r => (1, le d 24 4 + r * le d 28 4, inBytes fb k))) ++
    (if zeroc then [] else (List.range m).map (fun r => (2, cb + r * cs, n * w))) ++
    (if isMx fa then (List.range m).map (fun r => (0, le d 40 4 + r * le d 48 2, k / 32)) else []) ++
    (if isMx fb then (List.range n).map (fun r => (1, le d 44 4 + r * le d 50 2, k / 32)) else []))
  if rowsBad 0 (le d 16 4) m (le d 20 4) (inBytes fa k) || rowsBad 1 (le d 24 4) n (le d 28 4) (inBytes fb k)
      || (List.range m).any (fun r => c.badOld zeroc 2 (cb + r * cs) (n * w)) || (isMx fa && rowsBad 0 (le d 40 4) m (le d 48 2) (k / 32))
      || (isMx fb && rowsBad 1 (le d 44 4) n (le d 50 2) (k / 32)) then
    ((List.range m).foldl (fun t r => t.mFree i 2 (cb + r * cs) (n * w)) s0, MEnd.failed .uncorrectable)
  else
    let a := (List.range m).map (mRow c 0 fa (le d 16 4) (le d 20 4) (le d 40 4) (le d 48 2) k)
    let b := (List.range n).map (mRow c 1 fb (le d 24 4) (le d 28 4) (le d 44 4) (le d 50 2) k)
    let rows := (a.zip (List.range m)).map (fun x =>
      let old := c.read 2 (cb + x.2 * cs) (n * w)
      (x.2, (b.zip (List.range n)).map (fun y =>
        let vs := blockValues (opClass fa fb == 4) (k / 32) x.1.1 y.1.1 x.1.2 y.1.2
        if cat then
          let r := mmaCatch zeroc wide (cscale (le d 52 2)) (wordOf 128 (le old (16 * y.2) 16)) vs
          (toLe 16 (wordBits 128 r.1), r.2)
        else (toLe 4 (mmaFp32 zeroc (le old (4 * y.2) 4) vs), ({} : MFlags)))))
    let s1 := rows.foldl (fun t r => t.mWrite i 2 (cb + r.1 * cs) (r.2.map (·.1)).flatten) s0
    (s1.mFlag i ((rows.map (fun r => r.2.map (·.2))).flatten.foldl MFlags.or {}), .finished)

/-- MMA (R83); a class-I command steps the tile's M-row clock down (R78). -/
def execMma (i : Nat) (s : State) : Host.Outcome State Fault Refusal :=
  within "M-core" i 512 <| done s (s.runHead i (· == 1) false (mmaEffect i))

/-- INT8_CLOCK_RESTORE (R78). -/
def execInt8ClockRestore (tile : Nat) (s : State) : Host.Outcome State Fault Refusal :=
  within "tile" tile 32 <| done s ((s.setTile tile { s.tile tile with classI := false }).retimeTile tile)

/-- Status of a started command's memory accesses, but for data errors. -/
def State.mAccess (s : State) (i : Nat) (k : AccKind) (d : Bytes) : Status :=
  firstBad ((mRows d).map (fun r => s.memCheck (.mcore i) k r.1 r.2))

/-- The effect of MLOAD (R100). -/
def mloadEffect (i : Nat) (cmd : MCmd) (s : State) : MEffect :=
  let d := cmd.desc
  let buf := le d 8 1
  let row := le d 12 4
  let place (r : Nat) : Nat := le d 28 4 + r * le d 32 4
  let lost (t : State) (st : Status) : MEffect :=
    ((List.range (le d 10 2)).foldl (fun u r => u.mFree i buf (place r) row) t, .failed st)
  let st := s.mAccess i .load d
  if st ≠ .ok then lost s st
  else
    let r := (List.range (le d 10 2)).foldl (fun (p : State × Bool) j =>
      let q := p.1.cohRead (448 + s.mRegion i) (le d 16 8 + j * le d 24 4) row true cmd.cls
      (q.1.mWrite i buf (place j) q.2.2, p.2 || q.2.1.isSome)) (s, false)
    if r.2 then lost r.1 .uncorrectable else (r.1, .finished)

/-- MLOAD (R100). -/
def execMload (i : Nat) (s : State) : Host.Outcome State Fault Refusal :=
  within "M-core" i 512 <| done s (s.runHead i (· == 2) false (mloadEffect i))

/-- The converted elements of an MSTORE in row-major order: bits and flags. A catchment element is taken as the full 128-bit word
for every output format. [DEDUCED, log entry 55] -/
def mstoreElems (d acc : Bytes) (r : Nat) : List (Nat × MFlags) :=
  let n := le d 12 2
  let ctl := le d 9 1
  let seed := le d 36 4
  let step := (List.range (r * n + 1)).foldl (fun v _ => lfsr32 v) seed
  let conv (j u : Nat) : Nat × MFlags :=
    if bit ctl 0 then outOfCatch (le d 8 1) 128 (bit ctl 3) (cscale (le d 14 2)) (wordOf 128 (le acc (16 * j) 16))
    else
      let rnd : Rnd := match bits ctl 2 1 with | 1 => .rtz | 2 => .sr u | _ => .rne
      outOfFp32 (le d 8 1) rnd (bit ctl 3) (le acc (4 * j) 4)
  ((List.range n).foldl (fun (p : List (Nat × MFlags) × Nat) j => (p.1 ++ [conv j p.2], lfsr32 p.2)) ([], step)).1

/-- The effect of MSTORE (R101). A refused write of a part of a poisoned granule is recorded, and the command goes on (R141). -/
def mstoreEffect (i : Nat) (cmd : MCmd) (s : State) : MEffect :=
  let d := cmd.desc
  let c := s.mc i
  let m := le d 10 2
  let n := le d 12 2
  let o := outBytes (le d 8 1)
  let w := accBytes (bit (le d 9 1) 0)
  let src (r : Nat) : Nat := le d 16 4 + r * le d 20 4
  let dst (r : Nat) : Nat := le d 24 8 + r * le d 32 4
  let cat := bit (le d 9 1) 4
  let lost (t : State) (st : Status) : MEffect :=
    (if cat then t else (List.range m).foldl (fun u r => u.freeRange (dst r) (n * o)) t, .failed st)
  let st := if cat then Status.ok else s.mAccess i .store d
  if st ≠ .ok then lost s st
  else if (List.range m).any (fun r => c.bad 2 (src r) (n * w)) then lost s .uncorrectable
  else
    let rows := (List.range m).map (fun r => (r, mstoreElems d (c.read 2 (src r) (n * w)) r))
    let s1 := (s.mFix i ((List.range m).map (fun r => (2, src r, n * w)))).mFlag i ((rows.map (fun r => r.2.map (·.2))).flatten.foldl MFlags.or {})
    if cat then
      let wide := le d 8 1 == 8
      let k := if wide then 128 else 64
      let cs : List Contrib := (rows.map (fun r => (r.2.zip (List.range n)).map (fun e =>
        (⟨dst r.1 + e.2 * o, 0, wide, false, cscale (le d 14 2), ((wordOf k e.1.1).getD 0), 1, e.1.2.ovf,
          (wordOf k e.1.1).isNone, some (s.mRegion i)⟩ : Contrib)))).flatten
      ({ s1 with mesh.flights := s1.mesh.flights ++ cs }, .finished)
    else
      (rows.foldl (fun (t : State) x =>
        (t.cohWrite (448 + s.mRegion i) (dst x.1) (x.2.map (fun e => toLe o e.1)).flatten none cmd.cls).1) s1, .finished)

/-- MSTORE (R101). -/
def execMstore (i : Nat) (s : State) : Host.Outcome State Fault Refusal :=
  within "M-core" i 512 <| done s (s.runHead i (· == 3) false (mstoreEffect i))

/-- MSEND (R102): the transfer starts; the command completes when it lands. [DESIGN CHOICE, log entry 25] -/
def execMsend (i : Nat) (s : State) : Host.Outcome State Fault Refusal :=
  within "M-core" i 512 <|
  done s <|
    let x := s.mc i
    match x.queue with
    | [] => s
    | c :: rest =>
      let d := c.desc
      if le d 0 1 != 4 || !s.mPresent i || x.faulted || x.waiting || s.quiesced (i / 16) (i / 4 % 4) then s
      else
        match mCheck (s.mEnv i) i d, mDest i (le d 9 1) with
        | some (st, fl), _ => s.mFault i c st fl
        | none, none => s
        | none, some (v, k) =>
          let n := le d 2 1 % 4
          let cnt := le d 3 1
          if x.lf.getD n 0 < cnt || (bit (le d 1 1) 1 && !x.xfers.isEmpty) then s
          else
            let x1 := { x with lf := x.lf.set n (x.lf.getD n 0 - cnt) }
            if x.bad (le d 8 1) (le d 16 4) (le d 12 4) then
              let s1 := s.setMc i x1
              ((if v then s1.freeRange (tcmBase + 0x20000 * k + le d 20 4) (le d 12 4)
                else s1.mFree k (le d 10 1) (le d 20 4) (le d 12 4))).mFault i c .uncorrectable 0xFF
            else
              let data := x.read (le d 8 1) (le d 16 4) (le d 12 4)
              let x2 := x1.fix (x1.singles (le d 8 1) (le d 16 4) (le d 12 4))
              (s.setMc i { x2 with
                queue := rest
                xfers := x1.xfers ++ [⟨c, v, k, le d 10 1, le d 20 4, le d 11 1, data, false⟩] }).mHead i

/-- The oldest transfer of an M-core that can go on: it is the first of its link, but for the links in `held`, and no full flag
counter holds its increment (R106). -/
def State.nextXfer (s : State) (held : List (Bool × Nat)) : List MXfer → Option MXfer
  | [] => none
  | t :: rest =>
    if held.contains (t.toV, t.dst) then s.nextXfer held rest
    else if t.landed && (s.mc t.dst).lf.getD t.lf 0 == 65535 then s.nextXfer ((t.toV, t.dst) :: held) rest
    else some t

/-- A transfer's data reaches its destination (R102). -/
def State.landXfer (s : State) (t : MXfer) : State :=
  if t.landed then s
  else if t.toV then (s.writeTcm false (tcmBase + 0x20000 * t.dst + t.base) t.data).1
  else s.mWrite t.dst t.buf t.base t.data

/-- MSEND_ARRIVE (R102, R106): a transfer lands; a full flag counter holds the increment, and the data behind it on its link.
[DESIGN CHOICE, log entry 25] -/
def execMsendArrive (i : Nat) (s : State) : Host.Outcome State Fault Refusal :=
  within "M-core" i 512 <|
  done s <|
    match s.nextXfer [] (s.mc i).xfers with
    | none => s
    | some t =>
      let u := s.landXfer t
      let x := u.mc i
      let ended := (u.setMc i { x with xfers := x.xfers.erase t }).mFinish i t.cmd
      if t.toV then ended
      else if (u.mc t.dst).lf.getD t.lf 0 = 65535 then
        u.setMc i { x with xfers := x.xfers.map (fun y => if y = t then { y with landed := true } else y) }
      else
        let y := ended.mc t.dst
        ended.setMc t.dst { y with lf := y.lf.set t.lf (y.lf.getD t.lf 0 + 1) }

/-- MSYNC (R103): every earlier command has completed; SET acts at once, ADD is posted (R294). -/
def execMsync (i : Nat) (s : State) : Host.Outcome State Fault Refusal :=
  within "M-core" i 512 <| done s (s.runHead i (· == 5) true (fun c t =>
    let cell := le c.desc 12 4
    let v := BitVec.ofNat 64 (le c.desc 16 8)
    if le c.desc 8 1 = 0 then (t.cellSet cell v, .finished) else (t.postAdd (t.mRegion i) cell v, .finished)))

/-- MWAIT (R103): it completes at once, or waits; a poisoned cell faults it (R294). -/
def execMwait (i : Nat) (s : State) : Host.Outcome State Fault Refusal :=
  within "M-core" i 512 <|
  done s <|
    s.runHead i (· == 6) false (fun c t =>
      match t.register ⟨le c.desc 12 4, le c.desc 8 1, le c.desc 16 8, .mcore i⟩ (t.mRegion i) with
      | (t1, .now _) => (t1, .finished)
      | (t1, .failed) => (t1, .failed .uncorrectable)
      | (t1, .waits) => (t1, .waits))

/-- The wait of an M-core ends (R300): the MWAIT completes, or faults on a poisoned cell (R294). -/
def State.mWake (s : State) (i : Nat) (st : Status) : State :=
  match (s.mc i).queue with
  | [] => s
  | c :: _ =>
    if !(s.mc i).waiting then s
    else if st = .ok then (s.mPop i).mFinish i c
    else s.mFault i c st 0xFF

/-- M_SIG (R107): the oldest SIG addition, once no transfer into a V-core's memory is under way. -/
def execMSig (i : Nat) (s : State) : Host.Outcome State Fault Refusal :=
  within "M-core" i 512 <|
  done s <|
    match (s.mc i).sigs with
    | [] => s
    | c :: rest =>
      if (s.mc i).xfers.any (·.toV) then s
      else (s.setMc i { s.mc i with sigs := rest }).postAdd (s.mRegion i) c 1

end Sys2Proof.Machine
end

