-- ==== Sys2Proof/Machine/Trap.lean ====
section
/-!
DEFINITION. Exceptions and interrupts of the programmable cores (R43, R466), physical memory protection (R40), performance
events (R467), and the checks of a core's memory access (R7, R41, R42, R63, R64, R133, R265).
-/

namespace Sys2Proof.Machine

/-! ### CSRs -/

/-- Set a stored CSR of a core. -/
def Core.setCsr (c : Core) (n v : Nat) : Core := { c with csr := tset (fun _ => (0 : Word)) c.csr n (BitVec.ofNat 64 v) }

/-! ### Exceptions -/

/-- Enter the machine-mode trap handler of S-core a (the RISC-V privileged architecture): mepc, mcause and mtval are
written, mstatus keeps MIE and the mode in MPIE and MPP, and the pc takes mtvec. [DEDUCED, log entry 24] -/
def Core.trap (c : Core) (cause tval : Word) (vec : Nat) : Core :=
  let ms := c.csrv 0x300
  let ms1 := setBits (setBits (setBits ms 7 7 (b2n (bit ms 3))) 3 3 0) 12 11 (if c.umode then 0 else 3)
  let tv := c.csrv 0x305
  { (((((c.setCsr 0x300 ms1).setCsr 0x341 c.pc.toNat).setCsr 0x342 cause.toNat).setCsr 0x343 tval.toNat)) with
    umode := false
    wait := .none
    pc := BitVec.ofNat 64 (tv / 4 * 4 + if tv % 4 = 1 then 4 * vec else 0) }

/-- A V-core stops on an exception (R43). -/
def Core.stopTrapped (c : Core) (code : Nat) (tval : Word) : Core :=
  { c with run := false, stopping := false, wait := .none, trapped := true, vcause := BitVec.ofNat 64 code, vepc := c.pc, vtval := tval }

/-- Core a takes exception `code` (R43). [DEDUCED, log entry 24] -/
def State.exc (s : State) (a code : Nat) (tval : Word) : State :=
  let s1 := s.count a 14
  s1.setCore a (if isScore a then (s1.core a).trap (BitVec.ofNat 64 code) tval 0 else (s1.core a).stopTrapped code tval)

/-- The illegal-instruction exception; its trap value is left open. -/
def State.illegal (s : State) (a : Nat) : State :=
  { s.exc a 2 (Config.freeWord s.free) with free := s.free + 1 }

/-- Code of the access-fault exception of an access kind. -/
def faultCode : AccKind → Nat
  | .load => 5 | .fetch => 1 | _ => 7
/-- Code of the misaligned-address exception. -/
def alignCode : AccKind → Nat
  | .load => 4 | .fetch => 0 | _ => 6
/-- Exception that a status of a memory access becomes on a core: the access fault of its kind, or the hardware error, code
19 (R140, R250, R341, R409). [DEDUCED, log entry 24] -/
def excCode (k : AccKind) (st : Status) : Nat :=
  match st with
  | .uncorrectable | .aborted | .timeout | .staleEpoch | .tempForbidden => 19
  | .align => alignCode k
  | _ => faultCode k

/-! ### Physical memory protection -/

/-- Configuration byte of PMP entry i of S-core g. -/
def pmpCfg (g : Core) (i : Nat) : Nat := bits (g.csrv (0x3A0 + 2 * (i / 8))) (8 * (i % 8) + 7) (8 * (i % 8))
/-- Number of low ones. -/
def lowOnes : Nat → Nat → Nat
  | 0, _ => 0
  | k + 1, v => if v % 2 = 1 then lowOnes k (v / 2) + 1 else 0
/-- Range of PMP entry i, in granules of 128 bytes; empty when the entry is off. -/
def pmpRange (g : Core) (i : Nat) : Nat × Nat :=
  let ad (j : Nat) : Nat := g.csrv (0x3B0 + j)
  match bits (pmpCfg g i) 4 3 with
  | 1 => (if i = 0 then 0 else ad (i - 1) / 32 * 128, ad i / 32 * 128)
  | 3 =>
    let v := ad i ||| 0xF
    let k := lowOnes 54 v
    let lo := v / 2 ^ (k + 1) * 2 ^ (k + 1) * 4
    (lo, lo + 2 ^ (k + 3))
  | _ => (0, 0)
/-- Whether PMP lets core a make an access: the first entry that touches it decides, and must hold it whole. -/
def State.pmpOk (s : State) (a : Nat) (k : AccKind) (addr n : Nat) : Bool :=
  let g := s.core (governor a)
  let addr := s.loc addr
  let user := !isScore a || (s.core a).umode || (bit (g.csrv 0x300) 17 && bits (g.csrv 0x300) 12 11 == 0 && decide (k ≠ .fetch))
  match (List.range 16).find? (fun i => overlap addr n (pmpRange g i).1 ((pmpRange g i).2 - (pmpRange g i).1)) with
  | none => !user
  | some i =>
    let c := pmpCfg g i
    let whole := decide ((pmpRange g i).1 ≤ addr) && decide (addr + n ≤ (pmpRange g i).2)
    whole && ((!user && !bit c 7) || (match k with
      | .load => bit c 0
      | .store => bit c 1
      | .amo => bit c 0 && bit c 1
      | .fetch => bit c 2))

/-! ### Access checks -/

/-- A maintenance operation that an S-core started on a V-core's cache has not completed; the S-core performs no later access until
it has (R222). -/
def State.maintains (s : State) (a : Nat) : Bool :=
  isScore a && (tileAgents (tileOf a)).any (fun v => (s.ctl v).issuer == some a && !(s.ctl v).maint.isEmpty)

/-- Whether a core runs and can execute its next instruction. -/
def State.coreReady (s : State) (a : Nat) : Bool :=
  s.corePresent a && (s.core a).run && decide ((s.core a).wait = .none) && !(s.core a).stopping && !s.coreFenced a &&
    !s.quiesced (tileOf a) (rowPos a).1 && (s.ctl a).acc.isNone &&
    (s.ctl a).maint.isEmpty && !s.maintains a

/-- An instruction of core a: it happens only when the core runs. -/
def State.onCore (s : State) (a : Nat) (f : State → State) : State := if s.coreReady a then f s else s

/-- The core retires its instruction. -/
def State.retire (s : State) (a : Nat) : State := s.setCore a (s.core a).retire
/-- The core writes a register and retires. -/
def State.ret (s : State) (a rd : Nat) (v : Word) : State := s.setCore a (((s.core a).setX rd v).retire)

/-- Where a core's address leads, and how its check ends (R7, R41, R42, R63, R133, R265, R337). [DEDUCED, log entry 55] -/
def State.coreCheck (s : State) (a : Nat) (k : AccKind) (addr n : Nat) : Status :=
  if !s.pmpOk a k addr n then .permission
  else if addr / 128 ≠ (addr + n - 1) / 128 then .align
  else
    match s.place addr with
    | .priv o =>
      let size := if isScore a then 0x10000 else 0x20000
      if o + n ≤ size then .ok
      else if 0x100000 ≤ o ∧ o + n ≤ 0x100040 ∧ k ≠ .fetch ∧ k ≠ .amo ∧ n = 8 ∧ o % 8 = 0 then .ok
      else if 0x200000 ≤ o ∧ o + n ≤ 0x201000 ∧ k ≠ .fetch ∧ k ≠ .amo then .ok
      else .permission
    | .cell i =>
      if n = 8 ∧ addr % 8 = 0 ∧ (k = .load ∨ k = .store) then
        (if s.regionPart (i / 2048) ≠ s.agentPart a then .permission
         else if s.placeResetting addr 8 then .aborted else .ok)
      else .permission
    | .remote _ _ => if (k = .load ∨ k = .store) ∧ addr % n = 0 then .ok else .permission
    | .diag _ => if n = 8 ∧ addr % 8 = 0 ∧ (k = .load ∨ k = .store) then .ok else .permission
    | .tcm _ => if k = .load ∨ k = .store then s.memCheck (.core a) k addr n else .permission
    | .bad => .permission
    | _ => s.memCheck (.core a) k addr n

/-! ### Interrupts (R466) -/

/-- MFAULT: a paired M-core is FAULTED (R109). -/
def State.mfault (s : State) (a : Nat) : Bool :=
  (List.range 4).any (fun r => (s.mc (16 * tileOf a + 4 * r + a % 12)).faulted)
/-- Pending interrupts of S-core a. [DESIGN CHOICE, log entry 6] -/
def State.mipOf (s : State) (a : Nat) : Nat := s.mip a (s.mfault a)
/-- The interrupt that S-core a takes first among those pending and enabled in mie. -/
def State.irqOf (s : State) (a : Nat) : Option Nat :=
  [18, 17, 16, 7].find? (fun n => bit (s.mipOf a) n && bit ((s.core a).csrv 0x304) n)
/-- Whether an enabled interrupt is pending and taken: in user mode, or with mstatus.MIE. -/
def State.irqTaken (s : State) (a : Nat) : Bool :=
  isScore a && (s.irqOf a).isSome && ((s.core a).umode || bit ((s.core a).csrv 0x300) 3)

/-- A remote request of core a that is a wait on a cell (R53). -/
def State.remoteWaits (s : State) (tag : Nat) : Bool :=
  s.aq.reqs.any (fun r => r.tag == tag && (match r.user with | .wait _ _ => true | _ => false))

/-- The core waits in an instruction that has to end by itself: a memory access or a remote operation under way. -/
def State.midway (s : State) (a : Nat) : Bool :=
  match (s.core a).wait with
  | .mem _ _ _ _ => true
  | .remote tag _ => !s.remoteWaits tag
  | _ => false

/-- A wait of a core ends without retiring (R53, R301). -/
def State.endWait (s : State) (a : Nat) : State :=
  match (s.core a).wait with
  | .cell _ rd => (s.cancelWait (.core a rd)).setCore a { s.core a with wait := .none }
  | .remote tag _ => (s.dropReq tag).setCore a { s.core a with wait := .none }
  | .wfi => s.setCore a (s.core a).retire
  | .pfence _ _ => s.setCore a { s.core a with wait := .none }
  | .mem _ _ _ _ => (s.setCore a { s.core a with wait := .none }).setCtl a { s.ctl a with acc := none }
  | .none => s

/-- SCORE_INTERRUPT (R466): the pending and enabled interrupt of the highest order is taken; a wait ends without
retiring, and a WFI ends when an interrupt is pending and enabled in mie, whatever mstatus.MIE holds. -/
def execScoreInterrupt (a : Nat) (s : State) : Host.Outcome State Fault Refusal :=
  within "agent" a 384 <|
  done s <|
    if isScore a && s.corePresent a && (s.core a).run && !s.coreFenced a && s.irqTaken a then
      match s.irqOf a with
      | some n =>
        if s.midway a then s
        else
          let t := s.endWait a
          t.setCore a ((t.core a).trap (BitVec.ofNat 64 (2 ^ 63 + n)) 0 n)
      | none => s
    else if (s.core a).wait = .wfi ∧ (s.irqOf a).isSome then s.retire a
    else s

/-- MACHINE_TIMER (R466): pending while time is at least tlk_mtimecmp. -/
def execMachineTimer (a : Nat) (s : State) : Host.Outcome State Fault Refusal :=
  within "agent" a 384 <|
  done s <|
    if isScore a then s.setCore a { s.core a with mtip := decide ((s.core a).mtimecmp.toNat ≤ s.tick) } else s

/-- WFI (R43, R466): machine mode waits; user mode and a V-core take the illegal-instruction exception. A WFI that finds an
interrupt pending and enabled in mie retires at once. -/
def execWfi (a : Nat) (s : State) : Host.Outcome State Fault Refusal :=
  within "agent" a 384 <|
  done s <|
    s.onCore a fun s =>
      if !isScore a || (s.core a).umode then s.illegal a
      else if (s.irqOf a).isSome then s.retire a
      else s.setCore a { s.core a with wait := .wfi }

end Sys2Proof.Machine
end

