-- ==== Sys2Proof/Machine/Cores.lean ====
section
/-!
DEFINITION. The Xtlk instructions of the programmable cores (R51 to R60), the supervision of V-cores (R43, R44, R49), writes
of tlk_class (R307), and the wake of a waiter (R300).
-/

namespace Sys2Proof.Machine

/-- What a sync-cell operand names (R52): a cell of this module, or one of another. -/
inductive CellRef where
  | here (i : Nat)
  | far (m i : Nat)
  | bad
  deriving DecidableEq, Repr

/-- Read a sync-cell operand (R52). -/
def State.cellRef (s : State) (v : Word) : CellRef :=
  let n := v.toNat
  let i := n % 2 ^ 17
  if nCells ≤ i ∨ bits n 47 17 ≠ 0 ∨ bits n 62 60 ≠ 0 then .bad
  else if bit n 63 then (if bits n 59 48 = s.aq.modid then .here i else .far (bits n 59 48) i)
  else if bits n 59 48 = 0 then .here i
  else .bad

/-- Whether core a may operate on cell i. -/
def State.cellMine (s : State) (a i : Nat) : Bool := s.regionPart (i / 2048) == s.agentPart a

/-- The region below the tile of core a: its vane node (R162). -/
def State.coreNode (s : State) (a : Nat) : Nat := s.nodeOf (tileOf a)

/-- Data of a SYNC message: operation, cell, value, second value (Table 10.5). -/
def syncData (op i : Nat) (x y : Word) : Bytes := toLe 8 op ++ toLe 8 i ++ toLe 8 x.toNat ++ toLe 8 y.toNat

/-- A remote sync-cell operation of core a: it is sent, and the core waits; without a route or a valid ID it takes an
access fault (R332, R334). -/
def State.remoteCell (s : State) (a m i op : Nat) (x y : Word) (user : RemUser) (timed : Bool) (rd : Nat) : State :=
  match s.remote user timed { kind := .sync, cls := (s.core a).cls, dmod := m, len := 32, addr := cellBase + 8 * i, data := syncData op i x y } with
  | some (t, tag) => t.setCore a { t.core a with wait := .remote tag rd }
  | none => s.exc a 7 0

/-- A sync-cell instruction retires with a value for rd, and is counted (R467). -/
def State.cellRet (s : State) (a rd : Nat) (v : Word) : State := (s.count a 9).ret a rd v

/-- A sync-cell instruction of core a on the cell that rs1 names: `f` performs it on a local cell. -/
def State.cellInstr (s : State) (a rs1 : Nat) (f : Nat → State → State) (g : Nat → Nat → State → State) : State :=
  s.onCore a fun s =>
    let v := (s.core a).x rs1
    match s.cellRef v with
    | .bad => s.exc a 7 v
    | .far m i => g m i s
    | .here i =>
      if !s.cellMine a i then s.exc a 7 v
      else if s.placeResetting (cellBase + 8 * i) 8 then s.exc a 19 v
      else f i s

/-- TLK.SSET (R52, R295). -/
def execTlkSset (a rs1 rs2 : Nat) (s : State) : Host.Outcome State Fault Refusal :=
  within "agent" a 384 <|
  done s <|
    s.cellInstr a rs1
      (fun i t => (t.cellSet i ((t.core a).x rs2)).cellRet a 0 0)
      (fun m i t => t.remoteCell a m i 0 ((t.core a).x rs2) 0 (.cell a 0) true 0)

/-- TLK.SADD (R52, R165, R295): with destination x0 and aq clear it is posted. -/
def execTlkSadd (a rd rs1 rs2 : Nat) (aq _rl : Bool) (s : State) : Host.Outcome State Fault Refusal :=
  within "agent" a 384 <|
  done s <|
    s.cellInstr a rs1
      (fun i t =>
        let x := (t.core a).x rs2
        if rd = 0 ∧ !aq then (t.postAdd (t.coreNode a) i x (some a)).cellRet a 0 0
        else match t.cellAdd i x (t.coreNode a) with
          | (u, some v) => u.cellRet a rd v
          | (u, none) => u.exc a 19 ((t.core a).x rs1))
      (fun m i t => t.remoteCell a m i 1 ((t.core a).x rs2) 0 (.cell a rd) true rd)

/-- TLK.SCAS (R52, R295). -/
def execTlkScas (a rd rs1 rs2 rs3 : Nat) (s : State) : Host.Outcome State Fault Refusal :=
  within "agent" a 384 <|
  done s <|
    s.cellInstr a rs1
      (fun i t => match t.cellCas i ((t.core a).x rs2) ((t.core a).x rs3) (t.coreNode a) with
        | (u, some v) => u.cellRet a rd v
        | (u, none) => u.exc a 19 ((t.core a).x rs1))
      (fun m i t => t.remoteCell a m i 2 ((t.core a).x rs2) ((t.core a).x rs3) (.cell a rd) true rd)

/-- A wait of core a on cell i (R53, R298). -/
def State.coreWait (s : State) (a rd rs1 rs2 kind i : Nat) : State :=
  match s.register ⟨i, kind, ((s.core a).x rs2).toNat, .core a rd⟩ (s.coreNode a) with
  | (u, .now v) => u.cellRet a rd v
  | (u, .failed) => u.exc a 19 ((s.core a).x rs1)
  | (u, .waits) => u.setCore a { u.core a with wait := .cell i rd }

/-- TLK.SWGE (R53). -/
def execTlkSwge (a rd rs1 rs2 : Nat) (s : State) : Host.Outcome State Fault Refusal :=
  within "agent" a 384 <|
  done s <|
    s.cellInstr a rs1 (fun i t => t.coreWait a rd rs1 rs2 0 i)
      (fun m i t => t.remoteCell a m i 3 ((t.core a).x rs2) 0 (.wait a rd) false rd)

/-- TLK.SWEQ (R53). -/
def execTlkSweq (a rd rs1 rs2 : Nat) (s : State) : Host.Outcome State Fault Refusal :=
  within "agent" a 384 <|
  done s <|
    s.cellInstr a rs1 (fun i t => t.coreWait a rd rs1 rs2 1 i)
      (fun m i t => t.remoteCell a m i 4 ((t.core a).x rs2) 0 (.wait a rd) false rd)

/-- The lowest trigger slot of S-core a that is free. -/
def State.freeSlot (s : State) (a : Nat) : Option Nat :=
  (List.range 8).find? (fun n => (tget (fun _ => none) (s.core a).slots n).isNone)
/-- Arm or free a trigger slot. -/
def State.setSlot (s : State) (a n : Nat) (x : Option Slot) : State :=
  s.setCore a { s.core a with slots := tset (fun _ => none) (s.core a).slots n x }
/-- A trigger slot fires once: its bit of tlk_syncpend is set and the slot is free (R54). -/
def State.fireSlot (s : State) (a n : Nat) : State :=
  let t := s.setSlot a n none
  t.setCore a { t.core a with syncpend := (t.core a).syncpend ||| BitVec.ofNat 8 (2 ^ n) }

/-- TLK.SARM (R54): illegal on a V-core; −1 when all eight slots are armed. -/
def execTlkSarm (a rd rs1 rs2 : Nat) (s : State) : Host.Outcome State Fault Refusal :=
  within "agent" a 384 <|
  done s <|
    if !isScore a then s.onCore a (·.illegal a)
    else
      s.cellInstr a rs1
        (fun i t => match t.freeSlot a with
          | none => t.cellRet a rd (BitVec.allOnes 64)
          | some n =>
            let b := (t.core a).x rs2
            (match t.register ⟨i, 4, b.toNat, .coreArm a n⟩ (t.coreNode a) with
             | (u, .now _) => (u.fireSlot a n).cellRet a rd (BitVec.ofNat 64 n)
             | (u, .failed) => u.exc a 19 ((t.core a).x rs1)
             | (u, .waits) => (u.setSlot a n (some ⟨i, b.toNat⟩)).cellRet a rd (BitVec.ofNat 64 n)))
        (fun m i t => match t.freeSlot a with
          | none => t.cellRet a rd (BitVec.allOnes 64)
          | some n =>
            (match t.remote (.arm a n) false { kind := .sync, cls := (t.core a).cls, dmod := m, len := 32, addr := cellBase + 8 * i, data := syncData 5 i ((t.core a).x rs2) 0 } with
             | some (u, _) => (u.setSlot a n (some ⟨i + 2 ^ 17 * m, ((t.core a).x rs2).toNat⟩)).cellRet a rd (BitVec.ofNat 64 n)
             | none => t.exc a 7 ((t.core a).x rs1)))

/-- Commands that hold a queue entry of M-core i. -/
def State.mDepth (s : State) (i : Nat) : Nat := (s.mc i).queue.length + (s.mc i).xfers.length

/-! ### Pumps -/

/-- Commands that pump p holds. -/
def State.pump (s : State) (p : Nat) : List PCmd := tget (fun _ => []) s.mesh.pumps p
/-- Set the commands that pump p holds. -/
def State.setPump (s : State) (p : Nat) (x : List PCmd) : State :=
  { s with mesh.pumps := tset (fun _ => []) s.mesh.pumps p x }

/-- The pump that a TLK.PUMP selector names: a region pump of the tile's region, or an Aquifer pump (R56). -/
def State.selectPump (s : State) (a sel : Nat) : Option Nat :=
  if sel < 4 then some (4 * s.coreNode a + sel)
  else if 0x100 ≤ sel ∧ sel < 0x10C then some (144 + (sel - 0x100))
  else none

/-- A pump accepts a command (R56, R167). -/
def State.accept (s : State) (p a : Nat) (d : Bytes) : State :=
  let c := s.core a
  let s1 := { s.setPump p (s.pump p ++ [{ id := s.mesh.nextId, desc := d, agent := a, ticket := c.tickets, cls := c.cls }]) with
    mesh.nextId := s.mesh.nextId + 1 }
  s1.setCore a { c with tickets := (c.tickets + 1) % 2 ^ 32, outst := c.outst ++ [c.tickets] }

/-- Tickets that a fence of `v` covers (R57). -/
def fenced (v t : Nat) : Bool := v == 2 ^ 64 - 1 || decide ((v + 2 ^ 32 - t) % 2 ^ 32 < 2 ^ 31)

/-- Take a TLK.PFENCE as far as it goes: when no fenced command is outstanding it retires with the first status of the
fenced commands, in issue order, that is not ST_OK, and those statuses are discarded (R57). -/
def State.pfence (s : State) (a v rd : Nat) : State :=
  let c := s.core a
  if c.outst.any (fenced v) then s.setCore a { c with wait := .pfence v rd }
  else
    let mine := c.stat.filter (fun e => fenced v e.1 && e.2 != .ok)
    let age (e : Nat × Status) : Nat := (c.tickets + 2 ^ 32 - e.1) % 2 ^ 32
    let first := mine.foldl (fun (m : Option (Nat × Status)) e =>
      match m with
      | some b => if age b < age e then some e else m
      | none => some e) none
    let c1 := { c with stat := c.stat.filter (fun e => !fenced v e.1), wait := .none }
    (s.setCore a c1).ret a rd (BitVec.ofNat 64 (match first with | some e => stCode e.2 | none => 0))

/-- TLK.PFENCE (R57). -/
def execTlkPfence (a rd rs1 : Nat) (s : State) : Host.Outcome State Fault Refusal :=
  within "agent" a 384 <| done s (s.onCore a fun s => s.pfence a ((s.core a).x rs1).toNat rd)

/-! ### Distance table, timebase, exit -/

/-- TLK.DTR (R58). -/
def execTlkDtr (a rd rs1 : Nat) (s : State) : Host.Outcome State Fault Refusal :=
  within "agent" a 384 <|
  done s <|
    s.onCore a fun s =>
      let v := (s.core a).x rs1
      if v.toNat % 8 ≠ 0 ∨ 2 ^ 15 ≤ v.toNat then s.exc a 5 v else s.ret a rd (s.dtWord (v.toNat / 8))

/-- TLK.TIME (R59). -/
def execTlkTime (a rd : Nat) (s : State) : Host.Outcome State Fault Refusal :=
  within "agent" a 384 <| done s (s.onCore a fun s => s.ret a rd (BitVec.ofNat 64 s.now))

/-- Stop a V-core at once: tlk_vepc holds the pc, and what it waits for is given up. -/
def State.vHalt (s : State) (v : Nat) : State :=
  if !(s.core v).run then s
  else
    let t := s.endWait v
    t.setCore v { t.core v with run := false, stopping := false, vepc := (t.core v).pc }

/-- Stop a V-core at an instruction boundary: tlk_vepc holds the next pc. A wait ends without retiring; an access or a remote
operation under way ends first (R44). [DEDUCED, log entry 24] -/
def State.vStop (s : State) (v : Nat) : State :=
  if (s.core v).run && s.midway v then s.setCore v { s.core v with stopping := true } else s.vHalt v

/-- The task that runs on a tile. -/
def State.taskOf (s : State) (t : Nat) : Option Task :=
  match (s.tile t).task with
  | some id => s.tasks.find? (fun k => k.id == id)
  | none => none
/-- Change a task. -/
def State.setTask (s : State) (k : Task) : State :=
  { s with tasks := s.tasks.map (fun x => if x.id = k.id then k else x) }

/-- TLK.EXIT (R60): machine mode of an S-core only; its V-cores and itself stop, and the task keeps the exit code. -/
def execTlkExit (a rs1 : Nat) (s : State) : Host.Outcome State Fault Refusal :=
  within "agent" a 384 <|
  done s <|
    s.onCore a fun s =>
      if !isScore a || (s.core a).umode then s.illegal a
      else
        let code := ((s.core a).x rs1).toNat % 2 ^ 32
        let t := (s.vHalt (supervised a false)).vHalt (supervised a true)
        let u := t.setCore a { (t.core a).retire with run := false, exit := some code }
        match u.taskOf (tileOf a) with
        | some k => u.setTask { k with exits := k.exits ++ [(a, code)] }
        | none => u

/-! ### Supervision -/

/-- The V-core that tlk_vsel of S-core a names. -/
def State.vsel (s : State) (a : Nat) : Nat := supervised a (s.core a).vsel

/-- A machine-mode CSR write of S-core a, which then retires; elsewhere the access is illegal (R45, R48). -/
def State.mWriteCsr (s : State) (a : Nat) (f : State → State) : State :=
  s.onCore a fun s => if !isScore a || (s.core a).umode then s.illegal a else (f s).retire a

/-- Set tlk_vctl.RUN (R43, Table 2.6): TRAPPED clears and the V-core runs from tlk_vepc; nothing for an absent or fenced
one (Table 13.5). -/
def State.vRun (s : State) (v : Nat) : State :=
  if !s.corePresent v || s.coreFenced v then s
  else
    let c := s.core v
    if c.run then s.setCore v { c with trapped := false, stopping := false }
    else s.setCore v { c with run := true, trapped := false, pc := c.vepc }

/-- VCORE_RUN (R43). -/
def execVcoreRun (a : Nat) (s : State) : Host.Outcome State Fault Refusal :=
  within "agent" a 384 <| done s (s.mWriteCsr a fun s => s.vRun (s.vsel a))

/-- VCORE_STOP (R44). -/
def execVcoreStop (a : Nat) (s : State) : Host.Outcome State Fault Refusal :=
  within "agent" a 384 <| done s (s.mWriteCsr a fun s => s.vStop (s.vsel a))

/-- VCORE_TRAP (R43): a running V-core stops on an exception. -/
def execVcoreTrap (a code : Nat) (tval : Word) (s : State) : Host.Outcome State Fault Refusal :=
  within "agent" a 384 <| done s (if isScore a then s else s.onCore a fun s => s.exc a code tval)

/-- A write of tlk_class (Table 2.6, R307): class 15, or a class outside the running task's mask, is illegal. -/
def State.writeClass (s : State) (a v : Nat) : State :=
  let c := v % 16
  let ok := match s.taskOf (tileOf a) with
    | some k => bit k.classMask c
    | none => true
  if c = 15 ∨ !ok then s.illegal a else (s.setCore a { s.core a with cls := c }).retire a

/-- TLK_CLASS_WRITE (R307). -/
def execTlkClassWrite (a : Nat) (v : Word) (s : State) : Host.Outcome State Fault Refusal :=
  within "agent" a 384 <| done s (s.onCore a fun s => s.writeClass a v.toNat)

end Sys2Proof.Machine
end

