-- ==== Sys2Proof/Machine/Cells.lean ====
section
/-!
DEFINITION. The operations of the sync units as they reach a cell (R294 to R298), waiters and their wakes (R299 to R301), and
the acknowledgement, resending and ordering of vane messages (R164).
-/

namespace Sys2Proof.Machine

/-- Put a WAKE on its way. [DEDUCED, log entry 29] -/
def State.wake (s : State) (w : Waiter) (v : Word) (st : Status) : State :=
  { s with sync.wakes := s.sync.wakes ++ [⟨w, v, st, 0⟩] }

/-- The result of an operation, for its issuer to read. -/
def State.answer (s : State) (v : Word) (st : Status) : State := { s with out.rdata := v, out.status := st }

/-- Whether a requester may read a cell (R42, R255, R293). -/
def State.mayRead (s : State) (who : Master) (i : Nat) : Bool :=
  match who with
  | .core a => s.cellMine a i
  | .bar4 | .wellkeeper => true
  | .hostPump f _ => f == 0 || s.ownsRegion f (i / 2048)
  | _ => false

/-- CELL_READ (R295). -/
def execCellRead (cell : Nat) (who : Master) (s : State) : Host.Outcome State Fault Refusal :=
  within "cell" cell nCells <|
  done s <|
    if !s.mayRead who cell then s.answer 0 .permission
    else if s.placeResetting (cellBase + 8 * cell) 8 then s.answer 0 .aborted
    else match s.readCell cell (cell / 2048) with
      | (t, some v) => t.answer v .ok
      | (t, none) => t.answer 0 .uncorrectable

/-- CELL_SET (R294, R295). -/
def execCellSet (cell : Nat) (x : Word) (s : State) : Host.Outcome State Fault Refusal :=
  within "cell" cell nCells <|
  done s (if s.placeResetting (cellBase + 8 * cell) 8 then s.answer 0 .aborted else (s.cellSet cell x).answer 0 .ok)

/-- CELL_ADD (R295); a posted ADD returns nothing (R294). -/
def execCellAdd (cell : Nat) (x : Word) (posted : Bool) (s : State) : Host.Outcome State Fault Refusal :=
  within "cell" cell nCells <|
  done s <|
    if posted then s.performAdd cell x (cell / 2048)
    else if s.placeResetting (cellBase + 8 * cell) 8 then s.answer 0 .aborted
    else match s.cellAdd cell x (cell / 2048) with
      | (t, some v) => t.answer v .ok
      | (t, none) => t.answer 0 .uncorrectable

/-- CELL_CAS (R295). -/
def execCellCas (cell : Nat) (e n : Word) (s : State) : Host.Outcome State Fault Refusal :=
  within "cell" cell nCells <|
  done s <|
    if s.placeResetting (cellBase + 8 * cell) 8 then s.answer 0 .aborted
    else match s.cellCas cell e n (cell / 2048) with
      | (t, some v) => t.answer v .ok
      | (t, none) => t.answer 0 .uncorrectable

/-- A wait or an ARM reaches its unit: it is woken at once, or it waits (R298). -/
def State.unitWait (s : State) (e : WaitEnt) : State :=
  if s.placeResetting (cellBase + 8 * e.cell) 8 then s.wake e.w 0 .aborted
  else match s.register e (e.cell / 2048) with
    | (t, .now v) => t.wake e.w v .ok
    | (t, .failed) => t.wake e.w 0 .uncorrectable
    | (t, .waits) => t

/-- CELL_WAIT_GE (R296, R298). -/
def execCellWaitGe (cell : Nat) (b : Word) (w : Waiter) (s : State) : Host.Outcome State Fault Refusal :=
  within "cell" cell nCells <| done s (s.unitWait ⟨cell, 0, b.toNat, w⟩)
/-- CELL_WAIT_EQ (R298). -/
def execCellWaitEq (cell : Nat) (x : Word) (w : Waiter) (s : State) : Host.Outcome State Fault Refusal :=
  within "cell" cell nCells <| done s (s.unitWait ⟨cell, 1, x.toNat, w⟩)
/-- CELL_ARM (R298). -/
def execCellArm (cell : Nat) (b : Word) (w : Waiter) (s : State) : Host.Outcome State Fault Refusal :=
  within "cell" cell nCells <| done s (s.unitWait ⟨cell, 4, b.toNat, w⟩)

/-- WAITER_QUEUED_ENTER (R299): the oldest registration of a region enters the table and is evaluated against the value
then current. -/
def execWaiterQueuedEnter (region : Nat) (s : State) : Host.Outcome State Fault Refusal :=
  within "region" region 36 <|
  done s <|
    match s.sync.queued.find? (fun e => e.cell / 2048 == region) with
    | none => s
    | some e =>
      if 1024 ≤ s.waitUsed region then s
      else
        let t := { s with sync.queued := s.sync.queued.erase e }
        if t.placeResetting (cellBase + 8 * e.cell) 8 then t.wake e.w 0 .aborted
        else match t.readCell e.cell region with
          | (u, none) => u.wake e.w 0 .uncorrectable
          | (u, some v) => if waitHolds e.kind e.bound v then u.wake e.w v .ok else u.tableWait e

/-- WAITER_CANCEL (R301). -/
def execWaiterCancel (w : Waiter) (s : State) : Host.Outcome State Fault Refusal := done s (s.cancelWait w)

/-- Owner of a cell's partition and the physical function receive SYNC_FIRED; `tag` is that of the waiter, with the cell. -/
def State.syncFired (s : State) (fn tag : Nat) : State :=
  match s.host.arms.find? (fun a => a.1 == fn && a.2.1 + 2 ^ 32 * a.2.2.1 == tag) with
  | some a =>
    ({ s with host.arms := s.host.arms.erase a }).raise 0x011 (a.2.2.1 + 2 ^ 32 * a.2.1) (s.regionOwner (a.2.2.1 / 2048))
  | none => s

/-- Answer a sync-cell operation of a remote module or of a partner agent (R303, R368). -/
def State.syncReply (s : State) (port smod tag cls : Nat) (st : Status) (v : Word) : State :=
  let m : AqMsg := { kind := .syncr, cls := cls, dmod := smod, smod := s.aq.modid, tag := tag, status := st, len := 8, data := toLe 8 v.toNat }
  if port < 12 then s.aqSend m else { s with out.sent := s.out.sent ++ [(port, m)] }

/-- How a wait of a waiter ends with a WAKE (R54, R103, R276, R283, R294, R300, R303). [DEDUCED, log entry 29] -/
def State.woken (s : State) (k : Wake) : State :=
  match k.w with
  | .core a rd =>
    (match (s.core a).wait with
     | .cell c r =>
       if r = rd then
         (if k.st = .ok then s.cellRet a rd k.val
          else (s.setCore a { s.core a with wait := .none }).exc a 19 (BitVec.ofNat 64 c))
       else s
     | _ => s)
  | .mcore i => s.mWake i k.st
  | .hostCmd id =>
    (match s.cmd id with
     | some c => s.complete c k.st 0 (if k.st = .ok then k.val.toNat else 0)
     | none => s)
  | .hostHead r =>
    if (s.ring r).headWaits then
      (if k.st = .ok then s.setRing r { s.ring r with headMet := true }
       else match (s.ring r).fetched with
         | d :: _ => s.endHead r d k.st
         | [] => s)
    else s
  | .hostArm fn tag => s.syncFired fn tag
  | .coreArm a n => if (tget (fun _ => none) (s.core a).slots n).isSome then s.fireSlot a n else s
  | .remote smod tag cls => s.syncReply 0 smod tag cls k.st k.val
  | .partner site tag cls => s.syncReply (12 + site) (507 + site) tag cls k.st k.val

/-- WAIT_WAKE (R300): a WAKE that crosses a cancel is discarded (R301). [DEDUCED, log entry 29] -/
def execWaitWake (w : Waiter) (s : State) : Host.Outcome State Fault Refusal :=
  done s <|
    match s.sync.wakes.find? (fun k => k.w == w) with
    | some k => { s with sync.wakes := s.sync.wakes.erase k }.woken k
    | none => s

/-! ### Vane messages -/

/-- Messages of a source and destination that no FLOW_ACK has answered and that their sender has not given up.
[DEDUCED, log entry 27] -/
def State.vaneOpen (s : State) (src dst : Nat) : List VMsg :=
  s.vane.held.filter (fun m => m.src == src && m.dst == dst && !m.arrived && decide (m.tries < 5))

/-- The unacknowledged message of a source, destination and SEQ; a sender has at most 8 under way (R164). -/
def State.vaneFind (s : State) (src dst seq : Nat) : Option VMsg :=
  ((s.vaneOpen src dst).take 8).find? (fun m => m.seq == seq)

/-- Change one held message. -/
def State.vaneSet (s : State) (m m' : VMsg) : State :=
  { s with vane.held := s.vane.held.map (fun x => if x = m then m' else x) }

/-- Perform what may be performed, and forget what is acknowledged and performed. [DEDUCED, log entry 27] -/
def State.vaneRun (s : State) (src dst : Nat) : State :=
  let t := s.drainVane src dst s.vane.held.length
  { t with vane.held := t.vane.held.filter (fun m => !(m.arrived && m.performed)) }

/-- FLOW_ACK (R164): the receiver has the message; it performs it in SEQ order, or holds it in its reorder store of 8.
[DEDUCED, log entry 27] -/
def execFlowAck (src dst seq : Nat) (s : State) : Host.Outcome State Fault Refusal :=
  done s <|
    match s.vaneFind src dst seq with
    | none => s
    | some m =>
      if earlierOpen s.vane.held m ∧ 8 ≤ (s.vane.held.filter (fun x => x.src == src && x.dst == dst && x.arrived)).length then s
      else (s.vaneSet m { m with arrived := true }).vaneRun src dst

/-- Vane node of a waiter: where its WAKE goes (R162). -/
def State.waiterNode (s : State) : Waiter → Nat
  | .core a _ => s.coreNode a
  | .coreArm a _ => s.coreNode a
  | .mcore i => s.mRegion i
  | .partner site _ _ => 41 + site
  | _ => hostNode

/-- VANE_LOST (R164): its type and the two nodes. -/
def State.vaneLost (s : State) (v : VType) (src dst : Nat) : State :=
  s.raise 0x00A (v.code + 2 ^ 4 * src + 2 ^ 10 * dst) [] (if src < 44 then src else mgmtNode)

/-- A POSTED_ADD is given up: a core's instruction ends with exception 19 (R164). [DEDUCED, log entry 27] -/
def State.giveUpAdd (s : State) (m : VMsg) : State :=
  let t := (s.vaneSet m { m with tries := 5 }).vaneLost .postedAdd m.src m.dst
  match m.agent with
  | some a => if (t.core a).run then t.exc a 19 (BitVec.ofNat 64 (cellBase + 8 * m.cell)) else t
  | none => t

/-- A WAKE is given up: its wait ends with ST_TIMEOUT, a core's with exception 19 (R164). [DEDUCED, log entry 27] -/
def State.giveUpWake (s : State) (k : Wake) (src : Nat) : State :=
  let t := { s with sync.wakes := s.sync.wakes.erase k }.vaneLost .wake src (s.waiterNode k.w)
  t.woken { k with val := 0, st := .timeout }

/-- VANE_RESEND (R164): at most four times; then the message is given up and VANE_LOST is raised. The message is the POSTED_ADD
named by its nodes and SEQ, or the WAKE from region `src` to the named waiter. [DEDUCED, log entry 27] -/
def execVaneResend (src dst : Nat) (ref : VaneRef) (s : State) : Host.Outcome State Fault Refusal :=
  done s <|
    match ref with
    | .wake w =>
      (match s.sync.wakes.find? (fun k => k.w == w) with
       | none => s
       | some k =>
         if k.tries < 4 then { s with sync.wakes := s.sync.wakes.map (fun x => if x = k then { k with tries := k.tries + 1 } else x) }
         else s.giveUpWake k src)
    | .add seq =>
      match s.vaneFind src dst seq with
      | none => s
      | some m => if m.tries < 4 then s.vaneSet m { m with tries := m.tries + 1 } else s.giveUpAdd m

/-- VANE_REORDER_RELEASE (R164): a message given up has been missing for 6 microseconds; the later ones go on.
[DEDUCED, log entry 27] -/
def execVaneReorderRelease (src dst vc : Nat) (s : State) : Host.Outcome State Fault Refusal :=
  done s <|
    if vc ≠ 0 then s
    else
      match s.vane.held.find? (fun m => m.src == src && m.dst == dst && !m.performed) with
      | some m =>
        if m.tries = 5 then { s with vane.held := s.vane.held.erase m }.vaneRun src dst else s
      | none => s

end Sys2Proof.Machine
end

