-- ==== Sys2Proof/Machine/Cache.lean ====
section
/-!
DEFINITION. The core cache (R205 to R207, R216 to R225): its answers to snoops, its transitions on accesses and replies,
replacement, prefetch, maintenance, pinning and errors.
-/

namespace Sys2Proof.Machine

/-! ### Values -/

/-- The register value of a load of n bytes. -/
def loadVal (n : Nat) (signed : Bool) (b : Bytes) : Word :=
  let v := ofLe (b.take n)
  if signed then BitVec.ofInt 64 (toInt (8 * n) v) else BitVec.ofNat 64 v

/-- New memory value of an AMO on n bytes (the RISC-V A extension). -/
def amoVal (op : AmoOp) (n old new : Nat) : Nat :=
  let w := 8 * n
  let x := toInt w old
  let y := toInt w new
  let nw := new % 2 ^ w
  match op with
  | .swap => nw
  | .add => (old + nw) % 2 ^ w
  | .xor => old ^^^ nw
  | .and => old &&& nw
  | .or => old ||| nw
  | .min => if x ≤ y then old else nw
  | .max => if x ≤ y then nw else old
  | .minu => if old ≤ nw then old else nw
  | .maxu => if old ≤ nw then nw else old

/-! ### Entries -/

/-- Entry e is pinned. -/
def State.pinned (s : State) (a e : Nat) : Bool := bit (s.ctl a).pin e
/-- An entry may be replaced (R217). -/
def State.eligible (s : State) (a e : Nat) : Bool :=
  !s.pinned a e && !bit (s.ctl a).off e && (match (s.cent a e).st with | .is | .im | .sm | .wb | .wbx => false | _ => true)
/-- The lowest-numbered eligible invalid entry. -/
def State.invalidEnt (s : State) (a : Nat) : Option Nat :=
  (List.range 48).find? (fun e => s.eligible a e && decide ((s.cent a e).st = .i))
/-- One step of the replacement LFSR (R217). -/
def lfsr16 (v : Nat) : Nat := if v % 2 = 1 then (v / 2) ^^^ 0xB400 else v / 2

/-! ### Snoops (Table 6.5) -/

/-- The answer of a cache to a snoop. -/
def State.snpRsp (s : State) (a x : Nat) (r : SnpResult) (data : Option Bytes) (cancel : Option Nat) : State :=
  (s.count a 6).send {
    kind := .snpRsp, line := x, agent := a, result := r, hasData := data.isSome, data := data.getD [],
    cancel := cancel.isSome, tag := cancel.getD 0 }

/-- Line data that a cache forwards to the requester named in a snoop; a CXL agent takes S in place of F (R369). -/
def State.forward (s : State) (m : CohMsg) (st : CState) (c : CacheEnt) : State :=
  s.send { kind := .dataR, line := m.line, agent := m.req, st := if st = .f ∧ s.cxl m.req then .s else st, data := c.data, off := m.off, len := m.len }

/-- A snoop that the home never sends in this state: MISS and COHERENCE_ERR. -/
def State.never (s : State) (m : CohMsg) : State := (s.snpRsp m.agent m.line .miss none none).cohErr m.agent m.line

/-- A forwarding snoop meets the valid entry e of a cache (Table 6.5); a line with an uncorrectable byte is not forwarded
(R212). -/
def State.snoopEnt (s : State) (e : Nat) (m : CohMsg) : State :=
  let a := m.agent
  let read : Bool := match (s.cent a e).st with | .m | .e | .f | .wb => true | .sm => (s.cent a e).wasF | _ => false
  let k := if read then ((s.cent a e).singles 0 128).length else 0
  let c := if read then (s.cent a e).fixed 0 128 else s.cent a e
  let s := if read then s.setCent a e c else s
  State.tallyCe (a := a) (e := e) (k := k) <|
  let cc := if c.st = .wb then some e else none
  let dd := if c.dirty then some c.data else none
  if c.bad 0 128 ∧ c.st ≠ .s ∧ c.st ≠ .i ∧ c.st ≠ .wbx ∧ c.st ≠ .is ∧ c.st ≠ .im ∧ (c.st ≠ .sm ∨ c.wasF) then
    let s1 := (s.cacheErr a e (if c.st = .m ∨ (c.st = .wb ∧ c.dirty) then 3 else 2)).leave a c.line
    ((s1.setCent a e (match c.st with
      | .wb => { c with st := .wbx }
      | .sm => { c with st := .im, wasF := false }
      | _ => {})).count a 6).send
      { kind := .snpRsp, line := m.line, agent := a, result := .ack, hasData := true, data := c.data, poison := true, len := c.badMask,
        cancel := cc.isSome, tag := cc.getD 0 }
  else
    match c.st, m.kind with
    | .m, .snpS => (((s.forward m .f c).snpRsp a m.line .fwd (some c.data) none).leave a m.line).setCent a e { c with st := .s }
    | .m, .snpX => (((s.forward m .m c).snpRsp a m.line .fwd none none).leave a m.line).setCent a e {}
    | .m, .snpU => ((s.forward m .i c).snpRsp a m.line .fwd (some c.data) none).setCent a e { c with st := .e }
    | .m, _ => (s.forward m .i c).snpRsp a m.line .fwd none none
    | .e, .snpS => (((s.forward m .f c).snpRsp a m.line .fwd none none).leave a m.line).setCent a e { c with st := .s }
    | .e, .snpX => (((s.forward m .e c).snpRsp a m.line .fwd none none).leave a m.line).setCent a e {}
    | .e, _ => (s.forward m .i c).snpRsp a m.line .fwd none none
    | .f, .snpS => ((s.forward m .f c).snpRsp a m.line .fwd none none).setCent a e { c with st := .s }
    | .f, .snpX => s.never m
    | .f, _ => (s.forward m .i c).snpRsp a m.line .fwd none none
    | .sm, .snpX => s.never m
    | .sm, .snpS =>
      if c.wasF then ((s.forward m .f c).snpRsp a m.line .fwd none none).setCent a e { c with wasF := false } else s.never m
    | .sm, _ => if c.wasF then (s.forward m .i c).snpRsp a m.line .fwd none none else s.never m
    | .wb, .snpS => ((s.forward m .f c).snpRsp a m.line .fwd dd cc).setCent a e { c with st := .wbx }
    | .wb, .snpX => ((s.forward m (if c.dirty then .m else .e) c).snpRsp a m.line .fwd none cc).setCent a e { c with st := .wbx }
    | .wb, .snpU => ((s.forward m .i c).snpRsp a m.line .fwd dd cc).setCent a e { c with st := .wbx }
    | .wb, _ => (s.forward m .i c).snpRsp a m.line .fwd none none
    | .s, _ => s.never m
    | .wbx, _ => s.snpRsp a m.line .miss none none
    | .i, _ => s.snpRsp a m.line .miss none none
    | .is, _ => s
    | .im, _ => s

/-- A forwarding snoop is deferred: its line awaits data, or an LR holds it (R207). -/
def State.defers (s : State) (a x : Nat) : Bool :=
  (match s.findEnt a x with
   | some e => (match (s.cent a e).st with | .is | .im => true | _ => false)
   | none => false) || (s.ctl a).lrHold == some x

/-- A forwarding snoop reaches a cache. [DESIGN CHOICE, log entry 12] -/
def State.snoopAt (s : State) (m : CohMsg) : State :=
  let a := m.agent
  if s.defers a m.line then s.setCtl a { s.ctl a with deferred := (s.ctl a).deferred ++ [m] }
  else match s.findEnt a m.line with
    | some e => s.snoopEnt e m
    | none => s.snpRsp a m.line .miss none none

/-- INV reaches a cache: it is never deferred (R207). -/
def State.invAt (s : State) (m : CohMsg) : State :=
  let a := m.agent
  let x := m.line
  match s.findEnt a x with
  | none => s.snpRsp a x .miss none none
  | some e =>
    let dirty := decide ((s.cent a e).st = .m) || (decide ((s.cent a e).st = .wb) && (s.cent a e).dirty)
    let k := if dirty then ((s.cent a e).singles 0 128).length else 0
    let c := if dirty then (s.cent a e).fixed 0 128 else s.cent a e
    let s0 := s.leave a x
    State.tallyCe (a := a) (e := e) (k := k) <|
    if c.bad 0 128 ∧ (c.st = .m ∨ (c.st = .wb ∧ c.dirty)) then
      (((s0.cacheErr a e 3).setCent a e (if c.st = .wb then { c with st := .wbx } else {})).count a 6).send
        { kind := .snpRsp, line := x, agent := a, result := .ack, hasData := true, data := c.data, poison := true, len := c.badMask,
          cancel := c.st == .wb, tag := if c.st = .wb then e else 0 }
    else
      match c.st with
      | .m => (s0.snpRsp a x .ack (some c.data) none).setCent a e {}
      | .e | .f | .s => (s0.snpRsp a x .ack none none).setCent a e {}
      | .is => (s0.snpRsp a x .ack none none).setCent a e { c with oneUse := true }
      | .im => s0.snpRsp a x .ack none none
      | .sm => (s0.snpRsp a x .ack none none).setCent a e { c with st := .im }
      | .wb => (s0.snpRsp a x .ack (if c.dirty then some c.data else none) (some e)).setCent a e { c with st := .wbx }
      | .wbx | .i => s0.snpRsp a x .miss none none

/-- Answer the deferred snoops that need not wait any longer. -/
def State.undefer (s : State) (a : Nat) : State :=
  let ms := (s.ctl a).deferred.filter (fun m => !s.defers a m.line)
  ms.foldl (fun t m => t.snoopAt m) (s.setCtl a { s.ctl a with deferred := (s.ctl a).deferred.filter (fun m => s.defers a m.line) })

/-! ### Accesses -/

/-- MRET (the RISC-V privileged architecture): the mode and MIE are those that the trap kept, and the pc takes mepc.
[DEDUCED, log entry 24] -/
def Core.mret (c : Core) : Core :=
  let ms := c.csrv 0x300
  let ms1 := setBits (setBits (setBits ms 3 3 (b2n (bit ms 7))) 7 7 1) 12 11 0
  { c.setCsr 0x300 (if bits ms 12 11 = 3 then ms1 else setBits ms1 17 17 0) with
    umode := bits ms 12 11 != 3
    pc := BitVec.ofNat 64 (c.csrv 0x341) }

/-- Largest vl for a vtype of the V extension with VLEN 1,024 and ELEN 64; 0 for a vtype that it does not support.
[DEDUCED, log entry 24] -/
def vlmax (vt : Nat) : Nat :=
  let sew := 8 * 2 ^ bits vt 5 3
  let m := bits vt 2 0
  if 256 ≤ vt ∨ 3 < bits vt 5 3 ∨ m = 4 then 0
  else if m < 4 then 1024 * 2 ^ m / sew
  else if sew * 2 ^ (8 - m) ≤ 64 then 1024 / 2 ^ (8 - m) / sew else 0

/-- A vset instruction of the V extension: vtype and vl, and vl to rd. Where the extension leaves vl open, between half of AVL and
VLMAX, it is a free value. Bit 63 of the stored vtype is the inverse of vill. [DEDUCED, log entry 24] -/
def State.vset (s : State) (a rd vt : Nat) (avl : Option Nat) : State :=
  let top := vlmax vt
  let want := avl.getD top
  let half := (want + 1) / 2
  let vl := if want ≤ top then want else if 2 * top ≤ want then top else half + Config.freeNat s.free % (top + 1 - half)
  let c := s.core a
  let c1 := if top = 0 then (c.setCsr 0xC20 0).setCsr 0xC21 0 else (c.setCsr 0xC20 vl).setCsr 0xC21 (2 ^ 63 + vt)
  { s with free := s.free + 1 }.setCore a (((c1.setX rd (BitVec.ofNat 64 (c1.csrv 0xC20)))).retire)

/-- Whether a word under the custom-0 or custom-1 opcode is an encoding of Table 2.7 (R51). -/
def xtlkWord (w : Nat) : Bool :=
  let f3 := bits w 14 12
  let f7 := bits w 31 25
  if bits w 6 0 = 0x0B then
    (match f3 with
     | 0 => decide (f7 < 8) || f7 == 8 || f7 == 12 || f7 == 16
     | 1 => true
     | 2 | 3 | 4 => f7 == 0
     | _ => false)
  else decide (f3 < 3) && f7 == 0

/-- An instruction that has been fetched takes effect at once where no command of its own stands for it: ECALL, EBREAK, MRET,
FENCE.I and the vset instructions, as the RISC-V architecture says, and a word that Xtlk reserves, which is illegal (R43, R51,
R468). [DEDUCED, log entry 24] -/
def State.runFetched (s : State) (a : Nat) : State :=
  let c := s.core a
  let w := c.fetched
  let op := bits w 6 0
  if w = 0x73 then s.exc a (if isScore a && !c.umode then 11 else 8) 0
  else if w = 0x100073 ∨ w = 0x9002 then s.exc a 3 c.pc
  else if w = 0x30200073 then (if isScore a && !c.umode then s.setCore a c.mret else s.illegal a)
  else if op = 0x0F ∧ bits w 14 12 = 1 then s.setCore a { c with kept := none }.retire
  else if (op = 0x0B ∨ op = 0x2B) ∧ !xtlkWord w then s.illegal a
  else if op = 0x57 ∧ bits w 14 12 = 7 then
    (if isScore a then s.illegal a
     else
       let rd := bits w 11 7
       let rs1 := bits w 19 15
       let avl : Option Nat := if rs1 ≠ 0 then some (c.x rs1).toNat else if rd ≠ 0 then none else some (c.csrv 0xC20)
       if bit w 31 = false then s.vset a rd (bits w 30 20) avl
       else if bits w 31 30 = 3 then s.vset a rd (bits w 29 20) (some rs1)
       else if bits w 31 25 = 0x40 then s.vset a rd (c.x (bits w 24 20)).toNat avl
       else s.illegal a)
  else s

/-- A core's fetch takes a half instruction (R468): the second half follows when the first says so. -/
def State.fetched (s : State) (a : Nat) (half v : Nat) : State × Option Nat :=
  let c := s.core a
  if half = 1 then
    if v % 4 = 3 then (s.setCore a { c with fetched := v, wait := .none }, some (c.pc.toNat + 2))
    else ((s.setCore a { c with fetched := v, wait := .none }).runFetched a, none)
  else ((s.setCore a { c with fetched := c.fetched + 2 ^ 16 * v, wait := .none }).runFetched a, none)

/-- The vector registers with bytes put at byte `off` of the group from register rd on (VLEN 1,024). -/
def putVec (vr : Tab Nat) (rd off : Nat) (b : Bytes) : Tab Nat :=
  ((List.range b.length).zip b).foldl (fun t e =>
    let k := off + e.1
    let r := (rd + k / 128) % 32
    tset (fun _ => 0) t r (setBits (tget (fun _ => 0) t r) (8 * (k % 128) + 7) (8 * (k % 128)) e.2.toNat)) vr

/-- n bytes from byte `off` of the group from vector register vs on. -/
def getVec (vr : Tab Nat) (vs off n : Nat) : Bytes :=
  (List.range n).map (fun i =>
    let k := off + i
    BitVec.ofNat 8 (bits (tget (fun _ => 0) vr ((vs + k / 128) % 32)) (8 * (k % 128) + 7) (8 * (k % 128))))

/-- The end of an access whose old bytes are known: the register written, and the bytes to store if any. A store-conditional
without its reservation stores nothing (R41). -/
def State.finish (s : State) (a : Nat) (q : Acc) (old : Bytes) : State × Option Bytes :=
  let x := s.loc q.addr / 128
  let c := s.core a
  match q.op with
  | none =>
    if q.fetch = 3 then (s.setCore a { c with wait := .none }, none)
    else if q.fetch ≠ 0 then ((s.fetched a q.fetch (ofLe (old.take q.size))).1, none)
    else
      (match q.vec with
       | some off => (s.setCore a ({ c with vr := putVec c.vr q.rd off (old.take q.size) }.step q.val), none)
       | none => (s.ret a q.rd (loadVal q.size q.signed old), none))
  | some (.vector vs off _) => (s.setCore a (c.step q.val), some (getVec c.vr vs off q.size))
  | some .write => (s.retire a, some (toLe q.size q.val.toNat))
  | some (.amo op rd) => (s.ret a rd (loadVal q.size true old), some (toLe q.size (amoVal op q.size (ofLe (old.take q.size)) q.val.toNat)))
  | some (.lr rd) =>
    let t := s.setCore a { c with resv := some x }
    ((t.setCtl a { t.ctl a with lrHold := some x }).ret a rd (loadVal q.size true old), none)
  | some (.sc rd) =>
    let t := (s.setCore a { c with resv := none }).setCtl a { s.ctl a with lrHold := none }
    if c.resv = some x then (t.ret a rd 0, some (toLe q.size q.val.toNat)) else (t.ret a rd 1, none)

/-- Whether an access reads the bytes it names: all but stores and store-conditionals. -/
def Acc.reads (q : Acc) : Bool :=
  match q.op with | some .write | some (.sc _) | some (.vector _ _ _) => false | _ => true

/-- Perform an access on entry e, which has the right to it (Table 6.6, R224). -/
def State.hit (s : State) (a e : Nat) (q : Acc) : State :=
  let off := s.loc q.addr % 128
  let k := if q.reads then ((s.cent a e).singles off q.size).length else 0
  let c := if q.reads then (s.cent a e).fixed off q.size else s.cent a e
  let s := s.setCent a e c
  let s00 := s.setCtl a { s.ctl a with acc := none }
  let s0 := if (s.ctl a).acc.isNone then s00.count a 2 else s00
  match s0.finish a q ((c.data.drop off).take q.size) with
  | (t, none) => ((if q.op.isSome then t.setCent a e { t.cent a e with st := .m } else t).tallyCe a e k).undefer a
  | (t, some b) =>
    let fl := c.flips.filter (fun f => !(decide (off ≤ f / 13) && decide (f / 13 < off + b.length)))
    let t1 := t.breakResv c.line a
    let t2 := match t1.armedFlip 2 a with
      | some f => (t1.setCent a e { c with st := .m, data := putAt c.data off b, flips := fl ++ f.map (· + 104 * (off / 8)) }).clearFlip 2
      | none => t1.setCent a e { c with st := .m, data := putAt c.data off b, flips := fl }
    (t2.tallyCe a e k).undefer a

/-- The core waits for an access. -/
def State.stall (s : State) (a : Nat) (q : Acc) : State :=
  (s.setCtl a { s.ctl a with acc := some q }).setCore a { s.core a with wait := .mem q.addr q.size q.rd q.signed }

/-- A core's access fails: it ends with an exception. -/
def State.accFail (s : State) (a code : Nat) (q : Acc) : State :=
  ((s.setCtl a { s.ctl a with acc := none }).setCore a { s.core a with wait := .none }).exc a code (BitVec.ofNat 64 q.addr)

/-- An RD_U or WR_U of core a for line x has not been answered yet. -/
def State.uncOpen (s : State) (a x : Nat) : Bool :=
  let mine (m : CohMsg) : Bool := m.agent == a && m.line == x && m.kind == .rdU
  let back (m : CohMsg) : Bool := m.agent == a && m.line == x && m.st == .i && (m.kind == .dataR || m.kind == .dataM || m.kind == .dataPoison)
  s.coh.waiting.any mine || s.coh.msgs.any (fun m => mine m || back m) ||
    (tkeys s.coh.dir).any (fun i => (s.dirEnt i).req.any mine)

/-- An uncached access to the Cistern, HBM or an alias (R193, R211). A read of a line in a transient state waits behind it at
the home, and the core waits for the reply. -/
def State.uncachedMem (s : State) (a : Nat) (q : Acc) : State :=
  let x := s.loc q.addr
  let store : Bool := match q.op with | some .write | some (.vector _ _ _) => true | _ => false
  if !store && s.uncOpen a (x / 128) then s.stall a q
  else if !store && s.busyLines x q.size q.op.isSome != [] then
    ((s.stall a q).count a 8).request { kind := .rdU, line := x / 128, agent := a, off := x % 128, len := q.size, cls := (s.core a).cls }
  else
    let s0 := (s.setCtl a { s.ctl a with acc := none }).count a 8
    if store then
      (match s0.finish a q [] with
       | (t0, some b) =>
         (match t0.cohWrite a q.addr b with
          | (t, none) => t
          | (t, some _) => (match placeLocal x with
             | .tcm _ => (t.setCore a { t.core a with pc := (s.core a).pc }).accFail a 19 q
             | _ => t))
       | (t0, none) => t0)
    else
      match s0.cohRead a q.addr q.size q.op.isNone with
      | (t, some _, _) => t.accFail a 19 q
      | (t, none, old) =>
        match t.finish a q old with
        | (u, some b) => (u.cohWrite a q.addr b).1
        | (u, none) => u

/-- Misses outstanding in a cache (Table 6.10). -/
def State.missCount (s : State) (a : Nat) : Nat :=
  ((List.range 48).filter (fun e => match (s.cent a e).st with | .is | .im | .sm => true | _ => false)).length

/-- Send the request of a fill and enter IS or IM. -/
def State.sendFill (s : State) (a e x : Nat) (own pf : Bool) : State :=
  ((s.setCent a e { line := x, st := if own then .im else .is, pf := pf }).count a (if pf then 5 else 3)).send
    { kind := if own then .rdX else .rdS, line := x, agent := a, cls := (s.core a).cls }

/-- Choose an entry for line x and start its fill (R217, R218). Without an invalid entry the LFSR steps once; the answer is false
when none is eligible. -/
def State.startFill (s : State) (a x : Nat) (own : Bool) : State × Bool :=
  match s.invalidEnt a with
  | some e => (s.sendFill a e x own false, true)
  | none =>
    let el := (List.range 48).filter (s.eligible a)
    let v := lfsr16 (s.ctl a).lfsr
    let s0 := s.setCtl a { s.ctl a with lfsr := v }
    if el = [] then (s0, false)
    else
      let e := el.getD (v % el.length) 0
      let s1 := s0.evict a e
      if (s1.cent a e).st = .i then (s1.sendFill a e x own false, true)
      else (s1.setCtl a { s1.ctl a with fill := some (e, x, own) }, true)

/-- A cacheable access of core a (Table 6.6): it is performed, or the core waits for its line, or for the write-backs of a
maintenance operation (R222). -/
def State.access (s : State) (a : Nat) (q : Acc) : State :=
  let x := s.loc q.addr / 128
  let own := q.op.isSome
  let off := s.loc q.addr % 128
  if !(s.ctl a).maint.isEmpty then s.stall a q
  else if !(s.ctl a).enable then s.uncachedMem a q
  else
    match s.findEnt a x with
    | some e =>
      let c := s.cent a e
      let reads := q.reads
      (match c.st with
       | .m =>
         if reads ∧ c.bad off q.size then
           (s.writeBack a e true false true).accFail a 19 q
         else s.hit a e q
       | .e | .f | .s =>
         if reads ∧ c.bad off q.size then
           let s1 := (s.cacheErr a e 2).evict a e
           if (s1.cent a e).st = .i then (match s1.startFill a x own with
             | (t, true) => t.stall a q
             | (t, false) => t.uncachedMem a q)
           else s1.stall a q
         else if !own ∨ c.st = .e then s.hit a e q
         else ((s.setCent a e { c with st := .sm, wasF := c.st == .f }).count a 3).send { kind := .upg, line := x, agent := a } |>.stall a q
       | _ => s.stall a q)
    | none =>
      if 8 ≤ s.missCount a ∨ (s.ctl a).fill.isSome then s.stall a q
      else match s.startFill a x own with
        | (t, true) => t.stall a q
        | (t, false) => t.uncachedMem a q

/-- Whether a core's address is cacheable (R193). -/
def State.cacheable (s : State) (addr : Nat) : Bool :=
  match s.place addr with
  | .hbm _ | .cistern _ => true
  | _ => false

/-- The cache of core a holds the line of an address in a stable state, so that an access makes no request. -/
def State.holds (s : State) (a addr : Nat) : Bool :=
  (s.ctl a).enable && (match s.findEnt a (s.loc addr / 128) with
    | some e => (match (s.cent a e).st with | .m | .e | .f | .s => true | _ => false)
    | none => false)

/-- How the check of a cacheable access ends: a halted or offline stack fails only what makes a request to it (R250, R470). -/
def State.coreStatus (s : State) (a : Nat) (k : AccKind) (addr n : Nat) : Status :=
  match s.coreCheck a k addr n with
  | .tempForbidden => if s.holds a addr then .ok else .tempForbidden
  | .absent => if s.holds a addr then .ok else .absent
  | st => st

/-- An uncached store to a halted stack is dropped and counted (R250). -/
def State.lostStore (s : State) (addr : Nat) : State :=
  match s.canon addr with
  | some g =>
    let x := s.chan (chanNo g)
    s.setChan (chanNo g) { x with lostwr := satAdd x.lostwr 1 0xFFFF }
  | none => s

/-! ### Fetches (R468) -/

/-- Where the second half of an instruction follows, once its first half is in. -/
def State.nextHalf (s : State) (a addr half : Nat) : Option Nat :=
  if half = 1 ∧ (s.core a).wait = .none ∧ (s.ctl a).acc.isNone ∧ (s.core a).fetched % 4 = 3 ∧ (s.core a).pc.toNat = addr ∧
    (s.core a).fetched < 2 ^ 16 then some (addr + 2) else none

/-- Fetch a half instruction from the Cistern or HBM (R468): through the cache when it is enabled, else by the kept
granule. -/
def State.fetchMem (s : State) (a addr half : Nat) : State × Option Nat :=
  let q : Acc := { addr := addr, size := 2, op := none, rd := 0, signed := false, val := 0, fetch := half }
  if (s.ctl a).enable then
    let t := s.access a q
    (t, t.nextHalf a addr half)
  else
    let x := s.loc addr
    let g := x / 32
    match (match (s.core a).kept with | some k => if k.1 = g then some k.2 else none | none => none) with
    | some b => s.fetched a half (le b (x % 32) 2)
    | none =>
      if s.busyLines x 2 false != [] then (s.uncachedMem a q, none)
      else match (s.count a 8).cohRead a (addr / 32 * 32) 32 true with
      | (t, some _, _) => (t.exc a 19 (BitVec.ofNat 64 addr), none)
      | (t, none, b) => (t.setCore a { t.core a with kept := some (g, b) }).fetched a half (le b (x % 32) 2)

/-- Fetch a half instruction. The granule kept by an uncached fetch goes when another granule is fetched from. -/
def State.fetchHalf (s : State) (a addr half : Nat) : State × Option Nat :=
  match s.coreCheck a .fetch addr 2 with
  | .ok =>
    let s := if (s.core a).kept.any (fun k => k.1 != s.loc addr / 32) then s.setCore a { s.core a with kept := none } else s
    (match s.place addr with
     | .priv o =>
       (match (s.count a 7).readMem a (tcmBase + 0x20000 * a + o) 2 with
        | (t, some b) => t.fetched a half (ofLe b)
        | (t, none) => (t.exc a 19 (BitVec.ofNat 64 addr), none))
     | .hbm _ | .cistern _ => s.fetchMem a addr half
     | _ => (s.exc a 1 (BitVec.ofNat 64 addr), none))
  | st => (s.exc a (excCode .fetch st) (BitVec.ofNat 64 addr), none)

/-- The second half of an instruction follows its first half. -/
def State.thenHalf (s : State) (a : Nat) (q : Acc) : State :=
  match s.nextHalf a q.addr q.fetch with
  | some next => (s.fetchHalf a next 2).1
  | none => s

/-- Take the stalled access up again; after the first half of a fetch its second half follows. -/
def State.retry (s : State) (a : Nat) : State :=
  match (s.ctl a).acc with
  | some q => (s.access a q).thenHalf a q
  | none => s

/-! ### Prefetch (R219) -/

/-- Train the trackers with a load of line x at a pc; answer the stride when the stream is trained. -/
def trainTrackers (ts : List Tracker) (pc x : Nat) : List Tracker × Option Int :=
  match ts.find? (fun t => t.pc == pc) with
  | none => ((⟨pc, x, 0, false⟩ :: ts).take 4, none)
  | some t =>
    let d : Int := (x : Int) - (t.line : Int)
    let ok := decide (d = t.delta) && decide (d ≠ 0) && decide (d.natAbs ≤ 16)
    (⟨pc, x, d, ok⟩ :: ts.filter (fun u => u.pc != pc), if ok then some d else none)

/-- A load at `pc` trains the prefetcher, and a trained stream sends one RD_S. -/
def State.prefetch (s : State) (a pc x : Nat) : State :=
  let k := s.ctl a
  if !k.pfEn || !k.enable then s
  else
    let r := trainTrackers k.trackers (bits pc 15 1) x
    let s1 := s.setCtl a { k with trackers := r.1 }
    match r.2 with
    | none => s1
    | some d =>
      let y : Int := (x : Int) + ((k.pfDist : Int) + 1) * d
      if y < 0 then s1
      else
        let z := y.toNat
        if z / 512 ≠ x / 512 || !s1.cacheable (128 * z) || (s1.findEnt a z).isSome ||
            decide (2 ≤ ((List.range 48).filter (fun e => (s1.cent a e).pf && decide ((s1.cent a e).st = .is))).length) ||
            s1.memCheck (.core a) .load (128 * z) 128 != .ok then s1
        else match s1.invalidEnt a with
          | some e => s1.sendFill a e z false true
          | none => s1

/-! ### Maintenance (R220, R222, R223) -/

/-- Status of the last CC_OP, CC_PIN or CC_CTL write. -/
def State.ccLast (s : State) (a : Nat) (st : Status) : State := s.setCtl a { s.ctl a with last := stCode st }

/-- One maintenance operation on entry e: 1 CLEAN, 2 INVAL, 3 CLEAN_INVAL. -/
def State.maintEnt (s : State) (a op e : Nat) : State :=
  let c := s.cent a e
  let wait (t : State) : State := t.setCtl a { t.ctl a with maint := (t.ctl a).maint ++ [e] }
  match c.st, op with
  | .m, 1 => wait (s.writeBack a e true true (c.badMask != 0))
  | .m, 2 => wait (s.writeBack a e false false false)
  | .m, _ => wait (s.writeBack a e true false (c.badMask != 0))
  | .e, 1 | .f, 1 | .s, 1 => s
  | .e, _ | .f, _ => wait (s.writeBack a e false false false)
  | .s, _ => (s.leave a c.line).setCent a e {}
  | .is, 2 | .is, 3 => s.setCent a e { c with oneUse := true }
  | .wb, _ | .wbx, _ => wait s
  | _, _ => s

/-- What follows when every write-back of an operation is settled: 1 sets INVDONE, 2 disables the cache, 3 pins. -/
def State.maintDone (s : State) (a : Nat) : State :=
  let k := s.ctl a
  if k.maint ≠ [] then s
  else
    match k.after with
    | 1 => s.setCtl a { k with invdone := true, after := 0 }
    | 2 => s.setCtl a { k with enable := false, invdone := false, after := 0 }
    | 3 =>
      let fresh := (List.range 32).filter (fun e => bit k.pinNext e && !bit k.pin e)
      fresh.foldl (fun t e => t.setCent a e { data := zeros 128 }) (s.setCtl a { k with pin := k.pinNext, after := 0 })
    | _ => s

/-- Entries that a scope of CC_OP names. -/
def State.scope (s : State) (a v : Nat) : List Nat :=
  match bits v 3 2 with
  | 0 => (s.findEnt a (bits v 47 7)).toList
  | 1 => [bits v 13 8]
  | _ => (List.range 48).filter (fun e => !s.pinned a e && !bit (s.ctl a).off e)

/-- Checks of a CC_OP write (R222). -/
def State.ccCheck (s : State) (a v : Nat) : Status :=
  let sc := bits v 3 2
  let resv := match sc with
    | 0 => bits v 63 48 == 0 && bits v 6 4 == 0
    | 1 => bits v 63 20 == 0 && bits v 7 4 == 0
    | _ => bits v 63 4 == 0
  firstFail [
    (bits v 1 0 != 0 && sc != 3 && resv, .badField),
    (sc != 1 || (decide (bits v 13 8 < 48) && bits v 19 14 == 0), .range),
    (sc != 1 || !s.pinned a (bits v 13 8), .locked)]

/-- A write of CC_OP (R222). -/
def State.ccOp (s : State) (a v : Nat) : State :=
  let st := s.ccCheck a v
  let s1 := s.ccLast a st
  if st ≠ .ok then s1
  else
    let op := bits v 1 0
    let s2 := s1.setCtl a { s1.ctl a with after := if bits v 3 2 = 2 ∧ op ≠ 1 then 1 else 0 }
    ((s2.scope a v).foldl (fun t e => t.maintEnt a op e) s2).maintDone a

/-- A write of CC_CTL (R223). -/
def State.ccCtl (s : State) (a v : Nat) : State :=
  let k := s.ctl a
  let set (e : Bool) : CacheCtl := { k with enable := e, pfEn := bit v 1, stashEn := bit v 2, pfDist := bits v 5 4, last := 0 }
  if bit v 0 then (if k.invdone then s.setCtl a (set true) else s.ccLast a .locked)
  else if k.enable then
    let s1 := s.setCtl a { set true with after := 2 }
    ((s1.scope a 8).foldl (fun t e => t.maintEnt a 3 e) s1).maintDone a
  else s.setCtl a (set false)

/-- A write of CC_PIN (R220). -/
def State.ccPin (s : State) (a v : Nat) : State :=
  let k := s.ctl a
  if bits v 63 32 ≠ 0 then s.ccLast a .badField
  else
    let bad := (List.range 32).filter (fun e => bit v e && !bit k.pin e && bit k.off e)
    let next := bitsOf ((List.range 32).filter (fun e => bit v e && !bad.contains e))
    let gone := (List.range 32).filter (fun e => bit k.pin e && !bit v e)
    let new := (List.range 32).filter (fun e => bit next e && !bit k.pin e)
    let s1 := gone.foldl (fun t e => t.setCent a e {}) (s.ccLast a (if bad = [] then .ok else .absent))
    let s2 := s1.setCtl a { s1.ctl a with pin := k.pin &&& next, pinNext := next, after := 3 }
    (new.foldl (fun t e => t.maintEnt a 3 e) s2).maintDone a

/-- A write of CC_LFSR (Table 6.11). -/
def State.ccLfsr (s : State) (a v : Nat) : State :=
  if v % 2 ^ 16 = 0 then s.ccLast a .badField else s.setCtl a { s.ctl a with lfsr := v % 2 ^ 16 }

/-- The S-core that writes a cache's registers through the alias, or none for any other writer (R222). -/
def State.issuedBy (s : State) (a : Nat) (g : Option Nat) : State := s.setCtl a { s.ctl a with issuer := g }

/-- A write of cache register word w by a requester that may write it. -/
def State.ccWrite (s : State) (a w v : Nat) : State :=
  match w with
  | 0 => s.ccCtl a v
  | 2 => s.ccOp a v
  | 3 => s.ccPin a v
  | 4 => s.ccLfsr a v
  | _ => s

/-- A cache register word (Table 6.11). -/
def State.ccRead (s : State) (a w : Nat) : Nat :=
  let k := s.ctl a
  match w with
  | 0 => b2n k.enable + 2 * b2n k.pfEn + 4 * b2n k.stashEn + 16 * k.pfDist
  | 1 => b2n k.invdone + 2 * b2n (!k.maint.isEmpty) + 2 ^ 8 * k.last
  | 3 => k.pin
  | 4 => k.lfsr
  | 5 => k.ce + 2 ^ 16 * k.ue + 2 ^ 24 * k.errEntry + 2 ^ 30 * k.errKind
  | 6 => k.off
  | _ => 0

/-! ### Replies -/

/-- The write-back of entry e of cache a is settled (Table 6.6): a waiting fill goes out, maintenance goes on, a stalled
access is taken up. -/
def State.wbSettled (s : State) (a e : Nat) : State :=
  let c := s.cent a e
  let s1 := match c.st with
    | .wb => if c.keep then s.setCent a e { c with st := .e, dirty := false, keep := false } else s.setCent a e {}
    | .wbx => s.setCent a e {}
    | _ => s
  let k := s1.ctl a
  let s2 := (s1.setCtl a { k with maint := k.maint.erase e }).maintDone a
  match (s2.ctl a).fill with
  | some (f, x, own) =>
    if f = e then (s2.setCtl a { s2.ctl a with fill := none }).sendFill a e x own false else s2.retry a
  | none => s2.retry a

/-- The reply to an uncached read that waited at its home: the core's access ends with the line's bytes, or fails when the line
is poisoned (R140, R211). One that also writes is taken up again. -/
def State.uncachedReply (s : State) (m : CohMsg) (bad : Bool) : State :=
  let a := m.agent
  match (s.ctl a).acc with
  | some q =>
    let x := s.loc q.addr
    if x / 128 ≠ m.line then s
    else if bad then s.accFail a 19 q
    else if q.op.isSome then s.retry a
    else
      let t := s.setCtl a { s.ctl a with acc := none }
      let u := if q.fetch = 1 ∨ q.fetch = 2 then
          t.setCore a { t.core a with kept := some (x / 32, (m.data.drop (x % 128 / 32 * 32)).take 32) } else t
      (u.finish a q ((m.data.drop (x % 128)).take q.size)).1.thenHalf a q
  | none => s

/-- Line data reach a cache (Table 6.6); data without a state answer an uncached read (R211). -/
def State.install (s : State) (m : CohMsg) : State :=
  let a := m.agent
  if m.st = .i then s.uncachedReply m m.poison
  else match s.findEnt a m.line with
  | none => s
  | some e =>
    let c := s.cent a e
    let mine := match (s.ctl a).acc with | some q => s.loc q.addr / 128 == m.line | none => false
    let store := match (s.ctl a).acc with | some q => q.op.isSome | none => false
    match c.st with
    | .is =>
      if c.oneUse then
        if mine && !store then
          let t := (s.setCent a e { c with st := .s, data := m.data, oneUse := false }).retry a
          (t.setCent a e {}).undefer a
        else ((s.setCent a e {}).retry a).undefer a
      else ((s.setCent a e { c with st := m.st, data := m.data, pf := false }).retry a).undefer a
    | .im | .sm => ((s.setCent a e { c with wasF := false, st := if m.st = .m then .m else .e, data := m.data }).retry a).undefer a
    | _ => s

/-- DATA_POISON reaches a requester (Table 6.6). -/
def State.poisoned (s : State) (m : CohMsg) : State :=
  let a := m.agent
  match s.findEnt a m.line with
  | none => s.uncachedReply m true
  | some e =>
    match (s.cent a e).st with
    | .is | .im | .sm =>
      let t := s.setCent a e {}
      (match (t.ctl a).acc with
       | some q => if t.loc q.addr / 128 = m.line then t.accFail a 19 q else t
       | none => t).undefer a
    | _ => s

/-! ### The commands -/

/-- A snoop message reaches the cache it is for. -/
def State.cacheMsg (s : State) (m : CohMsg) (k : CohKind) (f : State → CohMsg → State) : State :=
  let m' : CohMsg := { m with kind := k }
  if m.agent < 384 then f (s.recv m') m' else s.recv m'

/-- SNP_S (R205). -/
def execSnpS (m : CohMsg) (s : State) : Host.Outcome State Fault Refusal :=
  within "agent" m.agent 509 <| done s (s.cacheMsg m .snpS State.snoopAt)
/-- SNP_X (R205). -/
def execSnpX (m : CohMsg) (s : State) : Host.Outcome State Fault Refusal :=
  within "agent" m.agent 509 <| done s (s.cacheMsg m .snpX State.snoopAt)
/-- SNP_U (R205). -/
def execSnpU (m : CohMsg) (s : State) : Host.Outcome State Fault Refusal :=
  within "agent" m.agent 509 <| done s (s.cacheMsg m .snpU State.snoopAt)
/-- SNP_P (R205). -/
def execSnpP (m : CohMsg) (s : State) : Host.Outcome State Fault Refusal :=
  within "agent" m.agent 509 <| done s (s.cacheMsg m .snpP State.snoopAt)
/-- INV (R205). -/
def execInv (m : CohMsg) (s : State) : Host.Outcome State Fault Refusal :=
  within "agent" m.agent 509 <| done s (s.cacheMsg m .inv State.invAt)

/-- A stash offer reaches a cache (Table 6.6): it never evicts a line. -/
def State.stashOffered (s : State) (m : CohMsg) : State :=
  let a := m.agent
  let dec := s.send { kind := .stashDec, line := m.line, agent := a }
  if (s.ctl a).enable && (s.ctl a).stashEn && (s.findEnt a m.line).isNone then
    match s.invalidEnt a with
    | some e => (s.setCent a e { line := m.line, st := m.st, data := m.data }).send { kind := .stashAcc, line := m.line, agent := a }
    | none => dec
  else dec

/-- ACK_UPG reaches a cache (Table 6.6): the store is performed. -/
def State.upgraded (s : State) (m : CohMsg) : State :=
  match s.findEnt m.agent m.line with
  | some e =>
    let c := s.cent m.agent e
    if c.st = .sm then (s.setCent m.agent e { c with st := .e, wasF := false }).retry m.agent else s
  | none => s

/-- STASH_OFFER (R206). -/
def execStashOffer (m : CohMsg) (s : State) : Host.Outcome State Fault Refusal :=
  within "agent" m.agent 509 <| done s (s.cacheMsg m .stashOffer State.stashOffered)

/-- DATA_R (R206). -/
def execDataR (m : CohMsg) (s : State) : Host.Outcome State Fault Refusal :=
  within "agent" m.agent 509 <| done s (s.cacheMsg m .dataR State.install)
/-- DATA_M (R206). -/
def execDataM (m : CohMsg) (s : State) : Host.Outcome State Fault Refusal :=
  within "agent" m.agent 509 <| done s (s.cacheMsg m .dataM State.install)
/-- DATA_POISON (R206). -/
def execDataPoison (m : CohMsg) (s : State) : Host.Outcome State Fault Refusal :=
  within "agent" m.agent 509 <| done s (s.cacheMsg m .dataPoison State.poisoned)
/-- ACK_UPG (R206). -/
def execAckUpg (m : CohMsg) (s : State) : Host.Outcome State Fault Refusal :=
  within "agent" m.agent 509 <| done s (s.cacheMsg m .ackUpg State.upgraded)
/-- WB_ACK (R206). -/
def execWbAck (m : CohMsg) (s : State) : Host.Outcome State Fault Refusal :=
  within "agent" m.agent 509 <| done s (s.cacheMsg m .wbAck fun s m => s.wbSettled m.agent m.tag)

/-- LR_DEFER_TIMEOUT (R207). -/
def execLrDeferTimeout (a : Nat) (s : State) : Host.Outcome State Fault Refusal :=
  within "agent" a 384 <| done s ((s.setCtl a { s.ctl a with lrHold := none }).undefer a)

/-- A vector access that streams past the core's cache (R50). -/
def State.streams (s : State) (a addr : Nat) : Bool :=
  !isScore a && (s.core a).stream && (s.findEnt a (s.loc addr / 128)).isNone &&
    (match s.place addr with | .cistern _ => true | _ => false)

/-- What the part of a vector access in one line adds to the pc: 4 for the last part. -/
def vecStep (vec : Option (Nat × Bool)) : Word := if vec.all (·.2) then 4 else 0

/-- The place and the last-part mark of a vector store. -/
def storeVec : StoreOp → Option (Nat × Bool)
  | .vector _ off last => some (off, last)
  | _ => none

/-- CACHE_LOAD (R206): checked, performed or sent, and the prefetcher trained. A vector load is one such access for each line that
it touches; its first one trains (R219). -/
def execCacheLoad (a addr size rd : Nat) (form : LoadForm) (s : State) : Host.Outcome State Fault Refusal :=
  within "agent" a 384 <|
  done s <|
    if !s.cacheable addr then s
    else
      s.onCore a fun s =>
        if form.vec.isSome && isScore a then s.illegal a
        else match s.coreStatus a .load addr size with
        | .ok =>
          let q : Acc := { addr := addr, size := size, op := none, rd := rd, signed := form.signed, val := vecStep form.vec, vec := form.vec.map (·.1) }
          if form.vec.isSome && s.streams a addr then s.uncachedMem a q
          else
            let t := s.access a q
            if form.vec.any (fun v => v.1 != 0) then t else t.prefetch a (s.core a).pc.toNat (s.loc addr / 128)
        | st => s.exc a (excCode .load st) (BitVec.ofNat 64 addr)

/-- CACHE_STORE (R206): a store, AMO, LR or SC. An A-extension access must be aligned, and faults outside cacheable memory
(R41). -/
def execCacheStore (a addr size : Nat) (op : StoreOp) (v : Word) (s : State) : Host.Outcome State Fault Refusal :=
  within "agent" a 384 <|
  done s <|
    if !s.cacheable addr then (if op = .write then s else s.onCore a fun s => s.exc a 7 (BitVec.ofNat 64 addr))
    else
      s.onCore a fun s =>
        let k : AccKind := match op with | .write | .vector _ _ _ => .store | .amo _ _ => .amo | .lr _ => .load | .sc _ => .store
        let vec := storeVec op
        let plain := vec.isSome || op == .write
        let q : Acc := { addr := addr, size := size, op := some op, rd := 0, signed := false, val := if vec.isSome then vecStep vec else v }
        if vec.isSome && isScore a then s.illegal a
        else match s.coreStatus a k addr size with
        | .tempForbidden =>
          if plain && (!(s.ctl a).enable || (vec.isSome && s.streams a addr)) then (s.lostStore addr).setCore a ((s.core a).step (vecStep vec)) else s.exc a 19 (BitVec.ofNat 64 addr)
        | .ok =>
          if !plain && addr % size != 0 then s.exc a (alignCode k) (BitVec.ofNat 64 addr)
          else
            (match op with
             | .sc rd => if (s.core a).resv = some (s.loc addr / 128) then s.access a q
                else (s.setCore a { s.core a with resv := none }).ret a rd 1
             | _ => if vec.isSome && s.streams a addr then s.uncachedMem a q else s.access a q)
        | st => s.exc a (excCode k st) (BitVec.ofNat 64 addr)

/-- A store of a cache register by its own core: it retires, and the core waits for the operation (R222). -/
def State.ccStore (s : State) (a : Nat) (f : State → State) : State := s.onCore a fun s => (f s).retire a

/-- CC_CLEAN (R222). -/
def execCcClean (a : Nat) (v : Word) (s : State) : Host.Outcome State Fault Refusal :=
  within "agent" a 384 <| done s (s.ccStore a (·.ccOp a (setBits v.toNat 1 0 1)))
/-- CC_INVAL (R222). -/
def execCcInval (a : Nat) (v : Word) (s : State) : Host.Outcome State Fault Refusal :=
  within "agent" a 384 <| done s (s.ccStore a (·.ccOp a (setBits v.toNat 1 0 2)))
/-- CC_CLEAN_INVAL (R222). -/
def execCcCleanInval (a : Nat) (v : Word) (s : State) : Host.Outcome State Fault Refusal :=
  within "agent" a 384 <| done s (s.ccStore a (·.ccOp a (setBits v.toNat 1 0 3)))
/-- CC_PIN (R220). -/
def execCcPin (a : Nat) (v : Word) (s : State) : Host.Outcome State Fault Refusal :=
  within "agent" a 384 <| done s (s.ccStore a (·.ccPin a v.toNat))
/-- CC_ENABLE (R223). -/
def execCcEnable (a : Nat) (v : Word) (s : State) : Host.Outcome State Fault Refusal :=
  within "agent" a 384 <| done s (s.ccStore a (·.ccCtl a (setBits v.toNat 0 0 1)))
/-- CC_DISABLE (R223). -/
def execCcDisable (a : Nat) (v : Word) (s : State) : Host.Outcome State Fault Refusal :=
  within "agent" a 384 <| done s (s.ccStore a (·.ccCtl a (setBits v.toNat 0 0 0)))

/-- CORE_FETCH (R468): the instruction at the pc, one or two halves. -/
def execCoreFetch (a : Nat) (s : State) : Host.Outcome State Fault Refusal :=
  within "agent" a 384 <|
  done s <|
    s.onCore a fun s =>
      match s.fetchHalf a (s.core a).pc.toNat 1 with
      | (t, some addr) => (t.fetchHalf a addr 2).1
      | (t, none) => t

end Sys2Proof.Machine
end

