-- ==== Sys2Proof/Machine/Drive.lean ====
section
/-!
DEFINITION. Uncached accesses that wait (R204, R211, R214): a read or write of a line in a transient state is served when the line is
stable, so the coherence messages that settle the line are received first. Only a partner die's answer comes from outside.
-/

namespace Sys2Proof.Machine

/-- Whether a message goes from a core or requester to the home as a request. -/
def asks (m : CohMsg) : Bool :=
  match m.kind with
  | .rdS | .rdX | .upg | .rdU | .peek | .wrU => true
  | _ => false

/-- Whether a message goes to a caching agent or requester. -/
def toAgent (m : CohMsg) : Bool :=
  match m.kind with
  | .snpS | .snpX | .snpU | .snpP | .inv | .stashOffer | .dataR | .dataM | .dataPoison | .ackUpg | .wrAck | .wbAck => true
  | _ => false

/-- A message in flight is received by its home or by its cache. -/
def State.cohDeliver (s : State) (m : CohMsg) : State :=
  match m.kind with
  | .rdS | .rdX | .upg | .rdU | .peek | .wrU => s.homeRequest m m.kind
  | .putM | .putC => (s.recv m).put m
  | .snpRsp => (s.recv m).snpAnswer m
  | .stashAcc => (s.recv m).stashAnswer m true
  | .stashDec => (s.recv m).stashAnswer m false
  | .snpS | .snpX | .snpU | .snpP => s.cacheMsg m m.kind State.snoopAt
  | .inv => s.cacheMsg m .inv State.invAt
  | .stashOffer => s.cacheMsg m .stashOffer State.stashOffered
  | .dataR | .dataM => s.cacheMsg m m.kind State.install
  | .dataPoison => s.cacheMsg m .dataPoison State.poisoned
  | .ackUpg => s.cacheMsg m .ackUpg State.upgraded
  | .wrAck => s.recv m
  | .wbAck => s.cacheMsg m .wbAck fun s m => s.wbSettled m.agent m.tag

/-- Whether the module itself receives a message: it is for no partner die, and its home is not full. -/
def State.receives (s : State) (m : CohMsg) : Bool :=
  !(toAgent m && decide (384 ≤ m.agent) && decide (m.agent < 448)) && !(asks m && s.homeFull m.line)

/-- The message received next while an access waits for `busy` lines: the oldest for one of them, else the oldest. -/
def State.nextMsg (s : State) (busy : List Nat) : Option CohMsg :=
  (s.coh.msgs.find? (fun m => busy.contains m.line && s.receives m)).or (s.coh.msgs.find? s.receives)

/-- A cache whose LR holds off the snoops of one of these lines (R207). [DESIGN CHOICE, log entry 12] -/
def State.lrHolder (s : State) (busy : List Nat) : Option Nat :=
  (tkeys s.coh.ctls).find? (fun a => (s.ctl a).lrHold.any busy.contains)

/-- Receive messages until the lines of a range of local addresses are settled for an access. When none is left, an LR's hold of 128
V/S cycles runs out (R207). [DESIGN CHOICE, log entry 12] -/
def State.drive : Nat → State → Nat → Nat → Bool → State
  | 0, s, _, _, _ => s
  | k + 1, s, x, n, write =>
    let busy := s.busyLines x n write
    if busy = [] then s
    else match s.nextMsg busy with
      | some m => State.drive k (s.cohDeliver m) x n write
      | none =>
        match s.lrHolder busy with
        | some a => State.drive k ((s.setCtl a { s.ctl a with lrHold := none }).undefer a) x n write
        | none => s

/-- The state in which an access to n bytes at an address is served. -/
def State.settled (s : State) (a n : Nat) (write : Bool) : State := s.drive 4096 (s.loc a) n write

/-- An access to settled lines changes nothing first. -/
theorem State.settled_quiet (s : State) (a n : Nat) (write : Bool) (h : s.busyLines (s.loc a) n write = []) :
    s.settled a n write = s := by
  simp [State.settled, State.drive, h]

/-- An uncached read that waits for its lines (R211): the bytes, and the address of the first uncorrectable granule. -/
def State.uRead (s : State) (agent a n : Nat) (joins : Bool := false) (cls : Nat := 0) : State × Option Nat × Bytes :=
  (s.settled a n false).cohRead agent a n joins cls

/-- An uncached write that waits for its lines (R211): the address of the first refused granule. -/
def State.uWrite (s : State) (agent a : Nat) (bs : Bytes) (stash : Option Nat := none) (cls : Nat := 0) : State × Option Nat :=
  (s.settled a bs.length true).cohWrite agent a bs stash cls

end Sys2Proof.Machine
end

