-- ==== Sys2Proof/Machine/Diag.lean ====
section
/-!
DEFINITION. Reads of the diagnostic and management space: the status blocks (R23, R110, R143, R190, R197, R221, R244, R246,
R251, R305, R327, R336, R359, R374, R391, R414, R417, R418, R464), what a read clears (R9), and who may read each.
-/

namespace Sys2Proof.Machine

/-- Number of set bits among the lowest n. -/
def ones (n v : Nat) : Nat := ((List.range n).filter (bit v)).length

/-- A number saturated to n bits. -/
def sat (n v : Nat) : Nat := min v (2 ^ n - 1)

/-! ### The words of each block -/

/-- MS_STATE.STATE (Table 3.14). -/
def State.msState (s : State) (i : Nat) : Nat :=
  let c := s.mc i
  if !s.mPresent i then 3 else if c.faulted || c.stale then 2 else if c.queue.isEmpty && c.xfers.isEmpty then 0 else 1
/-- Word w of the status block of M-core i (Table 3.14); a fenced M-core reads ST_STALE_EPOCH (Table 13.5). -/
def State.msWord (s : State) (i w : Nat) : Nat :=
  let c := s.mc i
  match w with
  | 0 => s.msState i + 2 ^ 8 * s.mDepth i + 2 ^ 32 * c.done
  | 1 => (if c.stale then 8 else c.code) + 2 ^ 8 * c.opc + 2 ^ 16 * (if c.stale then 0xFF else c.field) + 2 ^ 32 * c.seq
  | 2 => b2n c.clamp + 2 * b2n c.ovf + 4 * b2n c.sat + 8 * b2n c.nanout
  | 3 => ((List.range 4).map (fun n => 2 ^ (16 * n) * (c.lf.getD n 0 % 2 ^ 16))).sum
  | _ => 0

/-- Word w of the error record of slice i (Table 4.6). -/
def State.csWord (s : State) (i w : Nat) : Nat :=
  let e := s.slice i
  if w = 0 then e.ce + 2 ^ 16 * e.ue + 2 ^ 24 * s.poisonedIn i + 2 ^ 32 * e.line + 2 ^ 48 * e.gran + 2 ^ 50 * e.kind
  else e.agent

/-- Free slots of a catchment unit. -/
def CatUnit.freeSlots (u : CatUnit) : Nat := ((List.range 64).filter (fun k => (u.slot k).state == 0)).length
/-- RD_TGT of a slot (Table 5.15). -/
def CatSlot.tgt (x : CatSlot) : Nat := le x.desc 32 8
/-- Word w of the catchment unit status of region n (Table 5.17). -/
def State.cuWord (s : State) (n w : Nat) : Nat :=
  let u := s.cat n
  if w = 0 then b2n u.service + 2 ^ 8 * u.freeSlots + 2 ^ 32 * u.orphans
  else if w = 1 then u.orphanAddr
  else if w < 130 then
    let x := u.slot (w / 2 - 1)
    if w % 2 = 0 then x.state + 2 ^ 8 * x.code + 2 ^ 16 * x.flags + 2 ^ 32 * x.done else x.tgt
  else 0

/-- Word w of directory entry i (Table 6.2). -/
def State.dirWord (s : State) (i w : Nat) : Nat :=
  let e := s.dirEnt i
  if w = 0 then
    e.line / 128 % 2 ^ 34 + 2 ^ 34 * min e.st 4 + 2 ^ 37 * b2n e.ovf +
      2 ^ 38 * bitsOf ((List.range 4).filter (fun k => ((e.ptrs[k]?).join).isSome))
  else ((List.range 4).map (fun k => 2 ^ (9 * k) * (((e.ptrs[k]?).join).getD 0))).sum

/-- Word w of the channel block of channel k (Table 7.6). -/
def State.hcWord (s : State) (k w : Nat) : Nat :=
  let c := s.chan k
  match w with
  | 0 => c.ce + 2 ^ 16 * c.ue + 2 ^ 24 * c.ode + 2 ^ 40 * c.kind + 2 ^ 42 * c.lostwr
  | 1 => c.addr
  | 2 => c.mode + 2 ^ 4 * c.op + 2 ^ 6 * c.pc
  | 3 => c.seed
  | 4 => c.base + 2 ^ 32 * c.len
  | 5 => b2n c.busy + 2 * b2n c.done + 4 * b2n c.fail + 8 * b2n c.aborted + 16 * b2n c.refused + 2 ^ 16 * c.errcnt
  | 6 => c.failOff + 2 ^ 24 * c.failGran
  | 7 => c.diff
  | _ => 0

/-- Remap entry i of stack h, whose bits [34:1] are kept (Table 7.4). -/
def State.remapEnt (s : State) (h i : Nat) : Option Nat := tget (fun _ => none) (s.stack h).remap i
/-- Remap entries of stack h in use. -/
def State.remapUsed (s : State) (h : Nat) : Nat := ((s.stack h).remap.filter (fun e => e.2.isSome)).length
/-- Word 0 of the status of stack h (Table 7.10). -/
def State.hbWord (s : State) (h w : Nat) : Nat :=
  let x := s.stack h
  if w = 0 then
    x.rate + 4 * b2n x.refx2 + 8 * b2n x.hot + 16 * b2n x.halt + 32 * b2n x.tlost + 2 ^ 8 * x.temp + 2 ^ 16 * x.cap +
      2 ^ 32 * s.remapUsed h + 2 ^ 48 * x.ppr
  else 0

/-- Word w of the sync status of region n (Table 9.3). -/
def State.syWord (s : State) (n w : Nat) : Nat :=
  let r := s.syncReg n
  if w = 0 then
    r.ce + 2 ^ 16 * r.ue + 2 ^ 24 * (s.sync.errs.filter (fun e => e.1 / 2048 == n && e.2.poison)).length + 2 ^ 36 * r.cell
  else s.waitUsed n + 2 ^ 16 * r.peak + 2 ^ 32 * (s.sync.queued.filter (fun e => e.cell / 2048 == n)).length

/-- A commit unit's status word, laid out as CFG_STATUS (Table 8.3). -/
def CommitUnit.word (u : CommitUnit) : Nat :=
  u.code + 2 ^ 8 * b2n u.busy + 2 ^ 9 * b2n u.overrun + 2 ^ 16 * u.group + 2 ^ 32 * u.field + 2 ^ 48 * u.seq

/-- Commit units: 0 to 7 the functions', 8 Aquifer, 9 partner, 10 service, 11 power. -/
def unitOf (blk : Nat) : Nat := blk - 1

/-- A read of a staged register of a block: the active copy, or the staging copy with its reserved bits zero (R259). -/
def State.stagedWord (s : State) (blk o : Nat) (staging : Bool) : Nat :=
  match regSpec blk o with
  | some r => (if staging then s.staged blk o else s.reg blk o) &&& r.mask
  | none => 0

/-- Word at offset o of the Aquifer set-up block (Tables 10.6 and 10.8). -/
def State.aqWord (s : State) (o : Nat) (staging : Bool) : Nat :=
  if o = 0 ∧ !staging then s.aq.modid + 2 ^ 15 * b2n s.aq.valid
  else if o = 0x10 ∧ !staging then (s.unit 8).word
  else if 0x2000 ≤ o ∧ o < 0x12000 ∧ o % 64 = 24 ∧ !staging then
    let g := s.group ((o - 0x2000) / 64)
    g.seq + 2 ^ 16 * g.slot + 2 ^ 32 * g.digest
  else if 0x2000 ≤ o ∧ o < 0x12000 ∧ o % 64 = 32 ∧ !staging then (s.group ((o - 0x2000) / 64)).last
  else s.stagedWord 9 o staging

/-- Word w of the status of Aquifer port p (Table 10.2). -/
def State.apWord (s : State) (p w : Nat) : Nat :=
  let x := s.port p
  match w with
  | 0 => x.st + 2 ^ 2 * x.width + 2 ^ 4 * x.rate + 2 ^ 8 * x.lanes + 2 ^ 16 * x.peer + 2 ^ 28 * x.peerPort
  | 1 => x.fecce + 2 ^ 32 * x.fecue
  | 2 => x.replay + 2 ^ 32 * x.drop + 2 ^ 48 * x.slow
  | _ => 0

/-- Word w of the bond status of the site over region n (Table 11.2). -/
def State.bsWord (s : State) (n w : Nat) : Nat :=
  if w = 0 then (s.site n).bs + 2 ^ 4 * (s.site n).dieMode + 2 ^ 32 * bitsOf (s.folded n)
  else if w < 8 then 0
  else if w < 8 + 128 then
    let b := s.bond n ((w - 8) / 4) ((w - 8) / 2 % 2)
    if w % 2 = 0 then
      b.st + ((List.range 8).map (fun g => 2 ^ (4 * g + 8) * b.grps.getD g 0)).sum + 2 ^ 40 * b.frame
    else b.crc + 2 ^ 32 * b.retrains
  else 0

/-- Byte of a UCIe module in PS_MOD (Table 11.7). -/
def UMod.byte (u : UMod) : Nat := u.role + 2 ^ 3 * u.width + 2 ^ 5 * u.rate
/-- Word at offset o of the partner block (Table 11.7). -/
def State.psWord (s : State) (o : Nat) (staging : Bool) : Nat :=
  if staging then s.stagedWord 10 o true
  else if o = 8 then (s.unit 9).word
  else if 0x100 ≤ o ∧ o < 0x300 then
    let x := s.psite ((o - 0x100) / 0x100)
    match o % 0x100 with
    | 0 => x.st + 2 ^ 4 * x.proto + 2 ^ 8 * b2n x.overrun + 2 ^ 32 * x.epoch
    | 8 => ((List.range 4).map (fun m => 2 ^ (8 * m) * (x.mods.getD m {}).byte)).sum + 2 ^ 32 * x.agents + 2 ^ 48 * x.cache
    | 0x10 => x.pgrant + 2 ^ 16 * x.pmeas + 2 ^ 32 * x.tmeas + 2 ^ 48 * x.drop
    | _ => s.stagedWord 10 o false
  else 0

/-- DIAG_FLIPk. -/
def State.flip (s : State) (k : Nat) : Nat := (tget (fun _ => (0 : Word)) s.svc.flips k).toNat
/-- DIAG_BAROi (Table 13.7). -/
def State.baroWord (s : State) (i : Nat) : Nat :=
  let x := s.island i
  x.offset + 2 ^ 6 * b2n x.capped + 2 ^ 8 * x.loss + 2 ^ 16 * x.ceil + 2 ^ 32 * x.replan
/-- Word at offset o of the service block (Table 13.1). -/
def State.svcWord (s : State) (o : Nat) (staging : Bool) : Nat :=
  if staging then s.stagedWord 11 o true
  else if o = 8 then (s.unit 10).word
  else if o = 0x40 then
    b2n (s.svc.scrubs.any (fun e => e.2.late)) + 2 ^ 16 * s.svc.overdue.length + 2 ^ 32 * s.svc.dzfail
  else if o = 0x48 then
    (s.cistern.retired.length + s.cistern.unitsPending.length) +
      2 ^ 16 * sat 16 ((List.range 8).map (fun h => (s.stack h).retired.length)).sum + 2 ^ 32 * s.cistern.rows.length +
      2 ^ 48 * s.cistern.cols.length
  else if 0x80 ≤ o ∧ o < 0xB0 then s.flip ((o - 0x80) / 8)
  else if o = 0x100 then
    (s.flash.logSeq + 2 ^ 32 - 1) % 2 ^ 32 * b2n (s.flash.logSeq ≠ 0) + 2 ^ 32 * s.svc.logq.length + 2 ^ 48 * s.svc.logLost
  else if 0x400 ≤ o ∧ o < 0xA00 then s.baroWord ((o - 0x400) / 8)
  else s.stagedWord 11 o false

/-- Terms of R422 that equal PLIM, and droop (PWR_STAT2.BIND). -/
def State.bind (s : State) : Nat :=
  let p := s.plim
  let cap := bits (s.reg 12 0x10) 15 0
  if !s.boot.powered then 0
  else b2n (p = s.boot.limitW) + 2 * b2n (cap ≠ 0 ∧ p = cap) + 4 * b2n (p = 95 * s.goodPhases) +
    8 * b2n (p = 64 * s.power.vin / 1000) + 16 * b2n s.power.droop
/-- The hottest island of the base die lies from 10 to 85 degrees (R437). -/
def State.fuseOk (s : State) : Bool :=
  let m := (List.range 4 ++ (List.range 8).map (· + 184)).foldl (fun m i => max m (s.island i).temp) (s.island 0).temp
  decide (80 ≤ m) && decide (m ≤ 680)
/-- Word at offset o of the power and thermal block (Table 14.1). -/
def State.pwrWord (s : State) (o : Nat) (staging : Bool) : Nat :=
  if staging then s.stagedWord 12 o true
  else if o = 8 then (s.unit 11).word
  else if o = 0x40 then
    s.power.vin % 2 ^ 16 + 2 ^ 16 * (s.power.iin % 2 ^ 16) + 2 ^ 32 * (s.power.pin % 2 ^ 16) + 2 ^ 48 * s.plim
  else if o = 0x48 then (if s.boot.powered then s.goodPhases else 0) + 2 ^ 8 * s.bind + 2 ^ 32 * s.power.droops
  else if o = 0x50 then
    let num (p : Island → Bool) : Nat := ((List.range 192).filter (fun i => p (s.island i))).length
    ofInt 8 s.hottest.1 + 2 ^ 8 * s.hottest.2 + 2 ^ 16 * num (fun x => decide (1 ≤ x.state)) + 2 ^ 24 * num (fun x => x.state == 2)
      + 2 ^ 32 * (s.power.diodes.filter (fun d => d.2.broken)).length + 2 ^ 40 * ofInt 8 s.power.flashT
      + 2 ^ 48 * b2n s.flashOk
      + 2 ^ 49 * b2n s.fuseOk
  else s.stagedWord 12 o false

/-- The 32-byte identity of an index (Table 8.14, item 2); none when the die is absent (R464). -/
def State.identity (s : State) (i : Nat) : Option Bytes :=
  let b : Bytes :=
    if i < 37 then tget (fun _ => []) s.fuse.idents i
    else if i < 45 then (if (s.stack (i - 37)).rate = 3 then [] else (s.stack (i - 37)).ident)
    else if i = 73 ∨ i = 74 then
      let p := s.psite (i - 73)
      if p.st = 0 ∨ p.st = 5 then [] else (p.desc.drop 32).take 32
    else []
  if b = [] then none else some ((b ++ zeros 32).take 32)
/-- An aligned word of the identity range (R464). -/
def State.identWord (s : State) (o : Nat) : Nat :=
  if o < 0x960 then (match s.identity (o / 32) with | some b => le b (o % 32) 8 | none => 0)
  else if o < 0x970 then le (s.fuse.serial ++ zeros 16) (o - 0x960) 8
  else 0

/-! ### The space as a whole -/

/-- The 8-byte word at an offset of the diagnostic and management space; an offset that no block gives a field reads
zero. -/
def State.diagWord (s : State) (o : Nat) : Nat :=
  let k := o % 0x1000000
  match o / 0x1000000 with
  | 0x00 => if 0x100000 ≤ o ∧ o < 0x108000 then (s.dtWord ((o - 0x100000) / 8)).toNat else 0
  | 0x60 => if k < 0x20000 then s.msWord (k / 256) (k % 256 / 8) else 0
  | 0x61 => if k < 1152 * 16 then s.csWord (k / 16) (k % 16 / 8) else 0
  | 0x62 => if k < 36 * 2048 then s.cuWord (k / 2048) (k % 2048 / 8) else 0
  | 0x63 => if k < 73728 * 16 then s.dirWord (k / 16) (k % 16 / 8) else 0
  | 0x64 => if k < 384 * 64 then s.ccRead (k / 64) (k % 64 / 8) else 0
  | 0x65 => if k < 256 * 256 then s.hcWord (k / 256) (k % 256 / 8) else 0
  | 0x66 => if k < 512 then s.hbWord (k / 64) (k % 64 / 8) else 0
  | 0x67 => if k < 65536 then (match s.remapEnt (k / 8192) (k % 8192 / 8) with | some v => 1 + 2 * v | none => 0) else 0
  | 0x68 => if k < 36 * 16 then s.syWord (k / 16) (k % 16 / 8) else 0
  | 0x69 => if k < 0x100000 then s.aqWord k false else if k < 0x200000 then s.aqWord (k - 0x100000) true else 0
  | 0x6A => if k < 12 * 64 then s.apWord (k / 64) (k % 64 / 8) else 0
  | 0x6B => if k < 36 * 2048 then s.bsWord (k / 2048) (k % 2048 / 8) else 0
  | 0x6C => if k < 0x1000 then s.psWord k false else if k < 0x2000 then s.psWord (k - 0x1000) true else 0
  | 0x6D => if k < 0x1000 then s.svcWord k false else if k < 0x2000 then s.svcWord (k - 0x1000) true else 0
  | 0x6E => if k < 0x1000 then s.pwrWord k false else if k < 0x2000 then s.pwrWord (k - 0x1000) true else 0
  | 0x6F => s.identWord k
  | 0x70 => if k < 0x400000 then le (s.logSlot (k / 64)) (k % 64) 8 else 0
  | _ => 0

/-- What a read of the word at an offset clears (R9: fields of access RC). -/
def State.diagClear (s : State) (o : Nat) : State :=
  let k := o % 0x1000000
  match o / 0x1000000 with
  | 0x61 => if k < 1152 * 16 ∧ k % 16 = 0 then s.setSlice (k / 16) { s.slice (k / 16) with ce := 0, ue := 0 } else s
  | 0x62 => if k < 36 * 2048 ∧ k % 2048 = 0 then s.setCat (k / 2048) { s.cat (k / 2048) with orphans := 0 } else s
  | 0x64 => if k < 384 * 64 ∧ k % 64 = 40 then s.setCtl (k / 64) { s.ctl (k / 64) with ce := 0, ue := 0 } else s
  | 0x65 => if k < 256 * 256 ∧ k % 256 = 0 then
      s.setChan (k / 256) { s.chan (k / 256) with ce := 0, ue := 0, ode := 0, lostwr := 0 } else s
  | 0x68 => if k < 36 * 16 then
      (if k % 16 = 0 then s.setSyncReg (k / 16) { s.syncReg (k / 16) with ce := 0, ue := 0 }
       else s.setSyncReg (k / 16) { s.syncReg (k / 16) with peak := s.waitUsed (k / 16) }) else s
  | 0x6A => if k < 12 * 64 then
      (if k % 64 = 8 then s.setPort (k / 64) { s.port (k / 64) with fecce := 0, fecue := 0 }
       else if k % 64 = 16 then s.setPort (k / 64) { s.port (k / 64) with replay := 0, drop := 0, slow := 0 }
       else s) else s
  | 0x6B => if k < 36 * 2048 ∧ 64 ≤ k % 2048 ∧ k % 2048 < 64 + 1024 ∧ k % 16 = 8 then
      let w := k % 2048 / 8
      let p := (w - 8) / 4
      let d := (w - 8) / 2 % 2
      s.setBond (k / 2048) p d { s.bond (k / 2048) p d with crc := 0, retrains := 0 } else s
  | 0x6C => if 0x100 ≤ k ∧ k < 0x300 ∧ k % 0x100 = 0x10 then
      s.setPsite ((k - 0x100) / 0x100) { s.psite ((k - 0x100) / 0x100) with drop := 0 } else s
  | 0x6D => if k = 0x40 then { s with svc.dzfail := 0 } else if k = 0x100 then { s with svc.logLost := 0 } else s
  | 0x6E => if k = 0x48 then { s with power.droops := 0 } else s
  | _ => s

/-- The partition whose requesters may read a block, for the blocks that a partition may read: M-core status, slice,
catchment and sync records (R110, R143, R190, R305). -/
def State.diagPart (s : State) (o : Nat) : Option (Option Nat) :=
  let k := o % 0x1000000
  match o / 0x1000000 with
  | 0x60 => if k < 0x20000 then some (s.tile (k / 4096)).part else none
  | 0x61 => if k < 1152 * 16 then some (s.regionPart (k / 512)) else none
  | 0x62 => if k < 36 * 2048 then some (s.regionPart (k / 2048)) else none
  | 0x68 => if k < 36 * 16 then some (s.regionPart (k / 16)) else none
  | _ => none

/-- Whether an offset of the diagnostic and management space lies in a block of registers. -/
def diagKnown (o : Nat) : Bool :=
  let k := o % 0x1000000
  match o / 0x1000000 with
    | 0x00 => decide (0x100000 ≤ o) && decide (o < 0x108000)
    | 0x60 => decide (k < 0x20000) | 0x61 => decide (k < 1152 * 16) | 0x62 => decide (k < 36 * 2048)
    | 0x63 => decide (k < 73728 * 16) | 0x64 => decide (k < 384 * 64) | 0x65 => decide (k < 65536) | 0x66 => decide (k < 512)
    | 0x67 => decide (k < 65536) | 0x68 => decide (k < 36 * 16) | 0x69 => decide (k < 0x200000) | 0x6A => decide (k < 768)
    | 0x6B => decide (k < 36 * 2048) | 0x6C => decide (k < 0x2000) | 0x6D => decide (k < 0x2000) | 0x6E => decide (k < 0x2000)
    | 0x6F => decide (k < 0x970) | 0x70 => decide (k < 0x400000)
    | _ => false

/-- Who may read the word at an offset of the diagnostic and management space. -/
def State.diagReadable (s : State) (who : Master) (o : Nat) : Bool :=
  let b := o / 0x1000000
  let k := o % 0x1000000
  let mine (p : Option Nat) : Bool := match s.diagPart o with
    | some q => q.isSome && q == p
    | none => false
  diagKnown o && (b == 0x6F || (match who with
    | .wellkeeper => true
    | .monitor => [0x00, 0x63, 0x65, 0x66, 0x67, 0x6A, 0x6B, 0x70].contains b || (decide (1 ≤ s.mgmt.level) && [0x6D, 0x6E].contains b)
    | .bar4 => !([0x00, 0x63].contains b)
    | .core a => mine (s.agentPart a) || (b == 0x64 && decide (!isScore (k / 64)) && supervisor (k / 64) == a && !(s.core (k / 64)).run)
    | .taskPump a => mine (s.agentPart a)
    | _ => false))

/-- An aligned 8-byte read of the diagnostic and management space by a requester that may read it. [DEDUCED, log entry 22] -/
def State.diagRead (s : State) (who : Master) (o : Nat) : Option (State × Word) :=
  if o % 8 = 0 ∧ s.diagReadable who o then some (s.diagClear o, BitVec.ofNat 64 (s.diagWord o)) else none

end Sys2Proof.Machine
end

