-- ==== Sys2Proof/Machine/Catchment.lean ====
section
/-!
DEFINITION. The catchment units (R181 to R191): contributions, their joining on the way, the update of a slot's accumulator
entry, the output of an element, and the ends of a slot.
-/

namespace Sys2Proof.Machine

/-! ### Reduction descriptors (Table 5.15) -/

/-- RD_OP: the operation. -/
def rdOp (d : Bytes) : Nat := bits (le d 16 1) 2 0
/-- RD_OP: WIDE. -/
def rdWide (d : Bytes) : Bool := bit (le d 16 1) 3
/-- RD_OP: I64. -/
def rdI64 (d : Bytes) : Bool := bit (le d 16 1) 4
/-- RD_OFMT: output code. -/
def rdCode (d : Bytes) : Nat := bits (le d 17 1) 3 0
/-- RD_OFMT: SAT. -/
def rdSat (d : Bytes) : Bool := bit (le d 17 1) 4
/-- RD_CSCALE. -/
def rdScale (d : Bytes) : Int := cscale (le d 18 2)
/-- RD_NCONTRIB. -/
def rdNcontrib (d : Bytes) : Nat := le d 20 4
/-- RD_DONE. -/
def rdDone (d : Bytes) : Nat := bits (le d 28 4) 16 0
/-- RD_TGT. -/
def rdTgt (d : Bytes) : Nat := le d 32 8
/-- RD_OUT. -/
def rdOut (d : Bytes) : Nat := le d 40 8

/-- Contribution size of an operation: 8 or 16 for CSUM, 4 for RSUM, 4 or 8 for the integer operations (R182). -/
def contribBytes (op : Nat) (wide i64 : Bool) : Nat :=
  if op = 0 then (if wide then 16 else 8) else if op = 1 then 4 else if i64 then 8 else 4
/-- Contribution size of a descriptor. -/
def rdW (d : Bytes) : Nat := contribBytes (rdOp d) (rdWide d) (rdI64 d)

/-! ### Joining (R185) -/

/-- Whether two contributions agree in address, kind, width and scale. -/
def contribJoins (a b : Contrib) : Bool :=
  a.addr == b.addr && a.op == b.op && a.wide == b.wide && a.i64 == b.i64 && a.scale == b.scale

/-- The sums of two contributions of one kind. -/
def joinSum (op : Nat) (x y : Int) : Int :=
  if op = 1 then (toFp32 ((fp32.decode x.toNat).add (fp32.decode y.toNat)) : Nat)
  else if op = 3 then min x y
  else if op = 4 then max x y
  else x + y

/-- Two contributions joined into one. -/
def contribJoin (a b : Contrib) : Contrib :=
  { a with
    sum := joinSum a.op a.sum b.sum, count := a.count + b.count, flag := a.flag || b.flag, nan := a.nan || b.nan }

/-! ### Slots -/

/-- The slot of a catchment unit whose window covers an address, among those whose state satisfies `p`. -/
def CatUnit.find (u : CatUnit) (p : Nat → Bool) (a : Nat) : Option Nat :=
  (List.range 64).find? (fun k =>
    let x := u.slot k
    p x.state && x.group.isNone && decide (x.tgt ≤ a) && decide (a < x.tgt + rdCount x.desc * rdW x.desc))

/-- Set slot k of the unit of region n. -/
def State.setSlotAt (s : State) (n k : Nat) (x : CatSlot) : State := s.setCat n ((s.cat n).setSlot k x)

/-- A slot fails: the outputs of the elements not yet written are undefined, and RD_DONE receives ADD 1 at once (R188). -/
def State.catFail (s : State) (n k : Nat) (st : Status) : State :=
  let x := (s.cat n).slot k
  let o := outBytes (rdCode x.desc)
  let s1 := ((List.range (rdCount x.desc)).filter (fun i => !x.written.contains i)).foldl
    (fun t i => t.freeRange (rdOut x.desc + i * o) o) s
  (s1.setSlotAt n k { x with state := 3, code := stCode st }).postAdd n (rdDone x.desc) 1

/-- The unit of region n enters RESTRICTED: every ACTIVE slot fails with ST_ABORTED (R181, R188). A slot that a collective group
holds has no RD_DONE; its group's reductions end with ST_ABORTED until it is armed again. [DEDUCED, log entry 38] -/
def State.catRestrict (s : State) (n : Nat) : State :=
  let s1 := (List.range 64).foldl (fun t k =>
    let x := (t.cat n).slot k
    if x.state ≠ 1 then t
    else if x.group.isNone then t.catFail n k .aborted
    else t.setSlotAt n k { x with state := 3, code := stCode .aborted }) s
  s1.setCat n { s1.cat n with service := false }

/-- Free a slot: its fields read their reset values (R189). -/
def State.catFree (s : State) (n k : Nat) : State := s.setSlotAt n k {}

/-- A contribution that no ACTIVE slot covers (R188). -/
def State.catOrphan (s : State) (n a : Nat) : State :=
  let u := s.cat n
  let quiet := match u.raised with | some t => decide (s.now < t + 1000000) | none => false
  let s1 := s.setCat n { u with orphans := satAdd u.orphans 1 (2 ^ 32 - 1), orphanAddr := a, raised := if quiet then u.raised else some s.now }
  if quiet then s1 else s1.raise 0x00B (a % 2 ^ 48 + 2 ^ 48 * n) [] n

/-- An accumulator entry (R186). -/
structure AccEnt where
  sum : Int
  count : Nat
  nan : Bool
  flag : Bool
  deriving DecidableEq, Repr

/-- Read an entry's 32 bytes. -/
def AccEnt.ofBytes (op : Nat) (i64 : Bool) (b : Bytes) : AccEnt :=
  let v := le b 0 20
  let k := if i64 then 64 else 32
  { sum := if op = 1 then (v % 2 ^ 32 : Nat) else if op = 3 ∨ op = 4 then toInt k (v % 2 ^ k) else toInt 160 v
    count := le b 20 4
    nan := bit (le b 24 1) 0
    flag := bit (le b 24 1) 1 }
/-- The 32 bytes of an entry. -/
def AccEnt.toBytes (op : Nat) (e : AccEnt) : Bytes :=
  let v := if op = 1 then e.sum.toNat else if op = 3 ∨ op = 4 then ofInt 64 e.sum else ofInt 160 e.sum
  toLe 20 v ++ toLe 4 e.count ++ toLe 8 (b2n e.nan + 2 * b2n e.flag)

/-- An entry after a contribution: IMIN and IMAX take the first contribution's value (R186). -/
def AccEnt.add (e : AccEnt) (c : Contrib) : AccEnt :=
  { sum := if (c.op = 3 ∨ c.op = 4) ∧ e.count = 0 then c.sum else joinSum c.op e.sum c.sum
    count := e.count + c.count
    nan := e.nan || c.nan
    flag := e.flag || c.flag }

/-- An element's result and its flags (R187). -/
def catOutput (d : Bytes) (e : AccEnt) : Nat × MFlags :=
  if rdOp d = 0 then
    outOfCatch (rdCode d) (if rdWide d then 128 else 64) (rdSat d) (rdScale d) (if e.nan then none else some e.sum)
  else if rdOp d = 1 then outOfFp32 (rdCode d) .rne (rdSat d) e.sum.toNat
  else
    let n := if rdCode d = 7 then 64 else 32
    let top : Int := (2 ^ (n - 1) : Nat)
    let v := if top - 1 < e.sum then top - 1 else if e.sum < -top then -top else e.sum
    (ofInt n v, { ovf := decide (v ≠ e.sum) })

/-- Bits of SL_FLAGS: CLAMP, OVF, SAT, NANOUT. -/
def flagBits (f : MFlags) : Nat := b2n f.clamp + 2 * b2n f.ovf + 4 * b2n f.sat + 8 * b2n f.nanout

/-- Write the result of element i of a slot (R187); a refused write fails the slot (R188). The result of an element whose entry
others wrote is open (R183). -/
def State.catWrite (s : State) (n k i : Nat) (e : AccEnt) : State :=
  let x := (s.cat n).slot k
  let o := outBytes (rdCode x.desc)
  let a := rdOut x.desc + i * o
  let r := catOutput x.desc e
  let st := s.memCheck (.catchment n) .store a o
  if st ≠ .ok then s.catFail n k st
  else
    let lost := x.tainted.contains i
    let b := if lost then (List.range o).map (fun j => Config.freeByte (s.free + j)) else toLe o r.1
    let fl := if lost then (Config.freeByte (s.free + o)).toNat % 16 else flagBits r.2
    match { s with free := if lost then s.free + o + 1 else s.free }.uWrite (448 + n) a b none x.cls with
    | (t, some _) => t.catFail n k .uncorrectable
    | (t, none) => t.setSlotAt n k { x with written := x.written ++ [i], done := x.done + 1, flags := x.flags ||| fl }

/-- A contribution reaches slot k, which covers it. -/
def State.catUpdate (s : State) (n k : Nat) (c : Contrib) : State :=
  let x := (s.cat n).slot k
  let d := x.desc
  let i := (c.addr - rdTgt d) / rdW d
  let a := rdAcc d + 32 * i
  if c.op ≠ rdOp d ∨ c.wide ≠ rdWide d ∨ c.i64 ≠ rdI64 d ∨ c.scale ≠ rdScale d then s.catFail n k .inconsistent
  else
    match s.readMem (448 + n) a 32 with
    | (t, none) => t.catFail n k .uncorrectable
    | (t, some b) =>
      let e := (AccEnt.ofBytes c.op (rdI64 d) b).add c
      if rdNcontrib d < e.count then t.catFail n k .inconsistent
      else
        let t1 := (t.writeMem false (448 + n) a (e.toBytes c.op)).1
        let t2 := t1.setSlotAt n k { x with flags := x.flags ||| b2n c.flag }
        if e.count = rdNcontrib d then t2.catWrite n k i e else t2

/-- A contribution reaches its destination unit (R186, R188). -/
def State.catArrive (s : State) (c : Contrib) : State :=
  let n := (cisPlace (s.loc c.addr)).n
  match (s.cat n).find (· == 1) (s.loc c.addr) with
  | some k => s.catUpdate n k { c with addr := s.loc c.addr }
  | none => s.catOrphan n (s.loc c.addr)

/-! ### The commands -/

/-- CONTRIBUTION_ARRIVE (R186): an address outside the Cistern reaches no unit. -/
def execContributionArrive (c : Contrib) (s : State) : Host.Outcome State Fault Refusal :=
  done s <|
    let s1 := { s with mesh.flights := s.mesh.flights.erase c }
    if cisternBase ≤ s.loc c.addr ∧ s.loc c.addr < cisternEnd then s1.catArrive c else s1

/-- Whether a contribution passes the router of region n on its way (R147, R185). -/
def State.passes (s : State) (n : Nat) (c : Contrib) : Bool :=
  c.src.all (fun r => (regionPath r (cisPlace (s.loc c.addr)).n).contains n)

/-- CONTRIBUTION_JOIN (R185): two contributions that are under way and wait in the same unit become one, in either mode of the
unit. [DEDUCED, log entry 55] -/
def execContributionJoin (n : Nat) (c d : Contrib) (s : State) : Host.Outcome State Fault Refusal :=
  within "region" n 36 <|
  done s <|
    if contribJoins c d ∧ s.passes n c ∧ s.passes n d ∧ s.mesh.flights.contains c ∧ (s.mesh.flights.erase c).contains d then
      { s with mesh.flights := (s.mesh.flights.erase c).erase d ++ [{ contribJoin c d with src := some n }] }
    else s

/-- SLOT_COMPLETE (R187): every element of the slot is written and performed; a write that its home has refused fails the slot
(R188). -/
def execSlotComplete (n slot : Nat) (s : State) : Host.Outcome State Fault Refusal :=
  within "region" n 36 <| within "slot" slot 64 <|
  done s <|
    let x := (s.cat n).slot slot
    if x.state = 1 ∧ x.group.isNone ∧ x.written.length = rdCount x.desc ∧ !s.writesOpen (448 + n) then
      match s.takeRefused (448 + n) (s.loc (rdOut x.desc)) (rdCount x.desc * outBytes (rdCode x.desc)) with
      | (t, some _) => t.catFail n slot .uncorrectable
      | (t, none) => (t.setSlotAt n slot { x with state := 2 }).postAdd n (rdDone x.desc) 1
    else s

end Sys2Proof.Machine
end

