-- ==== Sys2Proof/Machine/Pumps.lean ====
section
/-!
DEFINITION. Pump descriptors: their operands (Tables 5.6 to 5.16), their checks (Table 5.11, R280, R337), and the reads,
writes, seals and stash steps that the pump commands are made of (R171 to R173, R213, R235 to R239, R278).
-/

namespace Sys2Proof.Machine

/-! ### Header (Table 5.6) -/

/-- POP. -/
def pPop (d : Bytes) : Nat := le d 0 1
/-- PFLAGS. -/
def pFlags (d : Bytes) : Nat := le d 1 1
/-- STASH_AGENT. -/
def pStash (d : Bytes) : Nat := bits (le d 2 2) 8 0
/-- CELL. -/
def pCell (d : Bytes) : Nat := bits (le d 4 4) 16 0
/-- RADDR. -/
def pRaddr (d : Bytes) : Nat := le d 8 8

/-- Who runs a pump command: the requester its accesses are checked as, the agent they travel under, whether the pump is an Aquifer
or a host pump, and the class label of its requests (R166). -/
structure PumpEnv where
  who : Master
  agent : Nat
  aq : Bool
  host : Bool
  cls : Nat := 0

/-- A host address (R278). -/
def isHost (e : PumpEnv) (a : Nat) : Bool := e.host && bits a 63 62 == 1
/-- The bus address in a host address. -/
def hostBus (a : Nat) : Nat := a % 2 ^ 62
/-- A remote address: a well-formed global address with another module's ID (R6). -/
def State.isRemote (s : State) (a : Nat) : Bool :=
  match s.place a with
  | .remote _ _ => true
  | _ => false

/-! ### Ranges -/

/-- A range that a command reads or writes, and the byte offset of its field. -/
structure PRange where
  a : Nat
  n : Nat
  k : AccKind
  off : Nat
  deriving DecidableEq, Repr

/-- Element size of a CSEND source format (Table 5.16). -/
def sfmtBytes (f : Nat) : Nat :=
  match f with
  | 0 | 3 => 4 | 1 | 2 => 2 | 4 | 5 => 8 | _ => 16
/-- Whether CSEND may convert elements of a format to contributions of a kind (R184). -/
def csendOk (f op : Nat) (wide : Bool) : Bool :=
  if op = 0 then (decide (f ≤ 4) || (f == 5 && !wide) || (f == 6 && wide))
  else if op = 1 then decide (f ≤ 2) && !wide
  else (f == 3 || f == 4) && !wide
/-- Contribution size of a CSEND. -/
def csendW (d : Bytes) : Nat := contribBytes (bits (le d 37 1) 2 0) (bit (le d 37 1) 3) (bits (le d 36 1) 3 0 == 4)
/-- Whether the output code of a reduction fits its operation (R182). -/
def rdOk (d : Bytes) : Bool :=
  if rdOp d = 0 then !rdI64 d && (decide (rdCode d ≤ 7) || (rdCode d == 8 && rdWide d))
  else if rdOp d = 1 then !rdI64 d && !rdWide d && decide (rdCode d ≤ 2)
  else !rdWide d && (rdCode d == 5 || rdCode d == 7)

/-- Rows of a COPY: source and destination address of each, in order (R170). -/
def copyRows (d : Bytes) : List (Nat × Nat) :=
  (List.range (le d 38 2)).flatMap (fun q => (List.range (le d 36 2)).map (fun r =>
    (le d 16 8 + q * le d 48 4 + r * le d 40 4, le d 24 8 + q * le d 52 4 + r * le d 44 4)))
/-- Span of a COPY side with the given strides. -/
def copySpan (d : Bytes) (s1 s2 : Nat) : Nat := (le d 38 2 - 1) * le d s2 4 + (le d 36 2 - 1) * le d s1 4 + le d 32 4

/-- The ranges of a command, but RADDR's; `dests` are the entries of an MCAST's list. -/
def pRanges (d : Bytes) (dests : List Nat) : List PRange :=
  match pPop d with
  | 1 => [⟨le d 16 8, copySpan d 40 48, .load, 16⟩, ⟨le d 24 8, copySpan d 44 52, .store, 24⟩]
  | 2 => [⟨le d 24 8, le d 40 4 * le d 44 4, .store, 24⟩, ⟨le d 32 8, le d 40 4 * (if bit (le d 48 1) 0 then 8 else 4), .load, 32⟩]
  | 3 => [⟨le d 16 8, le d 40 4 * le d 44 4, .load, 16⟩, ⟨le d 32 8, le d 40 4 * (if bit (le d 48 1) 0 then 8 else 4), .load, 32⟩]
  | 4 => [⟨le d 16 8, le d 24 8, .store, 16⟩]
  | 5 => ⟨le d 16 8, le d 32 4, .load, 16⟩ :: ⟨le d 24 8, 8 * le d 36 1, .load, 24⟩ ::
      dests.map (fun a => ⟨a, le d 32 4, .store, 24⟩)
  | 6 | 7 => [⟨le d 16 8, 4096 * le d 24 4, .load, 16⟩]
  | 8 => [⟨le d 16 8, le d 32 4 * sfmtBytes (bits (le d 36 1) 3 0), .load, 16⟩, ⟨le d 24 8, le d 32 4 * csendW d, .store, 24⟩]
  | 9 => [⟨rdTgt d, rdCount d * rdW d, .store, 32⟩, ⟨rdOut d, rdCount d * outBytes (rdCode d), .store, 40⟩,
      ⟨rdAcc d, 32 * rdCount d, .store, 48⟩]
  | _ => [⟨le d 16 8, 1, .store, 16⟩]

/-- The same with RADDR's range in front, when RREC is set. -/
def pAllRanges (d : Bytes) (dests : List Nat) : List PRange :=
  (if bit (pFlags d) 4 then [⟨pRaddr d, 16, .store, 8⟩] else []) ++ pRanges d dests

/-! ### The checks of Table 5.11 -/

/-- A field with a condition, a status and its offset. -/
def fld (ok : Bool) (st : Status) (off : Nat) : FieldCheck := (ok, st, off)

/-- The failing field of a check that stands first in the descriptor. -/
def minField (l : List FieldCheck) : Option (Status × Nat) :=
  l.foldl (fun m c => if c.1 then m else match m with
    | some x => if c.2.2 < x.2 then some c.2 else m
    | none => some c.2) none

/-- The base of a GATHER or SCATTER and the offset of its field. -/
def pBase (d : Bytes) : List (Nat × Nat) :=
  match pPop d with
  | 2 => [(le d 16 8, 16)]
  | 3 => [(le d 24 8, 24)]
  | _ => []

/-- Check 3 (a CSEND whose SFMT does not fit its COP fails at COP, byte 37): reserved bits, fields that must be zero, encodings and combinations; and the remote operands of an Aquifer
pump (R337). [DEDUCED, log entry 55] -/
def State.pCheck3 (s : State) (e : PumpEnv) (d : Bytes) (dests : List Nat) : List FieldCheck :=
  let f := pFlags d
  let pop := pPop d
  let rem := if e.aq then (pAllRanges d dests).filter (fun r => s.isRemote r.a) else []
  let remOk (r : PRange) : Bool := (pop == 1 && r.off != 8) || (pop == 4 && r.off == 16) || (pop == 8 && r.off == 24)
  [fld (!bit f 7 && ((!bit f 2 && !bit f 3) || pop == 1) && (!bit f 1 || decide (1 ≤ pop ∧ pop ≤ 5))) .badField 1,
   fld (bits (le d 2 2) 15 9 == 0 && (bit f 1 || le d 2 2 == 0)) .badField 2,
   fld (bits (le d 4 4) 31 17 == 0 && (bit f 0 || le d 4 4 == 0)) .badField 4,
   fld (bit f 4 || pRaddr d == 0) .badField 8] ++
  (match pop with
   | 1 => [mustZero d 56 8]
   | 2 | 3 => [fld (bits (le d 48 1) 7 1 == 0) .badField 48, mustZero d 49 15]
   | 4 => [mustZero d 40 24]
   | 5 => [mustZero d 37 27]
   | 6 | 7 => [fld (zeroAt d 28 4) .badField 24, mustZero d 32 8, mustZero d 40 24]
   | 8 =>
     let c := le d 37 1
     [fld (bits (le d 36 1) 7 4 == 0 && decide (bits (le d 36 1) 3 0 ≤ 6)) .badField 36,
      fld (bits c 7 4 == 0 && decide (bits c 2 0 ≤ 4) && csendOk (bits (le d 36 1) 3 0) (bits c 2 0) (bit c 3)) .badField 37,
      fld (bits (le d 38 2) 15 9 == 0 && (bits c 2 0 == 0 || le d 38 2 == 0)) .badField 38,
      mustZero d 40 24]
   | 9 =>
     [fld (bits (le d 16 1) 7 5 == 0 && decide (rdOp d ≤ 4) && (!rdWide d || rdOp d == 0) && (!rdI64 d || decide (2 ≤ rdOp d))) .badField 16,
      fld (bits (le d 17 1) 7 5 == 0 && rdOk d) .badField 17,
      fld (bits (le d 18 2) 15 9 == 0 && (rdOp d == 0 || le d 18 2 == 0)) .badField 18,
      fld (bits (le d 28 4) 31 17 == 0) .badField 28,
      mustZero d 56 8]
   | _ => [mustZero d 24 40]) ++
  (rem.filter (fun r => !remOk r)).map (fun r => fld false .badField r.off) ++
  (pBase d).map (fun b => fld (!(e.aq && s.isRemote b.1)) .badField b.2) ++
  [fld (decide (rem.length < 2)) .badField 16,
   fld (!(pop == 1 && isHost e (le d 16 8) && isHost e (le d 24 8))) .badField 16]

/-- Check 4: counts and sizes. -/
def pCheck4 (d : Bytes) : List FieldCheck :=
  let le38 (n : Nat) : Bool := decide (n ≤ 2 ^ 38)
  [fld (decide (pStash d ≤ 383)) .range 2, fld (decide (pCell d < nCells)) .range 4] ++
  (match pPop d with
   | 1 => [fld (decide (1 ≤ le d 32 4) && le38 (le d 32 4 * le d 36 2 * le d 38 2)) .range 32,
       fld (decide (1 ≤ le d 36 2)) .range 36, fld (decide (1 ≤ le d 38 2)) .range 38]
   | 2 | 3 => [fld (decide (1 ≤ le d 40 4) && decide (le d 40 4 ≤ 2 ^ 24) && le38 (le d 40 4 * le d 44 4)) .range 40,
       fld (decide (1 ≤ le d 44 4) && decide (le d 44 4 ≤ 65536)) .range 44]
   | 4 => [fld (decide (1 ≤ le d 24 8) && le38 (le d 24 8)) .range 24]
   | 5 => [fld (decide (32 ≤ le d 32 4) && decide (le d 32 4 ≤ 2 ^ 24)) .range 32,
       fld (decide (1 ≤ le d 36 1) && decide (le d 36 1 ≤ 64)) .range 36]
   | 6 | 7 => [fld (decide (1 ≤ le d 24 4) && decide (le d 24 4 ≤ 2 ^ 26)) .range 24]
   | 8 => [fld (decide (1 ≤ le d 32 4) && decide (le d 32 4 ≤ 65536)) .range 32, fld (cscaleOk (le d 38 2)) .range 38]
   | 9 => [fld (cscaleOk (le d 18 2)) .range 18, fld (decide (1 ≤ rdNcontrib d)) .range 20,
       fld (decide (1 ≤ rdCount d) && decide (rdCount d ≤ 65536)) .range 24, fld (decide (rdDone d < nCells)) .range 28]
   | _ => [])

/-- Check 5: alignment. -/
def pCheck5 (d : Bytes) (dests : List Nat) : List FieldCheck :=
  let al (a n off : Nat) : FieldCheck := fld (a % n == 0) .align off
  [al (pRaddr d) 16 8] ++
  (match pPop d with
   | 2 | 3 => [al (le d 32 8) (if bit (le d 48 1) 0 then 8 else 4) 32]
   | 5 => [al (le d 16 8) 32 16, al (le d 24 8) 8 24] ++ dests.map (fun a => al a 32 24) ++ [al (le d 32 4) 32 32]
   | 6 | 7 => [al (le d 16 8) 4096 16]
   | 8 => [al (le d 16 8) (sfmtBytes (bits (le d 36 1) 3 0)) 16, al (le d 24 8) (csendW d) 24]
   | 9 => [al (rdTgt d) (rdW d) 32, al (rdOut d) (outBytes (rdCode d)) 40, al (rdAcc d) 32 48]
   | _ => [])

/-- Kind of the place an address leads to. -/
def State.kindOf (s : State) (a : Nat) : Kind := (s.place a).kind

/-- The kinds of place that an opcode names for one of its ranges; none when it names none (R172, R177, R182, R184, R189). -/
def pKinds (d : Bytes) (r : PRange) : Option (List Kind) :=
  if r.off = 8 then none
  else match pPop d with
    | 5 => if r.k = .store then some [.cistern, .tcm] else none
    | 6 | 7 => some [.hbm]
    | 8 => if r.k = .store then some [.cistern] else none
    | 9 => some (if r.off = 40 then [.cistern, .hbm] else [.cistern])
    | 10 => some [.cistern]
    | _ => none

/-- A privileged COPY by aligned rows of 4 or 8 bytes reads the checksum table by PEEK (R241). -/
def State.peekRows (s : State) (e : PumpEnv) (d : Bytes) (r : PRange) : Bool :=
  let n := le d 32 4
  (match e.who with | .hostPump _ b => b | _ => false) && pPop d == 1 && r.k == .load && s.memRange false r.a r.n true &&
    (copyRows d).all (fun x => s.memRange false x.1 n || ((n == 4 || n == 8) && x.1 % n == 0))

/-- Whether a range lies in an area that its field allows (R7, R138, R144, R169). A block of registers is such an area for every
pump: it is check 7 that refuses it (R23, R143, R244). -/
def State.pArea (s : State) (e : PumpEnv) (d : Bytes) (r : PRange) : Bool :=
  let k := s.kindOf r.a
  if isHost e r.a && (pPop d == 1 || pPop d == 4) then decide (hostBus r.a + r.n ≤ 2 ^ 62)
  else if e.aq && s.isRemote r.a then true
  else if !(pKinds d r).all (·.contains k) then false
  else match s.place r.a, s.place (r.a + r.n - 1) with
    | .diag o, .diag o' => diagKnown o && diagKnown o'
    | .cell _, .cell _ => pPop d == 1 && r.k == .load
    | _, _ => s.memRange false r.a r.n || s.peekRows e d r

/-- Whether the requester is admitted to a range (check 7); only a COPY reads a block of the diagnostic space, by aligned words. -/
def State.pAdmit (s : State) (e : PumpEnv) (d : Bytes) (r : PRange) : Bool :=
  if isHost e r.a || (e.aq && s.isRemote r.a) then true
  else match s.place r.a with
    | .diag _ => pPop d == 1 && r.k == .load &&
        (copyRows d).all (fun x => x.1 % 8 == 0 && le d 32 4 % 8 == 0 && (List.range (le d 32 4 / 8)).all (fun i =>
        match s.place (x.1 + 8 * i) with
        | .diag o => s.diagReadable e.who o
        | _ => false))
    | .cell _ => false
    | _ => s.memCheck e.who r.k r.a r.n != .permission

/-- Whether a cell belongs to the issuer's partition. -/
def State.pOwnCell (s : State) (e : PumpEnv) (c : Nat) : Bool :=
  match e.who with
  | .taskPump a => s.regionPart (c / 2048) == s.agentPart a
  | _ => true

/-- Written ranges of local memory, for check 8: not the contribution window of a CINSTALL, which it does not write. -/
def State.pWritten (s : State) (e : PumpEnv) (d : Bytes) (dests : List Nat) : List PRange :=
  (pRanges d dests).filter (fun r => r.k == .store && !isHost e r.a && !s.isRemote r.a && pPop d != 8 && pPop d != 10 && !(pPop d == 9 && r.off == 32))

/-- Check 8: spans that must not overlap. -/
def State.pDisjoint (s : State) (e : PumpEnv) (d : Bytes) (dests : List Nat) : Bool :=
  let meets (x y : PRange) : Bool := overlap (s.loc x.a) x.n (s.loc y.a) y.n
  let w := s.pWritten e d dests
  let src := (pRanges d dests).filter (fun r => r.off == 16 && r.k == .load && !isHost e r.a && !s.isRemote r.a)
  (if pPop d = 1 ∨ pPop d = 5 then src.all (fun x => w.all (fun y => !meets x y)) else true) &&
    (if pPop d = 5 then
      (List.range w.length).all (fun i => (List.range i).all (fun j =>
        !meets (w.getD i ⟨0, 0, .load, 0⟩) (w.getD j ⟨0, 0, .load, 0⟩)))
     else true) &&
    (!bit (pFlags d) 4 || w.all (fun y => !meets ⟨pRaddr d, 16, .store, 8⟩ y))

/-- Checks 3 to 8 of Table 5.11: the status of the first that fails, and the offset of its field.
[DESIGN CHOICE, log entry 26] -/
def State.pCheck (s : State) (e : PumpEnv) (d : Bytes) (dests : List Nat) : Option (Status × Nat) :=
  let rs := pAllRanges d dests
  let c6 := rs.map (fun r => fld (s.pArea e d r) .range r.off) ++
    (pBase d).map (fun b => fld (s.memRange false b.1 1) .range b.2)
  let c7 := (if bit (pFlags d) 1 then [fld ((s.tile (tileOf (pStash d))).part == (match e.who with
        | .taskPump a => s.agentPart a
        | _ => none)) .permission 2] else []) ++
    (if bit (pFlags d) 0 then [fld (s.pOwnCell e (pCell d)) .permission 4] else []) ++
    (if pPop d = 9 then [fld (s.pOwnCell e (rdDone d)) .permission 28] else []) ++
    rs.map (fun r => fld (s.pAdmit e d r) .permission r.off)
  minField (s.pCheck3 e d dests) <|> minField (pCheck4 d) <|> minField (pCheck5 d dests) <|> minField c6 <|> minField c7 <|>
    (if s.pDisjoint e d dests then none else some (.inconsistent, 0xFF))

/-- Whether the result record may be written (R175, step 2). -/
def State.raddrOk (s : State) (e : PumpEnv) (d : Bytes) : Bool :=
  bit (pFlags d) 4 && pRaddr d % 16 == 0 && s.memCheck e.who .store (pRaddr d) 16 == .ok

/-! ### Reads and writes -/

/-- How a part of a command ends: nothing wrong, or a status and RESULT. -/
abbrev PEnd := Option (Status × Nat)

/-- Read a row: the bytes, or how the command ends. A privileged host pump reads by PEEK, which changes no state (R214,
R280). -/
def State.pRead (s : State) (e : PumpEnv) (a n : Nat) : State × PEnd × Bytes :=
  match s.place a with
  | .diag o =>
    let r := (List.range (n / 8)).foldl (fun (p : State × Bytes) i =>
      ((p.1.diagClear (o + 8 * i)), p.2 ++ toLe 8 (p.1.diagWord (o + 8 * i)))) (s, [])
    (r.1, none, r.2)
  | _ =>
    let peek := match e.who with | .hostPump _ b => b | _ => false
    let st := if peek then s.stackStatus (s.loc a) n else s.memCheck e.who .load a n
    if st ≠ .ok then (s, some (st, 0), [])
    else
      let t := s.settled a n false
      match t.cohRead e.agent a n (!peek) e.cls with
      | (u, none, b) => (if peek then { t with free := u.free } else u, none, b)
      | (u, some g, b) => (if peek then t else u, some (.uncorrectable, g), b)

/-- The lines of some ranges settle for the accesses of a command. The answer tells whether they have: only a line that a partner
die holds may not (R204). -/
def State.pSettle (s : State) (rs : List (Nat × Nat × Bool)) : State × Bool :=
  let t := rs.foldl (fun (t : State) r => t.settled r.1 r.2.1 r.2.2) s
  (t, rs.all (fun r => (t.busyLines (t.loc r.1) r.2.1 r.2.2).isEmpty))

/-- The ranges of a command whose lines settle before it runs. -/
def State.pLines (s : State) (e : PumpEnv) (d : Bytes) (dests : List Nat) : List (Nat × Nat × Bool) :=
  ((pAllRanges d dests).filter (fun r => !isHost e r.a && !s.isRemote r.a)).map (fun r => (r.a, r.n, decide (r.k = .store)))

/-- Write a row; with STASH each line takes a stash step after its write (R213). -/
def State.pWrite (s : State) (e : PumpEnv) (d : Bytes) (a : Nat) (b : Bytes) : State × PEnd :=
  if isHost e a then (s.hostWrite (hostBus a) b, none)
  else
    let st := s.memCheck e.who .store a b.length
    if st ≠ .ok then (s, some (st, 0))
    else
      match s.uWrite e.agent a b (if bit (pFlags d) 1 then some (pStash d) else none) e.cls with
      | (t, none) => (t, none)
      | (t, some g) => (t, some (.uncorrectable, g))

/-- Leave a destination range undefined (R175). [DESIGN CHOICE, log entry 26] -/
def State.pLose (s : State) (e : PumpEnv) (a n : Nat) : State :=
  if isHost e a ∨ s.isRemote a then s else s.freeRange a n

/-! ### Seals (R235 to R239) -/

/-- Entry number of a block by its local address, and the seal state that its window's kind gives (R236, R237). -/
def sealEntry (a : Nat) : Nat × Nat :=
  match hbmWindow a with
  | some 8 => (a / 4096, 1)
  | some h => (12570624 * h + (a - localBase - h * localSpan) / 4096, 2)
  | none => (0, 0)
/-- Seal state of entry k. -/
def State.seal (s : State) (k : Nat) : Nat := tget (fun _ => 0) s.seals k
/-- Write a block's entry and its seal state at once (R238): when the table's granule refuses the value, the state does not change
either, and the answer is its address. -/
def State.putSeal (s : State) (agent k v st : Nat) : State × Option Nat :=
  let a := tableBase + 4 * k
  match s.writeMem false agent a (toLe 4 v) with
  | (t, true) => ({ t with seals := tset (fun _ => 0) t.seals k st }, none)
  | (t, false) => (t, some ((t.firstPoison a 4).getD a))
/-- Update an entry as far as it can be. -/
def State.setSeal (s : State) (agent k v st : Nat) : State := (s.putSeal agent k v st).1
/-- Read the value of entry k with its error check (R233, R234, R237). -/
def State.sealValue (s : State) (agent k : Nat) : State × Except (Status × Nat) Nat :=
  let a := tableBase + 4 * k
  match s.stackStatus a 4 with
  | .ok =>
    (match s.readMem agent a 4 with
     | (t, some b) => (t, .ok (ofLe b))
     | (t, none) => (t, .error (.uncorrectable, (t.firstPoison a 4).getD a)))
  | st => (s, .error (st, 0))
/-- SEAL one block (Table 7.3). -/
def State.sealBlock (s : State) (e : PumpEnv) (a : Nat) : State × PEnd :=
  match s.pRead e a 4096 with
  | (t, some x, _) => (t, some x)
  | (t, none, b) =>
    match t.stackStatus (tableBase + 4 * (sealEntry (s.loc a)).1) 4 with
    | .ok =>
      (match t.putSeal e.agent (sealEntry (s.loc a)).1 (crc32c b) (sealEntry (s.loc a)).2 with
       | (u, none) => (u, none)
       | (u, some g) => (u, some (.uncorrectable, g)))
    | st => (t, some (st, 0))
/-- VERIFY one block (R239): the status of the comparison. -/
def State.verifyBlock (s : State) (e : PumpEnv) (a : Nat) : State × PEnd :=
  let k := sealEntry (s.loc a)
  match s.pRead e a 4096 with
  | (t, some x, _) => (t, some x)
  | (t, none, b) =>
    match t.sealValue e.agent k.1 with
    | (u, .error x) => (u, some x)
    | (u, .ok v) =>
      if u.seal k.1 ≠ k.2 then (u, some (.unsealed, 0))
      else if v ≠ crc32c b then (u, some (.checksum, 0))
      else (u, none)

/-- Run steps in order until one ends the command; the number counts the steps that were done. [DESIGN CHOICE, log entry 26] -/
def runCount {α : Type} (f : State → α → State × PEnd) : Nat → List α → State → State × Nat × PEnd
  | k, [], s => (s, k, none)
  | k, x :: t, s =>
    match f s x with
    | (u, some r) => (u, k, some r)
    | (u, none) => runCount f (k + 1) t u

/-- Run steps in order until one ends the command. [DESIGN CHOICE, log entry 26] -/
def runSteps {α : Type} (f : State → α → State × PEnd) : List α → State → State × PEnd
  | [], s => (s, none)
  | x :: t, s =>
    match f s x with
    | (u, some r) => (u, some r)
    | (u, none) => runSteps f t u

/-- The outcome without the number of steps. -/
def dropCount (r : State × Nat × PEnd) : State × PEnd := (r.1, r.2.2)

/-- Blocks that a range touches, by their first address. -/
def blocksOf (a n : Nat) : List Nat := (List.range ((a + n - 1) / 4096 - a / 4096 + 1)).map (fun i => (a / 4096 + i) * 4096)

/-- Whether rows of n bytes cover the whole block at a. -/
def covers (rows : List Nat) (n a : Nat) : Bool :=
  (List.range 4096).all (fun i => rows.any (fun r => decide (r ≤ a + i) && decide (a + i < r + n)))

end Sys2Proof.Machine
end

