-- ==== Sys2Proof/Machine/PumpCmds.lean ====
section
/-!
DEFINITION. The commands of the region and Aquifer pumps (R166 to R184, R189, R239, R337, R349): starting, running and
completing. A command runs in one step, but for MCAST, whose chunks and acknowledgements are steps of their own, and for a
remote transfer, which ends with its last reply.
-/

namespace Sys2Proof.Machine

/-- Agent under which pump p's requests travel (Table 6.1). -/
def pumpAgent (p : Nat) : Nat := if p < 144 then 448 + p / 4 else 493 + (p - 144)
/-- Vane node of pump p: its region, or the strip of its Aquifer port (R162). -/
def pumpNode (p : Nat) : Nat := if p < 144 then p / 4 else if p < 150 then 38 else 39
/-- The environment of a command of pump p. [DESIGN CHOICE, log entry 26] -/
def pumpEnv (p : Nat) (c : PCmd) : PumpEnv := ⟨.taskPump c.agent, pumpAgent p, decide (144 ≤ p), false, c.cls⟩

/-- Replace a command of pump p. -/
def State.setPCmd (s : State) (p : Nat) (c : PCmd) : State :=
  s.setPump p ((s.pump p).map (fun x => if x.id = c.id then c else x))
/-- The command ends: its outcome waits for completion (R175). -/
def State.pumpEnd (s : State) (p : Nat) (c : PCmd) (st : Status) (detail result : Nat) : State :=
  s.setPCmd p { c with fin := some (st, detail, result) }
/-- Whether a command is set aside by a quiesce of its issuer's partition (R167, R403). -/
def State.aside (s : State) (c : PCmd) : Bool :=
  match s.agentPart c.agent with
  | some q => s.partQuiesced q
  | none => false

/-- The command that a pump starts next, when it may (R167): the oldest that has not started, past those set aside; with
ORDER set, when no earlier command of its issuer is left. -/
def State.pumpNext (s : State) (p : Nat) : Option PCmd :=
  match (s.pump p).find? (fun c => !c.started && !s.aside c) with
  | none => none
  | some c =>
    let earlier := (s.pump p).takeWhile (fun x => x.id != c.id)
    if 8 ≤ ((s.pump p).filter (fun x => x.started && !s.aside x)).length then none
    else if bit (pFlags c.desc) 5 ∧ earlier.any (fun x => x.agent == c.agent) then none
    else some c

/-- PUMP_START (R167): checks 1 and 2 of Table 5.11 are made as the command starts. -/
def execPumpStart (p : Nat) (s : State) : Host.Outcome State Fault Refusal :=
  within "pump" p 156 <|
  done s <|
    match s.pumpNext p with
    | none => s
    | some c =>
      let c1 := { c with started := true }
      if s.coreFenced c.agent then s.pumpEnd p c1 .staleEpoch 0xFF 0
      else if pPop c.desc = 0 ∨ 10 < pPop c.desc then s.pumpEnd p c1 .badOpcode 0 0
      else s.setPCmd p c1

/-- Run a started command of an opcode that has not ended and waits for nothing: the checks of Table 5.11, then `f`, once the
lines of its ranges have settled (R204). [DESIGN CHOICE, log entry 26] -/
def State.runPump (s : State) (p id pop : Nat) (f : PumpEnv → PCmd → State → State) : State :=
  match (s.pump p).find? (fun c => c.id == id) with
  | none => s
  | some c =>
    if !c.started || c.fin.isSome || pPop c.desc != pop || s.aside c || !c.waits.isEmpty || !c.live.isEmpty then s
    else
      match s.pCheck (pumpEnv p c) c.desc c.dests with
      | some (st, off) => s.pumpEnd p c st off 0
      | none =>
        let t := s.pSettle (s.pLines (pumpEnv p c) c.desc c.dests)
        if t.2 then f (pumpEnv p c) c t.1 else t.1

/-- End a command as its steps ended. -/
def State.pumpSteps (s : State) (p : Nat) (c : PCmd) (r : PEnd) (ok : Nat) : State :=
  match r with
  | none => s.pumpEnd p c .ok 0 ok
  | some (st, x) => s.pumpEnd p c st 0 x

/-! ### Effects shared with the host pumps -/

/-- HBM blocks that rows of n bytes touch, by their first address. -/
def State.hbmBlocks (s : State) (rows : List Nat) (n : Nat) : List Nat :=
  (rows.flatMap (fun a => blocksOf a n)).eraseDups.filter (fun a => s.kindOf a == .hbm)

/-- VSRC (R173): verify every HBM block that a COPY reads from; RESULT is the HBM address of the block. -/
def copyVerify (e : PumpEnv) (d : Bytes) (s : State) : State × PEnd :=
  dropCount (runCount (fun t a => match t.verifyBlock e a with
    | (u, some (.unsealed, _)) => (u, some (.unsealed, a))
    | (u, some (.checksum, _)) => (u, some (.checksum, a))
    | r => r) 0 (s.hbmBlocks ((copyRows d).map (·.1)) (le d 32 4)) s)

/-- SDST (R173): seal the HBM blocks written whole, unseal those written in part. -/
def copySeal (e : PumpEnv) (d : Bytes) (s : State) : State × PEnd :=
  let rows := (copyRows d).map (·.2)
  dropCount (runCount (fun t a =>
    if covers rows (le d 32 4) a then t.sealBlock e a
    else match t.putSeal e.agent (sealEntry (s.loc a)).1 0 0 with
      | (u, none) => (u, none)
      | (u, some g) => (u, some (.uncorrectable, g))) 0 (s.hbmBlocks rows (le d 32 4)) s)

/-- COPY between two places of this module, or with host memory whose bytes `host` gives (R170, R173, R280). A COPY that ends with
ST_ABORTED keeps the rows that it has written, and RESULT counts their bytes (Table 5.12). [DESIGN CHOICE, log entry 26] -/
def copyEffect (e : PumpEnv) (d : Bytes) (host : Option Bytes) (s : State) : State × PEnd :=
  let n := le d 32 4
  let rows := copyRows d
  let v := if bit (pFlags d) 2 ∧ host.isNone then copyVerify e d s else (s, none)
  let r := match v with
    | (t, some x) => (t, 0, some x)
    | (t, none) => runCount (fun u (i : Nat × Nat × Nat) =>
        match host with
        | some b => u.pWrite e d i.2.2 ((b.drop (i.1 * n)).take n)
        | none => (match u.pRead e i.2.1 n with
          | (w, some x, _) => (w, some x)
          | (w, none, b) => w.pWrite e d i.2.2 b)) 0 ((List.range rows.length).zip rows) t
  match r with
  | (t, k, some (.aborted, _)) => ((rows.drop k).foldl (fun u i => u.pLose e i.2 n) t, some (.aborted, k * n))
  | (t, _, some x) => (rows.foldl (fun u i => u.pLose e i.2 n) t, some x)
  | (t, _, none) => if bit (pFlags d) 3 then copySeal e d t else (t, none)

/-- Bytes that FILL writes at an address (R172). -/
def fillBytes (d : Bytes) : Bytes := (List.range (le d 24 8)).map (fun i => d.getD (32 + (le d 16 8 + i) % 8) 0)
/-- FILL. -/
def fillEffect (e : PumpEnv) (d : Bytes) (s : State) : State × PEnd :=
  match s.pWrite e d (le d 16 8) (fillBytes d) with
  | (t, none) => (t, none)
  | (t, some x) => (t.pLose e (le d 16 8) (le d 24 8), some x)

/-- Blocks of a SEAL or VERIFY, with their numbers. -/
def nblkBlocks (d : Bytes) : List (Nat × Nat) := (List.range (le d 24 4)).map (fun i => (i, le d 16 8 + 4096 * i))
/-- SEAL (R172, R238): a SEAL that ends early leaves the earlier blocks sealed. -/
def sealEffect (e : PumpEnv) (d : Bytes) (s : State) : State × PEnd :=
  dropCount (runCount (fun t (b : Nat × Nat) => t.sealBlock e b.2) 0 (nblkBlocks d) s)
/-- VERIFY (R172, R239): it stops at the first block that is unsealed or does not match, whose number is RESULT. -/
def verifyEffect (e : PumpEnv) (d : Bytes) (s : State) : State × PEnd :=
  dropCount (runCount (fun t (b : Nat × Nat) => match t.verifyBlock e b.2 with
    | (u, some (.unsealed, _)) => (u, some (.unsealed, b.1))
    | (u, some (.checksum, _)) => (u, some (.checksum, b.1))
    | r => r) 0 (nblkBlocks d) s)

/-! ### Remote transfers of the Aquifer pumps (R337, R349) -/

/-- Cut a range into messages: at most 4,096 bytes, or within one 128-byte line when the far cache may serve it. -/
def segments : Nat → Nat → Nat → Nat → List (Nat × Nat)
  | 0, _, _, _ => []
  | k + 1, unit, a, n =>
    if n = 0 then []
    else
      let m := min n (unit - (if unit = 128 then a % 128 else 0))
      (a, m) :: segments k unit (a + m) (n - m)

/-- Send one remote request of an Aquifer pump; none when no request can be made. -/
def State.pumpSend (s : State) (p id cls : Nat) (user : RemUser) (m : AqMsg) (far : Option (Nat × Nat)) : State × Bool :=
  match s.remote user true { m with cls := cls } far with
  | none => (s, false)
  | some (t, tag) =>
    match (t.pump p).find? (fun c => c.id == id) with
    | some c => (t.setPCmd p { c with waits := c.waits ++ [tag] }, true)
    | none => (t, true)

/-- Write bytes to a remote module, in messages. -/
def State.pumpRemoteWrite (s : State) (p id cls a : Nat) (b : Bytes) : State × Bool :=
  match s.place a with
  | .remote m x =>
    (segments b.length 4096 0 b.length).foldl (fun (q : State × Bool) g =>
      let part := (b.drop g.1).take g.2
      let r := (q.1.farWrite (a + g.1) part).pumpSend p id cls (.pumpWrite p id g.2)
        { kind := .wr, dmod := m, addr := x + g.1, len := g.2, data := part } none
      (r.1, q.2 && r.2)) (s, true)
  | _ => (s, false)

/-- Read bytes of a remote module into local memory, in messages, or from the far cache, which each read of a line fills (R349). -/
def State.pumpRemoteRead (s : State) (e : PumpEnv) (p id cls : Nat) (d : Bytes) (a n dst : Nat) : State × Bool :=
  match s.place a with
  | .remote m x =>
    (segments n (if s.farOn cls then 128 else 4096) a n).foldl (fun (q : State × Bool) g =>
      let line := g.1 / 128
      let put := dst + (g.1 - a)
      if q.1.farOn cls then
        match q.1.farLook e.agent line with
        | (t, some b) => ((t.pWrite e d put ((b.drop (g.1 % 128)).take g.2)).1, q.2)
        | (t, none) =>
          let r := t.pumpSend p id cls (.pumpRead p id put (g.1 % 128) g.2)
            { kind := .rd, dmod := m, addr := (x + (g.1 - a)) / 128 * 128, len := 128 } (some (line, t.farEpoch))
          (r.1, q.2 && r.2)
      else
        let r := q.1.pumpSend p id cls (.pumpRead p id put 0 g.2) { kind := .rd, dmod := m, addr := x + (g.1 - a), len := g.2 } none
        (r.1, q.2 && r.2)) (s, true)
  | _ => (s, false)

/-- A remote command has succeeded; SDST of a COPY from a remote source seals the blocks that it wrote (R173). -/
def State.remoteOk (s : State) (p : Nat) (c : PCmd) (total : Nat) : State :=
  let d := c.desc
  let r := if pPop d = 1 ∧ bit (pFlags d) 3 ∧ s.isRemote (le d 16 8) then copySeal (pumpEnv p c) d s else (s, none)
  match r with
  | (t, some (st, x)) => t.pumpEnd p c st 0 x
  | (t, none) => t.pumpEnd p c .ok 0 total

/-- After its requests are sent, a remote command ends at once when it has none to wait for, or could not make one
(ST_ABSENT, R332, R334). -/
def State.pumpSent (s : State) (p id : Nat) (ok : Bool) (total : Nat) : State :=
  match (s.pump p).find? (fun c => c.id == id) with
  | none => s
  | some c =>
    if !ok ∧ c.waits.isEmpty then s.pumpEnd p c .absent 0 0
    else if !ok then s.setPCmd p { c with bad := .absent }
    else if c.waits.isEmpty then s.remoteOk p c total
    else s

/-- RESULT of a remote COPY, FILL or CSEND that succeeds: the bytes it moves (Table 5.12). -/
def okBytes (d : Bytes) : Nat :=
  if pPop d = 1 then le d 32 4 * (le d 36 2 * le d 38 2) else if pPop d = 4 then le d 24 8
  else le d 32 4 * sfmtBytes (bits (le d 36 1) 3 0)

/-- RESULT of a command that a remote request has failed with ST_UNCORRECTABLE: the address of the granule that it reached, which
is open when it reached more than one, since a reply names none (R331). -/
def State.remoteBad (s : State) (r : RemReq) : State × Nat :=
  if r.addr / 32 = (r.addr + (max 1 r.len) - 1) / 32 then (s, 2 ^ 63 + 2 ^ 48 * r.dmod + r.addr / 32 * 32)
  else ({ s with free := s.free + 1 }, (Config.freeWord s.free).toNat)

/-- A reply to a remote request of a pump command, or its deadline: with the last one the command ends (R175, R338,
R341). -/
def State.pumpReply (s : State) (p id : Nat) (r : RemReq) (st : Status) (n : Nat) : State :=
  match (s.pump p).find? (fun c => c.id == id) with
  | none => s
  | some c =>
    let q := if st = .uncorrectable ∧ c.bad = .ok then s.remoteBad r else (s, c.badAt)
    let c1 := { c with
      waits := c.waits.filter (· != r.tag)
      bad := if c.bad = Status.ok then st else c.bad
      badAt := q.2
      moved := c.moved + (if st = Status.ok then n else 0) }
    if c1.fin.isSome || !c1.waits.isEmpty then q.1.setPCmd p c1
    else if c1.bad = Status.ok then q.1.remoteOk p c1 (okBytes c1.desc)
    else q.1.pumpEnd p c1 c1.bad 0 (if c1.bad = Status.uncorrectable then c1.badAt else c1.moved)

/-! ### The commands -/

/-- COPY (R170, R173, R337). -/
def copyRun (p : Nat) (e : PumpEnv) (c : PCmd) (s : State) : State :=
  let d := c.desc
  let n := le d 32 4
  if s.isRemote (le d 16 8) then
    let r := (copyRows d).foldl (fun (q : State × Bool) i =>
      let x := q.1.pumpRemoteRead e p c.id c.cls d i.1 n i.2; (x.1, q.2 && x.2)) (s, true)
    r.1.pumpSent p c.id r.2 (n * (copyRows d).length)
  else if s.isRemote (le d 24 8) then
    let v := if bit (pFlags d) 2 then copyVerify e d s else (s, none)
    match v with
    | (t, some x) => t.pumpSteps p c (some x) 0
    | (t, none) =>
      let r := (copyRows d).foldl (fun (q : State × Bool × PEnd) i =>
        if q.2.2.isSome then q
        else match q.1.pRead e i.1 n with
          | (u, some x, _) => (u, q.2.1, some x)
          | (u, none, b) => let x := u.pumpRemoteWrite p c.id c.cls i.2 b; (x.1, q.2.1 && x.2, none)) (t, true, none)
      match r.2.2 with
      | some x => r.1.pumpSteps p c (some x) 0
      | none => r.1.pumpSent p c.id r.2.1 (n * (copyRows d).length)
  else
    let r := copyEffect e d none s
    r.1.pumpSteps p c r.2 (n * (copyRows d).length)

/-- COPY. -/
def execCopy (p id : Nat) (s : State) : Host.Outcome State Fault Refusal :=
  within "pump" p 156 <| done s (s.runPump p id 1 (copyRun p))

/-- Index i of a GATHER or SCATTER list. -/
def pIndex (d l : Bytes) (i : Nat) : Nat :=
  let w := if bit (le d 48 1) 0 then 8 else 4
  le l (w * i) w

/-- The elements of a GATHER or SCATTER: number, source, destination. -/
def idxElems (d l : Bytes) (gather : Bool) : List (Nat × Nat × Nat) :=
  let n := le d 44 4
  (List.range (le d 40 4)).map (fun i =>
    if gather then (i, le d 16 8 + pIndex d l i * n, le d 24 8 + i * n)
    else (i, le d 16 8 + i * n, le d 24 8 + pIndex d l i * n))

/-- GATHER and SCATTER (R171): an indexed address that fails its check ends the command with ST_RANGE and RESULT i; after ST_ABORTED
RESULT counts the bytes written (Table 5.12). [DESIGN CHOICE, log entry 26] -/
def idxRun (gather : Bool) (p : Nat) (e : PumpEnv) (c : PCmd) (s : State) : State :=
  let d := c.desc
  let n := le d 44 4
  match s.pRead e (le d 32 8) (le d 40 4 * (if bit (le d 48 1) 0 then 8 else 4)) with
  | (t, some x, _) => t.pumpSteps p c (some x) 0
  | (t, none, l) =>
    let els := idxElems d l gather
    let far (i : Nat × Nat × Nat) : Nat := if gather then i.2.1 else i.2.2
    let q := t.pSettle (els.map (fun i => (far i, n, !gather)))
    let bad (x : State) (i : Nat × Nat × Nat) : Bool :=
      let st := x.memCheck e.who (if gather then .load else .store) (far i) n
      st == .range || st == .permission
    if !q.2 then q.1
    else
      let r := runCount (fun u i =>
        if bad u i then (u, some (Status.range, i.1))
        else match u.pRead e i.2.1 n with
          | (w, some x, _) => (w, some x)
          | (w, none, b) => w.pWrite e d i.2.2 b) 0 els q.1
      match r with
      | (u, _, none) => u.pumpEnd p c .ok 0 (le d 40 4 * n)
      | (u, k, some (st, x)) =>
        let keep := if st = .range ∨ st = .aborted then k else 0
        let lost := (els.drop keep).filter (fun i => gather || !bad u i)
        (lost.foldl (fun w i => w.pLose e i.2.2 n) u).pumpEnd p c st 0 (if st = .aborted then k * n else x)

/-- GATHER. -/
def execGather (p id : Nat) (s : State) : Host.Outcome State Fault Refusal :=
  within "pump" p 156 <| done s (s.runPump p id 2 (idxRun true p))
/-- SCATTER. -/
def execScatter (p id : Nat) (s : State) : Host.Outcome State Fault Refusal :=
  within "pump" p 156 <| done s (s.runPump p id 3 (idxRun false p))

/-- FILL, local or remote. -/
def fillRun (p : Nat) (e : PumpEnv) (c : PCmd) (s : State) : State :=
  let d := c.desc
  if s.isRemote (le d 16 8) then
    let r := s.pumpRemoteWrite p c.id c.cls (le d 16 8) (fillBytes d)
    r.1.pumpSent p c.id r.2 (le d 24 8)
  else
    let r := fillEffect e d s
    r.1.pumpSteps p c r.2 (le d 24 8)

/-- FILL (R172). -/
def execFill (p id : Nat) (s : State) : Host.Outcome State Fault Refusal :=
  within "pump" p 156 <| done s (s.runPump p id 4 (fillRun p))

/-- SEAL (R172). -/
def execSeal (p id : Nat) (s : State) : Host.Outcome State Fault Refusal :=
  within "pump" p 156 <|
  done s (s.runPump p id 6 (fun e c t => let r := sealEffect e c.desc t; r.1.pumpSteps p c r.2 (le c.desc 24 4)))

/-- VERIFY (R239). -/
def execVerify (p id : Nat) (s : State) : Host.Outcome State Fault Refusal :=
  within "pump" p 156 <|
  done s (s.runPump p id 7 (fun e c t => let r := verifyEffect e c.desc t; r.1.pumpSteps p c r.2 (le c.desc 24 4)))

/-! ### MCAST (R177 to R180) -/

/-- Bytes of chunk k of an MCAST. -/
def mcBytes (d : Bytes) (k : Nat) : Nat := min 65536 (le d 32 4 - 65536 * k)
/-- Chunks of an MCAST. -/
def mcChunks (d : Bytes) : Nat := (le d 32 4 + 65535) / 65536
/-- List entries that have not failed. -/
def PCmd.alive (c : PCmd) : List Nat := (List.range c.dests.length).filter (fun i => !bit c.failed i)
/-- Whether a destination cannot be reached: its core is absent or fenced, or its partition is being reset (R180). -/
def State.mcGone (s : State) (a : Nat) : Bool :=
  (match placeLocal (s.loc a) with
   | .tcm x => !s.corePresent ((x - tcmBase) / 0x20000) || s.coreFenced ((x - tcmBase) / 0x20000)
   | _ => false) || s.placeResetting (s.loc a) 32
/-- A destination fails: the rest of its range is undefined. -/
def State.mcFail (s : State) (e : PumpEnv) (c : PCmd) (i : Nat) : State × PCmd :=
  let a := c.dests.getD i 0
  (s.pLose e (a + 65536 * c.chunk) (le c.desc 32 4 - 65536 * c.chunk),
    { c with failed := c.failed ||| 2 ^ i, live := c.live.filter (· != i) })
/-- Key of the landing buffer that a destination of an MCAST of pump p takes: the region of its router, and MCA or MCB (R177,
R178). -/
def State.mcKey (s : State) (p a : Nat) : Nat :=
  2 * (match placeLocal (s.loc a) with
    | .cistern x => (cisPlace x).n
    | .tcm x => ((s.tile (tileOf ((x - tcmBase) / 0x20000))).site).getD 0
    | _ => 0) + (if p < 144 then 0 else 1)
/-- Who holds a landing buffer: the pump, command and list entry. -/
def State.mcHolder (s : State) (key : Nat) : Option (Nat × Nat × Nat) :=
  match tget (fun _ => none) s.mesh.landing key with
  | some h => if (s.pump h.1).any (fun c => c.id == h.2.1 && c.live.contains h.2.2) then some h else none
  | none => none
/-- A free landing buffer goes to a destination that waits for it: destinations in one region take it in turn (R178).
[DESIGN CHOICE, log entry 26] -/
def State.mcTake (s : State) (key : Nat) : State :=
  if (s.mcHolder key).isSome then s
  else
    let want := (tkeys s.mesh.pumps).findSome? (fun p => (s.pump p).findSome? (fun c =>
      (c.live.find? (fun i => s.mcKey p (c.dests.getD i 0) == key)).map (fun i => (p, c.id, i))))
    { s with mesh.landing := tset (fun _ => none) s.mesh.landing key want }
/-- A destination gives its landing buffer back. -/
def State.mcFree (s : State) (key : Nat) : State :=
  { s with mesh.landing := tset (fun _ => none) s.mesh.landing key none }

/-- Send the chunk that c names, to every destination that has not failed; the command ends when none is left, or no chunk
is left. -/
def State.mcSend (s : State) (p : Nat) (e : PumpEnv) (c : PCmd) : State :=
  if mcChunks c.desc ≤ c.chunk ∨ c.alive = [] then
    s.pumpEnd p { c with live := [] } (if c.failed = 0 then .ok else .partialDone)
      (if c.failed = 0 then 0 else c.dests.length - c.alive.length) c.failed
  else
    match s.pRead e (le c.desc 16 8 + 65536 * c.chunk) (mcBytes c.desc c.chunk) with
    | (t, some (st, x), _) =>
      (c.alive.foldl (fun u i => (u.mcFail e c i).1) t).pumpEnd p { c with live := [] } st 0
        (if st = .aborted then 65536 * c.chunk else x)
    | (t, none, b) =>
      let r := (c.alive.filter (fun i => t.mcGone (c.dests.getD i 0))).foldl
        (fun (q : State × PCmd) i => q.1.mcFail e q.2 i) (t, { c with buf := b })
      if r.2.alive = [] then
        r.1.pumpEnd p { r.2 with live := [] } .partialDone c.dests.length r.2.failed
      else r.2.alive.foldl (fun u i => u.mcTake (u.mcKey p (r.2.dests.getD i 0))) (r.1.setPCmd p { r.2 with live := r.2.alive })

/-- MCAST: the list is read and checked, and the first chunk is sent. -/
def State.mcStart (s : State) (p id : Nat) : State :=
  match (s.pump p).find? (fun c => c.id == id) with
  | none => s
  | some c =>
    if !c.started || c.fin.isSome || pPop c.desc != 5 || s.aside c || !c.live.isEmpty then s
    else
      let e := pumpEnv p c
      let n := 8 * le c.desc 36 1
      let ok := s.memCheck e.who .load (le c.desc 24 8) n == .ok && le c.desc 24 8 % 8 == 0
      let r := if ok then s.pRead e (le c.desc 24 8) n else (s, none, [])
      let c1 := { c with dests := (List.range (r.2.2.length / 8)).map (fun i => le r.2.2 (8 * i) 8) }
      match s.pCheck e c1.desc c1.dests, r.2.1 with
      | some (st, off), _ => s.pumpEnd p c st off 0
      | none, some (st, x) => r.1.pumpEnd p c st 0 x
      | none, none => if ok then r.1.mcSend p e c1 else s.pumpEnd p c (s.memCheck e.who .load (le c.desc 24 8) n) 0 0

/-- MCAST (R177). -/
def execMcast (p id : Nat) (s : State) : Host.Outcome State Fault Refusal :=
  within "pump" p 156 <| done s (s.mcStart p id)

/-- One destination of a running MCAST is done with the chunk; after the last one the next chunk is sent. -/
def State.mcStep (s : State) (p : Nat) (e : PumpEnv) (c : PCmd) : State :=
  if c.live = [] then s.mcSend p e { c with chunk := c.chunk + 1 } else s.setPCmd p c

/-- A destination of a running MCAST that has not acknowledged its chunk. -/
def State.mcLive (s : State) (p id dest : Nat) (f : PumpEnv → PCmd → State → State) : State :=
  match (s.pump p).find? (fun c => c.id == id) with
  | none => s
  | some c => if c.live.contains dest ∧ !s.aside c then f (pumpEnv p c) c s else s

/-- Destination `dest` of command c is done with its chunk: it gives its landing buffer back to the next in turn (R178). -/
def State.mcDone (s : State) (p : Nat) (e : PumpEnv) (c : PCmd) (dest : Nat) (held : Bool) : State :=
  let key := s.mcKey p (c.dests.getD dest 0)
  ((if held then s.mcFree key else s).mcStep p e c).mcTake key

/-- MC_ACK (R178): the destination that holds the landing buffer of its region has written its chunk. -/
def execMcAck (p id dest : Nat) (s : State) : Host.Outcome State Fault Refusal :=
  within "pump" p 156 <|
  done s <| s.mcLive p id dest fun e c s =>
    if s.mcHolder (s.mcKey p (c.dests.getD dest 0)) ≠ some (p, id, dest) then s
    else
      match s.pWrite e c.desc (c.dests.getD dest 0 + 65536 * c.chunk) c.buf with
      | (t, none) => t.mcDone p e { c with live := c.live.filter (· != dest) } dest true
      | (t, some _) => let r := t.mcFail e c dest; r.1.mcDone p e r.2 dest true

/-- MCAST_TIMEOUT (R180). -/
def execMcastTimeout (p id dest : Nat) (s : State) : Host.Outcome State Fault Refusal :=
  within "pump" p 156 <|
  done s <| s.mcLive p id dest fun e c s =>
    let r := s.mcFail e c dest
    r.1.mcDone p e r.2 dest (s.mcHolder (s.mcKey p (c.dests.getD dest 0)) == some (p, id, dest))

/-! ### Reductions -/

/-- The contribution that element i of a CSEND becomes (R184, R185). -/
def csendContrib (d b : Bytes) (i : Nat) : Contrib :=
  let f := bits (le d 36 1) 3 0
  let c := le d 37 1
  let op := bits c 2 0
  let wide := bit c 3
  let n := sfmtBytes f
  let v := le b (n * i) n
  let sc := if op = 0 then cscale (le d 38 2) else 0
  let w := if wide then 128 else 64
  let base : Contrib := ⟨le d 24 8 + i * csendW d, op, wide, decide (2 ≤ op) && f == 4, sc, 0, 1, false, false, none⟩
  let flt : Val := match f with | 0 => fp32.decode v | 1 => bf16.decode v | _ => fp16.decode v
  if op = 0 then
    (if f = 5 ∨ f = 6 then { base with sum := (wordOf (8 * n) v).getD 0, nan := (wordOf (8 * n) v).isNone }
     else
      let x : Val := if f = 3 ∨ f = 4 then .fin (decide (toInt (8 * n) v < 0)) ⟨toInt (8 * n) v, 0⟩ else flt
      let r := convIn w sc x
      { base with sum := r.1.getD 0, nan := r.1.isNone, flag := r.2 })
  else if op = 1 then { base with sum := ((if f = 0 then v else toFp32 flt : Nat) : Int) }
  else { base with sum := toInt (8 * n) v }

/-- The 32 data bytes of a contribution (R185): kind, width and flags, scale, count, sum. -/
def contribBytes32 (c : Contrib) : Bytes :=
  toLe 1 (c.op + 8 * b2n c.wide + 16 * b2n c.i64 + 32 * b2n c.flag + 64 * b2n c.nan) ++ toLe 1 0 ++ toLe 2 (ofInt 9 c.scale) ++
    toLe 4 c.count ++ toLe 20 (ofInt 160 c.sum) ++ zeros 4

/-- CSEND (R184): local contributions enter the network; a remote target takes them in messages (R337). -/
def csendRun (p : Nat) (e : PumpEnv) (c : PCmd) (s : State) : State :=
  let d := c.desc
  let n := sfmtBytes (bits (le d 36 1) 3 0)
  match s.pRead e (le d 16 8) (le d 32 4 * n) with
  | (t, some x, _) => t.pumpSteps p c (some x) 0
  | (t, none, b) =>
    let cs := (List.range (le d 32 4)).map (csendContrib d b)
    if s.isRemote (le d 24 8) then
      let r := cs.foldl (fun (q : State × Bool) k =>
        match q.1.place k.addr with
        | .remote m x =>
          let y := q.1.pumpSend p c.id c.cls (.pumpWrite p c.id n)
            { kind := .catc, dmod := m, addr := x, len := 32, data := contribBytes32 k } none
          (y.1, q.2 && y.2)
        | _ => (q.1, false)) (t, true)
      r.1.pumpSent p c.id r.2 (le d 32 4 * n)
    else
      let from' : Option Nat := if p < 144 then some (p / 4) else none
      { t with mesh.flights := t.mesh.flights ++ cs.map (fun (k : Contrib) => { k with src := from' }) }.pumpEnd p c .ok 0 (le d 32 4 * n)

/-- CSEND. -/
def execCsend (p id : Nat) (s : State) : Host.Outcome State Fault Refusal :=
  within "pump" p 156 <| done s (s.runPump p id 8 (csendRun p))

/-- CINSTALL (R182, R183): its own checks in order, then the slot is ACTIVE and its entries are zero.
[DESIGN CHOICE, log entry 26] -/
def cinstallRun (p : Nat) (_e : PumpEnv) (c : PCmd) (s : State) : State :=
  let d := putAt (putAt c.desc 32 (toLe 8 (s.loc (rdTgt c.desc)))) 48 (toLe 8 (s.loc (rdAcc c.desc)))
  let n := (cisPlace (rdTgt d)).n
  let top := cisternBase + (n + 1) * blockBytes
  let win := rdCount d * rdW d
  let acc := 32 * rdCount d
  let out := rdCount d * outBytes (rdCode d)
  let u := s.cat n
  let free := (List.range 64).find? (fun k => (u.slot k).state == 0)
  let st := firstFail [
    (decide (rdTgt d + win ≤ top) && decide (top ≤ rdAcc d + blockBytes) && decide (rdAcc d + acc ≤ top), .range),
    (u.service, .locked),
    ((List.range 64).all (fun k => (u.slot k).state == 0 || (u.slot k).group.isSome ||
      !overlap (rdTgt d) win (u.slot k).tgt (rdCount (u.slot k).desc * rdW (u.slot k).desc)), .locked),
    (free.isSome, .oversubscribed),
    (!overlap (rdTgt d) win (rdAcc d) acc && !overlap (rdTgt d) win (s.loc (rdOut d)) out
      && !overlap (rdAcc d) acc (s.loc (rdOut d)) out, .inconsistent)]
  match free with
  | some k =>
    if st ≠ .ok then s.pumpEnd p c st 0 0
    else (((s.dropLines (rdAcc d) acc).zeroRange (rdAcc d) (rdAcc d + acc)).setSlotAt n k { state := 1, desc := d, cls := c.cls }).pumpEnd p c .ok 0 k
  | none => s.pumpEnd p c st 0 0

/-- CINSTALL. -/
def execCinstall (p id : Nat) (s : State) : Host.Outcome State Fault Refusal :=
  within "pump" p 156 <| done s (s.runPump p id 9 (cinstallRun p))

/-- CRELEASE (R189). -/
def creleaseRun (p : Nat) (_e : PumpEnv) (c : PCmd) (s : State) : State :=
  let a := s.loc (le c.desc 16 8)
  let n := (cisPlace a).n
  match (List.range 64).find? (fun k => ((s.cat n).slot k).state != 0 && ((s.cat n).slot k).group.isNone && ((s.cat n).slot k).tgt == a) with
  | some k => (s.catFree n k).pumpEnd p c .ok 0 0
  | none => s.pumpEnd p c .absent 0 0

/-- CRELEASE. -/
def execCrelease (p id : Nat) (s : State) : Host.Outcome State Fault Refusal :=
  within "pump" p 156 <| done s (s.runPump p id 10 (creleaseRun p))

/-! ### Completion -/

/-- The 16 bytes of a result record (R175). -/
def resultRecord (ticket : Nat) (st : Status) (detail result : Nat) : Bytes :=
  toLe 4 ticket ++ toLe 1 (stCode st) ++ toLe 3 detail ++ toLe 8 result

/-- The status of a command reaches TLK.PFENCE (R57). -/
def State.pumpStatus (s : State) (c : PCmd) (st : Status) : State :=
  let k := s.core c.agent
  if k.outst.contains c.ticket then
    let t := s.setCore c.agent { k with outst := k.outst.filter (· != c.ticket), stat := k.stat ++ [(c.ticket, st)] }
    match k.wait with
    | .pfence v rd => t.pfence c.agent v rd
    | _ => t
  else s

/-- PUMP_COMPLETE (R175): the result record, the ADD on CELL, and the status. -/
def execPumpComplete (p id : Nat) (s : State) : Host.Outcome State Fault Refusal :=
  within "pump" p 156 <|
  done s <|
    match (s.pump p).find? (fun c => c.id == id) with
    | none => s
    | some c =>
      match c.fin with
      | none => s
      | some (st, detail, result) =>
        if s.aside c || !c.waits.isEmpty then s
        else
          let e := pumpEnv p c
          let d := c.desc
          let s1 := s.setPump p ((s.pump p).filter (fun x => x.id != id))
          let s2 := if s1.raddrOk e d then (s1.uWrite e.agent (pRaddr d) (resultRecord c.ticket st detail result) none c.cls).1 else s1
          let sig := bit (pFlags d) 0 && (bit (pFlags d) 6 || st == .ok || st == .partialDone) && decide (pCell d < nCells)
            && s2.pOwnCell e (pCell d)
          (if sig then s2.postAdd (pumpNode p) (pCell d) 1 else s2).pumpStatus c st

end Sys2Proof.Machine
end

