-- ==== Sys2Proof/Machine/Retire.lean ====
section
/-!
DEFINITION. Scrubbing (R392, R393), spare rows and columns of the Cistern (R395, R396), the retirement of allocation units
and granules (R144, R397, R398), the remap table of a stack (R243), the rate steps of a stack (R249), and the traffic
generator (R245, R246).
-/

namespace Sys2Proof.Machine

/-! ### Pins and installed maps -/

/-- Bytes of a map entry. -/
def mapBytes (e : MapEnt) : Nat := 65536 * e.units

/-- A pin register's value (Table 4.4): first address, bytes, WPROT; none when it is not valid. -/
def pinOf (w : Nat) : Option (Nat × Nat × Bool) :=
  if bit w 0 then some (cisternBase + 65536 * bits w 31 16, 65536 * bits w 47 32, bit w 1) else none
/-- Offset of PART_CPINn of partition p. -/
def pinReg (p n : Nat) : Nat := 0x1000 + 0x100 * p + 8 * n
/-- The valid pins of a partition. -/
def State.pins (s : State) (p : Nat) : List (Nat × Nat × Bool) :=
  (List.range 16).filterMap (fun n => pinOf (s.reg 8 (pinReg p n)))

/-- Whether an installed map entry or a valid pin covers a byte of a range. -/
def State.covered (s : State) (a n : Nat) : Bool :=
  (List.range 8).any (fun p => (s.part p).map.any (fun e => overlap e.base (mapBytes e) a n) ||
    (s.pins p).any (fun q => overlap q.1 q.2.1 a n))

/-! ### Retired units -/

/-- First address of an allocation unit of a region, units being numbered 1,536 × region + unit. -/
def unitAddr (u : Nat) : Nat := cisternBase + 65536 * u

/-- Far-cache lines held in a unit of the carve-out are dropped: set k of a region ends 1,024 k bytes below its block's top.
[PRESUMED, log entry 39] -/
def State.dropFarUnit (s : State) (u : Nat) : State :=
  let first := 1536 - 16 * s.carve
  if u % 1536 < first then s
  else
    let lo := 64 * (1535 - u % 1536)
    { s with aq.far := s.aq.far.filter (fun l => !(l.line % 36 == u / 1536 && decide (lo ≤ l.set) && decide (l.set < lo + 64))) }

/-- A unit is retired: its entry is written, then LINE_RETIRED raised (R397, R400). [DEDUCED, log entry 32] -/
def State.retireNow (s : State) (u : Nat) : State :=
  let t := { s.dropFarUnit u with
    cistern.retired := s.cistern.retired ++ [u]
    cistern.unitsPending := s.cistern.unitsPending.filter (· != u) }
  (t.addRepair 6 (u / 1536 + 2 ^ 16 * (u % 1536))).raise 0x016 (2 ^ 4 * (u / 1536) + 2 ^ 16 * (u % 1536)) [] (u / 1536)

/-- Retire a unit, or hold it PENDING while a map entry or a pin covers it (R397). [DEDUCED, log entry 32] -/
def State.retireUnit (s : State) (u : Nat) : State :=
  if s.cistern.retired.contains u then s
  else if s.covered (unitAddr u) 65536 then
    (if s.cistern.unitsPending.contains u then s
     else { s with cistern.unitsPending := s.cistern.unitsPending ++ [u] }.raise 0x016
        (1 + 2 ^ 4 * (u / 1536) + 2 ^ 16 * (u % 1536)) [] (u / 1536))
  else s.retireNow u

/-- The PENDING units that nothing covers any more are retired. [DEDUCED, log entry 32] -/
def State.settlePending (s : State) : State :=
  s.cistern.unitsPending.foldl (fun t u => if t.covered (unitAddr u) 65536 then t else t.retireNow u) s

/-- UNIT_RETIRE (R397). -/
def execUnitRetire (region unit : Nat) (s : State) : Host.Outcome State Fault Refusal :=
  within "region" region 36 <| within "unit" unit 1536 <| done s (s.retireUnit (1536 * region + unit))

/-! ### Spare rows and columns -/

/-- Granules of a row of a sub-array of a slice: 8 lines of 4 granules. -/
def rowGrans (slice sub row : Nat) : List Nat :=
  (List.range 32).map (fun i => cisAddr (slice / 32) (slice % 32) (1024 * sub + 8 * row + i / 4) (32 * (i % 4)) / 32)

/-- Granules are copied with correction: a single-bit error is gone, an uncorrectable one is copied poisoned (R243).
[DEDUCED, log entry 32] -/
def State.copyGrans (s : State) (gs : List Nat) : State :=
  gs.foldl (fun t g =>
    let e := t.gran g
    t.setGran g (if e.poison || decide (2 ≤ e.flips.length) || e.ode == 2 then { poison := true } else {})) s

/-- The errors kept of the granules that `own` names. -/
def State.cisFound (s : State) (own : Nat → Bool) : List (Nat × Nat × Option Nat) := s.cistern.found.filter (fun e => own e.1)

/-- Forget the errors kept of those granules. -/
def State.forgetCis (s : State) (own : Nat → Bool) : State :=
  { s with cistern.found := s.cistern.found.filter (fun e => !own e.1) }

/-- Granule `g` lies in the sub-array. -/
def inSubArray (slice sub g : Nat) : Bool :=
  decide (cisternBase ≤ 32 * g) && decide (32 * g < cisternEnd) && sliceNo (32 * g) == slice && (cisPlace (32 * g)).line / 1024 == sub

/-- A row is remapped for an uncorrectable error, or for three corrected reads within 24 hours (R396).
[DEDUCED, log entry 32] -/
def State.cisRowDue (s : State) (row : List Nat) : Bool :=
  let l := s.cisFound row.contains
  l.any (·.2.2.isNone) || decide (3 ≤ (l.filter (fun e => decide (s.now < e.2.1 + dayNs))).length)

/-- A column is switched for corrected errors at one bit in two rows of a sub-array within 24 hours (R396).
[DEDUCED, log entry 32] -/
def State.cisColDue (s : State) (slice sub b : Nat) : Bool :=
  decide (2 ≤ (((s.cisFound (inSubArray slice sub)).filter (fun e => e.2.2 == some b && decide (s.now < e.2.1 + dayNs))).map
    (fun e => (cisPlace (32 * e.1)).line / 8)).eraseDups.length)

/-- CISTERN_REMAP (R395, R396): the row goes to a spare row of its sub-array; with none left its unit is retired (R397).
[DEDUCED, log entry 32] -/
def execCisternRemap (slice sub row : Nat) (s : State) : Host.Outcome State Fault Refusal :=
  within "slice" slice 1152 <| within "sub-array" sub 24 <| within "row" row 128 <|
  done s <|
    let used := (s.cistern.rows.filter (fun r => r.1 == slice && r.2.1 == sub)).length
    let gs := rowGrans slice sub row
    if !s.cisRowDue gs then s
    else if 8 ≤ used then s.retireUnit (1536 * (slice / 32) + (1024 * sub + 8 * row) / 16)
    else
      let t := { (s.copyGrans gs).forgetCis gs.contains with cistern.rows := s.cistern.rows ++ [(slice, sub, row)] }
      (t.addRepair 4 (slice + 2 ^ 11 * sub + 2 ^ 16 * row + 2 ^ 24 * used)).logRec 0x1001 (slice / 32) (slice + 2 ^ 11 * sub + 2 ^ 16 * row)

/-- CISTERN_COLUMN (R395, R396): a spare column is switched in for a bit of a sub-array, when one is left.
[DEDUCED, log entry 32] -/
def execCisternColumn (slice sub b : Nat) (s : State) : Host.Outcome State Fault Refusal :=
  within "slice" slice 1152 <| within "sub-array" sub 24 <| within "bit" b 266 <|
  done s <|
    let used := (s.cistern.cols.filter (fun r => r.1 == slice && r.2.1 == sub)).length
    if 2 ≤ used || !s.cisColDue slice sub b then s
    else
      let t := ((tkeys s.grans).filter (inSubArray slice sub)).foldl (fun u g =>
        u.setGran g { u.gran g with flips := (u.gran g).flips.filter (· != b) }) (s.forgetCis (inSubArray slice sub))
      ({ t with cistern.cols := s.cistern.cols ++ [(slice, sub, b)] }.addRepair 5 (slice + 2 ^ 11 * sub + 2 ^ 16 * b + 2 ^ 25 * used)).logRec
        0x1002 (slice / 32) (slice + 2 ^ 11 * sub + 2 ^ 16 * b)

/-! ### Scrubbing -/

/-- Position of a scrubber: regions 0 to 35, stacks 64 to 71. -/
def State.scrub (s : State) (k : Nat) : Scrub := tget (fun _ => {}) s.svc.scrubs k
/-- Set a scrubber's position. -/
def State.setScrub (s : State) (k : Nat) (x : Scrub) : State := { s with svc.scrubs := tset (fun _ => {}) s.svc.scrubs k x }

/-- Granules that one pass of a scrubber reads. -/
def scrubSpan (hbm : Bool) : Nat := if hbm then localSpan / 32 else blockBytes / 32

/-- The granule, by index, at a position of a scrubber's walk; none for a retired one (R393). -/
def State.scrubAt (s : State) (hbm : Bool) (unit i : Nat) : Option Nat :=
  if hbm then
    let a := globalOf (dramLocal unit (32 * i))
    if (s.stack unit).retired.contains a then none else some (a / 32)
  else
    let a := cisternBase + unit * blockBytes + 32 * i
    if s.cistern.retired.contains ((a - cisternBase) / 65536) then none else some (a / 32)

/-- One scrub read. -/
def State.scrubStep (s : State) (hbm : Bool) (unit : Nat) (late : Bool) : State :=
  let k := if hbm then 64 + unit else unit
  let x := s.scrub k
  let next := (x.next + 1) % scrubSpan hbm
  let logs := late && !x.logged
  let s1 := s.setScrub k { next := next, late := late, logged := decide (next ≠ 0) && (x.logged || late) }
  let s2 := if logs then s1.logRec 0x1006 (if hbm then 36 + unit / 4 else unit) (if hbm then 64 + unit else unit) else s1
  match s2.scrubAt hbm unit x.next with
  | some g => (s2.readGran g 505).1
  | none => s2

/-- SCRUB_READ (R392, R393): an HBM scrubber pauses while its stack is halted, retraining or offline. -/
def execScrubRead (hbm : Bool) (unit : Nat) (late : Bool) (s : State) : Host.Outcome State Fault Refusal :=
  within "scrubber" unit (if hbm then 8 else 36) <|
  done s <|
    if hbm && ((s.stack unit).halt || (s.stack unit).retraining || (s.stack unit).rate == 3) then s
    else s.scrubStep hbm unit late

/-! ### Rows and rates of a stack -/

/-- Strip that holds a stack's controller, as an event source. -/
def stripOf (h : Nat) : Nat := 36 + (if h < 4 then 0 else 1)

/-- A granule of a stack is retired (R398). -/
def State.retireGran (s : State) (h g : Nat) : State :=
  let x := s.stack h
  if x.retired.contains g then s
  else ((s.setStack h { x with retired := x.retired ++ [g] }).addRepair 8 g).raise 0x016 (2 + 2 ^ 4 * h + 2 ^ 16 * g) [] (stripOf h)

/-- The granules of the units of one DRAM row. [DEDUCED, log entry 31] -/
def dramRow (h c p : Nat) (units : List Nat) : List Nat :=
  units.flatMap (fun o => (List.range 8).map (fun i => globalOf ⟨h, c, p, o, 32 * i⟩ / 32))

/-- Whether a row's reads call for its remap (R243): one has found an uncorrectable granule, or three within 24 hours have found
corrected errors. [DEDUCED, log entry 31] -/
def State.rowDue (s : State) (k : Nat) (row : List Nat) : Bool :=
  let l := (s.chan k).found.filter (fun e => row.contains e.1)
  l.any (·.2.2) || decide (3 ≤ (l.filter (fun e => decide (s.now < e.2.1 + dayNs))).length)

/-- The errors of a row that has been remapped count no more. -/
def State.forgetRow (s : State) (k : Nat) (row : List Nat) : State :=
  s.setChan k { s.chan k with found := (s.chan k).found.filter (fun e => !row.contains e.1) }

/-- HBM_REMAP (R243, R398): a row that is due takes the lowest free entry; with none free its failed granules are retired.
[DEDUCED, log entry 31] -/
def execHbmRemap (h ch pc sid bank row : Nat) (units bad : List Nat) (s : State) : Host.Outcome State Fault Refusal :=
  within "stack" h 8 <|
  done s <|
    let v := ch % 32 + 2 ^ 5 * (pc % 2) + 2 ^ 6 * (sid % 16) + 2 ^ 10 * (bank % 64) + 2 ^ 16 * (row % 2 ^ 18)
    let k := 32 * h + ch % 32
    let gs := dramRow h (ch % 32) (pc % 2) units
    if !s.rowDue k gs then s
    else match (List.range 1024).find? (fun i => (s.remapEnt h i).isNone) with
    | none => (bad.filter (fun g => decide (g < hbmEnd) && (dramOf g).h == h && g % 32 == 0)).foldl (fun t g => t.retireGran h g) s
    | some i =>
      let t := (s.copyGrans gs).forgetRow k gs
      let x := t.stack h
      let old := x.remap.filter (fun e => e.2 != some v)
      ((t.setStack h { x with remap := tset (fun _ => none) old i (some v) }).addRepair 7 (2 * v + 2 ^ 56 * h)).raise
        0x005 (h + 2 ^ 3 * i) [] (stripOf h)

/-- A rate step of a stack (R249): it retrains one step lower, or goes offline below 6.4 Gb/s. [DEDUCED, log entry 31] -/
def State.derate (s : State) (h : Nat) : State :=
  let x := s.stack h
  if x.rate = 3 then s
  else
    let r := x.rate + 1
    let t := (s.setStack h { x with rate := r, retraining := r != 3, queue := if r = 3 then [] else x.queue }).markDist
    let u := t.raise 0x008 (h + 2 ^ 4 * r) [] (stripOf h)
    if r = 3 then u else u.slowNotice 0 2000

/-- Cap of a stack's rate code (Table 7.9). -/
def State.rateCap (s : State) (h : Nat) : Nat := bits (s.reg 8 0x40) (2 * h + 1) (2 * h)

/-- HBM_DERATE (R249). [DEDUCED, log entry 31] -/
def execHbmDerate (h : Nat) (s : State) : Host.Outcome State Fault Refusal :=
  within "stack" h 8 <| done s (s.derate h)

/-- HBM_RETRAIN_DONE (R249): a stack that fails, or that is still above its cap, steps down once more.
[DEDUCED, log entry 31] -/
def execHbmRetrainDone (h : Nat) (ok : Bool) (s : State) : Host.Outcome State Fault Refusal :=
  within "stack" h 8 <|
  done s <|
    let x := s.stack h
    if !x.retraining then s
    else
      let t := s.setStack h { x with retraining := false }
      if !ok || decide (x.rate < s.rateCap h) then t.derate h else t

/-! ### The traffic generator -/

/-- The LFSR pattern of n words. -/
def lfsrWords : Nat → Nat → Bytes
  | 0, _ => []
  | k + 1, v => toLe 4 (lfsr32 v) ++ lfsrWords k (lfsr32 v)

/-- The pattern of a range of units (Table 7.5), or its complement. -/
def tgBytes (mode : Nat) (complement : Bool) (seed : Nat) (units : List Nat) : Bytes :=
  let n := 256 * units.length
  let b := match mode with
    | 0 => (List.range n).map (fun b => BitVec.ofNat 8 (b + seed))
    | 1 => lfsrWords (n / 4) seed
    | 2 => ((List.range (n / 8)).map (fun w => toLe 8 (2 ^ (w % 64)))).flatten
    | _ => (units.map (fun a => ((List.range 32).map (fun i => toLe 8 (a + 8 * i))).flatten)).flatten
  if complement then b.map (fun x => ~~~x) else b

/-- Global-window addresses of the units of a range. -/
def tgUnits (h c p base len : Nat) : List Nat := (List.range len).map (fun i => globalOf ⟨h, c, p, base + i, 0⟩)

/-- The passes of a run over its range: whether a pass writes or checks, and the pattern or its complement; mode 2 makes a second
pair with OP 0. -/
def tgPasses (r : TgRun) : List (Bool × Bool) :=
  if r.op = 1 then [(true, false)] else if r.op = 2 then [(false, false)]
  else if r.mode = 2 then [(true, false), (false, false), (true, true), (false, true)]
  else [(true, false), (false, false)]

/-- The steps of a run, one unit each: whether it writes, the unit offset, the unit's address and the pattern's bytes. -/
def tgSteps (h c : Nat) (r : TgRun) : List (Bool × Nat × Nat × Bytes) :=
  let us := tgUnits h c r.pc r.base r.len
  (tgPasses r).flatMap (fun p =>
    let b := tgBytes r.mode p.2 r.seed us
    ((List.range r.len).zip us).map (fun (e : Nat × Nat) => (p.1, r.base + e.1, e.2, (b.drop (256 * e.1)).take 256)))

/-- The generator writes a unit; the blocks it touches are sealed no longer (R245). -/
def State.tgPut (s : State) (a : Nat) (b : Bytes) : State :=
  let l := localBase + (dramOf a).h * localSpan + localOf (dramOf a)
  let t := (s.writeGrans false 505 a b).1
  { t with seals := tdrop (fun k => k == (sealEntry a).1 || k == (sealEntry l).1) t.seals }

/-- The checker finds a mismatch in granule i of the unit at an offset: FAIL, ERRCNT and, for the first, TG_FAIL and TG_DIFF. -/
def Chan.mismatch (x : Chan) (off i : Nat) (diff : Word) : Chan :=
  if x.fail then { x with errcnt := satAdd x.errcnt 1 0xFFFF }
  else { x with fail := true, errcnt := satAdd x.errcnt 1 0xFFFF, failOff := off, failGran := i, diff := diff.toNat }

/-- The checker reads granule i of a unit and compares it with the pattern; an uncorrectable granule does not match.
[DEDUCED, log entry 31] -/
def State.tgCheck (s : State) (k : Nat) (r : TgRun) (off a : Nat) (b : Bytes) (i : Nat) : State :=
  let q := s.readGrans 505 [(a + 32 * i) / 32]
  let want := (b.drop (32 * i)).take 32
  let got := q.1.rawBytes (a + 32 * i) 32
  let d : Word := BitVec.ofNat 64 (le want 0 8) ^^^ BitVec.ofNat 64 (le got 0 8)
  match r.wrong.find? (fun m => m.1 == off && m.2.1 == i) with
  | some m => q.1.setChan k ((q.1.chan k).mismatch off i m.2.2)
  | none => if want = got ∧ q.2 = false then q.1 else q.1.setChan k ((q.1.chan k).mismatch off i d)

/-- One step of a run. -/
def State.tgStep (s : State) (k : Nat) (r : TgRun) (e : Bool × Nat × Nat × Bytes) : State :=
  if e.1 then s.tgPut e.2.2.1 e.2.2.2
  else (List.range 8).foldl (fun t i => t.tgCheck k r e.2.1 e.2.2.1 e.2.2.2 i) s

/-- A channel is held out of service: during S5, and under a TEST or the monitor (R245). -/
def State.chanHeld (s : State) (k : Nat) : Bool := (s.chan k).held || (s.boot.running && s.boot.stage == 5)

/-- The conditions under which a START is refused (R245, R246). -/
def tgRefused (held : Bool) (r : TgRun) : Bool :=
  !held || decide (4 ≤ r.mode) || r.op == 3 || (r.mode == 1 && r.seed == 0) || r.len == 0 || decide (3145728 < r.base + r.len)

/-- A START, with the granules that the DRAM returns wrong. The run's steps are made by its end: nobody else reaches a channel that
is held out of service. [DEDUCED, log entry 31] -/
def State.tgStart (s : State) (k v : Nat) (wrong : List (Nat × Nat × Word)) : State :=
  let x := s.chan k
  let r : TgRun := ⟨bits v 2 0, bits v 5 4, bits v 6 6, x.seed, x.base, x.len, wrong⟩
  let y := { x with mode := r.mode, op := r.op, pc := r.pc, done := false, fail := false, aborted := false, errcnt := 0 }
  if tgRefused (s.chanHeld k) r then s.setChan k { y with busy := false, refused := true, run := none }
  else s.setChan k { y with busy := true, refused := false, run := some r }

/-- The run completes its range (R246). -/
def State.tgFinish (s : State) (k : Nat) : State :=
  match (s.chan k).run with
  | none => s
  | some r =>
    let t := (tgSteps (k / 32) (k % 32) r).foldl (State.tgStep · k r) s
    t.setChan k { t.chan k with busy := false, done := true, run := none }

/-- The run stops at a unit, by STOP or as the channel returns to service (R246); how far it has come is left open.
[DEDUCED, log entry 31] -/
def State.tgHalt (s : State) (k : Nat) : State :=
  match (s.chan k).run with
  | none => s
  | some r =>
    let steps := tgSteps (k / 32) (k % 32) r
    let q := s.freshNat
    let t := (steps.take (q.1 % (steps.length + 1))).foldl (State.tgStep · k r) q.2
    t.setChan k { t.chan k with busy := false, aborted := true, run := none }

/-- TG_START (R245, R246). -/
def execTgStart (h c : Nat) (v : Word) (mismatches : List (Nat × Nat × Word)) (s : State) : Host.Outcome State Fault Refusal :=
  within "stack" h 8 <| within "channel" c 32 <| done s (s.tgStart (32 * h + c) v.toNat mismatches)

/-- TG_STOP (R246): the generator stops at the next unit. [DEDUCED, log entry 31] -/
def execTgStop (h c : Nat) (s : State) : Host.Outcome State Fault Refusal :=
  within "stack" h 8 <| within "channel" c 32 <| done s (s.tgHalt (32 * h + c))

/-- TG_DONE (R246). -/
def execTgDone (h c : Nat) (s : State) : Host.Outcome State Fault Refusal :=
  within "stack" h 8 <| within "channel" c 32 <| done s (s.tgFinish (32 * h + c))

end Sys2Proof.Machine
end

