-- ==== Sys2Proof/Machine/Launch.lean ====
section
/-!
DEFINITION. Tasks: their images and the checks of LAUNCH (R67 to R70, R131, R132, R153, R154, R281, R308, R309), claiming,
loading and release (R71, R72, R134, R155), the end of a task (R73, R111, R226, R281, R282), and the mesh schedules in
service (R156, R158, R159).
-/

namespace Sys2Proof.Machine

/-- The agent under which the hardware loads images and writes exit blocks. [DEDUCED, log entry 42] -/
def loader : Nat := 505

/-! ### Images -/

/-- An entry of the section table (Table 2.11). -/
structure Sect where
  ty : Nat
  flags : Nat
  target : Nat
  off : Nat
  size : Nat
  addr : Nat
  deriving DecidableEq, Repr

/-- Tile index of a section's target. -/
def Sect.tile (x : Sect) : Nat := bits x.target 7 0
/-- Row of a section's target. -/
def Sect.row (x : Sect) : Nat := bits x.target 11 8
/-- Position of a section's target. -/
def Sect.pos (x : Sect) : Nat := bits x.target 15 12
/-- The section holds preloaded commands. -/
def Sect.preload (x : Sect) : Bool := x.ty == 3 && bit x.flags 0
/-- Commands that are copied to SE_ADDR, or raw data. -/
def Sect.copied (x : Sect) : Bool := (x.ty == 3 && !x.preload) || x.ty == 7
/-- A note section. -/
def Sect.note (x : Sect) : Bool := decide (0x8000 ≤ x.ty)

/-- The sections of an image. -/
def imgSects (b : Bytes) : List Sect :=
  (List.range (le b 8 2)).map (fun i =>
    let o := 128 + 32 * i
    ⟨le b o 2, le b (o + 2) 2, le b (o + 4) 4, le b (o + 8) 8, le b (o + 16) 8, le b (o + 24) 8⟩)

/-- Content of a section. -/
def Sect.content (x : Sect) (b : Bytes) : Bytes := (b.drop x.off).take x.size

/-- What a LAUNCH works with: its image, the logical tiles in order, their partition and the descriptor's class. -/
structure Job where
  b : Bytes
  tiles : List Nat
  part : Nat
  cls : Nat
  fn : Nat
  deriving DecidableEq, Repr

/-- TI_NTILES. -/
def Job.n (j : Job) : Nat := le j.b 12 1
/-- TI_CLASSMASK. -/
def Job.mask (j : Job) : Nat := le j.b 14 2
/-- Sections. -/
def Job.sects (j : Job) : List Sect := imgSects j.b
/-- Logical tile of an image tile. -/
def Job.tile (j : Job) (i : Nat) : Nat := j.tiles.getD i 0
/-- Image tiles that a section targets. -/
def Job.targets (j : Job) (x : Sect) : List Nat := if x.tile = 0xFF then List.range j.n else [x.tile]

/-- Present programmable cores that an ELF section targets: image tile and agent (R70, check 9). -/
def Job.agents (j : Job) (s : State) (x : Sect) : List (Nat × Nat) :=
  let ks := if x.ty = 1 then (if x.pos = 0xF then List.range 4 else [x.pos])
    else (if x.pos = 0xF then List.range 8 else [x.pos]).map (· + 4)
  (j.targets x).flatMap (fun i => ks.map (fun k => (i, agentOf (j.tile i) k))) |>.filter (fun e => s.corePresent e.2)

/-- M-cores that an MCMD section targets: image tile and index. -/
def Job.mcoresNamed (j : Job) (x : Sect) : List (Nat × Nat) :=
  let rs := if x.row = 0xF then List.range 4 else [x.row]
  let ps := if x.pos = 0xF then List.range 4 else [x.pos]
  (j.targets x).flatMap (fun i => rs.flatMap (fun r => ps.map (fun p => (i, 16 * j.tile i + 4 * r + p))))

/-- Present M-cores that an MCMD section targets. -/
def Job.mcores (j : Job) (s : State) (x : Sect) : List (Nat × Nat) := (j.mcoresNamed x).filter (fun e => s.mPresent e.2)

/-- Whether a section's target gives its tile, row and position explicitly (R70, check 9). -/
def Sect.explicit (x : Sect) : Bool := x.tile != 0xFF && x.row != 0xF && x.pos != 0xF

/-! ### ELF sections (R69) -/

/-- A PT_LOAD segment: flags, offset, physical address, file and memory sizes. -/
structure Seg where
  flags : Nat
  off : Nat
  addr : Nat
  filesz : Nat
  memsz : Nat
  deriving DecidableEq, Repr

/-- The PT_LOAD segments of an ELF64 file. [PRESUMED, log entry 41] -/
def elfSegs (b : Bytes) : List Seg :=
  (List.range (le b 56 2)).filterMap (fun i =>
    let o := le b 32 8 + 56 * i
    if le b o 4 = 1 then some ⟨le b (o + 4) 4, le b (o + 8) 8, le b (o + 24) 8, le b (o + 32) 8, le b (o + 40) 8⟩ else none)

/-- e_entry. [PRESUMED, log entry 41] -/
def elfEntry (b : Bytes) : Nat := le b 24 8

/-- The form that R69 asks of an ELF section. [PRESUMED, log entry 41] -/
def elfForm (b : Bytes) : Bool :=
  decide (64 ≤ b.length) && le b 0 4 == 0x464C457F && le b 4 1 == 2 && le b 5 1 == 1 && le b 16 2 == 2 && le b 18 2 == 243
    && le b 48 4 &&& 0xFFFFFFFA == 0 && (le b 56 2 == 0 || le b 54 2 == 56)
    && decide (le b 32 8 + 56 * le b 56 2 ≤ b.length)
    && (elfSegs b).all (fun g => decide (g.filesz ≤ g.memsz) && decide (g.off + g.filesz ≤ b.length))
    && (elfSegs b).any (fun g => bit g.flags 0 && decide (g.addr ≤ elfEntry b) && decide (elfEntry b < g.addr + g.memsz))

/-- Whether a segment lies in the window of its own that a core has. -/
def Seg.inWindow (g : Seg) (score : Bool) : Bool :=
  decide (privBase ≤ g.addr) && decide (g.addr + g.memsz ≤ privBase + if score then 0x10000 else 0x20000)

/-- Address of the alias through which a core-window address of agent a is reached. -/
def aliasOf (a addr : Nat) : Nat := tcmBase + 0x20000 * a + (addr - privBase)

/-! ### Cistern maps (R131, R132) -/

/-- The entries of a CISTERN_MAP section. -/
def mapEnts (b : Bytes) : List MapEnt :=
  (List.range (min (le b 0 2) 256)).map (fun i => ⟨le b (16 + 16 * i) 6, le b (24 + 16 * i) 4, le b (28 + 16 * i) 1, le b (29 + 16 * i) 1⟩)

/-- The map that an image carries. -/
def Job.map (j : Job) : List MapEnt :=
  match j.sects.find? (fun x => x.ty == 5) with
  | some x => mapEnts (x.content j.b)
  | none => []

/-- No two ranges of a list overlap. -/
def disjoint : List (Nat × Nat) → Bool
  | [] => true
  | r :: t => t.all (fun q => !overlap r.1 r.2 q.1 q.2) && disjoint t

/-- A map entry against the pins (Table 4.3, check 6). -/
def pinOk (pins : List (Nat × Nat × Bool)) (e : MapEnt) : Bool :=
  pins.all (fun q => !overlap e.base (mapBytes e) q.1 q.2.1 ||
    (bit e.perm 4 && decide (q.1 ≤ e.base) && decide (e.base + (mapBytes e) ≤ q.1 + q.2.1) && (!q.2.2 || !bit e.perm 1)))

/-- The checks of a map's content (Table 4.3). -/
def mapCheck (s : State) (j : Job) (b : Bytes) : Status :=
  let n := le b 0 2
  let es := mapEnts b
  firstFail [
    (b.length == 16 + 16 * n && decide (1 ≤ n) && decide (n ≤ 256) && zeroAt b 2 14 &&
      (List.range n).all (fun i => zeroAt b (22 + 16 * i) 2 && zeroAt b (30 + 16 * i) 2) &&
      es.all (fun e => bits e.perm 7 5 == 0 && bit e.perm 0 && (decide (e.owner < j.n) || e.owner == 0xFF)), .badField),
    (es.all (fun e => e.base % 65536 == 0), .align),
    (es.all (fun e => decide (1 ≤ e.units) && decide (e.units ≤ 55296) && decide (cisternBase ≤ e.base) &&
      decide (e.base + (mapBytes e) ≤ cisternEnd) && s.outsideCarve e.base (mapBytes e)), .range),
    (es.all (fun e => s.inPart j.part e.base (mapBytes e)), .permission),
    (disjoint (es.map (fun e => (e.base, (mapBytes e)))), .inconsistent),
    (es.all (pinOk (s.pins j.part)), .locked),
    (es.all (fun e => (s.cistern.retired ++ s.cistern.unitsPending).all (fun u => !overlap e.base (mapBytes e) (cisternBase + 65536 * u) 65536)), .absent)]

/-! ### Class tables (R308, R309) -/

/-- The entries of a class table: image tile, position and class. -/
def classEnts (b : Bytes) : List Nat := (List.range (min (le b 0 2) 256)).map (fun i => le b (16 + 8 * i) 8)

/-- Whether entry `e` covers V-core k of image tile i. -/
def classCovers (e i k : Nat) : Bool :=
  (bits e 7 0 == 0xFF || bits e 7 0 == i) && (bits e 15 12 == 0xF || bits e 15 12 == k)

/-- CT_NOTICE, when it is enabled. -/
def classNotice (b : Bytes) : Option Nat := if bit (le b 4 4) 31 then some (bits (le b 4 4) 16 0) else none

/-- The class table of an image. -/
def Job.classTable (j : Job) : Option Bytes := (j.sects.find? (fun x => x.ty == 6)).map (fun x => x.content j.b)

/-- Classes of the class table's entries. -/
def Job.tableClasses (j : Job) : List Nat :=
  match j.classTable with
  | some b => (classEnts b).map (fun e => bits e 19 16)
  | none => []

/-- The checks of the class table and of the descriptor's CLASS (Table 9.5). -/
def classCheck (s : State) (j : Job) : Status :=
  let own : Bool × Status := (bit j.mask j.cls && j.tableClasses.all (bit j.mask), .inconsistent)
  match j.classTable with
  | none => firstFail [own]
  | some b =>
    let es := classEnts b
    firstFail [
      (b.length == 16 + 8 * le b 0 2 && decide (le b 0 2 ≤ 256) && zeroAt b 2 2 && bits (le b 4 4) 30 17 == 0 && zeroAt b 8 8 &&
        es.all (fun e => decide (e < 2 ^ 20) && bits e 11 8 == 4 && bits e 19 16 != 15 &&
          (bits e 7 0 == 0xFF || decide (bits e 7 0 < j.n)) && (bits e 15 12 == 0xF || decide (bits e 15 12 < 8))), .badField),
      ((match classNotice b with | some c => decide (c ≤ 73725) | none => true), .range),
      ((match classNotice b with
        | some c => (List.range 3).all (fun k => s.regionPart ((c + k) / 2048) == some j.part)
        | none => true), .permission),
      own,
      ((List.range j.n).all (fun i => (List.range 8).all (fun k => decide ((es.filter (fun e => classCovers e i k)).length ≤ 1))),
        .inconsistent)]

/-- Initial tlk_class of V-core k of image tile i. -/
def Job.vclass (j : Job) (i k : Nat) : Nat :=
  match j.classTable with
  | some b => (match (classEnts b).find? (fun e => classCovers e i k) with
    | some e => bits e 19 16
    | none => j.cls)
  | none => j.cls

/-! ### Mesh schedules (R151 to R155) -/

/-- MS_PERIOD. -/
def msPeriod (b : Bytes) : Nat := le b 0 2
/-- MS_PORTS, as a list. -/
def msPorts (b : Bytes) : List Nat := (List.range 8).filter (bit (le b 2 1))
/-- The slot entries of the k-th scheduled port. -/
def msSlots (b : Bytes) (k : Nat) : List Nat :=
  (List.range (msPeriod b)).map (fun i => le b (16 + 2 * (msPeriod b * k + i)) 2)

/-- What a router port joins (Table 5.1): a region, a strip in the order west, east, north, south, a corner block in the order
NW, NE, SW, SE, the units of the region itself, or its catchment unit. -/
inductive PortEnd where
  | region (n : Nat)
  | strip (k : Nat)
  | corner (k : Nat)
  | units
  | catchment
  deriving DecidableEq, Repr

/-- The corner block beside a region; none for a region that is no corner. -/
def cornerOf (n : Nat) : Option Nat :=
  if n = 0 then some 0 else if n = 5 then some 1 else if n = 30 then some 2 else if n = 35 then some 3 else none

/-- What port p of region n's router joins (R146). -/
def portEnd (n p : Nat) : Option PortEnd :=
  match p with
  | 0 => some (if n / 6 = 0 then .strip 2 else .region (n - 6))
  | 1 => some (if n % 6 = 5 then .strip 1 else .region (n + 1))
  | 2 => some (if n / 6 = 5 then .strip 3 else .region (n + 6))
  | 3 => some (if n % 6 = 0 then .strip 0 else .region (n - 1))
  | 4 => (cornerOf n).map .corner
  | 5 => some .units
  | 6 => some .catchment
  | _ => none

/-- The neighbouring region of a port; none for a port that joins no region. -/
def neighbour (n p : Nat) : Option Nat :=
  match portEnd n p with
  | some (.region m) => some m
  | _ => none

/-- Region under image tile i. -/
def Job.region (j : Job) (s : State) (i : Nat) : Nat := ((s.tile (j.tile i)).site).getD 0

/-- The MESH_SCHED sections of an image: region and content. -/
def Job.scheds (j : Job) (s : State) : List (Nat × Bytes) :=
  (j.sects.filter (fun x => x.ty == 4)).map (fun x => (j.region s x.tile, x.content j.b))

/-- The checks of one mesh schedule (Table 5.3). -/
def schedCheck (s : State) (j : Job) (n : Nat) (b : Bytes) : Status :=
  let ports := msPorts b
  let nth := (List.range ports.length).zip ports
  let all := j.scheds s
  firstFail [
    ([16, 32, 64, 128, 256, 512, 1024, 2048, 4096].contains (msPeriod b) &&
      b.length == 16 + 2 * msPeriod b * ports.length && le b 2 1 &&& 0xD0 == 0 && zeroAt b 3 1 && zeroAt b 6 10 &&
      !bit (le b 4 2) 15 && ports.all (fun p => p == 5 || (neighbour n p).isSome) &&
      nth.all (fun e => (msSlots b e.1).all (fun w => bits w 15 8 == 0 &&
        (!bit w 0 || ([0, 1, 2, 3, 5].contains (bits w 3 1) && bits w 3 1 != e.2 && bit (le b 4 2) (bits w 7 4))))), .badField),
    (ports.all (fun p => p == 5 || (match neighbour n p with | some m => s.regionPart m == some j.part | none => true)), .permission),
    (nth.all (fun e => decide (msPeriod b / 8 ≤ ((msSlots b e.1).filter (fun w => !bit w 0)).length)), .oversubscribed),
    (all.all (fun q => msPeriod q.2 == msPeriod b && le q.2 4 2 == le b 4 2) &&
      ports.all (fun p => p == 5 || (match neighbour n p with | some m => all.any (fun q => q.1 == m) | none => true)), .inconsistent)]

/-! ### The checks of Table 2.13 -/

/-- Whether SE_FLAGS and SE_TARGET are valid for a section's type (check 7). -/
def sectForm (j : Job) (x : Sect) : Bool :=
  let t := x.target
  let idx := x.tile == 0xFF || decide (x.tile < j.n)
  let rowIs (lo hi : Nat) : Bool := x.row == 0xF || (decide (lo ≤ x.row) && decide (x.row ≤ hi))
  let posIs (k : Nat) : Bool := x.pos == 0xF || decide (x.pos < k)
  x.note || (decide (1 ≤ x.ty) && decide (x.ty ≤ 7) && bits t 31 16 == 0 &&
    (if x.ty = 3 then decide (x.flags < 2) else x.flags == 0) &&
    (match x.ty with
     | 1 => idx && rowIs 5 5 && posIs 4
     | 2 => idx && rowIs 4 4 && posIs 8
     | 3 => idx && rowIs 0 3 && posIs 4
     | 4 => decide (x.tile < j.n) && x.row == 0xF && x.pos == 0xF
     | _ => t == 0xFFFF))

/-- Whether the range that an MCMD or DATA section is copied to lies where check 8 allows. -/
def sectRange (s : State) (j : Job) (x : Sect) : Bool :=
  if !x.copied || x.size == 0 then true
  else s.memRange false x.addr x.size && (match s.place x.addr with
    | .cistern _ => true
    | .tcm a =>
      let g := (a - tcmBase) / 0x20000
      if x.ty = 3 then isScore g && (if x.explicit then j.mcoresNamed x else j.mcores s x).any (fun e => agentOf (e.2 / 16) (e.2 % 4) == g)
      else j.tiles.contains (tileOf g)
    | _ => false)

/-- Whether a section names an absent logical core (check 9). -/
def sectAbsent (s : State) (j : Job) (x : Sect) : Bool :=
  x.explicit &&
    ((x.ty == 1 || x.ty == 2 || x.ty == 3) && !s.present (j.tile x.tile) x.row x.pos)

/-- Ranges that a section loads (R69, R70): address and bytes, core windows by their aliases. -/
def sectLoads (s : State) (j : Job) (x : Sect) : List (Nat × Nat) :=
  if x.copied then [(s.loc x.addr, x.size)]
  else if x.ty = 1 ∨ x.ty = 2 then
    (elfSegs (x.content j.b)).flatMap (fun g =>
      if g.inWindow (x.ty == 1) then (j.agents s x).map (fun e => (aliasOf e.2 g.addr, g.memsz)) else [(s.loc g.addr, g.memsz)])
  else []

/-- Whether a segment lies where R69 allows. -/
def segPlaced (s : State) (j : Job) (x : Sect) (g : Seg) : Bool :=
  g.inWindow (x.ty == 1) || g.memsz == 0 ||
    (s.memRange false g.addr g.memsz && (match s.place g.addr with | .cistern _ => true | _ => false) &&
      (j.targets x).all (fun i => mapAdmits (j.map.map (fun e => { e with perm := 0xFF })) (some i) .fetch (s.loc g.addr) g.memsz))

/-- The environment in which a preloaded command is checked: the image's own map and tiles (R108). -/
def Job.mEnv (j : Job) (s : State) (it : Nat) : MEnv where
  range := s.memRange false
  perm := fun k a n =>
    match s.place a with
    | .cistern _ => mapAdmits j.map (some it) k (s.loc a) n
    | _ => s.inPart j.part a n
  cell := fun c => s.regionPart (c / 2048) == some j.part
  cat := s.catRange
  there := s.mThere

/-- The commands of a section, 64 bytes each. -/
def sectCmds (b : Bytes) : List Bytes := chunks64 (b.length / 64) b

/-- The first failing check of the preloaded commands (R108). -/
def preloadCheck (s : State) (j : Job) : Status :=
  firstBad ((j.sects.filter Sect.preload).flatMap (fun x =>
    (sectCmds (x.content j.b)).flatMap (fun d => (j.mcores s x).map (fun e =>
      match mCheck (j.mEnv s e.1) e.2 d with
      | some r => r.1
      | none => .ok))))

/-- The partition of a logical tile; that of an absent one is the partition that covers its whole quadrant.
[DEDUCED, log entry 34] -/
def State.tilePart (s : State) (t : Nat) : Option Nat :=
  match (s.tile t).site with
  | some _ => (s.tile t).part
  | none => (List.range 8).find? (fun p => s.partValid p &&
      (quadSites (t / 8)).all (fun n => rectHas (s.reg 8 (0x2000 + 16 * p)) n))
/-- Whether a tile lies in a partition that function f owns. [DEDUCED, log entry 34] -/
def State.fnTile (s : State) (f t : Nat) : Bool :=
  match s.tilePart t with
  | some p => s.partValid p && s.partOwner p == f
  | none => false

/-- The logical tiles of a mask. -/
def maskTiles (m : Nat) : List Nat := (List.range 32).filter (bit m)

/-- The operand checks of R281. [DEDUCED, log entry 42] -/
def launchOperands (s : State) (f : Nat) (d : Bytes) : Status :=
  let x := le d 40 8
  let n := 16 * (maskTiles (le d 24 4)).length
  let cell := bits (le d 28 4) 16 0
  let any (l : List Kind) : Bool := l.contains (s.place x).kind
  firstFail [
    (bits (le d 28 4) 31 17 == 0 && zeroAt d 48 16, .badField),
    (decide (cell < nCells), .range),
    (x == 0 || x % 16 == 0, .align),
    (x == 0 || n == 0 || (s.memRange false x n && any [.hbm, .cistern]), .range),
    (s.ownsRegion f (cell / 2048) && (x == 0 || n == 0 || s.inFn f x n), .permission)]

/-- Checks 1 to 4 of Table 2.13 over the image's header and bytes; 5 and 6 over the tiles. [DEDUCED, log entries 34, 42] -/
def launchTiles (s : State) (f n : Nat) (tiles : List Nat) (gen : Nat) : Status :=
  let p := (tiles.head?).bind s.tilePart
  firstFail [
    (tiles.length == n, .badField),
    (tiles.all (fun t => s.fnTile f t && s.tilePart t == p), .permission),
    (tiles.all (fun t => (s.tile t).site.isSome), .absent),
    (tiles.all (fun t => !(s.tile t).isFenced), .staleEpoch),
    (tiles.all (fun t => (s.tile t).task.isNone), .locked),
    (gen == 0 || gen == s.dist.gen, .inconsistent)]

/-- Checks 7 to 13 of Table 2.13. [DEDUCED, log entry 42] -/
def launchImage (s : State) (j : Job) : Status :=
  let xs := j.sects
  let ys := xs.filter (fun x => !x.note)
  let elfs := ys.filter (fun x => x.ty == 1 || x.ty == 2)
  let count (t : Nat) : Nat := (ys.filter (fun x => x.ty == t)).length
  let covers (t a : Nat) : Nat := (ys.filter (fun x => x.ty == t && (j.agents s x).any (fun e => e.2 == a))).length
  let cores := j.tiles.flatMap tileAgents |>.filter s.corePresent
  firstBad [
    firstFail [
      (xs.all (sectForm j), .badField),
      (ys.all (fun x => x.off % 64 == 0 && (x.ty != 3 || (x.size % 64 == 0 && (x.preload || x.addr % 64 == 0)))), .align),
      (xs.all (fun x => decide (x.off + x.size ≤ j.b.length)) && ys.all (sectRange s j) &&
        ys.all (fun x => !x.preload || decide (x.size ≤ 2048)), .range),
      (ys.all (fun x => !x.copied || x.size == 0 || (match s.place x.addr with
        | .cistern _ => s.inPart j.part x.addr x.size
        | _ => true)), .permission),
      (ys.all (fun x => !sectAbsent s j x), .absent),
      (count 5 == 1 && decide (count 6 ≤ 1) &&
        cores.all (fun a => if isScore a then covers 1 a == 1 else decide (covers 2 a ≤ 1)) &&
        (List.range j.n).all (fun i => decide ((ys.filter (fun x => x.ty == 4 && x.tile == i)).length ≤ 1)) &&
        disjoint (ys.flatMap (sectLoads s j)), .inconsistent),
      (elfs.all (fun x => elfForm (x.content j.b)), .badField),
      (elfs.all (fun x => (elfSegs (x.content j.b)).all (segPlaced s j x)), .range),
      ((List.range 16).all (fun c => !bit j.mask c || bit (s.fnClasses j.fn) c) && j.tableClasses.all (bit (s.fnClasses j.fn)), .permission)],
    (match ys.find? (fun x => x.ty == 5) with
     | some x => mapCheck s j (x.content j.b)
     | none => .ok),
    firstBad ((j.scheds s).map (fun q => schedCheck s j q.1 q.2)),
    classCheck s j,
    preloadCheck s j]

/-! ### Caches and cores at the ends of a task -/

/-- A stable entry of a cache is cleaned and invalidated (R226): an M, E or F line's home forgets the agent, an S line is dropped
without a message. -/
def State.flushEnt (s : State) (a e : Nat) : State :=
  let c := s.cent a e
  match c.st with
  | .i | .is | .im | .sm | .wb | .wbx => s
  | .s => (s.leave a c.line).setCent a e {}
  | _ =>
    let t := (s.dropCopy a c.line).setCent a e {}
    match t.findWay c.line with
    | some i =>
      let d := t.dirEnt i
      if 3 < d.st then t
      else
        let d1 := d.remove a
        if d1.anyLeft then t.setDir i { d1 with st := 3 } else (t.freeDir i).settle c.line
    | none => t

/-- The transient entries of a cache have settled. -/
def State.cacheQuiet (s : State) (a : Nat) : Bool :=
  (List.range 48).all (fun e => match (s.cent a e).st with | .is | .im | .sm | .wb | .wbx => false | _ => true)

/-- CLEAN_INVAL with scope ALL, ENABLE and CC_PIN cleared (R226); a fenced core's cache is reclaimed (R215). -/
def State.flushCache (s : State) (a : Nat) : State :=
  let t := (List.range 48).foldl (fun u e => u.flushEnt a e) s
  let t := if t.cacheQuiet a then t else t.reclaim a
  t.setCtl a { t.ctl a with enable := false, pin := 0, acc := none, fill := none, maint := [], after := 0 }

/-- Stop a core and its wait (R73, R301). [DEDUCED, log entry 43] -/
def State.stopCore (s : State) (a : Nat) : State :=
  let t := s.endWait a
  let u := t.setCtl a { t.ctl a with acc := none, fill := none }
  u.setCore a { u.core a with run := false, stopping := false }

/-- An M-core at the end of a task (R111): the commands dropped have left the queue (Table 3.14, DONE). -/
def State.stopMcore (s : State) (i : Nat) : State :=
  let t := s.cancelWait (.mcore i)
  let c := t.mc i
  t.setMc i { c with
    queue := [], xfers := [], waiting := false, faulted := false
    done := (c.done + c.queue.length + c.xfers.length) % 2 ^ 32 }

/-- The M-cores of a tile. -/
def tileMcores (t : Nat) : List Nat := (List.range 16).map (16 * t + ·)

/-- Stop every core of a tile. -/
def State.stopTile (s : State) (t : Nat) : State :=
  (tileMcores t).foldl State.stopMcore ((tileAgents t).foldl State.stopCore s)

/-- Zero the tightly coupled memories of a tile. -/
def State.zeroTile (s : State) (t : Nat) : State := (tileAgents t).foldl State.zeroTcm s

/-- An M-core's buffers, flags, counters, DONE and fault record cleared (R111). -/
def State.clearMcore (s : State) (i : Nat) : State :=
  s.setMc i { sigs := (s.mc i).sigs, stale := (s.mc i).stale }

/-- Whether every cache of a list of tiles has settled. -/
def State.tilesQuiet (s : State) (ts : List Nat) : Bool := ts.all (fun t => (tileAgents t).all s.cacheQuiet)

/-- The logical tiles of a task, in the order of its image tiles. -/
def Task.tiles (k : Task) : List Nat := maskTiles k.mask

/-- Remove the schedules of a task (R155). -/
def State.dropScheds (s : State) (id : Nat) : State :=
  { s with mesh.scheds := s.mesh.scheds.filter (fun e => match e.2 with | some m => m.task != id | none => false) }

/-- The tiles of a task are released, and the task is gone. -/
def State.releaseTiles (s : State) (k : Task) : State :=
  let t := k.tiles.foldl (fun u i => u.setTile i { u.tile i with task := none }) (s.dropScheds k.id)
  { t with tasks := t.tasks.filter (fun x => x.id != k.id) }

/-- The exit code of S-core p of image tile i (R281). -/
def State.exitCode (s : State) (k : Task) (t p : Nat) : Nat :=
  if !s.corePresent (agentOf t p) then 0xFFFFFFFE
  else match k.exits.reverse.find? (fun e => e.1 == agentOf t p) with
    | some e => e.2
    | none => 0xFFFFFFFF

/-- A released task ends (R73, R226, R281): its caches are cleaned, the exit codes written, the tiles released, ADD 1 made
on the completion cell, and TASK_END raised. -/
def State.finishTask (s : State) (k : Task) : State :=
  let s1 := k.tiles.foldl (fun u t => (tileAgents t).foldl State.flushCache u) s
  let codes := k.tiles.flatMap (fun t => (List.range 4).flatMap (fun p => toLe 4 (s1.exitCode k t p)))
  let s2 := if k.xaddr = 0 then s1 else (s1.uWrite loader k.xaddr codes).1
  let s3 := (s2.releaseTiles k).postAdd mgmtNode k.done 1
  s3.raise 0x010 (k.done + 2 ^ 32 * k.mask) (if s3.partValid k.part then [s3.partOwner k.part] else []) hostNode

/-- The bytes of ranges of the Cistern become undefined (R72). -/
def State.freeRanges (s : State) (rs : List (Nat × Nat)) : State :=
  rs.foldl (fun u r => match u.place r.1 with | .cistern _ => u.freeRange r.1 r.2 | _ => u) s

/-- A LAUNCH that is abandoned between check 5 and its release (R72). The map and class table that it has installed stay installed:
the spec does not say. [DEDUCED, log entry 42] -/
def State.abandonTask (s : State) (k : Task) (st : Status) : State :=
  let s1 := k.tiles.foldl (fun u t => (u.stopTile t).zeroTile t) s
  let s2 := (s1.freeRanges k.ranges).releaseTiles k
  match s2.cmd k.hostId with
  | some c => s2.complete c st 0 0
  | none => s2

/-- End every task that `p` selects: a task not yet released is abandoned, the others are stopped, and end when their caches
have settled. The answer tells whether all have ended. -/
def State.endTasks (s : State) (p : Task → Bool) : State × Bool :=
  let s1 := (s.tasks.filter (fun k => p k && !k.released)).foldl (fun u k => u.abandonTask k .aborted) s
  let mine := s1.tasks.filter p
  let s2 := mine.foldl (fun u k => k.tiles.foldl State.stopTile u) s1
  if mine.all (fun k => s2.tilesQuiet k.tiles) then (mine.foldl State.finishTask s2, true) else (s2, false)

/-! ### LAUNCH -/

/-- tlk_ident of a core (Table 2.6). -/
def State.tlkIdent (s : State) (a : Nat) : Nat :=
  tileOf a + 2 ^ 8 * (rowPos a).1 + 2 ^ 12 * (rowPos a).2 + 2 ^ 16 * a + 2 ^ 32 * (s.tile (tileOf a)).epoch

/-- A core with its reset values: the triggers it armed are freed without firing (R54), and pump commands of an earlier task
no longer name its tickets. [DEDUCED, log entry 42; DESIGN CHOICE, log entry 6] -/
def State.freshCore (s : State) (a : Nat) : State :=
  let t := (List.range 8).foldl (fun u n => u.cancelWait (.coreArm a n)) s
  let u := { t with mesh.pumps := t.mesh.pumps.map (fun (e : Nat × List PCmd) => (e.1, e.2.map (fun (c : PCmd) =>
      if c.agent = a ∧ c.ticket < 2 ^ 32 then { c with ticket := c.ticket + 2 ^ 32 } else c))) }
  u.setCore a {}

/-- An S-core at its start in a task (R71). -/
def State.bootScore (s : State) (a entry a1 a2 a3 cls : Nat) : State :=
  let t := s.freshCore a
  let w (n : Nat) : Word := BitVec.ofNat 64 n
  t.setCore a ((((({ pc := w entry, cls := cls } : Core).setX 10 (w (t.tlkIdent a))).setX 11 (w a1)).setX 12 (w a2)).setX 13 (w a3))

/-- Copy a run of the image to memory: uncorrectable when either side refuses. -/
def loadRun (r : State × Bool) (src dst n fill : Nat) : State × Bool :=
  if !r.2 || n + fill == 0 then r
  else
    let q := if n = 0 then (r.1, none, []) else r.1.uRead loader src n
    match q with
    | (t, some _, _) => (t, false)
    | (t, none, b) =>
      match t.uWrite loader dst (b ++ zeros fill) with
      | (u, none) => (u, true)
      | (u, some _) => (u, false)

/-- Load one section from the image at `base` (R71, step 4). The bytes are read from memory again after step 3 has zeroed the map's
ZERO entries; entry points and preloaded commands are those that the checks read. [DEDUCED, log entry 42] -/
def loadSect (j : Job) (base : Nat) (r : State × Bool) (x : Sect) : State × Bool :=
  if x.note then r
  else if x.copied then loadRun r (base + x.off) x.addr x.size 0
  else if x.ty = 1 ∨ x.ty = 2 then
    (elfSegs (x.content j.b)).foldl (fun r g =>
      let one (r : State × Bool) (dst : Nat) : State × Bool := loadRun r (base + x.off + g.off) dst g.filesz (g.memsz - g.filesz)
      if g.inWindow (x.ty == 1) then (j.agents r.1 x).foldl (fun r e => one r (aliasOf e.2 g.addr)) r else one r g.addr) r
  else r

/-- Preload a section's commands (R71, step 5; R76). [DEDUCED, log entry 42] -/
def preloadSect (j : Job) (s : State) (x : Sect) : State :=
  if x.preload then
    (j.mcores s x).foldl (fun u e => (sectCmds (x.content j.b)).foldl (fun v d => v.mPush e.2 j.cls d) u) s
  else s

/-- Steps 1 to 3 of R71: memories and buffers zeroed, caches invalidated and disabled, map, class table and schedules
installed, with the map's ZERO entries zeroed (R134), but for those in a pinned range (R135). [DEDUCED, log entry 42] -/
def installJob (s : State) (j : Job) (id : Nat) : State :=
  let s1 := j.tiles.foldl (fun u t =>
    (tileMcores t).foldl State.clearMcore ((tileAgents t).foldl State.flushCache (u.zeroTile t))) s
  let s2 := s1.setPart j.part { s1.part j.part with
    map := j.map
    tiles := j.tiles
    classes := match j.classTable with
      | some b => (classEnts b).map (fun e => ⟨bits e 19 16, toLe 8 e⟩)
      | none => [] }
  let s3 := (j.map.filter (fun e => bit e.perm 3 && !bit e.perm 4)).foldl (fun u e => u.zeroRange e.base (e.base + (mapBytes e))) s2
  (j.scheds s3.settlePending).foldl (fun u q => { u with
    mesh.scheds := tset (fun _ => none) u.mesh.scheds q.1 (some ⟨id, j.part, q.2, false, []⟩) }) s3.settlePending

/-- The cores of a job take their starting registers. [DEDUCED, log entry 42] -/
def startJob (s : State) (j : Job) (args : Nat) : State :=
  ((List.range j.n).flatMap (fun i => (List.range 12).map (fun k => (i, k)))).foldl (fun u (e : Nat × Nat) =>
    let a := agentOf (j.tile e.1) e.2
    if e.2 < 4 then
      match j.sects.find? (fun x => x.ty == 1 && (j.agents u x).any (fun q => q.2 == a)) with
      | some x => u.bootScore a (elfEntry (x.content j.b)) args e.1 j.n j.cls
      | none => u.freshCore a
    else
      let v := u.freshCore a
      v.setCore a { v.core a with cls := j.vclass e.1 (e.2 - 4) }) s

/-! ### Slot counters (R150 to R152) -/

/-- The slot counters of quadrant q in thousandths of a region cycle. -/
def State.phase (s : State) (q : Nat) : Nat := s.mesh.phases.getD q 0
/-- The slot counter of region n: 12 bits (R150). -/
def State.slotOf (s : State) (n : Nat) : Nat := s.phase (quadOf n) / 1000
/-- The slot counters after a nanosecond: each counts the cycles of its quadrant's clock modulo 4,096.
[DESIGN CHOICE, log entry 54] -/
def State.slotTick (s : State) : List Nat := (List.range 4).map (fun q => (s.phase q + (s.island q).clk) % 4096000)
/-- A quadrant whose clock has changed is aligned with one that runs at the same frequency, whose PLL it is locked with (R150).
[DESIGN CHOICE, log entry 54] -/
def State.relock (s : State) (q : Nat) : State :=
  match (List.range 4).find? (fun r => r != q && (s.island r).clk == (s.island q).clk) with
  | some r => { s with mesh.phases := s.mesh.phases.set q (s.phase r) }
  | none => s

/-- The schedule in effect at region n. -/
def State.schedAt (s : State) (n : Nat) : Option MeshSched := (tget (fun _ => none) s.mesh.scheds n).filter (·.active)
/-- Traffic of a class is scheduled in region n (R152). -/
def State.scheduled (s : State) (n cls : Nat) : Bool :=
  match s.schedAt n with
  | some m => bit (le m.sect 4 2) cls
  | none => false
/-- What output port p of region n serves in the present cycle: the input port and class of its slot, or none while the link is in
credited mode (R151). [DESIGN CHOICE, log entry 54] -/
def State.portUse (s : State) (n p : Nat) : Option (Nat × Nat) :=
  match s.schedAt n with
  | some m =>
    if m.credited.contains p then none
    else
      match (msPorts m.sect).findIdx? (· == p) with
      | some k =>
        let w := (msSlots m.sect k).getD (s.slotOf n % msPeriod m.sect) 0
        if bit w 0 then some (bits w 3 1, bits w 7 4) else none
      | none => none
  | none => none

/-- The event, its notice and the credited mode of a port's slots (R156, R158, R159, R310). -/
def State.slip (s : State) (n p cause : Nat) : State :=
  match tget (fun _ => none) s.mesh.scheds n with
  | none => s
  | some m =>
    if !m.active || !(msPorts m.sect).contains p || m.credited.contains p then s
    else
      let t := { s with mesh.scheds := tset (fun _ => none) s.mesh.scheds n (some { m with credited := m.credited ++ [p] }) }
      (t.raise 0x002 (n + 2 ^ 6 * p + 2 ^ 9 * m.part + 2 ^ 12 * cause) [] n).notice 1 (fun k => k.part == m.part)

/-- Whether a port of a region is a seam link whose quadrants run at unequal frequencies (R158). -/
def State.unequalSeam (s : State) (n p : Nat) : Bool :=
  match neighbour n p with
  | some m => quadOf n != quadOf m && s.regionMhz n != s.regionMhz m
  | none => false

/-- Every scheduled seam link whose quadrants run at unequal frequencies turns to credited mode. -/
def State.slipSeams (s : State) : State :=
  (List.range 36).foldl (fun u n => (List.range 4).foldl (fun v p => if v.unequalSeam n p then v.slip n p 2 else v) u) s

/-- The release of R71, step 6, once the schedules have taken effect (R155): LAUNCH completes. -/
def State.releaseTask (s : State) (k : Task) : State :=
  let has := s.mesh.scheds.any (fun e => match e.2 with | some m => m.task == k.id | none => false)
  let s1 := if has then
      { s with mesh.scheds := s.mesh.scheds.map (fun (e : Nat × Option MeshSched) => (e.1, e.2.map (fun (m : MeshSched) =>
          if m.task = k.id then { m with active := true, credited := [] }
          else if m.part = k.part then { m with credited := [] } else m))) }
    else s
  let s2 := s1.setTask { k with released := true }
  let s3 := (k.tiles.flatMap (fun t => (List.range 4).map (agentOf t))).foldl (fun u a =>
    if u.corePresent a then u.setCore a { u.core a with run := true } else u) s2
  let s4 := s3.slipSeams
  match s4.cmd k.hostId with
  | some c => s4.complete c .ok 0 s4.dist.gen
  | none => s4

/-- A claim stops in-service test segments of its tiles (R411). -/
def unitOnTiles (ts : List Nat) : TestUnit → Bool
  | .core t _ _ => ts.contains t
  | _ => false

/-- A march over 64 lines of a slice, four units of its region, meets an installed map (R134, R411). -/
def marchMeets (m : List MapEnt) : TestUnit → Bool
  | .march slice line => m.any (fun e => overlap e.base (mapBytes e) (cisternBase + blockBytes * (slice / 32) + 4096 * line) (4096 * 64))
  | _ => false

/-- LAUNCH from its claim on: install, load, preload, and release at once or at the slot counter's wrap. -/
def launchRun (s : State) (c : HostCmd) (j : Job) : State :=
  let d := c.desc
  let id := s.nextTask
  let k : Task := ⟨id, c.fn, c.ring, c.id, j.part, le d 24 4, j.cls, bits (le d 28 4) 16 0, le d 40 8, false, [], j.mask,
    (j.classTable).bind classNotice, (j.sects.filter (fun x => !x.note)).flatMap (sectLoads s j)⟩
  let s1 := j.tiles.foldl (fun u t => u.setTile t { u.tile t with task := some id })
    { s with tasks := s.tasks ++ [k], nextTask := id + 1,
             svc.segments := s.svc.segments.filter (fun u => !unitOnTiles j.tiles u && !marchMeets j.map u) }
  let s2 := installJob s1 j id
  match j.sects.foldl (loadSect j (le d 16 8)) (s2, true) with
  | (s3, false) => s3.abandonTask k .uncorrectable
  | (s3, true) =>
    let s4 := (startJob (j.sects.foldl (preloadSect j) s3) j (le d 32 8)).cmdWaits c.id
    if (j.scheds s4).isEmpty && !s4.writesOpen loader then s4.releaseTask k else s4

/-- The header's fields that check 3 tests. -/
def headerOk (b : Bytes) : Bool :=
  le b 0 4 == 0x4D494B54 && le b 4 2 == 1 && le b 6 2 == 128 && le b 10 2 == 32 && zeroAt b 13 1 && zeroAt b 64 64 &&
    decide (1 ≤ le b 8 2) && decide (le b 8 2 ≤ 256) && decide (1 ≤ le b 12 1) && decide (le b 12 1 ≤ 32) &&
    le b 16 8 % 64 == 0 && decide (128 + 32 * le b 8 2 ≤ le b 16 8)

/-- The image's place in HBM or the Cistern (check 2). -/
def State.imagePlace (s : State) (a n : Nat) : Bool :=
  s.memRange false a n && (match s.place a with | .hbm _ => true | .cistern _ => true | _ => false)

/-- A dispatched LAUNCH: the checks of R281 and Table 2.13, each after those before it, then R71. [DEDUCED, log entry 42] -/
def launchCmd (s : State) (c : HostCmd) : State :=
  let d := c.desc
  let a := le d 16 8
  let st := firstBad [launchOperands s c.fn d, firstFail [(a % 64 == 0, .align), (s.imagePlace a 128, .range)], s.stackStatus a 128]
  if st ≠ .ok then s.complete c st 0 0
  else match s.uRead loader a 128 with
    | (s1, some _, _) => s1.complete c .uncorrectable 0 0
    | (s1, none, h) =>
      let n := le h 16 8
      let st := firstBad [
        firstFail [(decide (n ≤ 2 ^ 32) && (n == 0 || s1.imagePlace a n), .range), (headerOk h, .badField)], s1.stackStatus a n]
      if st ≠ .ok then s1.complete c st 0 0
      else match s1.uRead loader a n with
        | (s2, some _, _) => s2.complete c .uncorrectable 0 0
        | (s2, none, b) =>
          let tiles := maskTiles (le d 24 4)
          let j : Job := ⟨b, tiles, ((tiles.head?).bind s2.tilePart).getD 0, dClass d % 16, c.fn⟩
          let st := firstBad [
            if crc32c (putAt b 24 (zeros 4)) = le b 24 4 then .ok else .checksum,
            launchTiles s2 c.fn j.n tiles (le b 28 4),
            launchImage s2 j]
          if st ≠ .ok then s2.complete c st 0 0 else launchRun s2 c j

/-- LAUNCH (R70, R71, R281). -/
def execLaunch (id : Nat) (s : State) : Host.Outcome State Fault Refusal :=
  done s <| withCmd s id 5 (launchCmd s)

/-- LAUNCH_RELEASE (R71, R155): once the loading writes that waited for a partner die are performed; one that was refused abandons
the LAUNCH (R72). [DESIGN CHOICE, log entry 54] -/
def execLaunchRelease (task : Nat) (s : State) : Host.Outcome State Fault Refusal :=
  done s <|
    match s.tasks.find? (fun k => k.id == task && !k.released) with
    | some k =>
      if s.writesOpen loader then s
      else if s.coh.refused.any (fun r => r.1 == loader && k.ranges.any (fun q => overlap q.1 q.2 r.2 32)) then
        { s with coh.refused := s.coh.refused.filter (fun r => r.1 != loader) }.abandonTask k .uncorrectable
      else s.releaseTask k
    | none => s

/-- TASK_END (R73): every present S-core of the task has executed TLK.EXIT. -/
def execTaskEnd (task : Nat) (s : State) : Host.Outcome State Fault Refusal :=
  done s <|
    match s.tasks.find? (fun k => k.id == task && k.released) with
    | some k =>
      if (k.tiles.flatMap (fun t => (List.range 4).map (agentOf t))).all (fun a => !s.corePresent a || (s.core a).exit.isSome) then
        (s.endTasks (fun x => x.id == task)).1
      else s
    | none => s

/-- HALT (R282): its check, the end of the tasks, and its completion once they have ended; it waits for a quiesce of its
tiles (R406). [DEDUCED, log entries 34, 43] -/
def haltCmd (s : State) (c : HostCmd) : State :=
  let ts := maskTiles (le c.desc 16 4)
  let st := firstFail [
    (zeroAt c.desc 20 44, .badField),
    (ts.all (s.fnTile c.fn), .permission),
    (ts.all (fun t => (s.tile t).site.isSome), .absent)]
  if st ≠ .ok then s.complete c st 0 0
  else
    let p (k : Task) : Bool := k.tiles.any ts.contains
    let mask := ((s.tasks.filter p).map (·.mask)).foldl (· ||| ·) 0
    if (ts ++ maskTiles mask).any (fun t => (List.range 6).any (s.quiesced t)) then s
    else match s.endTasks p with
    | (t, true) => t.complete c .ok 0 mask
    | (t, false) => t

/-- HALT (R282). -/
def execHalt (id : Nat) (s : State) : Host.Outcome State Fault Refusal := done s <| withCmd s id 6 (haltCmd s)

/-! ### Mesh and Cistern events of a running task -/

/-- SLIP_TIMEOUT (R156): the output port turns to credited mode. [DESIGN CHOICE, log entry 54] -/
def execSlipTimeout (region port : Nat) (full : Bool) (s : State) : Host.Outcome State Fault Refusal :=
  within "region" region 36 <| done s (s.slip region port (b2n full))

/-- MERGE_WINDOW_END (R126): the group closes. [DESIGN CHOICE, log entry 13] -/
def execMergeWindowEnd (granule : Nat) (s : State) : Host.Outcome State Fault Refusal :=
  done s { s with cistern.groups := s.cistern.groups.filter (fun g => g.gran != granule) }

/-- CORRECTIVE_WRITEBACK (R139): the corrected granule is written back. -/
def execCorrectiveWriteback (granule : Nat) (s : State) : Host.Outcome State Fault Refusal :=
  done s <|
    if s.cistern.correct.contains granule then
      let t := { s with cistern.correct := s.cistern.correct.filter (· != granule) }
      if (t.gran granule).flips.length = 1 then t.setGran granule {} else t
    else s

end Sys2Proof.Machine
end

