-- ==== Sys2Proof/Machine/Reset.lean ====
section
/-!
DEFINITION. PARTITION_RESET (R145, R188, R226, R288, R304, R409, R471): the end of a partition's tasks, and the reset of its
tiles, Cistern blocks, pumps, sync cells and catchment slots.
-/

namespace Sys2Proof.Machine

/-- The logical tiles of a partition. -/
def State.partTiles (s : State) (p : Nat) : List Nat := (List.range 32).filter (fun t => (s.tile t).part == some p)
/-- The regions of a partition. -/
def State.partRegions (s : State) (p : Nat) : List Nat := (List.range 36).filter (fun n => s.regionPart n == some p)

/-- Zero every memory byte whose canonical address satisfies `inside`, with valid check bits (R394). -/
def State.zeroIf (s : State) (inside : Nat → Bool) : State :=
  { s with
    mem := tdrop inside s.mem
    grans := tdrop (fun g => inside (32 * g)) s.grans
    cistern.groups := s.cistern.groups.filter (fun m => !inside (32 * m.gran))
    cistern.correct := s.cistern.correct.filter (fun g => !inside (32 * g)) }

/-- Whether a canonical address lies in the Cistern block of one of the regions, outside the carve-out and retired units
(R145). -/
def State.ownBlock (s : State) (rs : List Nat) (a : Nat) : Bool :=
  decide (cisternBase ≤ a) && decide (a < cisternEnd) && rs.contains ((a - cisternBase) / blockBytes) &&
    decide ((a - cisternBase) % blockBytes < blockBytes - s.carve * 2 ^ 20) &&
    !s.cistern.retired.contains ((a - cisternBase) / 65536)

/-- The homes invalidate every directory entry for lines in the blocks; what an agent holds Modified there is discarded
(R409). -/
def State.forgetLines (s : State) (inside : Nat → Bool) : State :=
  let ways := (tkeys s.coh.dir).filter (fun i => (s.dirEnt i).st != 0 && inside (128 * (s.dirEnt i).line))
  { s with
    coh.dir := tdrop (fun i => ways.contains i) s.coh.dir
    coh.ents := s.coh.ents.filter (fun e => e.2.st == .i || !inside (128 * e.2.line))
    coh.msgs := s.coh.msgs.filter (fun m => !inside (128 * m.line))
    coh.waiting := s.coh.waiting.filter (fun m => !inside (128 * m.line)) }

/-- A waiter of a cell under reset ends (R304): host waits and heads with ST_ABORTED, a remote waiter with its answer, an ARM
without firing. -/
def State.abortWaiter (s : State) (e : WaitEnt) : State :=
  match e.w with
  | .hostCmd id => (match s.cmd id with
    | some c => s.complete c .aborted 0 0
    | none => s)
  | .hostHead r => (match (s.ring r).fetched with
    | d :: _ => if (s.ring r).headWaits then s.endHead r d .aborted else s
    | [] => s)
  | .hostArm fn tag => { s with host.arms := s.host.arms.filter (fun a => !(a.1 == fn && a.2.1 + 2 ^ 32 * a.2.2.1 == tag)) }
  | .remote smod tag cls => s.syncReply 0 smod tag cls .aborted 0
  | .partner site tag cls => s.syncReply (12 + site) (507 + site) tag cls .aborted 0
  | _ => s

/-- The sync cells of the regions (R304): zero, without poison and without waiters. -/
def State.resetCells (s : State) (rs : List Nat) : State :=
  let inside (i : Nat) : Bool := rs.contains (i / 2048)
  let gone := (s.sync.table ++ s.sync.queued).filter (fun e => inside e.cell)
  let t := { s with
    sync.cells := tdrop inside s.sync.cells
    sync.errs := tdrop inside s.sync.errs
    sync.table := s.sync.table.filter (fun e => !inside e.cell)
    sync.queued := s.sync.queued.filter (fun e => !inside e.cell) }
  gone.foldl State.abortWaiter t

/-- The catchment slots of the regions' units are freed without any ADD (R188), those of collective groups among them.
[DEDUCED, log entry 38] -/
def State.resetSlots (s : State) (rs : List Nat) : State :=
  rs.foldl (fun u n => (List.range 64).foldl (fun v k => v.catFree n k) u) s

/-- Ranges of this module that a pump command has not yet written: nothing is written before it starts, a remote read is as far as
its replies, and an MCAST as far as the chunks acknowledged. -/
def State.pumpLeft (s : State) (p : Nat) (c : PCmd) : List (Nat × Nat) :=
  if !c.waits.isEmpty then
    s.aq.reqs.filterMap (fun r => match r.user with
      | .pumpRead q id dst _ n => if q = p ∧ id = c.id then some (dst, n) else none
      | _ => none)
  else if pPop c.desc = 5 ∧ !c.dests.isEmpty then
    (List.range c.dests.length).map (fun i =>
      let got := if bit c.failed i then le c.desc 32 4 else 65536 * (c.chunk + b2n (!c.live.contains i && !c.live.isEmpty))
      (c.dests.getD i 0 + got, le c.desc 32 4 - got))
  else ((pRanges c.desc c.dests).filter (fun r => r.k == .store && !s.isRemote r.a)).map (fun r => (r.a, r.n))

/-- The pump commands that cores of the tiles issued end (R471): no record, no SIG, and their destination bytes that are not yet
written become undefined. -/
def State.resetPumps (s : State) (ts : List Nat) : State :=
  let mine (c : PCmd) : Bool := ts.contains (tileOf c.agent)
  let cmds := (List.range 156).flatMap (fun p => ((s.pump p).filter mine).map (fun c => (p, c)))
  let open' := cmds.filter (fun (e : Nat × PCmd) => e.2.fin.isNone)
  let s1 := open'.foldl (fun u (e : Nat × PCmd) =>
    match (u.pCheck (pumpEnv e.1 e.2) e.2.desc e.2.dests) with
    | some _ => u
    | none => (u.pumpLeft e.1 e.2).foldl (fun v r => v.freeRange r.1 r.2) u) s
  { s1 with
    mesh.pumps := s1.mesh.pumps.map (fun (e : Nat × List PCmd) => (e.1, e.2.filter (fun c => !mine c)))
    aq.reqs := s1.aq.reqs.filter (fun r => match r.user with
      | .load a _ _ _ _ | .store a | .cell a _ | .wait a _ | .arm a _ => !ts.contains (tileOf a)
      | .pumpRead p id _ _ _ | .pumpWrite p id _ => !cmds.any (fun e => e.1 == p && e.2.id == id)
      | _ => true) }

/-- The cores of a tile take their reset values, with zeroed memories and buffers (Table 2.9, R409). -/
def State.resetTile (s : State) (t : Nat) : State :=
  let s1 := (tileAgents t).foldl (fun u a => (u.stopCore a).flushCache a) s
  let s2 := (tileAgents t).foldl (fun u a => u.freshCore a) s1
  (tileMcores t).foldl (fun u i => ((u.stopMcore i).clearMcore i)) (s2.zeroTile t)

/-- PARTITION_RESET begins: the partition's tasks end as HALT ends them, and its cores stop. The answer tells whether its
caches have settled (R226, R288). -/
def State.beginReset (s : State) (p : Nat) : State × Bool :=
  let r := (s.setPart p { s.part p with resetting := true }).endTasks (fun k => k.part == p)
  let t := (r.1.partTiles p).foldl State.stopTile r.1
  (t, r.2 && t.tilesQuiet (t.partTiles p))

/-- The reset itself. [DEDUCED, log entry 43] -/
def State.doReset (s : State) (p : Nat) : State :=
  let rs := s.partRegions p
  let ts := s.partTiles p
  let s0 := { s with svc.segments := s.svc.segments.filter (fun u => !(unitOnTiles ts u || (match u with
    | .march sl _ => rs.contains (sl / 32)
    | .region n => rs.contains n
    | _ => false))) }
  let s1 := ts.foldl State.resetTile (s0.resetPumps ts)
  let inside := s1.ownBlock rs
  let s2 := (s1.forgetLines inside).zeroIf inside
  let s3 := (s2.resetCells rs).resetSlots rs
  let s4 := (List.range 16).foldl (fun u n =>
    (u.setReg 8 (pinReg p n) 0).setStaged 8 (pinReg p n) 0) s3
  (s4.setPart p {}).settlePending

/-- The reset of a partition at once, whatever its caches hold (R257). [DEDUCED, log entry 43] -/
def State.forceReset (s : State) (p : Nat) : State :=
  let s1 := (s.tasks.filter (fun k => k.part == p && !k.released)).foldl (fun u k => u.abandonTask k .aborted) s
  let mine := s1.tasks.filter (fun k => k.part == p)
  let s2 := mine.foldl (fun u k => k.tiles.foldl State.stopTile u) s1
  (mine.foldl State.finishTask s2).doReset p

/-- A dispatched PARTITION_RESET; it waits for a quiesce of its tiles (R406). [DEDUCED, log entry 43] -/
def resetCmd (s : State) (c : HostCmd) : State :=
  let p := bits (le c.desc 16 1) 2 0
  let st := firstFail [
    (bits (le c.desc 16 1) 7 3 == 0 && zeroAt c.desc 17 47, .badField),
    (s.partValid p, .absent),
    (c.fn == 0 || s.partOwner p == c.fn, .permission)]
  if st ≠ .ok then s.complete c st 0 0
  else if (s.partTiles p).any (fun t => (List.range 6).any (s.quiesced t)) then s
  else match s.beginReset p with
    | (t, true) => (t.doReset p).complete c .ok 0 0
    | (t, false) => t

/-- PARTITION_RESET (R288). -/
def execPartitionReset (id : Nat) (s : State) : Host.Outcome State Fault Refusal := done s <| withCmd s id 13 (resetCmd s)

end Sys2Proof.Machine
end

