-- ==== Sys2Proof/Machine/Commit.lean ====
section
/-!
DEFINITION. Commits (R260, R261, R336): their start, the validation rules of every group (R136, R138, R179, R249, R262, R264,
R267, R315, R336, R344, R374, R391, R418), and what a group's application does.
-/

namespace Sys2Proof.Machine

/-- Why a commit fails: its status and the offset of the first register that failed. -/
abbrev Verdict := Option (Status × Nat)

/-- The first register of a list that a condition finds wrong. -/
def wrong (regs : List Nat) (p : Nat → Bool) (st : Status) : Verdict := (regs.find? p).map (fun o => (st, o))
/-- A condition on one register. -/
def wrongAt (b : Bool) (st : Status) (o : Nat) : Verdict := if b then some (st, o) else none
/-- The first verdict against the commit. [DEDUCED, log entry 23] -/
def firstVerdict : List Verdict → Verdict
  | [] => none
  | some v :: _ => some v
  | none :: t => firstVerdict t

/-- The values that a commit would put in force: those captured, else the active ones. -/
def newVal (s : State) (blk : Nat) (cap : List (Nat × Nat)) (o : Nat) : Nat :=
  match cap.find? (fun e => e.1 == o) with
  | some e => e.2
  | none => s.reg blk o

/-- A reserved bit set in a register of a group. -/
def reserved (blk g : Nat) (v : Nat → Nat) : Verdict :=
  wrong (groupRegs blk g) (fun o => match regSpec blk o with | some r => v o != (v o &&& r.mask) | none => true) .badField

/-! ### Groups of BAR0 -/

/-- Groups that Table 8.2 lists. -/
def cfgGroup (g : Nat) : Bool :=
  (decide (1 ≤ g) && decide (g ≤ 6)) || (decide (0x10 ≤ g) && decide (g < 0x18)) || (decide (0x20 ≤ g) && decide (g < 0x30))
    || (decide (0x100 ≤ g) && decide (g < 0x200))

/-- Whether a function may commit a group (Table 8.2). [DEDUCED, log entry 23] -/
def State.mayCommit (s : State) (fn g : Nat) : Bool :=
  g == 1 || fn == 0 || (decide (0x10 ≤ g) && decide (g < 0x18) && s.partValid (g - 0x10) && s.partOwner (g - 0x10) == fn) ||
    (decide (0x100 ≤ g) && s.ringOwner (g - 0x100) == fn)

/-- The block that holds a group of function fn. -/
def cfgBlk (fn g : Nat) : Nat := if g = 1 then fn else 8

/-- Group 0x0001 (R262). [DEDUCED, log entry 23] -/
def enableVerdict (s : State) (fn : Nat) (v : Nat → Nat) : Verdict :=
  let q := bits (v 0x28) 15 8
  firstVerdict [
    wrongAt (s.ringOwner q != fn) .permission 0x28,
    wrongAt (bit (v 0x28) 1 && !s.cqEn q) .inconsistent 0x28]

/-- Word 0 of PART_RECTp. -/
def rectReg (p : Nat) : Nat := 0x2000 + 16 * p
/-- Whether a partition's registers would change. -/
def State.rectChanges (s : State) (v : Nat → Nat) (p : Nat) : Bool :=
  v (rectReg p) != s.reg 8 (rectReg p) || v (rectReg p + 8) != s.reg 8 (rectReg p + 8)

/-- Group 0x0002 (R264). -/
def rectVerdict (s : State) (v : Nat → Nat) : Verdict :=
  let ps := List.range 8
  let w0 (p : Nat) := v (rectReg p)
  let base (p : Nat) := bits (v (rectReg p + 8)) 15 0
  let size (p : Nat) := bits (v (rectReg p + 8)) 31 16
  let valid (p : Nat) : Bool := bit (w0 p) 24
  let regs := ps.map rectReg
  let at' (o : Nat) : Nat := (o - 0x2000) / 16
  let clash (p q : Nat) : Bool := p != q && valid p && valid q &&
    ((List.range 36).any (fun n => rectHas (w0 p) n && rectHas (w0 q) n) || overlap (base p) (size p) (base q) (size q) ||
      (bits (w0 p) 39 32 &&& bits (w0 q) 39 32) != 0)
  let tasks (p : Nat) : Bool := s.tasks.any (fun k => k.part == p)
  firstVerdict [
    wrong (regs.flatMap (fun o => [o, o + 8])) (fun o =>
      let w := w0 (at' o)
      if o % 16 = 0 then decide (5 < bits w 2 0) || decide (5 < bits w 6 4) || decide (5 < bits w 10 8) || decide (5 < bits w 14 12)
        || decide (bits w 10 8 < bits w 2 0) || decide (bits w 14 12 < bits w 6 4)
      else decide (384 < base (at' o) + size (at' o))) .range,
    wrong regs (fun o => ps.any (clash (at' o))) .inconsistent,
    wrong regs (fun o => decide (s.boot.numVf < bits (w0 (at' o)) 18 16)) .absent,
    wrong regs (fun o => s.partValid (at' o) && s.rectChanges v (at' o) && tasks (at' o)) .locked]

/-- Group 0x0003 (Table 4.5, R138). -/
def carveVerdict (s : State) (v : Nat → Nat) : Verdict :=
  let new := v 0x38
  let lo := blockBytes - new * 2 ^ 20
  firstVerdict [
    wrongAt (new == 15) .badField 0x38,
    wrongAt (decide (s.carve < new) && (List.range 36).any (fun n =>
      s.covered (cisternBase + n * blockBytes + lo) ((new - s.carve) * 2 ^ 20))) .locked 0x38]

/-- Group 0x0004 (Table 7.9). -/
def rateVerdict (v : Nat → Nat) : Verdict :=
  wrongAt ((List.range 8).any (fun h => bits (v 0x40) (2 * h + 1) (2 * h) == 3)) .badField 0x40

/-- Owner of ring r in a set of RING_OWNER values. -/
def ownerIn (v : Nat → Nat) (r : Nat) : Nat := bits (v (0x3000 + 8 * (r / 16))) (4 * (r % 16) + 3) (4 * (r % 16))

/-- Group 0x0005 (R262). -/
def ownerVerdict (s : State) (v : Nat → Nat) : Verdict :=
  let regs := groupRegs 8 5
  let some' (p : Nat → Bool) (o : Nat) : Bool := (List.range 16).any (fun j => p (16 * ((o - 0x3000) / 8) + j))
  firstVerdict [
    wrong regs (some' (fun r => decide (8 ≤ ownerIn v r) && decide (ownerIn v r ≤ 14))) .badField,
    wrong regs (some' (fun r => decide (s.boot.numVf < ownerIn v r) && decide (ownerIn v r < 8))) .absent,
    wrong regs (some' (fun r => ownerIn v r != s.ringOwner r && (s.sqEn r || s.cqEn r))) .locked]

/-- Classes of function f in a set of CFG_FNCLASS values. -/
def classesIn (v : Nat → Nat) (f : Nat) : Nat := bits (v (if f < 4 then 0x48 else 0x50)) (16 * (f % 4) + 15) (16 * (f % 4))

/-- Group 0x0006 (R262). -/
def classVerdict (s : State) (v : Nat → Nat) : Verdict :=
  let fns (o : Nat) : List Nat := (List.range 4).map (· + (if o = 0x48 then 0 else 4))
  firstVerdict [
    wrongAt (bits (v 0x30) 47 30 % s.boot.bar4Gib != 0) .align 0x30,
    wrong [0x48, 0x50] (fun o => (fns o).any (fun f => bit (classesIn v f) 15)) .badField,
    wrong [0x48, 0x50] (fun o => (fns o).any (fun f => s.tasks.any (fun k => k.fn == f &&
      (List.range 16).any (fun c => (bit k.classMask c || k.cls == c) && !bit (classesIn v f) c)))) .locked]

/-- Group 0x0010 + p (R136, R179, R397). -/
def pinVerdict (s : State) (p : Nat) (v : Nat → Nat) : Verdict :=
  let regs := (List.range 16).map (pinReg p)
  let pin (o : Nat) := pinOf (v o)
  let map := (s.part p).map
  let new := regs.filterMap pin
  let on (o : Nat) (f : Nat × Nat × Bool → Bool) : Bool := match pin o with | some q => f q | none => false
  let mapped (e : MapEnt) : Bool := bit e.perm 4
  let inside (e : MapEnt) (q : Nat × Nat × Bool) : Bool := decide (q.1 ≤ e.base) && decide (e.base + mapBytes e ≤ q.1 + q.2.1)
  let newly (q : Nat × Nat × Bool) (a n : Nat) : Bool := overlap q.1 q.2.1 a n && !(s.pins p).any (fun r => overlap r.1 r.2.1 a n)
  firstVerdict [
    wrong regs (fun o => on o (fun q => q.2.1 == 0 || decide (cisternEnd < q.1 + q.2.1) || !s.outsideCarve q.1 q.2.1)) .range,
    wrongAt (v (0x1080 + 0x100 * p) == 0 || decide (10000 < v (0x1080 + 0x100 * p))) .range (0x1080 + 0x100 * p),
    wrong regs (fun o => on o (fun q => !s.inPart p q.1 q.2.1)) .permission,
    wrong regs (fun o => on o (fun q => regs.any (fun o' => o' != o && on o' (fun r => overlap q.1 q.2.1 r.1 r.2.1)))) .inconsistent,
    wrong regs (fun o => map.any (fun e => mapped e &&
      ((match pinOf (s.reg 8 o) with | some q => inside e q | none => false) && !new.any (inside e) ||
        on o (fun q => q.2.2 && bit e.perm 1 && overlap q.1 q.2.1 e.base (mapBytes e))))) .locked,
    wrong regs (fun o => on o (fun q => map.any (fun e => !mapped e && newly q e.base (mapBytes e)))) .locked,
    wrong regs (fun o => on o (fun q => (s.cistern.retired ++ s.cistern.unitsPending).any (fun u => newly q (unitAddr u) 65536))) .absent]

/-- Offsets of QOS_CFGc and QOS_SHAREc. -/
def qosCfg (c : Nat) : Nat := 0x2800 + 0x40 * c
/-- GUAR of a class, that of class 15 fixed (Table 9.7). -/
def guarIn (v : Nat → Nat) (c : Nat) : Nat := if c = 15 then 32 else bits (v (qosCfg c)) 15 0
/-- Sum of GUAR over all classes. -/
def gsumIn (v : Nat → Nat) : Nat := ((List.range 16).map (guarIn v)).sum

/-- Groups 0x0020 + c (R315). -/
def qosVerdict (s : State) (c : Nat) (v : Nat → Nat) : Verdict :=
  let a := qosCfg c
  let b := a + 8
  let rt := bit (v a) 40
  let budget := bits (v b) 47 32
  let lim := bits (v a) 31 16
  firstVerdict [
    wrongAt (bits (v a) 39 32 == 0 || bits (v a) 57 48 == 0 || decide (1000 < bits (v a) 57 48)) .range a,
    wrongAt (decide (960 < bits (v b) 10 0) || decide (504 < bits (v b) 24 16) || (rt && budget == 0)) .range b,
    wrongAt (lim != 0 && decide (lim < bits (v a) 15 0)) .inconsistent a,
    wrongAt (budget != 0 && !rt) .inconsistent b,
    wrongAt (decide (85 * s.capSum / 100 < gsumIn v)) .oversubscribed a,
    wrongAt (decide (960 < ((List.range 15).map (fun k => bits (v (qosCfg k + 8)) 10 0)).sum)) .oversubscribed b]

/-- Registers of ring r whose change needs the ring disabled: base, size, CQ and PUMP. -/
def sqFixed (v : Nat → Nat) (o : Nat) : Nat × Nat × Nat × Nat := (v o, bits (v (o + 0x10)) 4 0, bits (v (o + 0x10)) 23 16, bits (v (o + 0x10)) 26 24)

/-- Groups 0x0100 + r (R267). -/
def ringVerdict (s : State) (r : Nat) (v : Nat → Nat) : Verdict :=
  let o := 0x4000 + 64 * r
  let old := s.reg 8
  let q := bits (v (o + 0x10)) 23 16
  let sq := bit (v (o + 0x10)) 8
  let cq := bit (v (o + 0x18)) 8
  let lg (w : Nat) : Bool := decide (bits w 4 0 < 6) || decide (16 < bits w 4 0)
  let names (k : Nat) : Bool := if k = r then sq && q == r else s.sqEn k && s.sqCq k == r
  firstVerdict [
    wrongAt (lg (v (o + 0x10))) .range (o + 0x10),
    wrongAt (lg (v (o + 0x18))) .range (o + 0x18),
    wrong [o, o + 8] (fun k => v k % 4096 != 0) .align,
    wrongAt (v (o + 0x20) % 64 != 0) .align (o + 0x20),
    wrongAt (s.ringOwner q != s.ringOwner r) .permission (o + 0x10),
    wrongAt (sq && bit (old (o + 0x10)) 8 && sqFixed v o != sqFixed old o) .locked (o + 0x10),
    wrongAt (cq && bit (old (o + 0x18)) 8 && (v (o + 8) != old (o + 8) || bits (v (o + 0x18)) 4 0 != bits (old (o + 0x18)) 4 0)) .locked (o + 0x18),
    wrongAt (sq && !(if q = r then cq else s.cqEn q)) .inconsistent (o + 0x10),
    wrongAt (!cq && bit (old (o + 0x18)) 8 && ((List.range 256).any names || (List.range 8).any (fun f => s.evtEn f && s.evcq f == r))) .locked (o + 0x18)]

/-- The reserved bits of a ring's registers; the low bits of its addresses are judged by R267. -/
def ringReserved (r : Nat) (v : Nat → Nat) : Verdict :=
  let o := 0x4000 + 64 * r
  wrong [o + 0x10, o + 0x18] (fun k => match regSpec 8 k with | some x => v k != (v k &&& x.mask) | none => true) .badField

/-- The verdict on a commit of function fn. [DEDUCED, log entry 23] -/
def cfgVerdict (s : State) (fn g : Nat) (cap : List (Nat × Nat)) : Verdict :=
  let v := newVal s (cfgBlk fn g) cap
  if !cfgGroup g then some (.badField, 0xFFFF)
  else if !s.mayCommit fn g then some (.permission, 0xFFFF)
  else firstVerdict [
    if 0x100 ≤ g then ringReserved (g - 0x100) v else reserved (cfgBlk fn g) g v,
    if g = 1 then enableVerdict s fn v
    else if g = 2 then rectVerdict s v
    else if g = 3 then carveVerdict s v
    else if g = 4 then rateVerdict v
    else if g = 5 then ownerVerdict s v
    else if g = 6 then classVerdict s v
    else if g < 0x18 then pinVerdict s (g - 0x10) v
    else if g < 0x2F then qosVerdict s (g - 0x20) v
    else if g = 0x2F then wrongAt (v 0x2C00 == 0) .range 0x2C00
    else ringVerdict s (g - 0x100) v]

/-! ### Groups of the diagnostic and management space -/

/-- The bytes of a member list, which the Wellkeeper reads by PEEK (R214). -/
def State.memberBytes (s : State) (a n : Nat) : Bytes := (s.uRead 505 a (2 * n)).2.2
/-- The members that a member list in memory names (Table 10.8). -/
def State.memberList (s : State) (a n : Nat) : List Nat := (List.range n).map (fun i => le (s.memberBytes a n) (2 * i) 2)

/-- Groups 0x0100 + g of the Aquifer set-up block (R344). [DEDUCED, log entry 23] -/
def groupVerdict (s : State) (g : Nat) (v : Nat → Nat) : Verdict :=
  let o := 0x2000 + 64 * g
  let w := v o
  let n := bits w 10 0
  let list := bits (v (o + 8)) 47 0
  let scr := bits (v (o + 16)) 47 0
  let size := bits (v (o + 16)) 63 48
  let part := bits w 42 40
  let armed := bit w 32
  let ms := s.memberList list n
  let changed := (groupRegs 9 (0x100 + g)).any (fun k => v k != s.reg 9 k)
  let region := (scr - cisternBase) / blockBytes
  firstVerdict [
    wrongAt (armed && (decide (n < 2) || decide (1024 < n) || decide (n ≤ bits w 26 16) || bits w 63 48 == 0)) .range o,
    wrongAt (armed && size == 0) .range (o + 16),
    wrongAt (list % 64 != 0) .align (o + 8),
    wrongAt (scr % 65536 != 0) .align (o + 16),
    wrongAt (armed && !s.partValid part) .absent o,
    wrongAt (armed && !(s.memRange false list (2 * n) && s.inPart part list (2 * n))) .permission (o + 8),
    wrongAt (armed && !(s.catRange scr (65536 * size) && s.memRange false scr (65536 * size) && s.inPart part scr (65536 * size))) .permission (o + 16),
    wrongAt (armed && (ms.any (fun m => decide (0xFFF < m)) || ms[bits w 26 16]? != some s.aq.modid || decide (ms.eraseDups.length < n) ||
      ms.any (fun m => m != s.aq.modid && (s.route m).isNone))) .inconsistent (o + 8),
    wrongAt (armed && !(s.armed g && (bits (s.groupReg g 2) 47 0 - cisternBase) / blockBytes == region) && (s.cat region).freeSlots == 0)
      .oversubscribed (o + 16),
    wrongAt (changed && (s.group g).run.isSome) .locked o]

/-- The verdict on a commit of the Aquifer set-up block (R336). [DEDUCED, log entry 23] -/
def aqVerdict (s : State) (g : Nat) (cap : List (Nat × Nat)) : Verdict :=
  let v := newVal s 9 cap
  if (groupRegs 9 g).isEmpty then some (.badField, 0xFFFF)
  else firstVerdict [
    reserved 9 g v,
    if g = 1 then firstVerdict [
      wrongAt (v 0x18 == 0) .range 0x18,
      wrongAt (bit (v 0x20) 31 && decide (nCells ≤ bits (v 0x20) 16 0)) .range 0x20]
    else if g = 2 then firstVerdict [
      wrong (groupRegs 9 2) (fun o => bits (v o) 3 0 != 0 && !s.partValid ((o - 0x40) / 8)) .absent,
      wrong (groupRegs 9 2) (fun o => decide (bits (v o) 43 32 < bits (v o) 27 16)) .inconsistent]
    else if g = 3 then
      wrong (groupRegs 9 3) (fun o => (List.range 8).any (fun j =>
        decide (12 ≤ bits (v o) (8 * j + 3) (8 * j)) && bits (v o) (8 * j + 3) (8 * j) != 15)) .badField
    else groupVerdict s (g - 0x100) v]

/-- The verdict on a commit of a partner site's group (R374). [DEDUCED, log entry 23] -/
def psVerdict (s : State) (g : Nat) (cap : List (Nat × Nat)) : Verdict :=
  let v := newVal s 10 cap
  if (groupRegs 10 g).isEmpty then some (.badField, 0xFFFF)
  else
    let o := 0x118 + 0x100 * (g - 1)
    let x := s.psite (g - 1)
    firstVerdict [
      reserved 10 g v,
      wrongAt (bit (v o) 31) .badField o,
      wrongAt (!s.partValid (bits (v o) 2 0)) .absent o,
      wrongAt ((bit (v o) 11 && !x.mods.any (fun m => m.role == 1)) || (bit (v o) 10 && x.proto != 0)) .inconsistent o]

/-- The verdict on a commit of the service block (R391). -/
def diagVerdict (s : State) (g : Nat) (cap : List (Nat × Nat)) : Verdict :=
  let v := newVal s 11 cap
  let out (x lo hi : Nat) : Bool := decide (x < lo) || decide (hi < x)
  if (groupRegs 11 g).isEmpty then some (.badField, 0xFFFF)
  else firstVerdict [
    reserved 11 g v,
    wrongAt (g == 1 && (out (bits (v 0x10) 15 0) 60 65535 || out (bits (v 0x10) 47 32) 60 10080)) .range 0x10,
    wrongAt (g == 2 && (out (bits (v 0x18) 15 8) 1 255 || out (bits (v 0x18) 25 16) 50 500 || out (bits (v 0x18) 47 32) 1 168)) .range 0x18]

/-- The verdict on a commit of the power and thermal block (R418). -/
def pwrVerdict (s : State) (g : Nat) (cap : List (Nat × Nat)) : Verdict :=
  let v := newVal s 12 cap
  let out (x lo hi : Nat) : Bool := decide (x < lo) || decide (hi < x)
  if (groupRegs 12 g).isEmpty then some (.badField, 0xFFFF)
  else firstVerdict [
    reserved 12 g v,
    wrongAt (g == 1 && v 0x10 != 0 && out (v 0x10) 600 s.boot.limitW) .range 0x10,
    wrongAt (g == 1 && (decide (150 < bits (v 0x18) 7 0) || decide (150 < bits (v 0x18) 15 8))) .range 0x18,
    wrongAt (g == 2 && out (v 0x20) 2 10) .range 0x20,
    wrongAt (g == 3 && decide (10 < v 0x28)) .range 0x28,
    wrongAt (g == 3 && bits (v 0x30) 15 8 == 0) .range 0x30]

/-! ### Application -/

/-- Put the values of a group in force. -/
def State.setGroupRegs (s : State) (blk : Nat) (cap : List (Nat × Nat)) : State := cap.foldl (fun t e => t.setReg blk e.1 e.2) s

/-- The tiles of changed partitions (R263): those whose sites lie in the new rectangle and that no unchanged partition
holds. [DEDUCED, log entry 23] -/
def State.assignTiles (s : State) (changed : List Nat) : State :=
  (List.range 32).foldl (fun t i =>
    let x := t.tile i
    let kept := match x.part with
      | some p => if changed.contains p then none else some p
      | none => none
    let now := match kept, x.site with
      | some p, _ => some p
      | none, some n => changed.find? (fun p => t.partValid p && rectHas (t.reg 8 (rectReg p)) n)
      | none, none => none
    t.setTile i { x with part := now }) s

/-- A change of the carve-out (R138): far-cache lines of the released range are dropped, and the range is zeroed. -/
def State.carveTo (s : State) (old new : Nat) : State :=
  if old ≤ new then s
  else
    let inside (a : Nat) : Bool := decide (cisternBase ≤ a) && decide (a < cisternEnd) &&
      decide (blockBytes - old * 2 ^ 20 ≤ (a - cisternBase) % blockBytes) && decide ((a - cisternBase) % blockBytes < blockBytes - new * 2 ^ 20)
    { s.zeroIf inside with aq.far := s.aq.far.filter (fun l => decide (l.set < 1024 * new)) }

/-- Drop the oldest far-cache lines of a class above a cap. -/
def State.trimFar (s : State) (c : Nat) : Nat → State
  | 0 => s
  | k + 1 => if s.fcmax c < s.farUsed c then State.trimFar { s with aq.far := dropOldest (fun l => l.cls == c) s.aq.far } c k else s

/-- A ring's sides as they are enabled and disabled (R267). [DEDUCED, log entry 20] -/
def State.ringSwitch (s : State) (r : Nat) (was : Nat → Nat) : State :=
  let o := 0x4000 + 64 * r
  let on (v : Nat → Nat) (k : Nat) : Bool := bit (v (o + k)) 8
  let x := s.ring r
  let x1 := if on (s.reg 8) 0x10 && !on was 0x10 then
      { x with pi := 0, ci := 0, sqErr := 0, fetched := [], headTick := none, headWaits := false, headMet := false }
    else if !on (s.reg 8) 0x10 && on was 0x10 then { x with fetched := [], headTick := none, headWaits := false, headMet := false }
    else x
  let x2 := if on (s.reg 8) 0x18 && !on was 0x18 then { x1 with cqPi := 0, cqCi := 0, cqErr := 0, phase := true, coal := 0 } else x1
  let t := s.setRing r x2
  if on (s.reg 8) 0x10 == on was 0x10 then t else t.cancelWait (.hostHead r)

/-- Apply a validated group of BAR0. A commit that sets EVT_EN of the physical function while COMPUTE_OFF is set posts
THERMAL_SHUTDOWN (R388). -/
def State.applyCfg (s : State) (fn g : Nat) (cap : List (Nat × Nat)) : State :=
  let was := s.reg 8
  let t := s.setGroupRegs (cfgBlk fn g) cap
  if g = 1 then
    (if fn = 0 ∧ t.evtEn 0 ∧ s.boot.computeOff then t.postTo 0 0x01A (match s.flash.shutRec with | some b => le b 24 8 | none => 0) else t)
  else if g = 2 then t.assignTiles ((List.range 8).filter (fun p => t.reg 8 (rectReg p) != was (rectReg p) || t.reg 8 (rectReg p + 8) != was (rectReg p + 8)))
  else if g = 3 then t.carveTo s.carve t.carve
  else if g = 4 then (List.range 8).foldl (fun u h =>
    let x := u.stack h
    if x.rate < u.rateCap h ∧ !x.retraining then u.derate h else u) t
  else if 0x10 ≤ g ∧ g < 0x18 then t.settlePending
  else if 0x20 ≤ g ∧ g < 0x30 then
    let old := (cap.map (fun e => (e.1, was e.1))).filter (fun e => !s.qos.before.any (fun b => b.1 == e.1))
    { t with qos.before := t.qos.before ++ old }.trimFar (g - 0x20) t.aq.far.length
  else if 0x100 ≤ g then t.ringSwitch (g - 0x100) was
  else t

/-- What arming takes from a group's entry: NMEM, RANK and ARMED, the member list, and the scratch range (Table 10.8). -/
def State.armKey (s : State) (k : Nat) : Nat × Nat × Nat := (bits (s.groupReg k 0) 32 0, s.groupReg k 1, s.groupReg k 2)

/-- A group of the Aquifer set-up block takes effect: a change of the far cache's epoch cell drops every line (R350); arming a
group, or changing the members or the scratch range of an armed one, reserves its slot and zeroes its scratch range, and
disarming frees the slot (R344). [DEDUCED, log entry 23] -/
def State.applyAq (s : State) (g : Nat) (cap : List (Nat × Nat)) : State :=
  let old := s.reg 9 0x20
  let k := g - 0x100
  let wasArmed := s.armed k
  let scratch (t : State) : Nat := bits (t.groupReg k 2) 47 0
  if 0x100 ≤ g ∧ wasArmed ∧ (s.setGroupRegs 9 cap).armKey k = s.armKey k then s.setGroupRegs 9 cap
  else
  let s0 := if 0x100 ≤ g ∧ wasArmed then s.catFree ((scratch s - cisternBase) / blockBytes) (s.group k).slot else s
  let t := s0.setGroupRegs 9 cap
  if g = 1 then (if t.reg 9 0x20 = old then t else { t with aq.far := [] })
  else if g < 0x100 then t
  else if !t.armed k then t.setGroup k {}
  else
    let a := scratch t
    let n := (a - cisternBase) / blockBytes
    let slot := ((List.range 64).find? (fun i => ((t.cat n).slot i).state == 0)).getD 0
    let size := 65536 * bits (t.groupReg k 2) 63 48
    let list := bits (t.groupReg k 1) 47 0
    let nm := bits (t.groupReg k 0) 10 0
    let u := t.settled list (2 * nm) false
    let u := { u with free := (u.cohRead 505 list (2 * nm)).1.free }
    (((u.setSlotAt n slot { state := 1, group := some k }).dropLines a size).zeroRange a (a + size)).setGroup k
      { members := t.memberList list nm, slot := slot, digest := crc32c (t.memberBytes list nm), last := (s.group k).last }

/-- The coherent agents of a partner site that have been granted. -/
def State.siteAgents (s : State) (site : Nat) : List Nat := (List.range (s.psite site).agents).map (384 + 32 * site + ·)

/-- A partner site's grant takes effect (R374). -/
def State.applyPs (s : State) (g : Nat) (cap : List (Nat × Nat)) : State :=
  let o := 0x118 + 0x100 * (g - 1)
  let old := s.reg 10 o
  let t := s.setGroupRegs 10 cap
  let new := t.reg 10 o
  if bit old 11 && (!bit new 11 || bits new 2 0 != bits old 2 0) then (t.siteAgents (g - 1)).foldl State.reclaim t else t

/-- PD_PMIN. -/
def pdMin (d : Bytes) : Nat := le d 24 2

/-- Most power a site may be granted in W (R371, R425). [DEDUCED, log entry 40] -/
def State.partnerCap (s : State) (site : Nat) : Nat :=
  min 150 (bits (s.reg 12 0x18) (8 * site + 7) (8 * site))

/-- The most a PWR_ASK is granted: while the NE corner's island, or for site B the SW corner's, is in THROTTLE, at most PD_PMIN
(R432). [DEDUCED, log entry 44] -/
def State.askCap (s : State) (site : Nat) : Nat :=
  if (s.island (189 + site)).state = 2 then min (s.partnerCap site) (pdMin (s.psite site).desc) else s.partnerCap site

/-- The power granted to a site. [DEDUCED, log entry 40] -/
def State.grantSite (s : State) (site w : Nat) : State :=
  let t := s.setPsite site { s.psite site with pgrant := w }
  if site = 0 then { t with power.grantA := w } else { t with power.grantB := w }

/-- A power and thermal group in force: a partner grant above its site's new share is lowered to it (R425). -/
def State.applyPwr (s : State) (g : Nat) (cap : List (Nat × Nat)) : State :=
  let t := s.setGroupRegs 12 cap
  if g = 1 then [0, 1].foldl (fun u k => if u.partnerCap k < (u.psite k).pgrant then u.grantSite k (u.partnerCap k) else u) t else t

/-! ### Commit units -/

/-- A commit register is written (R260): a unit that is busy discards it. -/
def State.commitStart (s : State) (u blk g : Nat) (cmd : Option Nat) : State :=
  let x := s.unit u
  if x.busy then s.setUnit u { x with overrun := true }
  else s.setUnit u { x with busy := true, running := g, captured := (groupRegs blk g).map (fun o => (o, s.staged blk o)), cmd := cmd }

/-- The block that a unit's commit of a group works on. -/
def unitBlk (u g : Nat) : Nat := if u < 8 then cfgBlk u g else u + 1

/-- Record the outcome of a unit's commit, and complete the CONFIG_COMMIT that asked (R260, R285). -/
def State.commitEnd (s : State) (u : Nat) (v : Verdict) : State :=
  let x := s.unit u
  let y : CommitUnit := { x with
    busy := false
    code := stCode (match v with | some e => e.1 | none => .ok)
    group := x.running % 2 ^ 16
    field := match v with | some e => e.2 % 2 ^ 16 | none => 0xFFFF
    seq := (x.seq + 1) % 2 ^ 16
    captured := []
    cmd := none }
  let t := s.setUnit u y
  match x.cmd.bind t.cmd with
  | some c => t.complete c (match v with | some e => e.1 | none => .ok) y.field y.seq
  | none => t

/-- Reset the valid partitions that a commit of group 0x0002 changes; the answer tells whether their caches have settled
(R264). -/
def State.resetChanged (s : State) (cap : List (Nat × Nat)) : State × Bool :=
  let ps := (List.range 8).filter (fun p => s.partValid p && s.rectChanges (newVal s 8 cap) p)
  let r := ps.foldl (fun (q : State × Bool) p => let b := q.1.beginReset p; (b.1, q.2 && b.2)) (s, true)
  if r.2 then (ps.foldl State.doReset r.1, true) else r

/-- A running commit finishes (R260). -/
def State.commitRun (s : State) (u : Nat) : State :=
  let x := s.unit u
  let g := x.running
  let cap := x.captured
  if !x.busy then s
  else if u < 8 then
    match cfgVerdict s u g cap with
    | some v => s.commitEnd u (some v)
    | none =>
      if g = 2 then
        match s.resetChanged cap with
        | (t, true) => (t.applyCfg u g cap).commitEnd u none
        | (t, false) => t
      else (s.applyCfg u g cap).commitEnd u none
  else
    let v := if u = 8 then aqVerdict s g cap else if u = 9 then psVerdict s g cap else if u = 10 then diagVerdict s g cap
      else pwrVerdict s g cap
    match v with
    | some e => s.commitEnd u (some e)
    | none =>
      (if u = 8 then s.applyAq g cap else if u = 9 then s.applyPs g cap else if u = 10 then s.setGroupRegs 11 cap
        else s.applyPwr g cap).commitEnd u none

/-- CFG_COMMIT (R256, R260). -/
def execCfgCommit (fn group : Nat) (s : State) : Host.Outcome State Fault Refusal :=
  within "function" fn 8 <| done s (if s.live fn then s.commitStart fn (cfgBlk fn group) (group % 2 ^ 16) none else s)

/-- COMMIT_APPLY (R260). -/
def execCommitApply (u : Nat) (s : State) : Host.Outcome State Fault Refusal :=
  within "commit unit" u 12 <| done s (s.commitRun u)

/-- AQ_COMMIT (R336). -/
def execAqCommit (group : Nat) (s : State) : Host.Outcome State Fault Refusal :=
  done s (s.commitStart 8 9 (group % 2 ^ 16) none)
/-- PS_COMMIT (R374). -/
def execPsCommit (group : Nat) (s : State) : Host.Outcome State Fault Refusal :=
  done s (s.commitStart 9 10 (group % 2 ^ 16) none)
/-- DIAG_COMMIT (R391). -/
def execDiagCommit (group : Nat) (s : State) : Host.Outcome State Fault Refusal :=
  done s (s.commitStart 10 11 (group % 2 ^ 16) none)
/-- PWR_COMMIT (R418). -/
def execPwrCommit (group : Nat) (s : State) : Host.Outcome State Fault Refusal :=
  done s (s.commitStart 11 12 (group % 2 ^ 16) none)

/-- A write of PS_READMIT (R373): a site that has returned is admitted with its present epoch; the outcome stands in
PS_STATUS. -/
def State.readmitSite (s : State) (site epoch : Nat) : State :=
  let x := s.psite site
  let st : Status := if x.st ≠ 3 ∨ x.desc = [] then .inconsistent else if epoch ≠ x.epoch then .staleEpoch else .ok
  let t := s.setUnit 9 { s.unit 9 with code := stCode st, field := 0xFFFF }
  if st = .ok then (t.setPsite site { x with st := 2 }).markDist else t

/-- PS_READMIT (R373). [DEDUCED, log entry 23] -/
def execPsReadmit (site : Nat) (epoch : BitVec 32) (s : State) : Host.Outcome State Fault Refusal :=
  within "site" site 2 <| done s (s.readmitSite site epoch.toNat)

/-- Targets and codeword widths of the array types of DIAG_FLIPk (R394). -/
def flipRange (k : Nat) : Nat × Nat :=
  match k with
  | 0 => (1152, 266) | 1 => (256, 282) | 2 => (384, 104) | 3 => (384, 72) | 4 => (512, 72) | _ => (36, 104)

/-- A write of DIAG_FLIPk (R394). -/
def State.writeFlip (s : State) (k v : Nat) : State :=
  let w := v &&& fields [(1, 0), (24, 16), (40, 32), (63, 48)]
  let ok := decide (bits v 63 48 < (flipRange k).1) && decide (bits v 24 16 < (flipRange k).2) && (!bit v 1 || decide (bits v 40 32 < (flipRange k).2))
  let x := if !bit v 0 then w + 4 * bits (s.flip k) 2 2 else if ok then w else setBits w 0 0 0 + 4
  { s with svc.flips := tset (fun _ => (0 : Word)) s.svc.flips k (BitVec.ofNat 64 x) }

/-- DIAG_FLIP_WRITE (R394). -/
def execDiagFlipWrite (k : Nat) (v : Word) (s : State) : Host.Outcome State Fault Refusal :=
  within "flip" k 6 <| done s (s.writeFlip k v.toNat)

end Sys2Proof.Machine
end

