-- ==== Sys2Proof/Machine/Registers.lean ====
section
/-!
DEFINITION. Registers that are written and read one at a time (R9, R10): BAR0 (R256, R258, R259), the diagnostic and management
space (R110, R221, R246, R336, R374, R391, R418), a core's CSRs (R45, R48, R49, R466, R467) and the PCIe capabilities (R253, R254,
R271).
-/

namespace Sys2Proof.Machine

/-! ### BAR0 -/

/-- Whether a function's BAR0 shows the register at an offset below 0x8000 (R258). -/
def State.bar0Shows (s : State) (fn o : Nat) : Bool :=
  if o < 0x30 then true
  else if 0x1000 ≤ o ∧ o < 0x1800 then
    fn == 0 || (s.partValid ((o - 0x1000) / 0x100) && s.partOwner ((o - 0x1000) / 0x100) == fn)
  else if 0x2800 ≤ o ∧ o < 0x3000 then
    fn == 0 || o == 0x2C08 ||
      (decide (o < 0x2C00) && (o % 0x40 == 0x10 || o % 0x40 == 0x18) && bit (s.fnClasses fn) ((o - 0x2800) / 0x40))
  else if 0x4000 ≤ o ∧ o < 0x8000 then fn == 0 || s.ringOwner ((o - 0x4000) / 64) == fn
  else fn == 0

/-- Measurement of a class. -/
def State.qos' (s : State) (c : Nat) : QosClass := tget (fun _ => {}) s.qos.classes c

/-- Word k of the QOS_ registers of class c (Table 9.8); those of class 15 are fixed (R313). -/
def State.qosWord (s : State) (c k : Nat) : Nat :=
  let q := s.qos' c
  match k with
  | 0 => if c = 15 then 32 + 255 * 2 ^ 32 + 1000 * 2 ^ 48 else s.stagedWord 8 (qosCfg c) false
  | 1 => if c = 15 then 64 else s.stagedWord 8 (qosCfg c + 8) false
  | 2 => q.meas + 2 ^ 16 * q.dem + 2 ^ 32 * q.effg + 2 ^ 48 * b2n q.scaled + 2 ^ 49 * b2n q.heldReq
  | 3 => q.dlmiss + 2 ^ 32 * (s.farUsed c / 8192) + 2 ^ 48 * q.misses
  | _ => 0

/-- QOS_CAP. -/
def State.qosCap (s : State) : Nat :=
  s.capSum + 2 ^ 16 * (85 * s.capSum / 100) + 2 ^ 32 * gsumIn (s.reg 8) +
    2 ^ 48 * b2n ((List.range 16).any (fun c => (s.qos' c).scaled))

/-- CFG_READY. -/
def State.readyWord (s : State) : Nat :=
  b2n s.boot.ready + 2 * s.boot.stage + 2 ^ 5 * b2n s.boot.held + 2 ^ 6 * b2n s.boot.computeOff + 2 ^ 7 * b2n s.boot.failed +
    2 ^ 8 * s.boot.gen + 2 ^ 12 * s.boot.width

/-- The word that a function's BAR0 shows at an offset below 0x8000, once start-up has completed (Tables 8.2 to 8.5, 9.8). -/
def State.bar0Word (s : State) (fn o : Nat) : Nat :=
  if o = 0 then s.fuse.variant + 2 ^ 8 * s.fuse.rev + 2 ^ 16 * s.fuse.partA + 2 ^ 32 * s.fuse.partB
  else if o = 8 then fn + 2 ^ 8 * (if fn = 0 then s.boot.numVf else 0)
  else if o = 0x20 then (s.unit fn).word
  else if o = 0x28 then s.stagedWord fn 0x28 false
  else if 0x2800 ≤ o ∧ o < 0x2C00 then s.qosWord ((o - 0x2800) / 0x40) (o % 0x40 / 8)
  else if o = 0x2C08 then s.qosCap
  else if 0x4000 ≤ o ∧ o % 64 = 0x28 then (s.ring ((o - 0x4000) / 64)).ci + 2 ^ 32 * (s.ring ((o - 0x4000) / 64)).cqPi
  else if 0x4000 ≤ o ∧ o % 64 = 0x30 then
    (s.ring ((o - 0x4000) / 64)).sqErr + 2 ^ 4 * (s.ring ((o - 0x4000) / 64)).cqErr + 2 ^ 8 * s.outCount ((o - 0x4000) / 64)
  else s.stagedWord 8 o false

/-- A read of BAR0 at an aligned offset (R256, R258, R259); in D3hot it reads all ones. [DEDUCED, log entry 22] -/
def State.bar0Read (s : State) (fn off : Nat) : Nat :=
  let o := off % 0x8000
  if !s.boot.powered || s.boot.d3.contains fn then 2 ^ 64 - 1
  else if off = 0x10 then s.readyWord
  else if !s.live fn || off % 8 != 0 || decide (0x10000 ≤ off) || !s.bar0Shows fn o then 0
  else if 0x8000 ≤ off then s.stagedWord (if o = 0x28 then fn else 8) o true
  else s.bar0Word fn o

/-- What a read of BAR0 clears: DLMISS and MISSES of a class (Table 9.8). -/
def State.bar0Clear (s : State) (fn off : Nat) : State :=
  if s.live fn && decide (0x2800 ≤ off) && decide (off < 0x2C00) && off % 0x40 == 0x18 && s.bar0Shows fn off then
    let c := (off - 0x2800) / 0x40
    { s with qos.classes := tset (fun _ => {}) s.qos.classes c { s.qos' c with dlmiss := 0, misses := 0 } }
  else s

/-- Clear OVERRUN of a commit unit when its bit is written as 1. -/
def State.overrunW1c (s : State) (u v : Nat) : State :=
  if bit v 9 then s.setUnit u { s.unit u with overrun := false } else s

/-- A write of BAR0 (R256, R258, R259, R260). [DEDUCED, log entry 22] -/
def State.bar0Write (s : State) (fn off v : Nat) : State :=
  let o := off % 0x8000
  let blk := if o = 0x28 then fn else 8
  if !s.live fn || decide (0x10000 ≤ off) then s
  else if off = 0x18 then s.commitStart fn (cfgBlk fn (v % 2 ^ 16)) (v % 2 ^ 16) none
  else if off = 0x20 then s.overrunW1c fn v
  else if s.bar0Shows fn o && (regSpec blk o).isSome then s.setStaged blk o v
  else s

/-! ### The diagnostic and management space -/

/-- RESUME (Table 3.14): in FAULTED the faulted command is skipped; a fenced M-core ignores it (Table 13.5). -/
def State.msResume (s : State) (i : Nat) : State :=
  let c := s.mc i
  if c.faulted && !c.stale then
    (s.setMc i { c with queue := c.queue.drop 1, faulted := false, done := (c.done + 1) % 2 ^ 32 }).mHead i
  else s

/-- FLUSH (Table 3.14): the commands queued and not started are discarded, and FAULTED is cleared. An MWAIT that waits has
started. -/
def State.msFlush (s : State) (i : Nat) : State :=
  let c := s.mc i
  if c.stale then s
  else
    let keep := if c.waiting then c.queue.take 1 else []
    s.setMc i { c with queue := keep, faulted := false, done := (c.done + (c.queue.length - keep.length)) % 2 ^ 32 }

/-- A write of word w of the status block of M-core i. -/
def State.msWrite (s : State) (i w v : Nat) : State :=
  match w with
  | 2 =>
    let c := s.mc i
    s.setMc i { c with
      clamp := c.clamp && !bit v 0
      ovf := c.ovf && !bit v 1
      sat := c.sat && !bit v 2
      nanout := c.nanout && !bit v 3 }
  | 4 =>
    let t := if bit v 1 then s.msFlush i else s
    if bit v 0 then t.msResume i else t
  | _ => s

/-- Whether a requester may write an M-core's status block (R110): the paired S-core and the Wellkeeper, for MS_FLAGS as for
MS_CTL. [DEDUCED, log entry 55] -/
def msMaster (who : Master) (i : Nat) : Bool :=
  match who with
  | .wellkeeper => true
  | .core a => a == 12 * (i / 16) + i % 4
  | _ => false

/-- A write of word w of the channel block k (Table 7.6). -/
def State.hcWrite (s : State) (k w v : Nat) : State :=
  let x := s.chan k
  match w with
  | 2 =>
    if bit v 9 && x.busy then
      let t := s.tgHalt k
      t.setChan k { t.chan k with mode := bits v 2 0, op := bits v 5 4, pc := bits v 6 6 }
    else if bit v 8 then s.tgStart k v []
    else s.setChan k { x with mode := bits v 2 0, op := bits v 5 4, pc := bits v 6 6 }
  | 3 => s.setChan k { x with seed := v % 2 ^ 32 }
  | 4 => s.setChan k { x with base := bits v 21 0, len := bits v 53 32 }
  | _ => s

/-- A write of a staged register of a block, whose staging copy lies at `stg`. -/
def State.stagedWrite (s : State) (blk stg k v : Nat) : State :=
  let o := k % stg
  if (regSpec blk o).isSome && decide (k < 2 * stg) then s.setStaged blk o v else s

/-- An aligned 8-byte write of the diagnostic and management space; none when the requester may not make it. -/
def State.diagWrite (s : State) (who : Master) (o v : Nat) : Option State :=
  let k := o % 0x1000000
  let mgr : Bool := match who with | .wellkeeper | .bar4 => true | _ => false
  let keeper : Bool := match who with | .wellkeeper => true | _ => false
  let mon : Bool := match who with | .monitor => true | _ => false
  let serviced := mgr || (mon && decide (1 ≤ s.mgmt.level))
  match o / 0x1000000 with
  | 0x60 => if k < 0x20000 ∧ msMaster who (k / 256) then some (s.msWrite (k / 256) (k % 256 / 8) v) else none
  | 0x64 =>
    let a := k / 64
    let sup : Bool := match who with | .core g => !isScore a && g == supervisor a | _ => false
    if a < 384 ∧ (keeper || (sup && !(s.core a).run)) then
      some ((s.issuedBy a (match who with | .core g => some g | _ => none)).ccWrite a (k % 64 / 8) v)
    else if a < 384 then some (s.ccLast a .locked)
    else none
  | 0x65 => if k < 65536 ∧ (keeper || mon) then some (s.hcWrite (k / 256) (k % 256 / 8) v) else none
  | 0x69 =>
    if k < 0x200000 ∧ mgr then
      some (if k = 8 then s.commitStart 8 9 (v % 2 ^ 16) none
        else if k = 0x10 then s.overrunW1c 8 v
        else s.stagedWrite 9 0x100000 k v)
    else none
  | 0x6C =>
    if k < 0x2000 ∧ mgr then
      some (if k = 0 then s.commitStart 9 10 (v % 2 ^ 16) none
        else if k = 8 then s.overrunW1c 9 v
        else if k = 0x120 ∨ k = 0x220 then s.readmitSite ((k - 0x120) / 0x100) (v % 2 ^ 32)
        else s.stagedWrite 10 0x1000 k v)
    else none
  | 0x6D =>
    if k < 0x2000 ∧ serviced then
      some (if k = 0 then s.commitStart 10 11 (v % 2 ^ 16) none
        else if k = 8 then s.overrunW1c 10 v
        else if 0x80 ≤ k ∧ k < 0xB0 then s.writeFlip ((k - 0x80) / 8) v
        else s.stagedWrite 11 0x1000 k v)
    else none
  | 0x6E =>
    if k < 0x2000 ∧ serviced then
      some (if k = 0 then s.commitStart 11 12 (v % 2 ^ 16) none
        else if k = 8 then s.overrunW1c 11 v
        else s.stagedWrite 12 0x1000 k v)
    else none
  | _ => none

/-- The event of a BAR4 access that fails (R255). -/
def State.bar4Fault (s : State) (a : Nat) : State := s.raise 0x013 (a % 2 ^ 48) [] hostNode

/-- A load by core a of an aligned word of the diagnostic and management space: the word, or the access fault. -/
def State.coreDiagLoad (s : State) (a addr : Nat) : State × Option Word :=
  match s.coreCheck a .load addr 8 with
  | .ok => (match s.diagRead (.core a) (s.loc addr - diagBase) with
    | some (t, w) => (t, some w)
    | none => (s.exc a 5 (BitVec.ofNat 64 addr), none))
  | st => (s.exc a (excCode .load st) (BitVec.ofNat 64 addr), none)

/-- A store by core a of an aligned word of the diagnostic and management space. -/
def State.coreDiagStore (s : State) (a addr v : Nat) : State :=
  match s.coreCheck a .store addr 8 with
  | .ok => (match s.diagWrite (.core a) (s.loc addr - diagBase) v with
    | some t => t.retire a
    | none => s.exc a 7 (BitVec.ofNat 64 addr))
  | st => s.exc a (excCode .store st) (BitVec.ofNat 64 addr)

/-- The answer to a requester of the diagnostic and management space that is refused, when it is not a core. -/
def State.diagRefuse (s : State) (who : Master) (addr : Nat) : State :=
  match who with
  | .bar4 => (s.bar4Fault addr).answer (BitVec.allOnes 64) .permission
  | _ => s.answer 0 .permission

/-! ### CSRs -/

/-- CSRs of an S-core (R45, R48). -/
def sCsrs : List Nat :=
  [0x300, 0x301, 0x304, 0x305, 0x306, 0x320, 0x340, 0x341, 0x342, 0x343, 0x344, 0x3A0, 0x3A2, 0xB00, 0xB02, 0xF11, 0xF12, 0xF13,
    0xF14, 1, 2, 3, 0xC00, 0xC01, 0xC02, 0xCC0, 0xCC1, 0x800, 0x802, 0x7C0, 0x7C1, 0x7C2, 0x7C3, 0x7C4, 0x7C5] ++
  (List.range 8).flatMap (fun n => [0x323 + n, 0xB03 + n, 0xC03 + n]) ++ (List.range 16).map (0x3B0 + ·)

/-- CSRs of a V-core (R45, R48). -/
def vCsrs : List Nat :=
  [1, 2, 3, 0xC00, 0xC01, 0xC02, 8, 9, 10, 15, 0xC20, 0xC21, 0xC22, 0xCC0, 0x800, 0x801] ++ (List.range 8).map (0xC03 + ·)

/-- Whether core a, in its present mode, may access a CSR (R45): it exists, its privilege suffices, mcounteren allows a
counter, and floating-point state is not off. -/
def State.csrOk (s : State) (a n : Nat) (write : Bool) : Bool :=
  let c := s.core a
  let user := !isScore a || c.umode
  (if isScore a then sCsrs else vCsrs).contains n && (!user || bits n 9 8 == 0) && (!write || bits n 11 10 != 3) &&
    (!(user && decide (0xC00 ≤ n) && decide (n ≤ 0xC0A)) || bit ((s.core (governor a)).csrv 0x306) (n - 0xC00)) &&
    (!(isScore a && decide (1 ≤ n) && decide (n ≤ 3)) || bits (c.csrv 0x300) 14 13 != 0)

/-- A counter that the model does not drive: its value is open. [DESIGN CHOICE, log entry 1] -/
def State.openCount (s : State) (a n : Nat) : Word := Config.counter a n s.free

/-- Whether hpm counter n of core a counts an event that the model does not count: cycles, waits, vector and
floating-point work (R467). -/
def State.openEvent (s : State) (a n : Nat) : Bool := (if isScore a then [1, 10, 13] else [1, 10, 12, 13]).contains ((s.core (governor a)).csrv (0x320 + n))

/-- Counter n (0 cycle, 2 instret, 3 to 10) of core a; an S-core's mcountinhibit stops its own cycle and instret, and the
event counters of its V-cores too. [DEDUCED, log entry 24] -/
def State.counter (s : State) (a n : Nat) : Word :=
  let inh := bit ((s.core (governor a)).csrv 0x320) n
  if n < 3 then (if inh && isScore a then BitVec.ofNat 64 ((s.core a).csrv (0xB00 + n)) else s.openCount a n)
  else if s.openEvent a n && !inh then s.openCount a n
  else BitVec.ofNat 64 (tget (fun _ => 0) (s.core a).hpm n)

/-- Store a counter. -/
def State.setCounter (s : State) (a n v : Nat) : State :=
  let c := s.core a
  s.setCore a (if n < 3 then c.setCsr (0xB00 + n) v else { c with hpm := tset (fun _ => 0) c.hpm n (v % 2 ^ 64) })

/-- Value of tlk_mcq of S-core a. -/
def State.mcqWord (s : State) (a : Nat) : Nat :=
  ((List.range 4).map (fun n =>
    let i := 16 * tileOf a + 4 * n + a % 12
    2 ^ (8 * n) * (if s.mPresent i then s.mDepth i else 63))).sum

/-- mstatus as read: FS dirty shows in SD, and UXL is 2. -/
def mstatusRead (v : Nat) : Nat := v + 2 * 2 ^ 32 + 2 ^ 63 * b2n (bits v 14 13 == 3)

/-- pmpaddr as read: the bits below the granularity of 128 B read zero, or ones below it for NAPOT (R40). -/
def pmpaddrRead (g : Core) (i : Nat) : Nat :=
  let v := g.csrv (0x3B0 + i)
  if bits (pmpCfg g i) 4 3 = 3 then v ||| 0xF else v / 32 * 32

/-- The value of a CSR that core a may read. -/
def State.csrValue (s : State) (a n : Nat) : Word :=
  let c := s.core a
  let w (x : Nat) : Word := BitVec.ofNat 64 x
  if n = 0x300 then w (mstatusRead (c.csrv n))
  else if n = 0x301 then w (2 * 2 ^ 62 + 2 ^ 0 + 2 ^ 2 + 2 ^ 3 + 2 ^ 5 + 2 ^ 8 + 2 ^ 12 + 2 ^ 20 + 2 ^ 23)
  else if n = 0x344 then w (s.mipOf a)
  else if n = 0xF11 then 0
  else if n = 0xF12 then w 0x8000000000000036
  else if n = 0xF13 then w (s.fuse.rev * 2 ^ 16)
  else if n = 0xF14 then w a
  else if n = 1 then w (c.csrv 3 % 32)
  else if n = 2 then w (bits (c.csrv 3) 7 5)
  else if n = 0xC01 then w s.tick
  else if 0xB00 ≤ n ∧ n ≤ 0xB0A then s.counter a (n - 0xB00)
  else if 0xC00 ≤ n ∧ n ≤ 0xC0A then s.counter a (n - 0xC00)
  else if 0x3B0 ≤ n ∧ n ≤ 0x3BF then w (pmpaddrRead c (n - 0x3B0))
  else if n = 9 then w (c.csrv 15 % 2)
  else if n = 10 then w (bits (c.csrv 15) 2 1)
  else if n = 0xC21 then w (c.csrv n ^^^ 2 ^ 63)
  else if n = 0xC22 then 128
  else if n = 0xCC0 then w (s.tlkIdent a)
  else if n = 0xCC1 then w (s.mcqWord a)
  else if n = 0x800 then w c.cls
  else if n = 0x801 then w (b2n c.stream)
  else if n = 0x802 then w c.syncpend.toNat
  else if n = 0x7C0 then w (b2n c.vsel)
  else if n = 0x7C1 then
    let v := s.core (s.vsel a)
    w (b2n v.run + 2 * b2n v.trapped + 4 * b2n (!s.corePresent (s.vsel a)))
  else if n = 0x7C2 then (s.core (s.vsel a)).vcause
  else if n = 0x7C3 then (s.core (s.vsel a)).vepc
  else if n = 0x7C4 then (s.core (s.vsel a)).vtval
  else if n = 0x7C5 then c.mtimecmp
  else w (c.csrv n)

/-- A PMP configuration byte written: a locked entry keeps its own, reserved bits stay zero, W without R is not kept, and NA4
cannot be chosen at a granularity of 128 B. -/
def pmpByte (old new : Nat) : Nat :=
  if bit old 7 then old
  else
    let v := new &&& 0x9F
    let v := if bit v 1 && !bit v 0 then v - 2 else v
    if bits v 4 3 = 2 then setBits v 4 3 (bits old 4 3) else v

/-- A write of pmpcfg0 or pmpcfg2. -/
def pmpcfgWrite (old new : Nat) : Nat :=
  ((List.range 8).map (fun j => 2 ^ (8 * j) * pmpByte (bits old (8 * j + 7) (8 * j)) (bits new (8 * j + 7) (8 * j)))).sum

/-- Whether pmpaddr i is locked, by its own entry or by a locked top-of-range entry above it. -/
def pmpLocked (g : Core) (i : Nat) : Bool :=
  bit (pmpCfg g i) 7 || (decide (i < 15) && bit (pmpCfg g (i + 1)) 7 && bits (pmpCfg g (i + 1)) 4 3 == 1)

/-- mstatus written: MIE, MPIE, MPP, FS and MPRV; MPP holds machine or user mode only. -/
def mstatusWrite (old new : Nat) : Nat :=
  let v := new &&& fields [(3, 3), (7, 7), (14, 13), (17, 17)]
  v + 2 ^ 11 * (if bits new 12 11 = 0 ∨ bits new 12 11 = 3 then bits new 12 11 else bits old 12 11)

/-- Mark the floating-point state of an S-core dirty. -/
def Core.fsDirty (c : Core) (a : Nat) : Core := if isScore a then c.setCsr 0x300 (setBits (c.csrv 0x300) 14 13 3) else c

/-- Inhibit bits change: a counter that stops keeps an open value, which is then fixed. -/
def State.inhibit (s : State) (a v : Nat) : State :=
  let new := v &&& fields [(0, 0), (10, 2)]
  let old := (s.core a).csrv 0x320
  let stops := [0, 2, 3, 4, 5, 6, 7, 8, 9, 10].filter (fun n => bit new n && !bit old n)
  let agents := [a, supervised a false, supervised a true]
  let t := stops.foldl (fun u n => agents.foldl (fun u g => u.setCounter g n (s.counter g n).toNat) u) s
  { t.setCore a ((t.core a).setCsr 0x320 new) with free := s.free + 1 }

/-- An event selection changes: what the counters of the old event hold is then fixed (R467). -/
def State.setEvent (s : State) (a n v : Nat) : State :=
  let agents := [a, supervised a false, supervised a true]
  let t := agents.foldl (fun u g => u.setCounter g n (s.counter g n).toNat) s
  { t.setCore a ((t.core a).setCsr (0x320 + n) (if v % 256 ≤ 15 then v % 256 else 0)) with free := s.free + 1 }

/-- The selected V-core's control word is written (Table 2.6). -/
def State.vctlWrite (s : State) (a v : Nat) : State :=
  let g := s.vsel a
  let t := if bit v 1 then s.setCore g { s.core g with trapped := false } else s
  if bit v 0 then t.vRun g else t.vStop g

/-- Write a CSR that core a may write. -/
def State.csrPut (s : State) (a n v : Nat) : State :=
  let c := s.core a
  let set (x : Nat) : State := s.setCore a (c.setCsr n x)
  if n = 0x300 then set (mstatusWrite (c.csrv n) v)
  else if n = 0x301 ∨ n = 0x344 then s
  else if n = 0x304 then set (v &&& fields [(7, 7), (18, 16)])
  else if n = 0x305 then set (v &&& (2 ^ 64 - 3))
  else if n = 0x306 then set (v % 2 ^ 11)
  else if n = 0x320 then s.inhibit a v
  else if n = 0x341 then set (v / 2 * 2)
  else if 0x323 ≤ n ∧ n ≤ 0x32A then s.setEvent a (n - 0x320) v
  else if 0xB00 ≤ n ∧ n ≤ 0xB0A then s.setCounter a (n - 0xB00) v
  else if n = 0x3A0 ∨ n = 0x3A2 then set (pmpcfgWrite (c.csrv n) v)
  else if 0x3B0 ≤ n ∧ n ≤ 0x3BF then (if pmpLocked c (n - 0x3B0) then s else set (v % 2 ^ 54))
  else if n = 1 then s.setCore a ((c.setCsr 3 (setBits (c.csrv 3) 4 0 v)).fsDirty a)
  else if n = 2 then s.setCore a ((c.setCsr 3 (setBits (c.csrv 3) 7 5 v)).fsDirty a)
  else if n = 3 then s.setCore a ((c.setCsr 3 (v % 256)).fsDirty a)
  else if n = 8 then set (v % 2 ^ 10)
  else if n = 9 then s.setCore a (c.setCsr 15 (setBits (c.csrv 15) 0 0 v))
  else if n = 10 then s.setCore a (c.setCsr 15 (setBits (c.csrv 15) 2 1 v))
  else if n = 15 then set (v % 8)
  else if n = 0x801 then s.setCore a { c with stream := bit v 0 }
  else if n = 0x802 then s.setCore a { c with syncpend := c.syncpend &&& ~~~(BitVec.ofNat 8 v) }
  else if n = 0x7C0 then s.setCore a { c with vsel := bit v 0 }
  else if n = 0x7C1 then s.vctlWrite a v
  else if n = 0x7C2 ∨ n = 0x7C4 then s
  else if n = 0x7C3 then
    (if (s.core (s.vsel a)).run then s
     else s.setCore (s.vsel a) { s.core (s.vsel a) with vepc := BitVec.ofNat 64 (v / 2 * 2) })
  else if n = 0x7C5 then s.setCore a { c with mtimecmp := BitVec.ofNat 64 v, mtip := decide (v ≤ s.tick) }
  else set v

/-- A CSR instruction of core a that writes. -/
def State.csrWrite (s : State) (a n v : Nat) : State :=
  s.onCore a fun s =>
    if !s.csrOk a n true then s.illegal a
    else if n = 0x800 then s.writeClass a v
    else (s.csrPut a n v).retire a

/-- A CSR instruction of core a that only reads: the value is what `out.rdata` shows. -/
def State.csrRead (s : State) (a n : Nat) : State :=
  s.onCore a fun s =>
    if !s.csrOk a n false then s.illegal a
    else ({ s with free := s.free + 1 }.answer (s.csrValue a n) .ok).retire a

/-! ### PCIe capabilities -/

/-- The mask bit of an MSI-X vector is written: unmasking sends a pending message (R271). -/
def State.setMask (s : State) (fn vec : Nat) (m : Bool) : State :=
  let k := 256 * fn + vec
  let open' := s.host.unmasked.filter (· != k)
  if m then { s with host.unmasked := open' }
  else
    let t := { s with host.unmasked := open' ++ [k] }
    if s.host.pba.contains k then { t with host.pba := s.host.pba.filter (· != k), out.msix := s.out.msix ++ [(fn, vec)] } else t

/-- NumVFs is written with VF Enable set: up to seven virtual functions, while none is enabled (R253). -/
def State.setVfs (s : State) (n : Nat) : State :=
  if s.boot.numVf = 0 ∧ n ≤ 7 then { s with boot.numVf := n } else s

/-- The BAR4 size of the Resizable BAR capability: a power of two from 1 to 512 GiB (R254). [DEDUCED, log entry 51] -/
def State.setBar4 (s : State) (g : Nat) : State :=
  if [1, 2, 4, 8, 16, 32, 64, 128, 256, 512].contains g then { s with boot.bar4Gib := g } else s

/-! ### The commands -/

/-- The unit that a register path names, when it exists. -/
def pathUnit : RegPath → String × Nat × Nat
  | .bar0 fn _ => ("function", fn, 8)
  | .diag _ _ => ("space", 0, 1)
  | .ownCache a _ => ("agent", a, 384)
  | .csr a _ => ("agent", a, 384)
  | .msixMask fn vec => ("vector", 256 * fn + vec, 2048)
  | .numVfs => ("function", 0, 8)
  | .bar4Size => ("function", 0, 8)

/-- A write by a register path. [DEDUCED, log entry 22] -/
def State.pathWrite (s : State) (v : Nat) : RegPath → State
  | .bar0 fn off => s.bar0Write fn off v
  | .diag (.core a) addr => s.onCore a fun s => s.coreDiagStore a addr v
  | .diag who addr =>
    let addr := s.loc addr
    if addr % 8 = 0 ∧ diagBase ≤ addr ∧ addr < diagBase + 0x100000000 then
      (match s.diagWrite who (addr - diagBase) v with
       | some t => t.answer 0 .ok
       | none => s.diagRefuse who addr)
    else s.diagRefuse who addr
  | .ownCache a w => s.onCore a fun s =>
    if w < 8 then ((s.issuedBy a none).ccWrite a w v).retire a else s.exc a 7 (BitVec.ofNat 64 (privBase + 0x100000 + 8 * w))
  | .csr a n => s.csrWrite a n v
  | .msixMask fn vec => s.setMask fn vec (bit v 0)
  | .numVfs => s.setVfs v
  | .bar4Size => s.setBar4 v

/-- A read by a register path: the value shows in `out.rdata`. [DEDUCED, log entry 22] -/
def State.pathRead (s : State) : RegPath → State
  | .bar0 fn off => (s.bar0Clear fn off).answer (BitVec.ofNat 64 (s.bar0Read fn off)) .ok
  | .diag (.core a) addr => s.onCore a fun s =>
    match s.coreDiagLoad a addr with
    | (t, some w) => (t.answer w .ok).retire a
    | (t, none) => t
  | .diag who addr =>
    let addr := s.loc addr
    if addr % 8 = 0 ∧ diagBase ≤ addr ∧ addr < diagBase + 0x100000000 then
      (match s.diagRead who (addr - diagBase) with
       | some (t, w) => t.answer w .ok
       | none => s.diagRefuse who addr)
    else s.diagRefuse who addr
  | .ownCache a w => s.onCore a fun s =>
    if w < 8 then
      let t := s.answer (BitVec.ofNat 64 (s.ccRead a w)) .ok
      ((if w = 5 then t.setCtl a { t.ctl a with ce := 0, ue := 0 } else t)).retire a
    else s.exc a 5 (BitVec.ofNat 64 (privBase + 0x100000 + 8 * w))
  | .csr a n => s.csrRead a n
  | .msixMask fn vec => s.answer (BitVec.ofNat 64 (b2n (!s.host.unmasked.contains (256 * fn + vec)))) .ok
  | .numVfs => s.answer (BitVec.ofNat 64 s.boot.numVf) .ok
  | .bar4Size => s.answer (BitVec.ofNat 64 s.boot.bar4Gib) .ok

/-- REGISTER_WRITE (R9, R10, R259). [DEDUCED, log entry 22] -/
def execRegisterWrite (path : RegPath) (v : Word) (s : State) : Host.Outcome State Fault Refusal :=
  within (pathUnit path).1 (pathUnit path).2.1 (pathUnit path).2.2 <| done s (s.pathWrite v.toNat path)

/-- READ_CLEAR (R9). [DEDUCED, log entry 22] -/
def execReadClear (path : RegPath) (s : State) : Host.Outcome State Fault Refusal :=
  within (pathUnit path).1 (pathUnit path).2.1 (pathUnit path).2.2 <| done s (s.pathRead path)

/-- MS_RESUME (R110). -/
def execMsResume (who : Master) (i : Nat) (s : State) : Host.Outcome State Fault Refusal :=
  within "M-core" i 512 <| done s (s.pathWrite 1 (.diag who (diagBase + 0x60000000 + 256 * i + 32)))

/-- MS_FLUSH (R110). -/
def execMsFlush (who : Master) (i : Nat) (s : State) : Host.Outcome State Fault Refusal :=
  within "M-core" i 512 <| done s (s.pathWrite 2 (.diag who (diagBase + 0x60000000 + 256 * i + 32)))

end Sys2Proof.Machine
end

