-- ==== Sys2Proof/Machine/CoreMem.lean ====
section
/-!
DEFINITION. Uncached accesses of a core (R41, R42, R50, R63, R64, R193, R220, R337): its core-private space, cache registers and
pinned entries, sync cells, aliases, the diagnostic and management space, other modules, and cacheable addresses that its cache
does not serve.
-/

namespace Sys2Proof.Machine

/-- The end of a load: an integer register, or a part of a vector register group, receives the bytes. -/
def State.loadRet (s : State) (a rd n : Nat) (signed : Bool) (vec : Option (Nat × Bool)) (b : Bytes) : State :=
  match vec with
  | some w => s.setCore a ({ s.core a with vr := putVec (s.core a).vr rd w.1 (b.take n) }.step (vecStep vec))
  | none => s.ret a rd (loadVal n signed b)

/-- The end of a store. -/
def State.storeRet (s : State) (a : Nat) (vec : Option (Nat × Bool)) : State := s.setCore a ((s.core a).step (vecStep vec))

/-- A store of bytes at an offset of a core's private space (R63, R66). -/
def State.privStore (s : State) (a o : Nat) (b : Bytes) (vec : Option (Nat × Bool)) (addr : Word) : State :=
  if o < 0x100000 then
    (match (s.count a 7).writeMem false a (tcmBase + 0x20000 * a + o) b with
     | (t, true) => t.storeRet a vec
     | (t, false) => t.exc a 19 addr)
  else if o < 0x200000 then (s.ccWrite a ((o - 0x100000) / 8) (ofLe b)).storeRet a vec
  else
    let e := (o - 0x200000) / 128
    if s.pinned a e then
      let c := s.cent a e
      let off := (o - 0x200000) % 128
      (s.setCent a e { c with
        data := putAt c.data off b
        flips := c.flips.filter (fun f => !(decide (off ≤ f / 13) && decide (f / 13 < off + b.length))) }).storeRet a vec
    else s.exc a 7 addr

/-- A load of n bytes at an offset of a core's private space (R63, R66, R220). -/
def State.privLoad (s : State) (a o n rd : Nat) (signed : Bool) (vec : Option (Nat × Bool)) (addr : Word) : State :=
  if o < 0x100000 then
    (match (s.count a 7).readMem a (tcmBase + 0x20000 * a + o) n with
     | (t, some b) => t.loadRet a rd n signed vec b
     | (t, none) => t.exc a 19 addr)
  else if o < 0x200000 then
    let w := (o - 0x100000) / 8
    let t := s.loadRet a rd n signed vec (toLe 8 (s.ccRead a w))
    if w = 5 then t.setCtl a { t.ctl a with ce := 0, ue := 0 } else t
  else
    let e := (o - 0x200000) / 128
    let c := s.cent a e
    let off := (o - 0x200000) % 128
    if !s.pinned a e then s.exc a 5 addr
    else if c.bad off n then (s.cacheErr a e 2).exc a 19 addr
    else (s.correct a e off n).loadRet a rd n signed vec ((c.data.drop off).take n)

/-- A remote load: from the far cache when it holds the line, else a request, for which the core waits (R337, R349). -/
def State.remoteLoad (s : State) (a addr n rd m x : Nat) (signed : Bool) : State :=
  let cls := (s.core a).cls
  let line := addr / 128
  match (if s.farOn cls then s.farLook a line else (s, none)) with
  | (s, some b) => s.ret a rd (loadVal n signed ((b.drop (addr % 128)).take n))
  | (s, none) =>
    let far := if s.farOn cls then some (line, s.farEpoch) else none
    let msg : AqMsg := { kind := .rd, cls := cls, dmod := m, addr := if far.isSome then x / 128 * 128 else x, len := if far.isSome then 128 else n }
    match s.remote (.load a addr n rd signed) true msg far with
    | some (t, tag) => t.setCore a { t.core a with wait := .remote tag rd }
    | none => s.exc a 5 (BitVec.ofNat 64 addr)

/-- A remote store: the core waits for its acknowledgement (R337). -/
def State.remoteStore (s : State) (a addr n m x : Nat) (v : Word) : State :=
  let b := toLe n v.toNat
  match s.remote (.store a) true { kind := .wr, cls := (s.core a).cls, dmod := m, addr := x, len := n, data := b } with
  | some (t, tag) => (t.farWrite addr b).setCore a { t.core a with wait := .remote tag 0 }
  | none => s.exc a 7 (BitVec.ofNat 64 addr)

/-- An access that its check lets pass, by the place it leads to. A vector access of the diagnostic space or of another module takes
the access fault. [DEDUCED, log entry 24] -/
def State.uncachedAt (s : State) (a addr n : Nat) (load : Bool) (rd : Nat) (signed : Bool) (v : Word)
    (vec : Option (Nat × Bool) := none) : State :=
  let w := BitVec.ofNat 64 addr
  let b := match vec with | some p => getVec (s.core a).vr rd p.1 n | none => toLe n v.toNat
  match s.place addr with
  | .priv o => if load then s.privLoad a o n rd signed vec w else s.privStore a o b vec w
  | .cell i =>
    let t := s.count a 8
    if load then
      (match t.readCell i (t.coreNode a) with
       | (u, some x) => u.loadRet a rd n signed vec (toLe 8 x.toNat)
       | (u, none) => u.exc a 19 w)
    else (t.cellSet i (BitVec.ofNat 64 (ofLe b))).storeRet a vec
  | .diag _ =>
    if vec.isSome then s.exc a (if load then 5 else 7) w
    else if load then
      (match (s.count a 8).coreDiagLoad a addr with
       | (t, some x) => t.ret a rd x
       | (t, none) => t)
    else (s.count a 8).coreDiagStore a addr v.toNat
  | .remote m x =>
    if vec.isSome then s.exc a (if load then 5 else 7) w
    else if load then (s.count a 8).remoteLoad a addr n rd m x signed else (s.count a 8).remoteStore a addr n m x v
  | .tcm _ | .hbm _ | .cistern _ =>
    let op : StoreOp := match vec with | some w => .vector rd w.1 w.2 | none => .write
    let q : Acc := {
      addr := addr, size := n, op := if load then none else some op, rd := rd, signed := signed
      val := if vec.isSome then vecStep vec else v, vec := if load then vec.map (·.1) else none }
    if !s.cacheable addr || (vec.isSome && s.streams a addr) then s.uncachedMem a q else s.access a q
  | .bad => s.exc a (if load then 5 else 7) w

/-- An A-extension access: on the Cistern and HBM it is performed as an exchange; anywhere else it takes the store/AMO
access fault (R41). [DEDUCED, log entry 24] -/
def State.uncachedAmo (s : State) (a addr n rd : Nat) (v : Word) : State :=
  let w := BitVec.ofNat 64 addr
  if s.cacheable addr then
    match s.coreStatus a .amo addr n with
    | .ok => if addr % n ≠ 0 then s.exc a 6 w else s.access a { addr := addr, size := n, op := some (.amo .swap rd), rd := 0, signed := false, val := v }
    | st => s.exc a (excCode .amo st) w
  else s.exc a 7 w

/-- UNCACHED_ACCESS (R193): a fetch is the core's own, at its pc (R468). [DEDUCED, log entry 24] -/
def execUncachedAccess (a addr size : Nat) (kind : AccKind) (rd : Nat) (form : LoadForm) (v : Word) (s : State) :
    Host.Outcome State Fault Refusal :=
  within "agent" a 384 <|
  done s <|
    s.onCore a fun s =>
      if !([1, 2, 4, 8].contains size || form.vec.isSome) then s
      else if form.vec.isSome && isScore a then s.illegal a
      else
        match kind with
        | .amo => s.uncachedAmo a addr size rd v
        | .fetch =>
          if addr ≠ (s.core a).pc.toNat then s
          else (match s.fetchHalf a addr 1 with
            | (t, some next) => (t.fetchHalf a next 2).1
            | (t, none) => t)
        | _ =>
          let load : Bool := kind == .load
          match (if s.cacheable addr then s.coreStatus a kind addr size else s.coreCheck a kind addr size) with
          | .ok => s.uncachedAt a addr size load rd form.signed v form.vec
          | .tempForbidden =>
            if !load && (!(s.ctl a).enable || (form.vec.isSome && s.streams a addr)) then (s.lostStore addr).storeRet a form.vec
            else s.exc a 19 (BitVec.ofNat 64 addr)
          | .align => s.exc a (alignCode kind) (BitVec.ofNat 64 addr)
          | st => s.exc a (excCode kind st) (BitVec.ofNat 64 addr)

/-! ### Reads of a command or descriptor by a core (R55, R56) -/

/-- n bytes that core a reads from the Cistern or HBM as a load would, through its cache when that is enabled; none in the second
place while the core waits for the line, or when the read has ended in an exception. -/
def State.lineBytes (s : State) (a addr n : Nat) : State × Except (Option Nat) Bytes :=
  let q : Acc := { addr := addr, size := n, op := none, rd := 0, signed := false, val := 0, fetch := 3 }
  let direct (t : State) : State × Except (Option Nat) Bytes :=
    match (t.count a 8).cohRead a addr n true with
    | (u, none, b) => (u, .ok b)
    | (u, some _, _) => (u, .error (some 19))
  if (s.ctl a).enable then
    let x := s.loc addr
    match s.findEnt a (x / 128) with
    | some e =>
      if s.holds a addr && !(s.cent a e).bad (x % 128) n then
        let d := ((s.cent a e).data.drop (x % 128)).take n
        (((s.correct a e (x % 128) n)).count a 2, .ok d)
      else (s.access a q, .error none)
    | none =>
      let t := s.access a q
      if (t.ctl a).acc.isNone ∧ (t.core a).pc = (s.core a).pc ∧ (t.core a).run then direct s else (t, .error none)
  else if s.uncOpen a (s.loc addr / 128) || s.busyLines (s.loc addr) n false != [] then (s.uncachedMem a q, .error none)
  else direct s

/-- A read of a core's own memory, of the Cistern, HBM or an alias, as a load makes it: the bytes, or an exception code, or none while
the core waits. -/
def State.coreBytes (s : State) (a addr n : Nat) : State × Except (Option Nat) Bytes :=
  match s.coreCheck a .load addr (min n 128) with
  | .ok =>
    (match s.place addr with
     | .priv o =>
       if o < 0x100000 then
         (match (s.count a 7).readMem a (tcmBase + 0x20000 * a + o) n with
          | (t, some b) => (t, .ok b)
          | (t, none) => (t, .error (some 19)))
       else if 0x200000 ≤ o then
         let e := (o - 0x200000) / 128
         let off := (o - 0x200000) % 128
         if !s.pinned a e then (s, .error (some 5))
         else if (s.cent a e).bad off n then (s.cacheErr a e 2, .error (some 19))
         else (s.correct a e off n, .ok (((s.cent a e).data.drop off).take n))
       else (s, .error (some 5))
     | .hbm _ | .cistern _ => s.lineBytes a addr n
     | .tcm _ =>
       (match (s.count a 8).cohRead a addr n with
        | (t, none, b) => (t, .ok b)
        | (t, some _, _) => (t, .error (some 19)))
     | _ => (s, .error (some 5)))
  | st => (s, .error (some (excCode .load st)))

/-- A command address of TLK.MCQ lies in the core's tightly coupled memory or in the Cistern (R55). -/
def State.mcqPlace (s : State) (ad : Nat) : Bool :=
  match s.place ad with
  | .priv o => decide (o < 0x100000)
  | .cistern _ => true
  | _ => false

/-- TLK.MCQ (R55): the command is read and pushed to a paired M-core. -/
def execTlkMcq (a rd rs1 rs2 : Nat) (s : State) : Host.Outcome State Fault Refusal :=
  within "agent" a 384 <|
  done s <|
    s.onCore a fun s =>
      let ad := ((s.core a).x rs1).toNat
      let sel := ((s.core a).x rs2).toNat
      let i := 16 * tileOf a + 4 * (sel % 4) + a % 12
      if !isScore a || decide (4 ≤ sel) then s.illegal a
      else if ad % 64 ≠ 0 then s.exc a 4 (BitVec.ofNat 64 ad)
      else
        if !s.mcqPlace ad then s.exc a 5 (BitVec.ofNat 64 ad)
        else match s.coreBytes a ad 64 with
           | (t, .error none) => t
           | (t, .error (some c)) => t.exc a c (BitVec.ofNat 64 ad)
           | (t, .ok d) =>
             if !t.mPresent i || (t.mc i).stale then t.ret a rd 2
             else if 32 ≤ t.mDepth i then t.ret a rd 1
             else ((t.mPush i (t.core a).cls d).count a 15).ret a rd 0

/-- TLK.PUMP (R56): the selector is tested before the count; a full queue of 64 stalls the instruction (R167). -/
def execTlkPump (a rd rs1 rs2 : Nat) (s : State) : Host.Outcome State Fault Refusal :=
  within "agent" a 384 <|
  done s <|
    s.onCore a fun s =>
      let ad := ((s.core a).x rs1).toNat
      if ad % 64 ≠ 0 then s.exc a 4 (BitVec.ofNat 64 ad)
      else
        match s.coreBytes a ad 64 with
        | (t, .error none) => t
        | (t, .error (some c)) => t.exc a c (BitVec.ofNat 64 ad)
        | (t, .ok d) =>
          match t.selectPump a ((t.core a).x rs2).toNat with
          | none => t.ret a rd (BitVec.ofInt 64 (-2))
          | some p =>
            if 16 ≤ (t.core a).outst.length then t.ret a rd (BitVec.allOnes 64)
            else if 64 ≤ (t.pump p).length then t
            else ((t.accept p a d).count a 11).ret a rd (BitVec.ofNat 64 (t.core a).tickets)

end Sys2Proof.Machine
end

