-- ==== Sys2Proof/Machine/HostCmds.lean ====
section
/-!
DEFINITION. Dispatched host commands (R279): NOP, TIMESTAMP and FENCE (R289), the host pumps' COPY, FILL, SEAL and VERIFY (R280),
SYNC_OP (R283), CONFIG_STAGE and CONFIG_COMMIT (R285), QUERY (R286), the checks of TEST (R290) and ACK_EVENT (R291).
-/

namespace Sys2Proof.Machine

/-- Complete with a status alone. -/
def State.fails (s : State) (c : HostCmd) (st : Status) : State := s.complete c st 0 0

/-- Bytes 16 to 63 are reserved for an opcode without operands (R279). -/
def noOperands (d : Bytes) : Status := if zeroAt d 16 48 then .ok else .badField

/-! ### NOP, TIMESTAMP, FENCE -/

/-- NOP (R289). -/
def execNop (id : Nat) (s : State) : Host.Outcome State Fault Refusal :=
  done s <| withCmd s id 0 fun c => s.fails c (noOperands c.desc)

/-- TIMESTAMP (R289): RESULT is the timebase in nanoseconds. -/
def execTimestamp (id : Nat) (s : State) : Host.Outcome State Fault Refusal :=
  done s <| withCmd s id 0xE fun c =>
    if noOperands c.desc = .ok then s.complete c .ok 0 s.now else s.fails c .badField

/-- Whether every command dispatched before command c, on the rings of its scope, has completed and posted its record.
[DEDUCED, log entry 21] -/
def State.fenceDone (s : State) (c : HostCmd) : Bool :=
  let all := bit (le c.desc 16 1) 0
  let inScope (r : Nat) : Bool := if all then s.ringOwner r == c.fn else r == c.ring
  s.host.cmds.all (fun x => !inScope x.ring || decide (c.id ≤ x.id)) &&
    s.host.rings.all (fun q => q.2.backlog.all (fun x => match x.cmd with | some k => !inScope k.1 || decide (c.id ≤ k.2) | none => true))

/-- FENCE (R289): it waits until its scope has finished. -/
def execFence (id : Nat) (s : State) : Host.Outcome State Fault Refusal :=
  done s <| withCmd s id 0xF fun c =>
    if bits (le c.desc 16 1) 7 1 ≠ 0 ∨ !zeroAt c.desc 17 47 then s.fails c .badField
    else if s.fenceDone c then s.fails c .ok
    else s

/-! ### Host pumps (R280) -/

/-- The pump descriptor of a host command: its flags are taken from FLAGS, its operands from bytes 16 to 63 (R176, R280). -/
def hostDesc (pop : Nat) (d : Bytes) : Bytes :=
  let f := dFlags d
  toLe 1 pop ++ toLe 1 (4 * b2n (bit f 3) + 8 * b2n (bit f 4) + 32 * b2n (bit f 0)) ++ zeros 14 ++ d.drop 16

/-- The environment of a host pump's command. -/
def hostEnv (pump : Nat) (c : HostCmd) : PumpEnv := ⟨.hostPump c.fn (bit (dFlags c.desc) 2), 485 + pump, false, true, dClass c.desc % 16⟩

/-- A quiesce sets the function's commands aside (R167, R403). -/
def State.hostAside (s : State) (fn : Nat) : Bool :=
  (List.range 8).any (fun p => s.partValid p && s.partOwner p == fn && s.partQuiesced p)

/-- A host pump may run a command: the pump starts its commands in the order accepted, at most 8 at once, past those that a quiesce
sets aside (R167). -/
def State.hostStarts (s : State) (pump : Nat) (c : HostCmd) : Bool :=
  (((s.pumpHolds pump).filter (fun x => !s.hostAside x.fn)).take 8).any (fun x => x.id == c.id)

/-- Run a host pump's command: the checks of Table 5.11 but the first, then its effect; `ok` is the RESULT of success.
[DEDUCED, log entry 21] -/
def State.hostRun (s : State) (pump id op pop : Nat) (f : PumpEnv → Bytes → State → State × PEnd) (ok : Bytes → Nat) : State :=
  withCmd s id op fun c =>
    let e := hostEnv pump c
    let d := hostDesc pop c.desc
    if s.sqPump c.ring ≠ pump ∨ !s.hostStarts pump c then s
    else
      match s.pCheck e d [] with
      | some (st, off) => s.complete c st off 0
      | none =>
        let q := s.pSettle (s.pLines e d [])
        if !q.2 then q.1
        else
          match f e d q.1 with
          | (t, none) => t.complete c .ok 0 (ok d)
          | (t, some (st, x)) => t.complete c st 0 x

/-- COPY of a host pump: a host source is answered by `reply`, which also says of a host destination that it cannot be written
(R278). -/
def hostCopy (reply : HostReply) (e : PumpEnv) (d : Bytes) (s : State) : State × PEnd :=
  let src := le d 16 8
  if isHost e (le d 24 8) ∧ reply = .unsupported then (s, some (.aborted, 0))
  else if isHost e src then
    match reply with
    | .data b => copyEffect e d (some b) s
    | .unsupported => ((copyRows d).foldl (fun u i => u.pLose e i.2 (le d 32 4)) s, some (.aborted, 0))
    | .poisoned => ((copyRows d).foldl (fun u i => u.pLose e i.2 (le d 32 4)) s, some (.uncorrectable, src))
  else copyEffect e d none s

/-- Whether a reply brings all the bytes that a COPY from host memory reads. -/
def replyFits (reply : HostReply) (d : Bytes) : Bool :=
  match reply with
  | .data b => bits (le d 16 8) 63 62 != 1 || b.length == le d 32 4 * (le d 36 2 * le d 38 2)
  | _ => true

/-- HOST_COPY (R280). -/
def execHostCopy (pump id : Nat) (reply : HostReply) (s : State) : Host.Outcome State Fault Refusal :=
  within "host pump" pump 8 <|
  done s <|
    match s.cmd id with
    | some c =>
      if replyFits reply (hostDesc 1 c.desc) then
        s.hostRun pump id 1 1 (hostCopy reply) (fun d => le d 32 4 * (le d 36 2 * le d 38 2))
      else s
    | none => s

/-- FILL of a host pump; `writeOk` says whether a host destination can be written (R278). -/
def hostFill (writeOk : Bool) (e : PumpEnv) (d : Bytes) (s : State) : State × PEnd :=
  if isHost e (le d 16 8) && !writeOk then (s, some (.aborted, 0)) else fillEffect e d s

/-- HOST_FILL (R280); a host destination is written over the link. -/
def execHostFill (pump : Nat) (put : HostPut) (s : State) : Host.Outcome State Fault Refusal :=
  within "host pump" pump 8 <| done s (s.hostRun pump put.no 2 4 (hostFill put.taken) (fun d => le d 24 8))

/-- HOST_SEAL (R280). -/
def execHostSeal (pump id : Nat) (s : State) : Host.Outcome State Fault Refusal :=
  within "host pump" pump 8 <| done s (s.hostRun pump id 3 6 sealEffect (fun d => le d 24 4))

/-- HOST_VERIFY (R280). -/
def execHostVerify (pump id : Nat) (s : State) : Host.Outcome State Fault Refusal :=
  within "host pump" pump 8 <| done s (s.hostRun pump id 4 7 verifyEffect (fun d => le d 24 4))

/-! ### SYNC_OP (R283) -/

/-- OP of a SYNC_OP. -/
def soOp (d : Bytes) : Nat := bits (le d 16 1) 2 0
/-- The CELL operand of a SYNC_OP. -/
def soCell (d : Bytes) : Nat := le d 24 8
/-- The VALUE operand. -/
def soVal (d : Bytes) : Word := BitVec.ofNat 64 (le d 32 8)
/-- The VALUE2 operand. -/
def soVal2 (d : Bytes) : Word := BitVec.ofNat 64 (le d 40 8)

/-- The cell of this module that a SYNC_OP names, when it is one. -/
def State.soHere (s : State) (d : Bytes) : Option Nat :=
  let n := soCell d
  if bit n 63 && bits n 59 48 != s.aq.modid then none else some (n % 2 ^ 17)

/-- The checks of R283, then those of a partition under reset (R304). -/
def syncCheck (s : State) (fn : Nat) (d : Bytes) : Status :=
  let n := soCell d
  firstFail [
    (decide (soOp d ≤ 5) && bits (le d 16 1) 7 3 == 0 && zeroAt d 17 7 && zeroAt d 48 16 && bits n 47 17 == 0 && bits n 62 60 == 0
      && (bit n 63 || bits n 59 48 == 0) && !(soOp d == 5 && bit n 63) && (soOp d == 2 || soVal2 d == 0), .badField),
    (decide (n % 2 ^ 17 < nCells), .range),
    ((match s.soHere d with | some i => s.fnCell fn i | none => true), .permission),
    (soOp d != 5 || decide ((s.host.arms.filter (fun a => a.1 == fn)).length < 64), .oversubscribed),
    ((match s.soHere d with | some i => !s.placeResetting (cellBase + 8 * i) 8 | none => true), .aborted)]

/-- A SYNC_OP whose operation is `op`: a failing check ends it whatever its operation; a remote cell's operation is sent to
its module (R303); `f` performs it on a cell of this module. [DEDUCED, log entry 21] -/
def State.syncOp (s : State) (id op : Nat) (f : HostCmd → Nat → State) : State :=
  withCmd s id 7 fun c =>
    let d := c.desc
    let st := syncCheck s c.fn d
    if st ≠ .ok then s.fails c st
    else if soOp d ≠ op then s
    else
      match s.soHere d with
      | some i => f c i
      | none =>
        let n := soCell d
        match s.remote (.host id) (decide (op < 3)) { kind := .sync, cls := dClass d % 16, dmod := bits n 59 48, len := 32, addr := cellBase + 8 * (n % 2 ^ 17), data := syncData op (n % 2 ^ 17) (soVal d) (soVal2 d) } with
        | some (t, _) => t.cmdWaits id
        | none => s.fails c .absent

/-- The end of an operation that returns the cell's value. -/
def endSync (c : HostCmd) (r : State × Option Word) : State :=
  match r with
  | (t, some v) => t.complete c .ok 0 v.toNat
  | (t, none) => t.fails c .uncorrectable

/-- A SYNC_OP wait on a cell of this module (R283, R298). -/
def State.syncWait (s : State) (c : HostCmd) (i kind : Nat) : State :=
  match s.register ⟨i, kind, (soVal c.desc).toNat, .hostCmd c.id⟩ hostNode with
  | (t, .now v) => t.complete c .ok 0 v.toNat
  | (t, .failed) => t.fails c .uncorrectable
  | (t, .waits) => t.cmdWaits c.id

/-- SYNC_OP_SET (R283). -/
def execSyncOpSet (id : Nat) (s : State) : Host.Outcome State Fault Refusal :=
  done s (s.syncOp id 0 fun c i => (s.cellSet i (soVal c.desc)).fails c .ok)
/-- SYNC_OP_ADD (R283). -/
def execSyncOpAdd (id : Nat) (s : State) : Host.Outcome State Fault Refusal :=
  done s (s.syncOp id 1 fun c i => endSync c (s.cellAdd i (soVal c.desc) hostNode))
/-- SYNC_OP_CAS (R283). -/
def execSyncOpCas (id : Nat) (s : State) : Host.Outcome State Fault Refusal :=
  done s (s.syncOp id 2 fun c i => endSync c (s.cellCas i (soVal c.desc) (soVal2 c.desc) hostNode))
/-- SYNC_OP_WAIT_GE (R283). -/
def execSyncOpWaitGe (id : Nat) (s : State) : Host.Outcome State Fault Refusal :=
  done s (s.syncOp id 3 fun c i => s.syncWait c i 0)
/-- SYNC_OP_WAIT_EQ (R283). -/
def execSyncOpWaitEq (id : Nat) (s : State) : Host.Outcome State Fault Refusal :=
  done s (s.syncOp id 4 fun c i => s.syncWait c i 1)
/-- SYNC_OP_ARM (R283): it completes at once, and SYNC_FIRED follows when the cell reaches VALUE. -/
def execSyncOpArm (id : Nat) (s : State) : Host.Outcome State Fault Refusal :=
  done s (s.syncOp id 5 fun c i =>
    let d := c.desc
    let arm (t : State) : State := { t with host.arms := t.host.arms ++ [(c.fn, dTag d, i, (soVal d).toNat)] }
    match s.register ⟨i, 4, (soVal d).toNat, .hostArm c.fn (dTag d + 2 ^ 32 * i)⟩ hostNode with
    | (t, .now _) => ((arm t).syncFired c.fn (dTag d + 2 ^ 32 * i)).fails c .ok
    | (t, .failed) => t.fails c .uncorrectable
    | (t, .waits) => (arm t).fails c .ok)

/-! ### CONFIG_STAGE and CONFIG_COMMIT (R285) -/

/-- The target function of a configuration command: a virtual function names itself only, and the target is enabled.
[DEDUCED, log entry 52] -/
def targetCheck (s : State) (c : HostCmd) : List (Bool × Status) :=
  let fn := le c.desc 19 1
  [(c.fn == 0 || fn == c.fn, .permission), (decide (fn ≤ s.boot.numVf), .absent)]

/-- Block of the register at an offset of function fn's BAR0. -/
def bar0Blk (fn o : Nat) : Nat := if o = 0x28 then fn else 8

/-- A dispatched CONFIG_STAGE. [DEDUCED, log entry 52] -/
def stageCmd (s : State) (c : HostCmd) : State :=
  let d := c.desc
  let o := le d 16 2
  let n := le d 18 1
  let fn := le d 19 1
  let offs := (List.range n).map (fun i => o + 8 * i)
  let st := firstFail ((zeroAt d 20 4, Status.badField) :: targetCheck s c ++ [
    (o % 8 == 0, .align),
    (decide (1 ≤ n) && decide (n ≤ 5) && decide (o + 8 * n ≤ 0x8000), .range),
    (offs.all (fun k => (regSpec (bar0Blk fn k) k).isSome), .badField)])
  if st ≠ .ok then s.fails c st
  else
    (((List.range n).zip offs).foldl (fun t e =>
      if t.bar0Shows fn e.2 then t.setStaged (bar0Blk fn e.2) e.2 (le d (24 + 8 * e.1) 8) else t) s).fails c .ok

/-- CONFIG_STAGE (R285). -/
def execConfigStage (id : Nat) (s : State) : Host.Outcome State Fault Refusal := done s <| withCmd s id 9 (stageCmd s)

/-- CONFIG_COMMIT (R261, R285): it waits while a commit of the function runs, and completes when its own commit does. -/
def execConfigCommit (id : Nat) (s : State) : Host.Outcome State Fault Refusal :=
  done s <| withCmd s id 0xA fun c =>
    let fn := le c.desc 19 1
    let g := le c.desc 16 2
    let st := firstFail ((zeroAt c.desc 18 1 && zeroAt c.desc 20 44, Status.badField) :: targetCheck s c)
    if st ≠ .ok then s.fails c st
    else if (s.unit fn).busy then s
    else (s.commitStart fn (cfgBlk fn g) g (some id)).cmdWaits id

/-! ### QUERY (R286) -/

/-- The bytes of an item of Table 8.14, or why it cannot be given; none for a reserved item or index. [DEDUCED, log entry 52] -/
def State.queryItem (s : State) (item index : Nat) : Except Status Bytes :=
  match item with
  | 0 => if index = 0 then .ok ((List.range dtWords).flatMap (fun k => toLe 8 (s.dtWord k).toNat)) else .error .range
  | 1 => if index < 10 then .ok (s.report index) else .error .range
  | 2 =>
    if index < 45 ∨ index = 73 ∨ index = 74 then (match s.identity index with | some b => .ok b | none => .error .absent)
    else .error .range
  | 3 => if index = 0 then .ok ((s.fuse.serial ++ zeros 16).take 16) else .error .range
  | 4 => if index = 0 then .ok ((s.power.snapshot ++ zeros 4096).take 4096) else .error .range
  | _ => .error .badField

/-- Size of an item. -/
def querySize (item : Nat) : Nat :=
  match item with | 0 => 18496 | 1 => 256 | 2 => 32 | 3 => 16 | _ => 4096

/-- A dispatched QUERY. [DEDUCED, log entry 52] -/
def queryCmd (s : State) (c : HostCmd) (writeOk : Bool) : State :=
  let d := c.desc
  let item := le d 16 1
  let dst := le d 24 8
  let len := le d 32 4
  let e : PumpEnv := ⟨.hostPump c.fn false, 485 + s.sqPump c.ring, false, true, dClass c.desc % 16⟩
  if !zeroAt d 17 3 || !zeroAt d 36 28 || decide (5 ≤ item) then s.fails c .badField
  else
    match s.queryItem item (le d 20 4) with
    | .error .range => s.fails c .range
    | .error st => s.fails c (if len < querySize item then .range else st)
    | .ok b =>
      if len < b.length then s.fails c .range
      else if isHost e dst ∧ 2 ^ 62 < hostBus dst + b.length then s.fails c .range
      else if isHost e dst && !writeOk then s.fails c .aborted
      else
        match s.pWrite e [] dst b with
        | (t, none) => t.complete c .ok 0 (b.length + 2 ^ 32 * (if item = 0 then s.dist.gen else 0))
        | (t, some (st, x)) => t.complete c st 0 x

/-- QUERY (R286); `put` says whether a host destination can be written (R278). -/
def execQuery (put : HostPut) (s : State) : Host.Outcome State Fault Refusal :=
  done s <| withCmd s put.no 0xB (queryCmd s · put.taken)

/-! ### TEST (R290) -/

/-- A failing Drizzle or TEST segment is counted and logged (R412): kind and place of Table 13.9. -/
def State.drizzleFail (s : State) (code : Nat) (u : TestUnit) : State :=
  let r := match u with
    | .core t row pos => 2 ^ 8 * (t + 2 ^ 8 * row + 2 ^ 12 * pos)
    | .spare n => 1 + 2 ^ 8 * n
    | .march sl line => 2 + 2 ^ 8 * sl + 2 ^ 19 * line
    | .region n => 3 + 2 ^ 8 * n
  s.logRec code 0xFF r

/-- The unit of a TEST as its checks 2 to 5 judge it. [DEDUCED, log entry 21] -/
def testCheck (s : State) (d : Bytes) : Status :=
  let kind := le d 16 1
  let u := le d 20 4
  let mode := le d 24 1
  let h := bits u 2 0
  let k := 32 * h + bits u 7 3
  let base := le d 32 4
  let len := le d 36 4
  firstFail [
    (decide (kind ≤ 2) && zeroAt d 17 3 && zeroAt d 25 3 && zeroAt d 40 24 &&
      (if kind = 0 then decide (bits mode 2 0 < 4) && bits mode 5 4 != 3 && !bit mode 3 && bits mode 7 6 == 0 && bits u 31 9 == 0
       else mode == 0 && zeroAt d 28 12), .badField),
    (if kind = 0 then decide (1 ≤ len) && decide (len ≤ 65536) && decide (base + len ≤ 3145728)
      else if kind = 1 then decide (u < 36) else decide (u < 32), .range),
    (if kind = 0 then (s.stack h).rate != 3 else if kind = 2 then (s.tile u).site.isSome else true, .absent),
    (if kind = 0 then !(s.chan k).held && !(s.chan k).busy
      else if kind = 1 then !s.tasks.any (fun t => s.regionPart u == some t.part) else (s.tile u).task.isNone, .locked),
    (kind != 0 || (!(s.stack h).halt && !(s.stack h).retraining), .tempForbidden)]

/-- A channel test: the channel is held, the generator runs over the range, and the channel returns to service.
[DEDUCED, log entry 21] -/
def State.channelTest (s : State) (d : Bytes) (r : TestFind) : State :=
  let u := le d 20 4
  let k := 32 * bits u 2 0 + bits u 7 3
  let mode := le d 24 1
  let x := s.chan k
  let t := (s.setChan k { x with held := true, seed := le d 28 4, base := le d 32 4, len := le d 36 4 }).tgStart k
    (bits mode 2 0 + 2 ^ 4 * bits mode 5 4 + 2 ^ 6 * bits u 8 8) r.mismatches
  let u := t.tgFinish k
  u.setChan k { u.chan k with held := false }

/-! ### ACK_EVENT (R291) -/

/-- A dispatched ACK_EVENT: THERMAL_SHUTDOWN is acknowledged in flash, and COMPUTE_OFF is cleared (R435).
[DEDUCED, log entry 52] -/
def ackCmd (s : State) (c : HostCmd) : State :=
  let st := firstFail [
    (zeroAt c.desc 18 46, .badField),
    (le c.desc 16 2 == 0x01A && s.boot.computeOff, .absent),
    (c.fn == 0, .permission),
    (s.flashOk, .tempForbidden)]
  if st ≠ .ok then s.fails c st
  else
    { s with
      boot.computeOff := false
      boot.shutPending := false
      flash.shutAck := s.flash.shutRec.map (fun (b : Bytes) =>
        let r := putAt (b.take 60) 32 [0xAC]
        r ++ toLe 4 (crc32c r)) }.fails c .ok

/-- ACK_EVENT (R291). -/
def execAckEvent (id : Nat) (s : State) : Host.Outcome State Fault Refusal := done s <| withCmd s id 0x11 (ackCmd s)

end Sys2Proof.Machine
end

