-- ==== Sys2Proof/Machine/AqServe.lean ====
section
/-!
DEFINITION. Remote access (R303, R331, R332, R335, R337 to R343, R368, R370): what the module does with each kind of message
that arrives on an Aquifer port (0 to 11) or from a partner site (12 and 13), and how its own remote requests end.
-/

namespace Sys2Proof.Machine

/-! ### Arrival -/

/-- Count a message that is discarded, or refused from a partner (R331, R335, R368, R370). -/
def State.dropMsg (s : State) (p : Nat) : State :=
  if p < 12 then s.setPort p { s.port p with drop := satAdd (s.port p).drop 1 0xFFFF }
  else s.psDrop (p - 12)

/-- A message for another module is forwarded one level up, or discarded at level 4 or without a route (R335).
[DEDUCED, log entry 37] -/
def State.forwardMsg (s : State) (p : Nat) (m : AqMsg) : State :=
  match s.route m.dmod with
  | some q => if m.level < 3 then s.transmit q { m with level := m.level + 1 } else s.dropMsg p
  | none => s.dropMsg p

/-- Answer a request that arrived on port p. -/
def State.reply (s : State) (p : Nat) (m r : AqMsg) : State :=
  let x : AqMsg := { r with cls := m.cls, dmod := m.smod, tag := m.tag, level := 0 }
  if p < 12 then s.aqSend x else { s with out.sent := s.out.sent ++ [(p, x)] }

/-- Refuse a request: a partner's refusal is counted (R370). [DEDUCED, log entry 37] -/
def State.refuse (s : State) (p : Nat) (m r : AqMsg) (st : Status) : State :=
  (if p < 12 then s else s.dropMsg p).reply p m { r with status := st }

/-- Whether some UCIe module of a partner site is up in the STREAM role, in native mode (R367, R368). [DEDUCED, log entry 37] -/
def State.streamUp (s : State) (site : Nat) : Bool :=
  let x := s.psite site
  x.proto == 0 && x.mods.any (fun u => u.role == 2 && u.width != 3)

/-- A request that arrives: it is forwarded, refused while this module's ID is not valid (R332), discarded when a partner may not
send it (R368), refused from a FENCED site (R373), or served by `f`. `r` is the reply that a refusal takes.
[DEDUCED, log entry 37] -/
def State.onRequest (s : State) (p : Nat) (m r : AqMsg) (f : State) : State :=
  if p < 12 then
    (if !s.aq.valid then s.refuse p m r .absent
     else if m.dmod ≠ s.aq.modid then s.forwardMsg p m
     else f)
  else if !s.streamUp (p - 12) then s.dropMsg p
  else if (s.psite (p - 12)).st = 3 then s.refuse p m r .staleEpoch
  else if (s.psite (p - 12)).st ≠ 2 then s.dropMsg p
  else f

/-- A message of another kind: a partner's is discarded (R368); one for another module is forwarded. -/
def State.onMessage (s : State) (p : Nat) (m : AqMsg) (f : State) : State :=
  if 12 ≤ p then s.dropMsg p else if m.dmod ≠ s.aq.modid then (if s.aq.valid then s.forwardMsg p m else s) else f

/-- Who makes a request that arrived on port p (R338, R367). -/
def portMaster (p : Nat) (m : AqMsg) : Master := if p < 12 then .aquifer p m.smod else .partner (p - 12) m.cls

/-! ### Requests that arrive -/

/-- The check of a remote access to n bytes of this module (R338, R370): a target in no partition is refused.
[DEDUCED, log entry 37] -/
def State.remoteCheck (s : State) (p : Nat) (m : AqMsg) (k : AccKind) (n : Nat) : Status :=
  match placeLocal m.addr with
  | .hbm _ | .cistern _ =>
    (match s.memCheck (portMaster p m) k m.addr (max n 1) with
     | .range => if (List.range 8).any (fun q => s.partValid q && s.inPart q m.addr (max n 1)) then .range else .permission
     | st => st)
  | _ => .permission

/-- A read that is admitted (R338). -/
def State.serveRead (s : State) (p : Nat) (m : AqMsg) : State :=
  match s.remoteCheck p m .load m.len with
  | .ok =>
    if m.len = 0 then s.reply p m { kind := .rdr }
    else
      (match s.uRead (agentId s (portMaster p m)) m.addr m.len false m.cls with
       | (t, none, b) => t.reply p m { kind := .rdr, len := m.len, data := b }
       | (t, some _, _) => t.reply p m { kind := .rdr, status := .uncorrectable })
  | st => s.refuse p m { kind := .rdr } st

/-- RD (R338). -/
def State.onRd (s : State) (p : Nat) (m : AqMsg) : State := s.onRequest p m { kind := .rdr } (s.serveRead p m)

/-- A write that is admitted (R338). -/
def State.serveWrite (s : State) (p : Nat) (m : AqMsg) : State :=
  match s.remoteCheck p m .store m.data.length with
  | .ok =>
    if m.data = [] then s.reply p m { kind := .wrack }
    else
      (match s.uWrite (agentId s (portMaster p m)) m.addr m.data none m.cls with
       | (t, none) => t.reply p m { kind := .wrack }
       | (t, some _) => t.reply p m { kind := .wrack, status := .uncorrectable })
  | st => s.refuse p m { kind := .wrack } st

/-- WR (R338). -/
def State.onWr (s : State) (p : Nat) (m : AqMsg) : State := s.onRequest p m { kind := .wrack } (s.serveWrite p m)

/-- Whether port p may operate on cell i (R303, R338, R370). [DEDUCED, log entry 37] -/
def State.cellOpen (s : State) (p : Nat) (m : AqMsg) (i : Nat) : Bool :=
  decide (i < nCells) && (match s.regionPart (i / 2048) with
    | some q =>
      if p < 12 then
        let w := s.reg 9 (0x40 + 8 * q)
        bit w 2 && decide (bits w 27 16 ≤ m.smod) && decide (m.smod ≤ bits w 43 32)
      else
        let w := s.reg 10 (0x118 + 0x100 * (p - 12))
        q == bits w 2 0 && bit w 10 && bit w (16 + m.cls)
    | none => false)

/-- A SYNCR. -/
def syncrMsg (st : Status) (v : Word) : AqMsg := { kind := .syncr, status := st, len := 8, data := toLe 8 v.toNat }

/-- A remote wait or ARM on cell i: it is answered at once, or it waits (R298, R303). -/
def State.remoteWait (s : State) (p : Nat) (m : AqMsg) (i kind : Nat) (b : Word) : State :=
  let w : Waiter := if p < 12 then .remote m.smod m.tag m.cls else .partner (p - 12) m.tag m.cls
  match s.register ⟨i, kind, b.toNat, w⟩ (i / 2048) with
  | (t, .now v) => t.reply p m (syncrMsg .ok v)
  | (t, .failed) => t.reply p m (syncrMsg .uncorrectable 0)
  | (t, .waits) => t

/-- The result of an operation that returns the cell's value. -/
def State.syncEnd (r : State × Option Word) (p : Nat) (m : AqMsg) : State :=
  match r with
  | (t, some v) => t.reply p m (syncrMsg .ok v)
  | (t, none) => t.reply p m (syncrMsg .uncorrectable 0)

/-- A sync-cell operation on this module (R303): operation, cell, value and second value stand in the data. -/
def State.serveSync (s : State) (p : Nat) (m : AqMsg) : State :=
  let i := le m.data 8 8
  let x := BitVec.ofNat 64 (le m.data 16 8)
  let y := BitVec.ofNat 64 (le m.data 24 8)
  if !s.cellOpen p m i then s.refuse p m (syncrMsg .ok 0) .permission
  else if s.placeResetting (cellBase + 8 * i) 8 then s.reply p m (syncrMsg .aborted 0)
  else
    match le m.data 0 8 with
    | 0 => (s.cellSet i x).reply p m (syncrMsg .ok 0)
    | 1 => State.syncEnd (s.cellAdd i x (i / 2048)) p m
    | 2 => State.syncEnd (s.cellCas i x y (i / 2048)) p m
    | 3 => s.remoteWait p m i 0 x
    | 4 => s.remoteWait p m i 1 x
    | 5 => s.remoteWait p m i 4 x
    | _ => s.refuse p m (syncrMsg .ok 0) .permission

/-- SYNC (R303). -/
def State.onSync (s : State) (p : Nat) (m : AqMsg) : State := s.onRequest p m (syncrMsg .ok 0) (s.serveSync p m)

/-- A remote contribution enters the network of this module (R184, R338). [DEDUCED, log entry 37] -/
def State.serveCatc (s : State) (p : Nat) (m : AqMsg) (c : Contrib) : State :=
  match placeLocal m.addr with
  | .cistern _ =>
    (match s.regionPart (cisPlace m.addr).n with
     | some q =>
       let w := s.reg 9 (0x40 + 8 * q)
       if bit w 3 && decide (bits w 27 16 ≤ m.smod) && decide (m.smod ≤ bits w 43 32) then
         (if s.placeResetting m.addr 1 then s.reply p m { kind := .wrack, status := .aborted }
          else if !s.catRange m.addr 1 then s.reply p m { kind := .wrack, status := .range }
          else { s with mesh.flights := s.mesh.flights ++ [{ c with addr := m.addr }] }.reply p m { kind := .wrack })
       else s.refuse p m { kind := .wrack } .permission
     | none => s.refuse p m { kind := .wrack } .permission)
  | _ => s.reply p m { kind := .wrack, status := .range }

/-- CATC (R338). -/
def State.onCatc (s : State) (p : Nat) (m : AqMsg) (c : Contrib) : State :=
  if 12 ≤ p then s.dropMsg p else s.onRequest p m { kind := .wrack } (s.serveCatc p m c)

/-- The contribution that 32 data bytes carry (R185). -/
def contribOf (b : Bytes) : Contrib :=
  let f := le b 0 1
  let op := bits f 2 0
  ⟨0, op, bit f 3, bit f 4, cscale (le b 2 2), if op = 1 then (le b 8 4 : Nat) else toInt 160 (le b 8 20), le b 4 4, bit f 5, bit f 6, none⟩

/-! ### Replies to this module's requests -/

/-- The core still waits for the request of a tag. -/
def State.awaits (s : State) (a tag : Nat) : Bool :=
  match (s.core a).wait with | .remote t _ => t == tag | _ => false

/-- A core's request ends: with `f`, or with the exception of its status (R303, R338, R341). -/
def State.coreEnd (s : State) (a tag : Nat) (k : AccKind) (st : Status) (f : State → State) : State :=
  if !s.awaits a tag then s
  else if st = .ok then f (s.setCore a { s.core a with wait := .none })
  else s.exc a (excCode k st) 0

/-- A failed remote read leaves its command's destination undefined (R175). -/
def State.loseCopy (s : State) (p id : Nat) : State :=
  match (s.pump p).find? (fun c => c.id == id) with
  | some c => (match c.fin with
    | some (.ok, _, _) => s
    | some _ =>
      if s.isRemote (le c.desc 16 8) then (copyRows c.desc).foldl (fun t i => t.pLose (pumpEnv p c) i.2 (le c.desc 32 4)) s else s
    | none => s)
  | none => s

/-- The bytes of a read for an Aquifer pump's command reach local memory. -/
def State.pumpData (s : State) (p id : Nat) (r : RemReq) (dst : Nat) (st : Status) (b : Bytes) : State :=
  match (s.pump p).find? (fun c => c.id == id) with
  | none => s
  | some c =>
    if st ≠ .ok then (s.pumpReply p id r st 0).loseCopy p id
    else match s.pWrite (pumpEnv p c) c.desc dst b with
      | (t, none) => t.pumpReply p id r .ok b.length
      | (t, some (e, _)) => (t.pumpReply p id r e 0).loseCopy p id

/-- The part of a fetched line that a load asked for; a request without far cache brings just its bytes. -/
def loadPart (far : Bool) (addr n : Nat) (b : Bytes) : Bytes := if far then (b.drop (addr % 128)).take n else b

/-- A remote request ends with a status, a value and the bytes read (R338, R341, R349). [DEDUCED, log entry 37] -/
def State.endReq (s : State) (r : RemReq) (st : Status) (v : Word) (b : Bytes) : State :=
  let t := s.dropReq r.tag
  let t := match r.far with
    | some f => if st = .ok then t.farFill r.cls f.1 f.2 b else t
    | none => t
  match r.user with
  | .load a addr n rd signed => t.coreEnd a r.tag .load st (fun u => u.ret a rd (loadVal n signed (loadPart r.far.isSome addr n b)))
  | .store a => t.coreEnd a r.tag .store st (·.retire a)
  | .cell a rd => t.coreEnd a r.tag .amo st (fun u => u.ret a rd v)
  | .wait a rd => t.coreEnd a r.tag .amo st (fun u => u.ret a rd v)
  | .arm a n =>
    if (tget (fun _ => none) (t.core a).slots n).isNone then t
    else if st = .ok then t.fireSlot a n
    else t.setSlot a n none
  | .host id => (match t.cmd id with
    | some c => t.complete c st 0 (if st = .ok then v.toNat else 0)
    | none => t)
  | .hostArm fn tag => if st = .ok then t.syncFired fn tag else t
  | .pumpRead p id dst off n => t.pumpData p id r dst st ((b.drop off).take n)
  | .pumpWrite p id n => t.pumpReply p id r st n

/-- The outstanding request that a reply of a module answers; a late reply answers none (R341). -/
def State.replyTo (s : State) (m : AqMsg) (kinds : List MKind) : Option RemReq :=
  match s.req m.tag with
  | some r => if r.dmod = m.smod ∧ r.kind ∈ kinds then some r else none
  | none => none

/-- RDR (R341). -/
def State.onRdr (s : State) (p : Nat) (m : AqMsg) : State :=
  s.onMessage p m (match s.replyTo m [.rd] with
    | some r => s.endReq r m.status 0 m.data
    | none => s)
/-- WRACK (R339, R341). -/
def State.onWrack (s : State) (p : Nat) (m : AqMsg) : State :=
  s.onMessage p m (match s.replyTo m [.wr, .catc] with
    | some r => s.endReq r m.status 0 []
    | none => s)
/-- SYNCR (R303, R341). -/
def State.onSyncr (s : State) (p : Nat) (m : AqMsg) : State :=
  s.onMessage p m (match s.replyTo m [.sync] with
    | some r => s.endReq r m.status (BitVec.ofNat 64 (le m.data 0 8)) []
    | none => s)

/-- SLOW (R343): expiry[m] moves to the receipt time plus the delay, and the notice is counted. -/
def State.onSlow (s : State) (p : Nat) (m : AqMsg) : State :=
  s.onMessage p m
    ({ s with aq.expiry := tset (fun _ => 0) s.aq.expiry m.smod (s.now + 1000 * bits (le m.data 0 8) 15 0) }.setPort p
      { s.port p with slow := satAdd (s.port p).slow 1 0xFFFF })

/-! ### The commands -/

/-- RD. -/
def execRd (p : Nat) (m : AqMsg) (s : State) : Host.Outcome State Fault Refusal :=
  within "port" p 14 <| done s (s.onRd p m)
/-- WR. -/
def execWr (p : Nat) (m : AqMsg) (s : State) : Host.Outcome State Fault Refusal :=
  within "port" p 14 <| done s (s.onWr p m)
/-- SYNC. -/
def execSync (p : Nat) (m : AqMsg) (s : State) : Host.Outcome State Fault Refusal :=
  within "port" p 14 <| done s (s.onSync p m)
/-- RDR. -/
def execRdr (p : Nat) (m : AqMsg) (s : State) : Host.Outcome State Fault Refusal :=
  within "port" p 14 <| done s (s.onRdr p m)
/-- WRACK. -/
def execWrack (p : Nat) (m : AqMsg) (s : State) : Host.Outcome State Fault Refusal :=
  within "port" p 14 <| done s (s.onWrack p m)
/-- SYNCR. -/
def execSyncr (p : Nat) (m : AqMsg) (s : State) : Host.Outcome State Fault Refusal :=
  within "port" p 14 <| done s (s.onSyncr p m)
/-- CATC. -/
def execCatc (p : Nat) (m : AqMsg) (c : Contrib) (s : State) : Host.Outcome State Fault Refusal :=
  within "port" p 14 <| done s (s.onCatc p m c)
/-- SLOW. -/
def execSlow (p : Nat) (m : AqMsg) (s : State) : Host.Outcome State Fault Refusal :=
  within "port" p 14 <| done s (s.onSlow p m)

/-- Deadline of a remote request in ns: the later of issue + REMOTE and the module's latest notice (R341, R343). -/
def State.reqDeadline (s : State) (r : RemReq) : Nat := max (r.t0 + 1000 * bits (s.reg 9 0x18) 15 0) (s.expiry r.dmod)

/-- REMOTE_TIMEOUT (R341): a request without a reply at its deadline; waits and ARMs have none. [DEDUCED, log entry 37] -/
def execRemoteTimeout (tag : Nat) (s : State) : Host.Outcome State Fault Refusal :=
  done s <|
    match s.req tag with
    | some r => if r.timed ∧ s.reqDeadline r ≤ s.now then s.endReq r .timeout 0 [] else s
    | none => s

end Sys2Proof.Machine
end

