-- ==== Sys2Proof/Machine/Collectives.lean ====
section
/-!
DEFINITION. Collectives (R284, R344 to R347, R351): their checks, the levels of the hypercube of base 8, the messages that a
member sends and takes, and how a member ends.
-/

namespace Sys2Proof.Machine

/-! ### Ranks and element ranges (R345) -/

/-- D: the least integer for which 8^D is at least NMEM. -/
def levelsOf (n : Nat) : Nat := ((List.range 5).find? (fun d => decide (n ≤ 8 ^ d))).getD 4
/-- The peer set of rank r at level L, with r itself, in rank order. [DEDUCED, log entry 38] -/
def peerSet (n r L : Nat) : List Nat :=
  (List.range n).filter (fun q => q - q / 8 ^ L % 8 * 8 ^ L == r - r / 8 ^ L % 8 * 8 ^ L)
/-- The part of elements lo to hi - 1 that member q of a peer set keeps. -/
def partOf (ps : List Nat) (q : Nat) (rg : Nat × Nat) : Nat × Nat :=
  let i := (ps.findIdx? (· == q)).getD 0
  let m := rg.2 - rg.1
  (rg.1 + i * m / ps.length, rg.1 + (i + 1) * m / ps.length)
/-- The elements that rank r of n keeps after L levels of a collective of `cnt` elements. -/
def rangeAt (n cnt : Nat) : Nat → Nat → Nat × Nat
  | 0, _ => (0, cnt)
  | L + 1, r => partOf (peerSet n r L) r (rangeAt n cnt L r)
/-- What rank q sends up to rank r at level L. -/
def upPart (n cnt L q r : Nat) : Nat × Nat := partOf (peerSet n q L) r (rangeAt n cnt L q)
/-- The common part of two ranges. -/
def meet (a b : Nat × Nat) : Nat × Nat := (max a.1 b.1, max (max a.1 b.1) (min a.2 b.2))
/-- Elements in a range. -/
def rsize (a : Nat × Nat) : Nat := a.2 - a.1
/-- Elements that REDUCE_SCATTER gives rank r. -/
def sliceOf (n cnt r : Nat) : Nat × Nat := (r * cnt / n, (r + 1) * cnt / n)
/-- The level at which a rank other than 0 takes a broadcast: that of its lowest digit that is not zero. -/
def bcastLevel (r : Nat) : Nat := ((List.range 4).find? (fun L => r / 8 ^ L % 8 != 0)).getD 0
/-- The rank it takes it from. [DEDUCED, log entry 38] -/
def bcastParent (r : Nat) : Nat := r - r / 8 ^ bcastLevel r % 8 * 8 ^ bcastLevel r

/-! ### Operands (Table 8.12) -/

/-- CTYPE: 0 BARRIER, 1 ALL_REDUCE, 2 BROADCAST, 3 REDUCE_SCATTER. -/
def ctype (d : Bytes) : Nat := bits (le d 16 1) 2 0
/-- COP. -/
def cCop (d : Bytes) : Nat := le d 17 1
/-- GROUP. -/
def cGroup (d : Bytes) : Nat := le d 20 2
/-- SFMT. -/
def cSfmt (d : Bytes) : Nat := bits (le d 22 1) 3 0
/-- OFMT. -/
def cOfmt (d : Bytes) : Nat := le d 23 1
/-- SRC. -/
def cSrc (d : Bytes) : Nat := le d 24 8
/-- DST. -/
def cDst (d : Bytes) : Nat := le d 32 8
/-- COUNT. -/
def cCount (d : Bytes) : Nat := le d 40 4
/-- DONECELL word. -/
def cDone (d : Bytes) : Nat := le d 44 4

/-- Whether a collective reduces. -/
def reduces (d : Bytes) : Bool := ctype d == 1 || ctype d == 3
/-- Bytes of an element of DST. -/
def dstBytes (d : Bytes) : Nat := if ctype d = 2 then sfmtBytes (cSfmt d) else outBytes (bits (cOfmt d) 3 0)
/-- Whether the elements of a reduction are 64-bit integers. -/
def cI64 (d : Bytes) : Bool := decide (2 ≤ bits (cCop d) 2 0) && cSfmt d == 4
/-- The reduction descriptor that a collective's operands amount to (Table 5.15). -/
def redDesc (d : Bytes) : Bytes :=
  zeros 16 ++ toLe 1 (bits (cCop d) 3 0 + 16 * b2n (cI64 d)) ++ toLe 1 (cOfmt d) ++ (d.drop 18).take 2 ++ zeros 44
/-- The CSEND operands that a collective's source conversion amounts to (Table 5.16). -/
def sendDesc (d : Bytes) : Bytes := zeros 36 ++ toLe 1 (cSfmt d) ++ toLe 1 (cCop d) ++ (d.drop 18).take 2 ++ zeros 24

/-! ### Group state -/

/-- The member list, this member's rank, the owning partition and the wait limit. -/
def State.grRank (s : State) (g : Nat) : Nat := bits (s.groupReg g 0) 26 16
/-- GR_PART. -/
def State.grPart (s : State) (g : Nat) : Nat := bits (s.groupReg g 0) 42 40
/-- GR_TIMEOUT in microseconds. -/
def State.grTimeout (s : State) (g : Nat) : Nat := bits (s.groupReg g 0) 63 48
/-- GR_SCRATCH. -/
def State.grScratch (s : State) (g : Nat) : Nat := bits (s.groupReg g 2) 47 0
/-- Bytes of the scratch range. -/
def State.grSize (s : State) (g : Nat) : Nat := 65536 * bits (s.groupReg g 2) 63 48
/-- Region of the scratch range, whose catchment unit works for the group. -/
def State.grRegion (s : State) (g : Nat) : Nat := (s.grScratch g - cisternBase) / blockBytes
/-- The running collective's descriptor. -/
def State.grDesc (s : State) (r : GroupRun) : Bytes := match s.cmd r.cmd with | some c => c.desc | none => []
/-- Change the running collective. -/
def State.setRun (s : State) (g : Nat) (f : GroupRun → GroupRun) : State := s.setGroup g { s.group g with run := (s.group g).run.map f }

/-! ### Checks (R284, R345) -/

/-- Whether each of a range's bytes lies in the Cistern or HBM. -/
def State.cisHbm (s : State) (a n : Nat) : Bool :=
  s.memRange false a n && (s.kindOf a == .cistern || s.kindOf a == .hbm)

/-- The checks of a COLLECTIVE, in order. [DEDUCED, log entry 38] -/
def collCheck (s : State) (fn : Nat) (d : Bytes) : Status :=
  let t := ctype d
  let g := cGroup d
  let cop := cCop d
  let op := bits cop 2 0
  let cs := le d 18 2
  let n := cCount d
  let done := cDone d
  let nm := (s.group g).members.length
  let sb := n * sfmtBytes (cSfmt d)
  let db := (if t = 3 then n / nm else n) * dstBytes d
  firstFail [
    (bits (le d 16 1) 7 2 == 0 && bits cop 7 4 == 0 && decide (op ≤ 4) && bits (le d 22 1) 7 4 == 0 && decide (cSfmt d ≤ 6)
      && bits cs 15 9 == 0 && (op == 0 || cs == 0) && (if t = 2 then cop == 0 && cs == 0 && cOfmt d == 0
        else csendOk (cSfmt d) op (bit cop 3) && rdOk (redDesc d) && bits (cOfmt d) 7 5 == 0)
      && bits done 30 17 == 0 && (bit done 31 || done == 0) && zeroAt d 48 16, .badField),
    (decide (g < 1024) && (if t = 0 then n == 0 else decide (1 ≤ n) && decide (n ≤ 2 ^ 24)) && cscaleOk cs && decide (bits done 16 0 < nCells)
      && (t == 0 || (s.cisHbm (cSrc d) sb && (decide (t = 3) || s.cisHbm (cDst d) (n * dstBytes d)))), .range),
    (t == 0 || (cSrc d % sfmtBytes (cSfmt d) == 0 && cDst d % dstBytes d == 0), .align),
    ((t == 0 || fn == 0 || (s.inFn fn (cSrc d) sb && (decide (t = 3) || s.inFn fn (cDst d) (n * dstBytes d))))
      && (!bit done 31 || s.fnCell fn (bits done 16 0)), .permission),
    (s.armed g, .absent),
    (fn == 0 || s.partOwner (s.grPart g) == fn, .permission),
    (decide (32 * n ≤ s.grSize g) && (t != 3 || n % nm == 0) && (t != 3 || s.cisHbm (cDst d) db), .range),
    (t == 0 || (s.inPart (s.grPart g) (cSrc d) sb && s.inPart (s.grPart g) (cDst d) db), .permission),
    (s.aq.valid, .absent)]

/-! ### Ending -/

/-- Send a message of the running sequence to a rank. -/
def State.collSend (s : State) (g seq q : Nat) (m : AqMsg) : State :=
  match (s.group g).members[q]? with
  | some x => s.aqSend { m with dmod := x, group := g, seq := seq }
  | none => s

/-- Ranks other than this member's. -/
def State.others (s : State) (g : Nat) : List Nat := (List.range (s.group g).members.length).filter (· != s.grRank g)

/-- The member's collective ends: its command completes and the scratch range is zeroed for the next sequence; a failure leaves
DST undefined, and tells every member unless the end was another's ABORT (R346, R347). [DEDUCED, log entry 38] -/
def State.collEnd (s : State) (g : Nat) (st : Status) (detail result : Nat) (tell : Bool) : State :=
  match (s.group g).run with
  | none => s
  | some r =>
    match s.cmd r.cmd with
    | none => s.setGroup g { s.group g with run := none }
    | some c =>
      let d := c.desc
      let n := (s.group g).members.length
      let t := if tell then (s.others g).foldl (fun u q =>
          u.collSend g r.seq q { kind := .abort, cls := dClass d % 16, len := 8, data := toLe 4 (stCode st) ++ toLe 4 (s.grRank g) }) s else s
      let t := if st = .ok ∨ ctype d = 0 then t
        else t.freeRange (cDst d) ((if ctype d = 3 then cCount d / n else cCount d) * dstBytes d)
      let t := if st = .ok ∧ bit (cDone d) 31 then t.postAdd hostNode (bits (cDone d) 16 0) 1 else t
      let t := (t.dropLines (s.grScratch g) (s.grSize g)).zeroRange (s.grScratch g) (s.grScratch g + s.grSize g)
      (t.setGroup g { t.group g with run := none, last := stCode st }).complete c st detail result

/-- The member's own access fails (R347, R351). -/
def State.collFail (s : State) (g : Nat) (st : Status) : State := s.collEnd g st 0 0 true

/-! ### Accumulators and data -/

/-- The group's slot is ACTIVE; one that RESTRICTED mode or a reset took from it performs nothing (R188). -/
def State.slotLive (s : State) (g : Nat) : Bool :=
  let x := (s.cat (s.grRegion g)).slot (s.group g).slot
  x.state == 1 && x.group == some g
/-- Status of a reduction whose accumulators fail: the slot is gone, or an entry is uncorrectable (R188, R347). -/
def State.accStatus (s : State) (g : Nat) : Status := if s.slotLive g then .uncorrectable else .aborted

/-- Read accumulator entry e. -/
def State.accGet (s : State) (g e : Nat) (d : Bytes) : State × Option AccEnt :=
  if !s.slotLive g then (s, none)
  else match s.readMem (448 + s.grRegion g) (s.grScratch g + 32 * e) 32 with
  | (t, some b) => (t, some (AccEnt.ofBytes (rdOp (redDesc d)) (cI64 d) b))
  | (t, none) => (t, none)

/-- Add a contribution to accumulator entry e (R186); none when the entry is uncorrectable. -/
def State.accAdd (s : State) (g e : Nat) (d : Bytes) (c : Contrib) : State × Bool :=
  match s.accGet g e d with
  | (t, some x) =>
    ((t.writeMem false (448 + s.grRegion g) (s.grScratch g + 32 * e) ((x.add c).toBytes (rdOp (redDesc d)))).1, true)
  | (t, none) => (t, false)

/-- The contribution that an entry amounts to. -/
def AccEnt.contrib (d : Bytes) (x : AccEnt) : Contrib :=
  let op := bits (cCop d) 2 0
  ⟨0, op, bit (cCop d) 3, cI64 d, if op = 0 then cscale (le d 18 2) else 0, x.sum, x.count, x.flag, x.nan, none⟩

/-- The elements of a range. -/
def elems (rg : Nat × Nat) : List Nat := (List.range (rg.2 - rg.1)).map (rg.1 + ·)

/-- The contributions of this member's entries of a range. -/
def State.accRange (s : State) (g : Nat) (d : Bytes) (rg : Nat × Nat) : State × Option Bytes :=
  (elems rg).foldl (fun (q : State × Option Bytes) e =>
    match q.2 with
    | none => q
    | some b => (match q.1.accGet g e d with
      | (t, some x) => (t, some (b ++ contribBytes32 (x.contrib d)))
      | (t, none) => (t, none))) (s, some [])

/-- Send a run of bytes of `unit` each, for the elements from `e`, in messages of at most 4,096 bytes. -/
def State.sendElems (s : State) (g seq q cls tag unit e : Nat) : Nat → Bytes → State
  | 0, _ => s
  | k + 1, b =>
    if b = [] then s
    else
      let n := 4096 / unit * unit
      let part := b.take n
      (s.collSend g seq q { kind := .coll, cls := cls, tag := tag, len := part.length, elem := e, data := part }).sendElems g seq q cls tag
        unit (e + part.length / unit) k (b.drop n)

/-- Write bytes of DST for the elements from `e`; the member's access may fail. -/
def State.dstWrite (s : State) (g : Nat) (d : Bytes) (e : Nat) (b : Bytes) : State × Status :=
  let n := (s.group g).members.length
  let base := if ctype d = 3 then (sliceOf n (cCount d) (s.grRank g)).1 else 0
  let a := cDst d + (e - base) * dstBytes d
  if b = [] then (s, .ok)
  else
    let st := s.memCheck (.catchment (s.grRegion g)) .store a b.length
    if st ≠ .ok then (s, st)
    else match s.uWrite (448 + s.grRegion g) a b none (dClass d % 16) with
      | (t, none) => (t, .ok)
      | (t, some _) => (t, .uncorrectable)

/-- Read memory as the group's catchment unit does. -/
def State.collRead (s : State) (g a n : Nat) : State × Status × Bytes :=
  let st := s.memCheck (.catchment (s.grRegion g)) .load a n
  if st ≠ .ok then (s, st, [])
  else match s.uRead (448 + s.grRegion g) a n with
    | (t, none, b) => (t, .ok, b)
    | (t, some _, _) => (t, .uncorrectable, [])

/-! ### Steps -/

/-- What a step of a collective is. -/
inductive CStep where
  /-- Reduce-scatter at a level. -/
  | up (L : Nat)
  /-- The owners convert their elements. -/
  | convert
  /-- Gather at a level. -/
  | down (L : Nat)
  /-- The owners' elements go to the ranks that receive them. -/
  | scatter
  /-- Take a broadcast from the rank above. -/
  | take
  /-- Pass a broadcast on. -/
  | pass
  /-- Barrier at a level. -/
  | bar (L : Nat)
  deriving DecidableEq, Repr

/-- The steps of a collective of type t among n members (R345). [DEDUCED, log entry 38] -/
def stepsOf (t n : Nat) : List CStep :=
  let l := List.range (levelsOf n)
  match t with
  | 0 => l.map .bar
  | 1 => l.map .up ++ [.convert] ++ l.reverse.map .down
  | 2 => [.take, .pass] ++ l.map .bar
  | _ => l.map .up ++ [.convert, .scatter]

/-- What a member awaits in a step: phase, rank and elements. Phase 4 is a rank's flags: in the last step of a REDUCE_SCATTER every
member sends them to every other (R346). [DEDUCED, log entry 38] -/
def stepNeeds (n r cnt : Nat) : CStep → List (Nat × Nat × Nat)
  | .up L => ((peerSet n r L).filter (· != r)).map (fun q => (0, q, rsize (upPart n cnt L q r)))
  | .down L => ((peerSet n r L).filter (· != r)).map (fun q => (1, q, rsize (rangeAt n cnt (L + 1) q)))
  | .scatter => ((List.range n).filter (· != r)).flatMap (fun q =>
      [(1, q, rsize (meet (rangeAt n cnt (levelsOf n) q) (sliceOf n cnt r))), (4, q, 1)])
  | .take => if r = 0 then [] else [(1, bcastParent r, cnt)]
  | .bar L => ((peerSet n r L).filter (· != r)).map (fun q => (3, q, L + 1))
  | .convert => []
  | .pass => []

/-- Elements received in a phase from a rank. -/
def gotCount (got : List (Nat × Nat × Nat)) (ph q : Nat) : Nat := ((got.filter (fun e => e.1 == ph && e.2.1 == q)).map (·.2.2)).sum
/-- Ranks of a step not heard from yet: a peer is heard from when its digest and its elements have come. -/
def unheard (r : GroupRun) (needs : List (Nat × Nat × Nat)) : List Nat :=
  (needs.filter (fun e => decide (gotCount r.got e.1 e.2.1 < e.2.2) || gotCount r.got 2 e.2.1 == 0)).map (·.2.1)

/-- Convert the elements this member owns, write those that are its own in DST, and give their bytes (R345). -/
def State.convertOwn (s : State) (g : Nat) (d : Bytes) (rg : Nat × Nat) : State × Option (Bytes × Nat) :=
  (elems rg).foldl (fun (q : State × Option (Bytes × Nat)) e =>
    match q.2 with
    | none => q
    | some (b, f) => (match q.1.accGet g e d with
      | (t, some x) =>
        let o := catOutput (redDesc d) x
        (t, some (b ++ toLe (dstBytes d) o.1, f ||| flagBits o.2 ||| b2n x.flag))
      | (t, none) => (t, none))) (s, some ([], 0))

/-- What a member does on entering a step; a failing access ends the collective. [DEDUCED, log entry 38] -/
def State.enterStep (s : State) (g : Nat) (r : GroupRun) (st : CStep) : State :=
  let d := s.grDesc r
  let n := (s.group g).members.length
  let me := s.grRank g
  let cnt := cCount d
  let cls := dClass d % 16
  match st with
  | .up L =>
    ((peerSet n me L).filter (· != me)).foldl (fun t q =>
      let rg := upPart n cnt L me q
      match t.accRange g d rg with
      | (u, some b) => u.sendElems g r.seq q cls 0 32 rg.1 (b.length / 4096 + 1) b
      | (u, none) => u.collFail g (u.accStatus g)) s
  | .convert =>
    let own := rangeAt n cnt (levelsOf n) me
    let mine := if ctype d = 3 then meet own (sliceOf n cnt me) else own
    (match s.convertOwn g d own with
     | (t, some (b, f)) =>
       let t := t.setRun g (fun x => { x with flags := x.flags ||| f })
       (match t.dstWrite g d mine.1 ((b.drop ((mine.1 - own.1) * dstBytes d)).take (rsize mine * dstBytes d)) with
        | (u, .ok) => u
        | (u, e) => u.collFail g e)
     | (t, none) => t.collFail g (t.accStatus g))
  | .down L =>
    let rg := rangeAt n cnt (L + 1) me
    (match s.collRead g (cDst d + rg.1 * dstBytes d) (max 1 (rsize rg * dstBytes d)) with
     | (t, .ok, b) =>
       let f := match (t.group g).run with | some x => x.flags | none => 0
       ((peerSet n me L).filter (· != me)).foldl (fun u q =>
         if rsize rg = 0 then u
         else u.sendElems g r.seq q cls (1 + 2 * f) (dstBytes d) rg.1 (b.length / 64 + 1) b) t
     | (t, e, _) => t.collFail g e)
  | .scatter =>
    let own := rangeAt n cnt (levelsOf n) me
    (match s.convertOwn g d own with
     | (t, some (b, f)) =>
       ((List.range n).filter (· != me)).foldl (fun u q =>
         let rg := meet own (sliceOf n cnt q)
         if rsize rg = 0 then u.collSend g r.seq q { kind := .coll, cls := cls, tag := 1 + 2 * f, elem := rg.1 }
         else u.sendElems g r.seq q cls (1 + 2 * f) (dstBytes d) rg.1 (b.length / 64 + 1)
           ((b.drop ((rg.1 - own.1) * dstBytes d)).take (rsize rg * dstBytes d))) t
     | (t, none) => t.collFail g (t.accStatus g))
  | .take =>
    if me ≠ 0 then s
    else
      (match s.collRead g (cSrc d) (cnt * dstBytes d) with
       | (t, .ok, b) => (match t.dstWrite g d 0 b with
         | (u, .ok) => u
         | (u, e) => u.collFail g e)
       | (t, e, _) => t.collFail g e)
  | .pass =>
    (match s.collRead g (cDst d) (cnt * dstBytes d) with
     | (t, .ok, b) =>
       let top := if me = 0 then levelsOf n else bcastLevel me
       (List.range top).foldl (fun u L => ((peerSet n me L).filter (· != me)).foldl (fun v q =>
         v.sendElems g r.seq q cls 1 (dstBytes d) 0 (b.length / 64 + 1) b) u) t
     | (t, e, _) => t.collFail g e)
  | .bar L =>
    ((peerSet n me L).filter (· != me)).foldl (fun t q => t.collSend g r.seq q { kind := .barr, cls := cls, len := 8, data := toLe 8 L }) s

/-- Go on while the present step has all it awaits. [DEDUCED, log entry 38] -/
def State.advance (s : State) (g : Nat) : Nat → State
  | 0 => s
  | k + 1 =>
    match (s.group g).run with
    | none => s
    | some r =>
      let d := s.grDesc r
      let n := (s.group g).members.length
      let steps := stepsOf (ctype d) n
      match steps[r.step]? with
      | none => s.setRun g (fun x => { x with ready := true })
      | some st =>
        if unheard r (stepNeeds n (s.grRank g) (cCount d) st) ≠ [] then s
        else
          let t := s.setRun g (fun x => { x with step := x.step + 1 })
          match steps[r.step + 1]?, (t.group g).run with
          | some nx, some r1 => (t.enterStep g r1 nx).advance g k
          | _, _ => t.advance g k

/-- Steps of a collective, and one more. -/
def collFuel : Nat := 16

/-! ### Messages -/

/-- Digest of CTYPE, COP, CSCALE, SFMT, OFMT and COUNT. [DEDUCED, log entry 38] -/
def operandDigest (d : Bytes) : Nat := crc32c ((d.drop 16).take 4 ++ (d.drop 22).take 2 ++ (d.drop 40).take 4)

/-- Up elements: contributions join the scratch accumulators. -/
def State.takeUp (s : State) (g : Nat) (d : Bytes) (e : Nat) : Nat → Bytes → State × Bool
  | 0, _ => (s, true)
  | k + 1, b =>
    match s.accAdd g e d (contribOf b) with
    | (t, true) => t.takeUp g d (e + 1) k (b.drop 32)
    | (t, false) => (t, false)

/-- Count what a rank has sent. -/
def State.heard (s : State) (g ph q n : Nat) : State := s.setRun g (fun x => { x with got := x.got ++ [(ph, q, n)] })

/-- A message of the running sequence, from rank q. [DEDUCED, log entry 38] -/
def State.collMsg (s : State) (g : Nat) (r : GroupRun) (q : Nat) (m : AqMsg) : State :=
  let d := s.grDesc r
  match m.kind with
  | .coll =>
    if m.tag % 2 = 0 then
      (match s.takeUp g d m.elem (m.data.length / 32) m.data with
       | (t, true) => t.heard g 0 q (m.data.length / 32)
       | (t, false) => t.collFail g (t.accStatus g))
    else
      (match s.dstWrite g d m.elem m.data with
       | (t, .ok) => ((t.heard g 1 q (m.data.length / dstBytes d)).heard g 4 q 1).setRun g (fun x => { x with flags := x.flags ||| m.tag / 2 % 16 })
       | (t, e) => t.collFail g e)
  | .barr => s.heard g 3 q (le m.data 0 8 + 1)
  | .cdig =>
    if le m.data 0 4 = (s.group g).digest ∧ le m.data 4 4 = r.digest then s.heard g 2 q 1 else s.collFail g .inconsistent
  | .abort => s.collEnd g .aborted 0 (le m.data 4 4) false
  | _ => s

/-- A collective message reaches its group: it is taken by the sequence it names, kept when that has not begun, or discarded.
[DEDUCED, log entry 38] -/
def State.collTake (s : State) (m : AqMsg) : State :=
  let x := s.group m.group
  if !s.armed m.group then s
  else
    match x.members.findIdx? (· == m.smod), x.run with
    | none, _ => s
    | some q, some r =>
      if m.seq = r.seq then (s.collMsg m.group r q m).advance m.group collFuel
      else if m.seq = x.seq then s.setGroup m.group { x with early := x.early ++ [m] }
      else s
    | some _, none => if m.seq = x.seq then s.setGroup m.group { x with early := x.early ++ [m] } else s

/-- The ingress rule of COLL: CATCH of the group's partition (R338). -/
def State.collOpen (s : State) (m : AqMsg) : Bool :=
  let w := s.reg 9 (0x40 + 8 * s.grPart m.group)
  s.armed m.group && bit w 3 && decide (bits w 27 16 ≤ m.smod) && decide (m.smod ≤ bits w 43 32)

/-- COLL. -/
def State.onColl (s : State) (p : Nat) (m : AqMsg) : State :=
  s.onMessage p m (if s.aq.valid && s.collOpen m then s.collTake m else s.dropMsg p)
/-- BARR (R332, R345). -/
def State.onBarr (s : State) (p : Nat) (m : AqMsg) : State :=
  s.onMessage p m (if s.aq.valid then s.collTake m else s.dropMsg p)
/-- ABORT (R347). -/
def State.onAbort (s : State) (p : Nat) (m : AqMsg) : State := s.onMessage p m (s.collTake m)
/-- CDIG (R345). -/
def State.onCdig (s : State) (p : Nat) (m : AqMsg) : State := s.onMessage p m (s.collTake m)

/-- COLL. -/
def execColl (p : Nat) (m : AqMsg) (s : State) : Host.Outcome State Fault Refusal :=
  within "port" p 14 <| done s (s.onColl p m)
/-- BARR. -/
def execBarr (p : Nat) (m : AqMsg) (s : State) : Host.Outcome State Fault Refusal :=
  within "port" p 14 <| done s (s.onBarr p m)
/-- ABORT. -/
def execAbort (p : Nat) (m : AqMsg) (s : State) : Host.Outcome State Fault Refusal :=
  within "port" p 14 <| done s (s.onAbort p m)
/-- CDIG. -/
def execCdig (p : Nat) (m : AqMsg) (s : State) : Host.Outcome State Fault Refusal :=
  within "port" p 14 <| done s (s.onCdig p m)

/-! ### Starting -/

/-- The member's own elements join its accumulators, so that each entry a peer keeps can be sent to it (R345). -/
def State.loadOwn (s : State) (g : Nat) (d : Bytes) : State × Status :=
  if !reduces d then (s, .ok)
  else
    match s.collRead g (cSrc d) (cCount d * sfmtBytes (cSfmt d)) with
    | (t, .ok, b) =>
      let r := (List.range (cCount d)).foldl (fun (q : State × Bool) e =>
        if q.2 then q.1.accAdd g e d (csendContrib (sendDesc d) b e) else q) (t, true)
      (r.1, if r.2 then .ok else r.1.accStatus g)
    | (t, e, _) => (t, e)

/-- Every rank that this member sends to in some step. -/
def peersOf (n me : Nat) (t : Nat) : List Nat :=
  if t = 3 ∨ t = 2 then (List.range n).filter (· != me)
  else ((List.range (levelsOf n)).flatMap (fun L => (peerSet n me L).filter (· != me))).eraseDups

/-- A dispatched COLLECTIVE begins (R344, R345): its digest is the first message of its sequence; what came early is taken
then. [DEDUCED, log entry 38] -/
def State.collStart (s : State) (c : HostCmd) : State :=
  let d := c.desc
  let g := cGroup d
  let x := s.group g
  let n := x.members.length
  let me := s.grRank g
  let run : GroupRun := { cmd := c.id, seq := x.seq, start := s.now, digest := operandDigest d }
  let slot := (s.cat (s.grRegion g)).slot x.slot
  let s1 := ((s.cmdWaits c.id).setSlotAt (s.grRegion g) x.slot { slot with cls := dClass d % 16 }).setGroup g
    { x with seq := (x.seq + 1) % 2 ^ 14, run := some run, early := [] }
  let s2 := (peersOf n me (ctype d)).foldl (fun t q => t.collSend g run.seq q
    { kind := .cdig, cls := dClass d % 16, len := 8, data := toLe 4 x.digest ++ toLe 4 run.digest }) s1
  match s2.loadOwn g d with
  | (t, .ok) =>
    let t1 := match (stepsOf (ctype d) n)[0]? with
      | some st => t.enterStep g run st
      | none => t
    (x.early.foldl State.collTake t1).advance g collFuel
  | (t, e) => t.collFail g e

/-- A COLLECTIVE whose type is `t`: a failing check ends it whatever its type; it waits while one runs on its group.
[DEDUCED, log entry 21] -/
def State.collective (s : State) (id t : Nat) : State :=
  withCmd s id 8 fun c =>
    let st := collCheck s c.fn c.desc
    if st ≠ .ok then s.fails c st
    else if ctype c.desc ≠ t then s
    else if (s.group (cGroup c.desc)).run.isSome then s
    else s.collStart c

/-- COLLECTIVE with CTYPE BARRIER (R345). -/
def execCollectiveBarrier (id : Nat) (s : State) : Host.Outcome State Fault Refusal := done s (s.collective id 0)
/-- COLLECTIVE with CTYPE ALL_REDUCE (R345). -/
def execCollectiveAllReduce (id : Nat) (s : State) : Host.Outcome State Fault Refusal := done s (s.collective id 1)
/-- COLLECTIVE with CTYPE BROADCAST (R345). -/
def execCollectiveBroadcast (id : Nat) (s : State) : Host.Outcome State Fault Refusal := done s (s.collective id 2)
/-- COLLECTIVE with CTYPE REDUCE_SCATTER (R345). -/
def execCollectiveReduceScatter (id : Nat) (s : State) : Host.Outcome State Fault Refusal := done s (s.collective id 3)

/-- COLLECTIVE_COMPLETE (R346): DETAIL holds the flags and RESULT the sequence number. -/
def execCollectiveComplete (group : Nat) (s : State) : Host.Outcome State Fault Refusal :=
  within "group" group 1024 <|
  done s <|
    match (s.group group).run with
    | some r => if r.ready then s.collEnd group .ok r.flags r.seq false else s
    | none => s

/-- Level of the step a member waits in. -/
def CStep.level : CStep → Nat
  | .up L => L | .down L => L | .bar L => L | _ => 0

/-- Deadline of a collective in ns: the later of its start + GR_TIMEOUT and the latest notice of a member (R343). -/
def State.collDeadline (s : State) (g : Nat) (r : GroupRun) : Nat :=
  ((s.group g).members.map s.expiry).foldl max (r.start + 1000 * s.grTimeout g)

/-- COLLECTIVE_TIMEOUT (R347): DETAIL [10:8] holds the level and RESULT the lowest rank not heard from. -/
def execCollectiveTimeout (group : Nat) (s : State) : Host.Outcome State Fault Refusal :=
  within "group" group 1024 <|
  done s <|
    match (s.group group).run with
    | some r =>
      if r.ready || decide (s.now < s.collDeadline group r) then s
      else
        let d := s.grDesc r
        let n := (s.group group).members.length
        (match (stepsOf (ctype d) n)[r.step]? with
         | some st =>
           s.collEnd group .timeout (2 ^ 8 * st.level) ((unheard r (stepNeeds n (s.grRank group) (cCount d) st)).foldl min 1023) true
         | none => s)
    | none => s

end Sys2Proof.Machine
end

