-- ==== Sys2Proof/Machine/Regulation.lean ====
section
/-!
DEFINITION. Bandwidth regulation (R311 to R323): float valves, the allocation of each regulation tick, measurement windows and
missed guarantees, and the order in which an HBM controller serves its queue.
-/

namespace Sys2Proof.Machine

/-! ### Charges -/

/-- Units of 256 bytes that a request touches: stack, and bytes in whole 32-byte granules (R312). [DEDUCED, log entry 30] -/
def unitCharges (a n : Nat) : List (Nat × Nat) :=
  (List.range ((a + n - 1) / 256 - a / 256 + 1)).map (fun i =>
    let u := a / 256 + i
    let lo := max a (256 * u)
    let hi := min (a + n) (256 * u + 256)
    (match hbmWindow a with | some 8 => (dramOf (256 * u)).h | w => w.getD 0, 32 * ((hi - 1) / 32 - lo / 32 + 1)))

/-- Charge of a request on each stack it touches; none for a request not bound for HBM. [DEDUCED, log entry 30] -/
def State.charges (s : State) (r : ValveReq) : List (Nat × Nat) :=
  match s.localAddr r.addr with
  | some a =>
    if (hbmWindow a).isSome && decide (0 < r.len) then
      let l := unitCharges a r.len
      ((List.range 8).map (fun h => (h, ((l.filter (fun e => e.1 == h)).map (·.2)).sum))).filter (fun e => e.2 != 0)
    else []
  | none => []

/-- Key of valve v, class c and stack h. -/
def valveKey (v c h : Nat) : Nat := 128 * v + 8 * c + h
/-- Allowance of a valve for a class and a stack, in bytes. -/
def State.allowance (s : State) (k : Nat) : Rat := tget (fun _ => 0) s.qos.allow k
/-- Bytes presented at a valve since the last tick, with those still held then. -/
def State.shown (s : State) (k : Nat) : Nat := tget (fun _ => 0) s.qos.shown k
/-- Set the measurement of a class. -/
def State.setQos (s : State) (c : Nat) (q : QosClass) : State :=
  { s with qos.classes := tset (fun _ => {}) s.qos.classes c q }

/-- Count a request as presented. -/
def State.present' (s : State) (r : ValveReq) : State :=
  (s.charges r).foldl (fun t e =>
    let k := valveKey r.valve r.cls e.1
    { t with qos.shown := tset (fun _ => 0) t.qos.shown k (t.shown k + e.2) }) s

/-- The QOS register at an offset as it is in force: a committed group takes effect at the next tick (R314).
[DEDUCED, log entry 30] -/
def State.qosIn (s : State) (o : Nat) : Nat :=
  match s.qos.before.find? (fun e => e.1 == o) with
  | some e => e.2
  | none => s.reg 8 o

/-! ### Controller queues (R319, R320) -/

/-- Queue entries reserved for a class. -/
def State.qshare (s : State) (c : Nat) : Nat := if c = 15 then 64 else bits (s.qosIn (qosCfg c + 8)) 10 0
/-- Entries of a class in a queue. -/
def classCount (q : List QEnt) (c : Nat) : Nat := (q.filter (fun e => e.r.cls == c)).length
/-- Whether a queue has a free entry of a class, or of the common pool. -/
def State.qRoom (s : State) (q : List QEnt) (c : Nat) : Bool :=
  let pool := 1024 - ((List.range 16).map s.qshare).sum
  let used := ((List.range 16).map (fun k => classCount q k - s.qshare k)).sum
  decide (classCount q c < s.qshare c) || decide (used < pool)
/-- Whether a class is a real-time class. -/
def State.realTime (s : State) (c : Nat) : Bool := c != 15 && bit (s.qosIn (qosCfg c)) 40
/-- Deadline of a request that is issued now (R320). -/
def State.deadlineOf (s : State) (r : ValveReq) : Option Nat :=
  if s.realTime r.cls then
    some ((r.deadline.getD (s.tick + bits (s.qosIn (qosCfg r.cls + 8)) 47 32)) % 2 ^ 20)
  else none

/-- A request reaches the controller of stack h: an offline stack fails it at once (R470). -/
def State.enqueue (s : State) (h : Nat) (r : ValveReq) : State :=
  let x := s.stack h
  let e : QEnt := ⟨r, s.now, s.deadlineOf r⟩
  if x.rate = 3 then s
  else if s.qRoom x.queue r.cls then s.setStack h { x with queue := x.queue ++ [e] }
  else s.setStack h { x with input := x.input ++ [e] }

/-- Requests at the input take the entries that are free, oldest first. -/
def State.fillQueue (s : State) (h : Nat) : List QEnt → State
  | [] => s
  | e :: t =>
    let x := s.stack h
    if s.qRoom x.queue e.r.cls then
      (s.setStack h { x with queue := x.queue ++ [e], input := x.input.erase e }).fillQueue h t
    else s.fillQueue h t

/-! ### Valves (R312, R313) -/

/-- A request passes its valve: it is charged, counted as released and goes to the controllers of its stacks; a HALTED stack
neither charges nor takes it. [DEDUCED, log entry 30] -/
def State.release (s : State) (r : ValveReq) : State :=
  ((s.charges r).filter (fun e => !(s.stack e.1).halt)).foldl (fun t e =>
    let k := valveKey r.valve r.cls e.1
    let q := t.qos' r.cls
    (({ t with qos.allow := tset (fun _ => 0) t.qos.allow k (t.allowance k - (e.2 : Rat)) }).setQos r.cls
      { q with released := q.released + e.2 }).enqueue e.1 r) s

/-- Whether a held request keeps a later one waiting: the same queue, or the same issuer under another class (R313). -/
def holdsUp (e r : ValveReq) : Bool := (e.valve == r.valve && e.cls == r.cls) || (e.agent == r.agent && e.cls != r.cls)
/-- Whether every allowance that a request is charged against is positive. -/
def State.allowed (s : State) (r : ValveReq) : Bool :=
  (s.charges r).all (fun e => (s.stack e.1).halt || decide (0 < s.allowance (valveKey r.valve r.cls e.1)))
/-- Whether a request is never held (R312). -/
def State.unheld (s : State) (r : ValveReq) : Bool :=
  r.kind == .passing || r.cls == 15 || (s.charges r).all (fun e => (s.stack e.1).halt)

/-- Release the held requests that may pass, oldest first; `kept` are those seen before that stay. -/
def State.releaseAll (s : State) (kept : List ValveReq) : List ValveReq → State
  | [] => { s with qos.held := kept }
  | r :: t =>
    if !kept.any (holdsUp · r) && (s.allowed r || s.unheld r) then (s.release r).releaseAll kept t
    else s.releaseAll (kept ++ [r]) t

/-- Once a tick a valve without allowance still releases the oldest held request of a class toward a stack (R317); `served`
are the keys whose oldest request has been seen. -/
def State.releaseOldest (s : State) (kept : List ValveReq) (served : List Nat) : List ValveReq → State
  | [] => { s with qos.held := kept }
  | r :: t =>
    let keys := (s.charges r).map (fun e => valveKey r.valve r.cls e.1)
    let due := keys.filter (fun k => !served.contains k && !decide (0 < s.allowance k))
    if due ≠ [] ∧ !kept.any (fun e => e.agent == r.agent && e.cls != r.cls) then
      (s.release r).releaseOldest kept (served ++ due) t
    else s.releaseOldest (kept ++ [r]) (served ++ due) t

/-- VALVE_REQUEST (R312, R313). -/
def execValveRequest (r : ValveReq) (s : State) : Host.Outcome State Fault Refusal :=
  within "valve" r.valve valveCount <|
  within "class" r.cls 16 <|
  done s <|
    let t := s.present' r
    if s.charges r = [] then t
    else if t.unheld r then t.release r
    else if t.allowed r && !t.qos.held.any (holdsUp · r) then t.release r
    else { t with qos.held := t.qos.held ++ [r] }

/-! ### The allocation of a tick (R316) -/

/-- GUAR of a class in GB/s. -/
def State.guar (s : State) (c : Nat) : Nat := guarIn s.qosIn c
/-- LIMIT of a class in GB/s; 0 for none. -/
def State.limit (s : State) (c : Nat) : Nat := if c = 15 then 0 else bits (s.qosIn (qosCfg c)) 31 16
/-- WEIGHT of a class. -/
def State.weight (s : State) (c : Nat) : Nat := if c = 15 then 255 else bits (s.qosIn (qosCfg c)) 39 32
/-- WINDOW of a class in microseconds. -/
def State.window (s : State) (c : Nat) : Nat := if c = 15 then 1000 else bits (s.qosIn (qosCfg c)) 57 48

/-- Entry i of a list of rationals. -/
def rat (l : List Rat) (i : Nat) : Rat := l.getD i 0

/-- One stack's row of the allocation: demand, guarantee share, limit share, base and grant of classes 0 to 15, and f. -/
structure Alloc where
  demand : List Rat
  g : List Rat
  base : List Rat
  grant : List Rat
  f : Rat
  deriving DecidableEq, Repr

/-- The spare capacity goes to the open classes by weight, until it or their demand is used up (R316). -/
def fillOpen (w : Nat → Nat) (top : List Rat) (cap : Rat) : Nat → List Rat → List Rat
  | 0, grant => grant
  | k + 1, grant =>
    let left := cap - grant.sum
    let opn := (List.range 15).filter (fun c => decide (rat grant c < rat top c))
    if left ≤ 0 ∨ opn = [] then grant
    else
      let sw := (opn.map w).sum
      fillOpen w top cap k ((List.range 15).map (fun c =>
        if opn.contains c then min (rat grant c + left * (w c : Rat) / (sw : Rat)) (rat top c) else rat grant c))

/-- The allocation on one stack of capacity `cap0`, from the classes' demands on it and their total demands (R316).
[DEDUCED, log entry 30] -/
def allocStack (guar limit w : Nat → Nat) (cap0 : Rat) (demand total : List Rat) : Alloc :=
  let share (c : Nat) : Rat := if 0 < rat total c then rat demand c / rat total c else 1 / 8
  let g := (List.range 16).map (fun c => (guar c : Rat) * share c)
  let l := (List.range 16).map (fun c => if limit c = 0 then cap0 else (limit c : Rat) * share c)
  let base := (List.range 16).map (fun c => min (rat demand c) (min (rat g c) (rat l c)))
  let cap := cap0 - rat base 15
  let need := (base.take 15).sum
  if cap < need then
    let f := cap / need
    ⟨demand, g, base, (base.take 15).map (· * f) ++ [rat base 15], f⟩
  else
    let top := (List.range 15).map (fun c => min (rat demand c) (rat l c))
    ⟨demand, g, base, fillOpen w top cap 16 (base.take 15) ++ [rat base 15], 1⟩

/-- Bytes demanded by class c toward stack h in the last tick. -/
def State.demandBytes (s : State) (c h : Nat) : Nat :=
  ((s.qos.shown.filter (fun e => e.1 % 128 == 8 * c + h)).map (·.2)).sum

/-- The allocation on every stack; a thousand bytes a tick are one GB/s. [DEDUCED, log entry 30] -/
def State.allocs (s : State) : List Alloc :=
  let dem (h : Nat) : List Rat := (List.range 16).map (fun c => (s.demandBytes c h : Rat) / 1000)
  let total := (List.range 16).map (fun c => ((List.range 8).map (fun h => rat (dem h) c)).sum)
  (List.range 8).map (fun h => allocStack s.guar s.limit s.weight ((s.stack h).cap : Rat) (dem h) total)

/-- Each valve adds its share of the grant, capped at that share (R317). -/
def State.grantValves (s : State) (al : List Alloc) : State :=
  let keys := (tkeys s.qos.allow ++ tkeys s.qos.shown).eraseDups
  keys.foldl (fun t k =>
    let c := k % 128 / 8
    let share : Rat := match al[k % 8]? with
      | some a => if 0 < rat a.demand c then rat a.grant c * (s.shown k : Rat) / rat a.demand c else 0
      | none => 0
    { t with qos.allow := tset (fun _ => 0) t.qos.allow k (min (s.allowance k + share) share) }) s

/-- Stacks whose guarantees a class had scaled, one bit each. -/
def scaledOn (al : List Alloc) (c : Nat) : Nat :=
  ((List.range 8).map (fun h => match al[h]? with
    | some a => if c < 15 ∧ a.f < 1 ∧ rat a.base c ≠ 0 then 2 ^ h else 0
    | none => 0)).sum

/-- EFFG of a class: class 15 is never scaled. -/
def effgOf (al : List Alloc) (c : Nat) : Nat :=
  ((al.map (fun a => rat a.g c * (if c = 15 then 1 else a.f))).sum).floor.toNat

/-- GUARANTEE_MISSED for class c (R323), its count and its notice (R310). [DEDUCED, log entry 19] -/
def State.missed (s : State) (c cause hit : Nat) : State :=
  let q := s.qos' c
  let p := c + 2 ^ 4 * cause + 2 ^ 8 * hit + 2 ^ 16 * (q.effg % 2 ^ 16) + 2 ^ 32 * (q.meas % 2 ^ 16) + 2 ^ 48 * s.guar c
  ((s.setQos c { q with
      misses := satAdd q.misses 1 0xFFFF
      told0 := q.told0 || cause == 0
      told1 := q.told1 || cause == 1 }).raise 0x017 p ((List.range 8).filter (fun f => bit (s.fnClasses f) c)) mgmtNode).notice 2
    (fun t => bit t.classMask c)

/-- Class c after a tick: EFFG, SCALED and the demand of the window, and cause 0 of a missed guarantee.
[DEDUCED, log entry 30] -/
def State.classTick (s : State) (al : List Alloc) (demand c : Nat) : State :=
  let q := s.qos' c
  let m := scaledOn al c
  let t := s.setQos c { q with effg := min (effgOf al c) 0xFFFF, scaled := m != 0, wanted := q.wanted + demand }
  if m ≠ 0 ∧ !q.scaled ∧ !q.told0 then t.missed c 0 m else t

/-- A stack that runs below its normal capacity (R322). -/
def Stack.derated (x : Stack) : Bool := x.hot || x.refx2 || x.halt || x.rate != 0

/-- Some class is throttled below its demand on a derated stack. [DEDUCED, log entry 30] -/
def State.derateThrottles (s : State) (al : List Alloc) : Bool :=
  (List.range 8).any (fun h => (s.stack h).derated && (match al[h]? with
    | some a => (List.range 16).any (fun c => decide (rat a.grant c < rat a.demand c))
    | none => false))

/-- The condition of slow notice cause 1 (Table 10.9). -/
def State.slowNow (s : State) : Bool := s.qos.throttled || (List.range 8).any (fun h => (s.stack h).hot)

/-- The slow notice of cause 1 starts with its condition (R342). [DEDUCED, log entry 30] -/
def State.slowStart (s : State) : State :=
  if s.slowNow && !s.aq.slow then { s with aq.slow := true }.slowNotice 1 1000 else s

/-- What stays presented in the next tick: the requests held. -/
def State.reshow (s : State) : State := s.qos.held.foldl State.present' { s with qos.shown := [] }

/-- Whether each class has requests held, at the end of the tick. -/
def State.markHeld (s : State) : State :=
  (List.range 16).foldl (fun t c => t.setQos c { t.qos' c with heldReq := s.qos.held.any (fun r => r.cls == c) }) s

/-- REGULATION_TICK (R316, R317, R322, R323). [DEDUCED, log entry 30] -/
def execRegulationTick (s0 : State) : Host.Outcome State Fault Refusal :=
  done s0 <|
    let s := { s0 with qos.before := [] }
    let al := s.allocs
    let s1 := (List.range 16).foldl (fun t c =>
      t.classTick al ((List.range 8).map (fun h => s.demandBytes c h)).sum c) s
    let s2 := { s1 with qos.throttled := s.derateThrottles al }.grantValves al
    let s3 := s2.releaseAll [] s2.qos.held
    let s4 := s3.releaseOldest [] [] s3.qos.held
    s4.reshow.markHeld.slowStart

/-- QOS_WINDOW_END (Table 9.8, R323): MEAS and DEM take the window's rates, and cause 1 is raised when demand met the
guarantee and the release fell short of it by more than a microsecond's worth. -/
def execQosWindowEnd (c : Nat) (s : State) : Host.Outcome State Fault Refusal :=
  within "class" c 16 <|
  done s <|
    let q := s.qos' c
    let w := s.window c
    let g := s.guar c
    let t := s.setQos c { q with meas := min (q.released / (1000 * w)) 0xFFFF, dem := min (q.wanted / (1000 * w)) 0xFFFF }
    let t := if g * w * 1000 ≤ q.wanted ∧ q.released < g * (w - 1) * 1000 ∧ !q.told1 then t.missed c 1 0 else t
    t.setQos c { t.qos' c with released := 0, wanted := 0, told0 := false, told1 := false }

/-- SLOW_RENEW (R342): the notice of cause 1 is renewed while its condition lasts, and cancelled when it ends. -/
def execSlowRenew (s : State) : Host.Outcome State Fault Refusal :=
  done s <|
    if !s.aq.slow then s.slowStart
    else if s.slowNow then s.slowNotice 1 1000
    else { s with aq.slow := false }.slowNotice 1 0

/-! ### Service at a controller (R229, R321) -/

/-- Whether tick a comes no later than tick b, modulo 2^20 (R320). -/
def notAfter (a b : Nat) : Bool := decide ((b + 2 ^ 20 - a % 2 ^ 20) % 2 ^ 20 < 2 ^ 19)

/-- Whether two requests of one requester meet in a 32-byte granule. -/
def sameGranule (s : State) (a b : ValveReq) : Bool :=
  a.agent == b.agent && (s.touched (s.loc a.addr) a.len).any (s.touched (s.loc b.addr) b.len).contains

/-- Whether R229 lets an entry of stack h be performed: no earlier request of its requester to its granules waits. -/
def State.inOrder (s : State) (h : Nat) (e : QEnt) : Bool :=
  let x := s.stack h
  !((x.queue ++ x.input).takeWhile (· != e) ++ x.input.filter (fun f => decide (f.t0 < e.t0))).any
    (fun f => sameGranule s f.r e.r)

/-- The entry with the earliest deadline; the oldest of those equal. -/
def earliest : List QEnt → Option QEnt
  | [] => none
  | e :: t => match earliest t with
    | none => some e
    | some f => if notAfter (e.dl.getD 0) (f.dl.getD 0) then some e else some f

/-- Choice among the entries of one class (R321, rule 3). -/
def State.pickClass (s : State) (rowHits : List Nat) (l : List QEnt) (c : Nat) : Option QEnt :=
  if s.realTime c then earliest l
  else
    match l with
    | [] => none
    | e :: _ => if s.now < e.t0 + 1000 then some ((l.find? (fun f => rowHits.contains f.r.id)).getD e) else some e

/-- The request that the controller serves next among `l`, all of them ready and in order (R321). [DEDUCED, log entry 30] -/
def State.choose (s : State) (h : Nat) (rowHits : List Nat) (l : List QEnt) : Option QEnt :=
  match l.find? (fun e => e.r.cls == 15) with
  | some e => some e
  | none =>
    match earliest (l.filter (fun e => match e.dl with | some d => notAfter d (s.tick + s.qosIn 0x2C00) | none => false)) with
    | some e => some e
    | none =>
      ((List.range 15).map (fun i => ((s.stack h).rr + i) % 15)).findSome?
        (fun c => s.pickClass rowHits (l.filter (fun e => e.r.cls == c)) c)

/-- The on-die report of stack h for the read bursts of granule g (Table 7.2). -/
def State.odeReport (s : State) (h g r : Nat) : State :=
  if 32 * g < hbmEnd ∧ (dramOf (32 * g)).h = h then s.setGran g { s.gran g with ode := min r 2 } else s

/-- HBM_BANK_SCHEDULE (R321): the chosen request is served; a late one is counted in DLMISS. None is served while the stack
retrains (R249). -/
def execHbmBankSchedule (h : Nat) (ready : List Nat) (find : BankFind) (s0 : State) : Host.Outcome State Fault Refusal :=
  within "stack" h 8 <|
  done s0 <|
    let s := find.reports.foldl (fun t e => t.odeReport h e.1 e.2) s0
    let x := s.stack h
    let l := x.queue.filter (fun e => ready.contains e.r.id && s.inOrder h e)
    if x.retraining || x.rate == 3 then s
    else
      match s.choose h find.rowHits l with
      | none => s
      | some e =>
        let c := e.r.cls
        let late := match e.dl with | some d => !notAfter s.tick d | none => false
        let t := s.setStack h { x with
          queue := x.queue.erase e
          served := some e.r.id
          rr := if c = 15 then x.rr else (c + 1) % 15 }
        let t := if late then t.setQos c { t.qos' c with dlmiss := satAdd (t.qos' c).dlmiss 1 0xFFFFFFFF } else t
        t.fillQueue h (t.stack h).input

end Sys2Proof.Machine
end

