-- ==== Sys2Proof/Machine/AqLink.lean ====
section
/-!
DEFINITION. The Aquifer link layer (R324 to R331, R333, R380): flits with their sequence numbers, acknowledgements and replays,
lanes that fail, ports that go DOWN, and ports that train.
-/

namespace Sys2Proof.Machine

/-! ### Delivery -/

/-- A message that a flit brings takes its effect; one of a reserved kind is discarded (R331). -/
def State.deliver (s : State) (p : Nat) (m : AqMsg) : State :=
  match m.kind with
  | .rd => s.onRd p m
  | .wr => s.onWr p m
  | .sync => s.onSync p m
  | .rdr => s.onRdr p m
  | .wrack => s.onWrack p m
  | .syncr => s.onSyncr p m
  | .catc => s.onCatc p m (contribOf m.data)
  | .coll => s.onColl p m
  | .barr => s.onBarr p m
  | .slow => s.onSlow p m
  | .abort => s.onAbort p m
  | .cdig => s.onCdig p m
  | .reserved => s.dropMsg p

/-- An ACK frees the flits it covers from the replay buffer (R330). -/
def ackFlits (l : List (Nat × AqMsg)) (ack : Nat) : List (Nat × AqMsg) :=
  match l with
  | [] => []
  | (q, _) :: _ =>
    let n := (ack + 4096 - q + 1) % 4096
    if n ≤ l.length then l.drop n else l

/-- The flits that no ACK covers are sent again, in order, and counted (R330). [DEDUCED, log entry 36] -/
def State.replay (s : State) (p : Nat) : State :=
  let x := s.port p
  { s.setPort p { x with replay := satAdd x.replay x.unacked.length 0xFFFFFFFF } with
    out.sent := s.out.sent ++ x.unacked.map (fun u => (p, u.2)) }

/-! ### Flits (R328, R331) -/

/-- One bit of the CRC-64. -/
def crc64Bit (c : Nat) : Nat := if 2 ^ 63 ≤ c then (2 * c) % 2 ^ 64 ^^^ 0x42F0E1EBA9EA3693 else 2 * c
/-- One byte of the CRC-64, its most significant bit first. -/
def crc64Byte (c : Nat) (b : Byte) : Nat := (List.range 8).foldl (fun x _ => crc64Bit x) (c ^^^ (2 ^ 56 * b.toNat))
/-- The CRC-64 of the bytes that follow a prefix whose CRC is c. -/
def crc64From : Nat → Bytes → Nat
  | c, [] => c
  | 0, b :: t => crc64From (crc64Byte 0 b) t
  | c + 1, b :: t => crc64From (crc64Byte (c + 1) b) t
/-- The CRC-64 of a flit over its bytes 0 to 247 (Table 10.3): it starts at 0 and is not inverted. [DEDUCED, log entry 36] -/
def flitCrc (b : Bytes) : Nat := crc64From 0 (b.take 248)
/-- A flit whose CRC matches. -/
def flitOk (b : Bytes) : Bool := b.length == 256 && flitCrc b == le b 248 8

/-- The message kinds of Table 10.5. -/
def mkindOf (n : Nat) : MKind :=
  [.reserved, .rd, .wr, .sync, .rdr, .wrack, .syncr, .catc, .coll, .barr, .slow, .abort, .cdig].getD n .reserved

/-- Data bytes that follow the header `h` (Table 10.5): a read request, an acknowledgement and a failed read's reply carry none. -/
def dataBytes (h : Bytes) : Nat :=
  match mkindOf (le h 0 1) with
  | .rd | .wrack => 0
  | .rdr => if le h 10 1 = 0 then le h 2 2 else 0
  | _ => le h 2 2

/-- The message of a header and its data (Table 10.4). -/
def msgOf (b : Bytes) : AqMsg :=
  let k := mkindOf (le b 0 1)
  let coll := k == .coll || k == .barr || k == .abort || k == .cdig
  let reply := k == .rdr || k == .wrack || k == .syncr
  let arg := le b 10 6
  { kind := k
    cls := bits (le b 1 1) 7 4
    level := bits (le b 1 1) 3 2
    len := le b 2 2
    dmod := le b 4 2 % 4096
    smod := le b 6 2 % 4096
    tag := le b 8 2
    addr := if coll || reply then 0 else arg
    status := if reply then stOf (le b 10 1) else .ok
    group := if coll then bits arg 9 0 else 0
    seq := if coll then bits arg 23 10 else 0
    elem := if coll then bits arg 47 24 else 0
    data := (b.drop 16).take (dataBytes b) }

/-- The messages of a stream of 16-byte units, and the bytes of one that goes on in the next flit; a unit of zeros where a message
would begin is empty (R328). -/
def streamMsgs : Nat → Bytes → List AqMsg × Bytes
  | 0, b => ([], b)
  | k + 1, b =>
    if b.length < 16 then ([], [])
    else if zeroAt b 0 16 then streamMsgs k (b.drop 16)
    else
      let n := 16 + (dataBytes b + 15) / 16 * 16
      if b.length < n then ([], b)
      else
        let r := streamMsgs k (b.drop n)
        (msgOf b :: r.1, r.2)

/-- What the stream of a flit brings after the part of a message that a port has (R328): at most 15 units begin in it. -/
def AqPort.stream (x : AqPort) (flit : Bytes) : List AqMsg × Bytes := streamMsgs 16 (x.rxPart ++ (flit.drop 8).take 240)

/-- The credit returns of a flit: channels and units (CRED). -/
def flitCreds (flit : Bytes) : List (Nat × Nat) :=
  let c := le flit 4 4
  [(bits c 3 0, bits c 11 4), (bits c 19 16, bits c 27 20)]

/-- The 256 bytes of a flit: its sequence and acknowledgement words, its credits, 240 bytes of messages and its CRC (R328). -/
def flitOf (fseq ack : BitVec 16) (creds : BitVec 32) (body : Bytes) (crc : Word) : Bytes :=
  toLe 2 fseq.toNat ++ toLe 2 ack.toNat ++ toLe 4 creds.toNat ++ body ++ toLe 8 crc.toNat

/-- AQ_FLIT_RECEIVE (R328 to R330): a flit with an uncorrectable codeword (`fec` 2) or a wrong CRC, and every later one until it is
replayed, is discarded and NAK is set; a corrected codeword (`fec` 1) is counted. [DEDUCED, log entry 36] -/
def execAqFlitReceive (p fec : Nat) (fseq ack : BitVec 16) (creds : BitVec 32) (body : Bytes) (crc : Word) (s : State) :
    Host.Outcome State Fault Refusal :=
  let flit := flitOf fseq ack creds body crc
  within "port" p 12 <|
  within "FEC result" fec 3 <|
  done s <|
    let x := s.port p
    if x.st ≠ 2 then s
    else
      let y := { x with fecce := satAdd x.fecce (b2n (fec == 1)) 0xFFFFFFFF, fecue := satAdd x.fecue (b2n (fec == 2)) 0xFFFFFFFF }
      if fec = 2 ∨ !flitOk flit ∨ bits (le flit 0 2) 11 0 ≠ (x.rxSeq + 1) % 4096 then s.setPort p { y with nak := true }
      else
        let r := x.stream flit
        let t := s.setPort p { y with
          rxSeq := bits (le flit 0 2) 11 0
          nak := false
          rxPart := r.2
          unacked := ackFlits x.unacked (bits (le flit 2 2) 11 0)
          used := (x.credited (flitCreds flit)).used }
        let t := (if bit (le flit 2 2) 12 then t.replay p else t).flushPort p (x.txq.length)
        r.1.foldl (fun u m => u.deliver p m) t

/-! ### Lanes and ports (R326) -/

/-- Lanes of the widest aligned group of good lanes: its width code, or 3 for none. -/
def widestGroup (failed : Nat) : Nat :=
  let good (l : List Nat) : Bool := l.all (fun i => !bit failed i)
  if good (List.range 8) then 0
  else if good [0, 1, 2, 3] || good [4, 5, 6, 7] then 1
  else if (List.range 4).any (fun j => good [2 * j, 2 * j + 1]) then 2
  else 3

/-- LINK_DEGRADED of an Aquifer port (R326). -/
def State.aqEvent (s : State) (p : Nat) : State :=
  let x := s.port p
  s.raise 0x01D (2 ^ 4 * p + 2 ^ 8 * x.width + 2 ^ 10 * x.rate + 2 ^ 12 * x.peer)

/-- A port goes DOWN: what it holds is lost, and every remote wait sent through it ends (R341). [DEDUCED, log entry 36] -/
def State.portDown (s : State) (p : Nat) : State :=
  let x := s.port p
  let t := s.setPort p { x with st := 0, width := 3, rate := 3, unacked := [], txq := [], used := [], nak := false, rxPart := [] }
  (t.aq.reqs.filter (fun r => r.port == p && !r.timed)).foldl (fun u r => u.endReq r .aborted 0 []) t

/-- A port after another lane has failed: the widest good group at its rate, or at the next lower rate over what is left when no
pair is; below rate code 2 it goes DOWN. Width and rate do not rise. [DEDUCED, log entry 36] -/
def State.laneFail (s : State) (p lane : Nat) : State :=
  let x := s.port p
  let failed := x.lanes ||| 2 ^ lane
  let w := max x.width (widestGroup failed)
  if w < 3 then s.setPort p { x with lanes := failed, width := w }
  else if x.rate < 2 then s.setPort p { x with lanes := 2 ^ lane, width := max x.width (widestGroup (2 ^ lane)), rate := x.rate + 1 }
  else (s.setPort p { x with lanes := failed }).portDown p

/-- AQ_LANE_FAIL (R326): both ends retrain, which loses no message; LINK_DEGRADED, the distance table and a slow notice tell
of it. -/
def execAqLaneFail (p lane : Nat) (s : State) : Host.Outcome State Fault Refusal :=
  within "port" p 12 <| within "lane" lane 8 <|
  done s <|
    if (s.port p).st ≠ 2 ∨ bit (s.port p).lanes lane then s
    else (((s.laneFail p lane).aqEvent p).markDist).slowNotice 2 1000

/-! ### Training (R326, R332, R333, R380) -/

/-- A port as training finds it. [DEDUCED, log entry 36] -/
def AqPort.train (x : AqPort) (t : PortTrain) : AqPort :=
  if t.up then
    { x with
      st := 2
      width := t.width
      rate := t.rate
      lanes := 0
      peer := t.peer.getD 0 % 4096
      peerPort := t.peerPort % 16
      rxSeq := 4095
      nak := false
      rxPart := []
      txSeq := 0
      unacked := []
      txq := []
      used := [] }
  else { x with st := 0, width := 3, rate := 3, unacked := [], txq := [], used := [], rxPart := [] }

/-- Whether a neighbour stands where R333 puts it. -/
def neighbourOk (modid k : Nat) (t : PortTrain) : Bool :=
  if 6 < k then true
  else t.peer == some (modid / 8 * 8 + (modid % 8 + k + 1) % 8) && t.peerPort == 6 - k

/-- Why a port is as it is in the S8 report (Table 12.3): 0 trained, 1 no peer, 2 R333 broken, 3 not checked for want of a
provisional ID. -/
def State.portCode (s : State) (k : Nat) (t : PortTrain) : Nat :=
  if !t.up then 1
  else if s.boot.topo.isNone || t.peer.isNone then 3
  else if neighbourOk s.aq.modid k t then 0 else 2

/-- A port trains, and is left DOWN when its peer breaks R333 (R380). [DEDUCED, log entry 36] -/
def State.trainPort (s : State) (p : Nat) (t : PortTrain) : State :=
  s.setPort p ((s.port p).train { t with up := t.up && s.portCode p t != 2 })

/-- The entry of port p in the S8 report (Table 12.3). -/
def State.s8Entry (s : State) (p : Nat) (t : PortTrain) : Bytes :=
  let x := s.port p
  toLe 4 (x.st + 2 ^ 2 * x.width + 2 ^ 4 * x.rate + 2 ^ 6 * s.portCode p t + 2 ^ 8 * x.peer + 2 ^ 20 * x.peerPort)

/-- A stage report with its CRC (Table 12.2). -/
def sealReport (b : Bytes) : Bytes := b.take 252 ++ toLe 4 (crc32c (b.take 252))

/-- AQ_PEER_TRAIN (R380): a DOWN port trains with a peer that runs S8. [DEDUCED, log entry 36] -/
def execAqPeerTrain (p : Nat) (t : PortTrain) (s : State) : Host.Outcome State Fault Refusal :=
  within "port" p 12 <|
  done s <|
    if (s.port p).st ≠ 0 ∨ !s.boot.ready ∨ s.boot.shut ∨ !t.up then s
    else
      let u := s.trainPort p t
      let r := tget (fun _ => ([] : Bytes)) u.boot.reports 8
      let u := if r = [] then u
        else { u with boot.reports := tset (fun _ => []) u.boot.reports 8 (sealReport (putAt r (64 + 4 * p) (u.s8Entry p t))) }
      u.markDist.aqEvent p

end Sys2Proof.Machine
end

