-- ==== Sys2Proof/Machine/Bar4.lean ====
section
/-!
DEFINITION. Host accesses through BAR4 (R255, R256), made as agent 484.
-/

namespace Sys2Proof.Machine

/-- Local address of an offset of BAR4 (R255). [DEDUCED, log entry 51] -/
def State.bar4Addr (s : State) (off : Nat) : Nat := bits (s.reg 8 0x30) 47 30 * 2 ^ 30 + off

/-- The answer of a BAR4 read: its bytes. -/
def State.replyBytes (s : State) (b : Bytes) (st : Status) : State := { s with out.reply := b, out.status := st, out.rdata := BitVec.ofNat 64 (ofLe b) }

/-- A BAR4 read that fails: all ones, and the event (R255). [DEDUCED, log entry 51] -/
def State.bar4Fail (s : State) (a n : Nat) (st : Status) : State := (s.bar4Fault a).replyBytes (List.replicate n 0xFF) st

/-- Read n bytes at a local address through BAR4. -/
def State.bar4Load (s : State) (a n : Nat) : State :=
  match s.place a with
  | .cell i =>
    if n ≠ 8 ∨ a % 8 ≠ 0 then s.bar4Fail a n .permission
    else if s.placeResetting a 8 then s.bar4Fail a n .aborted
    else match s.readCell i hostNode with
      | (t, some v) => t.replyBytes (toLe 8 v.toNat) .ok
      | (t, none) => t.bar4Fail a n .uncorrectable
  | .diag o =>
    if n ≠ 8 then s.bar4Fail a n .permission
    else match s.diagRead .bar4 o with
      | some (t, w) => t.replyBytes (toLe 8 w.toNat) .ok
      | none => s.bar4Fail a n .permission
  | .hbm _ | .cistern _ | .tcm _ =>
    (match s.memCheck .bar4 .load a n with
     | .ok => (match s.uRead 484 a n with
        | (t, none, b) => t.replyBytes b .ok
        | (t, some _, _) => t.bar4Fail a n .uncorrectable)
     | st => s.bar4Fail a n st)
  | _ => s.bar4Fail a n .range

/-- Write bytes at a local address through BAR4. -/
def State.bar4Store (s : State) (a : Nat) (b : Bytes) : State :=
  match s.place a with
  | .cell i =>
    if b.length ≠ 8 ∨ a % 8 ≠ 0 then s.bar4Fault a
    else if s.placeResetting a 8 then s.bar4Fault a
    else s.cellSet i (BitVec.ofNat 64 (ofLe b))
  | .diag o =>
    if b.length ≠ 8 ∨ o % 8 ≠ 0 then s.bar4Fault a
    else (s.diagWrite .bar4 o (ofLe b)).getD (s.bar4Fault a)
  | .hbm _ | .cistern _ | .tcm _ =>
    (match s.memCheck .bar4 .store a b.length with
     | .ok => (s.uWrite 484 a b).1
     | _ => s.bar4Fault a)
  | _ => s.bar4Fault a

/-- BAR4_READ (R255): before S9 completes, and in D3hot, it reads all ones (R256). [DEDUCED, log entry 51] -/
def execBar4Read (off size : Nat) (s : State) : Host.Outcome State Fault Refusal :=
  done s <|
    if !s.live 0 || decide (s.boot.bar4Gib * 2 ^ 30 < off + size) then s.replyBytes (List.replicate size 0xFF) .locked
    else s.bar4Load (s.bar4Addr off) size

/-- BAR4_WRITE (R255): before S9 completes it is dropped. [DEDUCED, log entry 51] -/
def execBar4Write (off : Nat) (data : Bytes) (s : State) : Host.Outcome State Fault Refusal :=
  done s <|
    if !s.live 0 || data == [] || decide (s.boot.bar4Gib * 2 ^ 30 < off + data.length) then s
    else s.bar4Store (s.bar4Addr off) data

end Sys2Proof.Machine
end

