-- ==== Sys2Proof/Machine/Service.lean ====
section
/-!
DEFINITION. Units that fail in service: fencing, quiescing, takeover and return (R20, R35, R401 to R408), REPAIR FENCE, READMIT
and SPARE (R287), Drizzle (R410 to R412), TEST (R290) and Barometer (R413, R414).
-/

namespace Sys2Proof.Machine

/-! ### Rows and spares -/

/-- Logical positions of a row (Table 2.1). -/
def rowLogical (r : Nat) : Nat := if r = 4 then 8 else 4

/-- The map of a row's logical positions onto the physical positions that are good (R34). -/
def Site.rowMap (x : Site) (r : Nat) : List (Option Nat) :=
  let good := (List.range (rowLogical r + 1)).filter (fun p => !x.badPos.contains (r, p))
  (List.range (rowLogical r)).map (fun l => good[l]?)

/-- Whether the spare position of row r of a tile is good and unused (R35). -/
def State.rowSpare (s : State) (t r : Nat) : Bool :=
  let x := s.tile t
  match x.site with
  | some n => !(s.site n).badPos.contains (r, rowLogical r) && !(x.rows.getD r []).contains (some (rowLogical r))
  | none => false

/-- The spare site of a quadrant, when it can serve (R17, R20). -/
def State.spareSite (s : State) (q : Nat) : Option Nat :=
  if s.dist.spareBad.contains q || s.dist.spareUsed.contains q then none else s.dist.spares[q]?

/-- Whether a spare exists for a unit. -/
def State.hasSpare (s : State) (t : Nat) (core : Option (Nat × Nat)) : Bool :=
  match core with
  | some (r, _) => s.rowSpare t r
  | none => (s.spareSite (t / 8)).isSome

/-- The agent of a V-core or S-core position. -/
def agentAt (t r p : Nat) : Nat := if r = 5 then 12 * t + p else 12 * t + 4 + p
/-- The index of an M-core position. -/
def mAt (t r p : Nat) : Nat := 16 * t + 4 * r + p

/-- Agents of a unit. -/
def unitAgents (t : Nat) (core : Option (Nat × Nat)) : List Nat :=
  match core with
  | some (r, p) => if r < 4 then [] else [agentAt t r p]
  | none => tileAgents t
/-- M-cores of a unit. -/
def unitMcores (t : Nat) (core : Option (Nat × Nat)) : List Nat :=
  match core with
  | some (r, p) => if r < 4 then [mAt t r p] else []
  | none => tileMcores t

/-- Whether a unit is present. -/
def State.unitPresent (s : State) (t : Nat) (core : Option (Nat × Nat)) : Bool :=
  match core with
  | some (r, p) => s.present t r p
  | none => (s.tile t).site.isSome
/-- Whether a unit is itself fenced. -/
def State.unitFenced (s : State) (t : Nat) (core : Option (Nat × Nat)) : Bool :=
  match core with
  | some u => (s.tile t).fencedCores.contains u
  | none => (s.tile t).fenced || (s.tile t).off

/-! ### Fencing (R402) -/

/-- Transfers of an MSEND under way to a core that is fenced end with ST_ABORTED, and fault their sender (R402).
[DEDUCED, log entry 43] -/
def State.abortXfers (s : State) (agents mcores : List Nat) : State :=
  let hit (x : MXfer) : Bool := if x.toV then agents.contains x.dst else mcores.contains x.dst
  (tkeys s.mcores).foldl (fun t i =>
    let c := t.mc i
    match c.xfers.find? hit with
    | some x => (t.setMc i { c with xfers := c.xfers.filter (fun y => !hit y) }).mFault i x.cmd .aborted 0xFF
    | none => t) s

/-- An M-core is fenced: its commands are lost without SIG, and it reads FAULTED with ST_STALE_EPOCH (Table 13.5).
[DESIGN CHOICE, log entry 25] -/
def State.fenceMcore (s : State) (i : Nat) : State :=
  let t := s.stopMcore i
  t.setMc i { t.mc i with sigs := [], stale := true, faulted := true }

/-- Fence a unit (R402): its cores stop, its caches are reclaimed, or cleaned when it is healthy, its epoch advances and
UNIT_FENCED is raised. [DEDUCED, log entry 33] -/
def State.fenceUnit (s : State) (t : Nat) (core : Option (Nat × Nat)) (healthy : Bool) : State :=
  let ags := unitAgents t core
  let mcs := unitMcores t core
  let s0 := match core, (s.tile t).task.bind (fun id => s.tasks.find? (fun k => k.id == id && !k.released)) with
    | none, some k => s.abandonTask k .aborted
    | _, _ => s
  let s1 := mcs.foldl State.fenceMcore (ags.foldl State.stopCore s0)
  let s2 := s1.abortXfers ags mcs
  let x := s2.tile t
  let y := match core with
    | some u => { x with fencedCores := x.fencedCores ++ [u], epoch := (x.epoch + 1) % 2 ^ 32 }
    | none => { x with fenced := true, epoch := (x.epoch + 1) % 2 ^ 32 }
  let s3 := ags.foldl (fun u a => if healthy then u.flushCache a else u.reclaim a) (s2.setTile t y)
  let s4 := ags.foldl (fun u a => u.setCtl a { u.ctl a with invdone := false }) s3
  s4.markDist.raise 0x014 (unitPayload t core)

/-! ### Recovery (R403 to R406) -/

/-- Whether two recoveries share their row or partition. -/
def State.sameScope (s : State) (a b : Repair) : Bool :=
  match a.core, b.core with
  | some u, some v => a.tile == b.tile && u.1 == v.1
  | _, _ => a.tile == b.tile || ((s.tile a.tile).part.isSome && (s.tile a.tile).part == (s.tile b.tile).part)

/-- A wait of a quiesced core ends without retiring; an access or a remote operation under way ends first (R53, R403). -/
def State.quietCore (s : State) (a : Nat) : State := if s.midway a then s else s.endWait a

/-- Cores of a quiesced row or partition stop at an instruction boundary; a wait ends without retiring. The catchment units of
a quiesced partition enter RESTRICTED (R403). [DEDUCED, log entry 33] -/
def State.enterQuiesce (s : State) (t : Nat) (core : Option (Nat × Nat)) : State :=
  match core with
  | some (r, _) => if r < 4 then s else ((List.range (rowLogical r)).map (agentAt t r)).foldl State.quietCore s
  | none =>
    match (s.tile t).part with
    | some p =>
      let s1 := ((s.partTiles p).flatMap tileAgents).foldl State.quietCore s
      (s.partRegions p).foldl State.catRestrict s1
    | none => s

/-- A quiesce ends: the catchment units of the partition return to SERVICE. [DEDUCED, log entry 33] -/
def State.leaveQuiesce (s : State) (t : Nat) (core : Option (Nat × Nat)) : State :=
  match core, (s.tile t).part with
  | none, some p =>
    if s.boot.ready && !s.boot.held && !s.boot.rejected && !s.partQuiesced p then
      (s.partRegions p).foldl (fun u n => u.setCat n { u.cat n with service := true }) s
    else s
  | _, _ => s

/-- A unit becomes absent (R20, R35, R405): its site or position is entered in the field-repair record. -/
def State.makeAbsent (s : State) (t : Nat) (core : Option (Nat × Nat)) : State :=
  let x := s.tile t
  match x.site, core with
  | some n, none =>
    let s1 := (s.setTile t { x with site := none, fenced := false, fencedCores := [] }).setSite n { s.site n with good := false }
    ((s1.powerSite n false).addRepair 1 n).markDist
  | some n, some (r, p) =>
    (match x.phys r p with
     | some f =>
       let y := { x with
         rows := x.rows.set r ((x.rows.getD r []).set p none)
         fencedCores := x.fencedCores.filter (· != (r, p)) }
       (((s.setTile t y).setSite n { s.site n with badPos := (s.site n).badPos ++ [(r, f)] }).addRepair 3
         (n + 2 ^ 8 * r + 2 ^ 12 * f)).markDist
     | none => s)
  | none, _ => s

/-- The command that asked for a recovery completes. [DEDUCED, log entry 21] -/
def State.answerRepair (s : State) (cmd : Option Nat) (st : Status) (result : Nat) : State :=
  match cmd.bind s.cmd with
  | some c => s.complete c st 0 result
  | none => s

/-- A recovery begins once its unit is fenced (R403, R405, R406): without a spare the unit becomes absent; on an idle tile there is
no quiesce; with AUTOSPARE clear it waits for the host. [DEDUCED, log entry 33] -/
def State.startRecovery (s : State) (t : Nat) (core : Option (Nat × Nat)) (cmd : Option Nat) : State :=
  if !s.autospare && cmd.isNone then s
  else if !s.hasSpare t core then (s.makeAbsent t core).answerRepair cmd .absent 0
  else
    let busy := (s.tile t).task.isSome
    let e : Repair := ⟨t, core, busy, !busy, cmd⟩
    let s1 := { s with svc.repairs := s.svc.repairs ++ [e] }
    if busy then s1.enterQuiesce t core else s1

/-- A unit fails (R401 to R405). [DEDUCED, log entry 33] -/
def State.failUnit (s : State) (t : Nat) (core : Option (Nat × Nat)) : State :=
  if !s.unitPresent t core || s.unitFenced t core then s
  else (s.fenceUnit t core false).startRecovery t core none

/-- The recovery of a unit that is first in its row or partition. -/
def State.repairOf (s : State) (t : Nat) (row : Option Nat) : Option Repair :=
  match s.svc.repairs.find? (fun e => e.tile == t && e.core.map (·.1) == row) with
  | some e => if (s.svc.repairs.takeWhile (· != e)).any (s.sameScope e) then none else some e
  | none => none

/-- The memories and buffers of a taken-over unit are zeroed, and its caches disabled (Table 13.5). -/
def State.wipeUnit (s : State) (t : Nat) (core : Option (Nat × Nat)) : State :=
  let s1 := (unitAgents t core).foldl (fun u a => (u.zeroTcm a).setCtl a {}) s
  (unitMcores t core).foldl State.clearMcore s1

/-- A row shifts (R35): the failed position and those above it move one physical position up; the caches of the healthy shifted
cores are cleaned and invalidated, with INVDONE set (R404). -/
def State.shiftRow (s : State) (t r p : Nat) : State :=
  let x := s.tile t
  let map := x.rows.getD r []
  let new := (List.range map.length).map (fun l => if p ≤ l then ((map.getD l none).map (· + 1)) else map.getD l none)
  let s1 := s.setTile t { x with rows := x.rows.set r new, shifted := x.shifted ++ [r] }
  if r < 4 then s1
  else
    ((List.range (rowLogical r)).filter (fun l => decide (p < l))).foldl (fun u l =>
      let a := agentAt t r l
      let v := (List.range 48).foldl (fun w e => w.flushEnt a e) u
      v.setCtl a { v.ctl a with invdone := true }) s1

/-- A spare position takes over a core (R404). -/
def State.takeCore (s : State) (e : Repair) (n r p : Nat) : State :=
  let f := ((s.tile e.tile).phys r p).getD 0
  let s1 := (s.shiftRow e.tile r p).wipeUnit e.tile e.core
  let s2 := (s1.setSite n { s1.site n with badPos := (s1.site n).badPos ++ [(r, f)] }).addRepair 3 (n + 2 ^ 8 * r + 2 ^ 12 * f)
  s2.raise 0x015 (unitPayload e.tile e.core + 2 ^ 24 * (f + 1))

/-- x and y of a site, as DT_SPARE_ gives them. [DEDUCED, log entry 52] -/
def siteXy (n : Nat) : Nat := n % 6 + 2 ^ 3 * (n / 6)

/-- A spare site takes over a tile (R20, R404). -/
def State.takeTile (s : State) (e : Repair) (old n : Nat) : State :=
  let s1 := ((s.setSite old { s.site old with good := false }).powerSite old false).powerSite n true
  let s2 := s1.setSite n { s1.site n with bs := 2 }
  let x := s2.tile e.tile
  let s3 := s2.setTile e.tile { x with site := some n, rows := (List.range 6).map (s2.site n).rowMap, shifted := [], clockLost := false }
  let s4 := ({ s3 with dist.spareUsed := s3.dist.spareUsed ++ [e.tile / 8] }.wipeUnit e.tile none).addRepair 1 old
  ((s4.retimeTile e.tile).markDist).raise 0x015 (unitPayload e.tile none + 2 ^ 24 * siteXy n)

/-- A spare that fails as it takes over is entered as bad, and the unit becomes absent (R406). -/
def State.badSpare (s : State) (e : Repair) (old : Nat) : State :=
  let t := e.tile
  match e.core with
  | some (r, _) =>
    let n := rowLogical r
    ((s.setSite old { s.site old with badPos := (s.site old).badPos ++ [(r, n)] }).addRepair 3 (old + 2 ^ 8 * r + 2 ^ 12 * n)).makeAbsent t e.core
  | none =>
    let s1 := { s with dist.spareBad := s.dist.spareBad ++ [t / 8] }
    (match s.dist.spares[t / 8]? with
     | some n => (s1.setSite n { s1.site n with good := false }).addRepair 1 n
     | none => s1).makeAbsent t none

/-- A drained recovery ends with its takeover, or with the unit absent. [DEDUCED, log entry 33] -/
def State.takeover (s : State) (e : Repair) (ok : Bool) : State :=
  let t := e.tile
  let s1 := match (s.tile t).site with
    | none => s
    | some old =>
      if !s.hasSpare t e.core then s.makeAbsent t e.core
      else if !ok then s.badSpare e old
      else match e.core, s.spareSite (t / 8) with
        | some (r, p), _ => s.takeCore e old r p
        | none, some n => s.takeTile e old n
        | none, none => s
  let done := s1.unitPresent t e.core
  let s2 := { s1 with svc.repairs := s1.svc.repairs.erase e }
  (s2.leaveQuiesce t e.core).answerRepair e.cmd (if done then .ok else .absent)
    (if done then siteXy (((s1.tile t).site).getD 0) else 0)

/-- UNIT_FAILURE (R401). -/
def execUnitFailure (tile : Nat) (core : Option (Nat × Nat)) (s : State) : Host.Outcome State Fault Refusal :=
  within "tile" tile 32 <| done s (s.failUnit tile core)

/-- The cores of a recovery's row or partition stand at an instruction boundary, and its accesses are performed (R403). -/
def State.atBoundary (s : State) (e : Repair) : Bool :=
  (match e.core, (s.tile e.tile).part with
   | some (r, _), _ => if r < 4 then [] else (List.range (rowLogical r)).map (agentAt e.tile r)
   | none, some p => (s.partTiles p).flatMap tileAgents
   | none, none => tileAgents e.tile).all (fun a => !s.midway a)

/-- QUIESCE_DRAINED (R403). -/
def execQuiesceDrained (tile : Nat) (row : Option Nat) (s : State) : Host.Outcome State Fault Refusal :=
  within "tile" tile 32 <|
  done s <|
    match s.repairOf tile row with
    | some e =>
      if s.atBoundary e then
        { s with svc.repairs := s.svc.repairs.map (fun x => if x = e then { x with drained := true } else x) }
      else s
    | none => s

/-- SPARE_TAKEOVER (R404, R406); a tile whose clock is awaited is not taken over (R408). -/
def execSpareTakeover (tile : Nat) (row : Option Nat) (ok : Bool) (s : State) : Host.Outcome State Fault Refusal :=
  within "tile" tile 32 <|
  done s <|
    match s.repairOf tile row with
    | some e => if e.drained && !(s.tile tile).clockLost then s.takeover e ok else s
    | none => s

/-! ### REPAIR (R287, R405, R407) -/

/-- ACTION of a REPAIR. -/
def rpAction (d : Bytes) : Nat := le d 16 1
/-- The unit of a REPAIR: a tile, or one of its cores. -/
def rpCore (d : Bytes) : Option (Nat × Nat) :=
  if le d 17 1 = 1 then some (bits (le d 20 4) 10 8, bits (le d 20 4) 15 12) else none
/-- The tile of a REPAIR. -/
def rpTile (d : Bytes) : Nat := bits (le d 20 4) 4 0

/-- The checks of R287. -/
def repairCheck (s : State) (fn : Nat) (d : Bytes) : Status :=
  let a := rpAction d
  let u := le d 20 4
  let t := rpTile d
  let core := rpCore d
  let topo := a == 3 || a == 4
  firstFail [
    (decide (a ≤ 4) && decide (le d 17 1 ≤ 1) && (!topo || le d 17 1 == 0) && zeroAt d 18 2 && zeroAt d 28 36 && bits u 7 5 == 0
      && bits u 11 11 == 0 && bits u 31 16 == 0 && (a == 1 || zeroAt d 24 4), .badField),
    ((match core with | some (r, p) => decide (r < 6) && decide (p < rowLogical r) | none => true), .range),
    (fn == 0 || (!topo && a != 2 && s.fnTile fn t), .permission),
    (topo || (s.unitPresent t core && (a != 2 || s.hasSpare t core)), .absent),
    (a != 1 || le d 24 4 == (s.tile t).epoch, .staleEpoch),
    (!(a == 1 && !s.unitFenced t core) && !(a == 0 && s.unitFenced t core) && !(topo && !s.boot.held), .inconsistent)]

/-- A REPAIR whose action is `a`: a failing check ends it whatever its action. [DEDUCED, log entries 21, 33] -/
def State.repairCmd (s : State) (id a : Nat) (f : HostCmd → State) : State :=
  withCmd s id 0xC fun c =>
    let st := repairCheck s c.fn c.desc
    if st ≠ .ok then s.fails c st
    else if rpAction c.desc ≠ a then s
    else f c

/-- REPAIR_FENCE (R287, R401, R402): the host fails a healthy unit; its caches are cleaned first. -/
def execRepairFence (id : Nat) (s : State) : Host.Outcome State Fault Refusal :=
  done s (s.repairCmd id 0 fun c =>
    ((s.fenceUnit (rpTile c.desc) (rpCore c.desc) true).startRecovery (rpTile c.desc) (rpCore c.desc) none).fails c .ok)

/-- A core's state after READMIT (Table 13.5). -/
def State.readmitCore (s : State) (t a : Nat) : State :=
  if !s.corePresent a then s
  else if isScore a then
    match s.taskOf t with
    | some k => if k.released then
        let u := s.bootScore a 0x010080000000 1 0 0 k.cls
        u.setCore a { u.core a with run := true }
      else s.freshCore a
    | none => s.freshCore a
  else
    let u := s.freshCore a
    u.setCore a { u.core a with trapped := true, vcause := 19 }

/-- A tile's memories hold undefined values after its power or its die's state was lost. [DEDUCED, log entry 33] -/
def State.loseTile (s : State) (t : Nat) : State :=
  let s1 := (tileAgents t).foldl (fun u a => (u.zeroTcm a).freeRange (tcmBase + 0x20000 * a) (if isScore a then 0x10000 else 0x20000)) s
  (tileMcores t).foldl State.clearMcore s1

/-- A fenced unit is re-admitted (R407): its epoch advances once more, after the advance of a powered-down tile's return (R440).
[DEDUCED, log entry 33] -/
def State.readmit (s : State) (t : Nat) (core : Option (Nat × Nat)) : State :=
  let x := s.tile t
  let up := core.isNone && x.off
  let s0 := if up then (match x.site with
      | some n => (s.powerSite n true).loseTile t
      | none => s) else s
  let y := match core with
    | some u => { x with fencedCores := x.fencedCores.filter (· != u) }
    | none => { x with fenced := false, fencedCores := [], off := false }
  let s1 := s0.setTile t { y with epoch := (x.epoch + 1 + b2n up) % 2 ^ 32 }
  let s2 := (unitMcores t core).foldl (fun u i => u.setMc i {}) s1
  let s3 := (unitAgents t core).foldl (fun u a => u.readmitCore t a) s2
  (if up then s3.retimeTile t else s3).markDist

/-- REPAIR_READMIT (R407): it waits for a recovery of the unit. -/
def execRepairReadmit (id : Nat) (s : State) : Host.Outcome State Fault Refusal :=
  done s (s.repairCmd id 1 fun c =>
    let t := rpTile c.desc
    let core := rpCore c.desc
    if s.svc.repairs.any (fun e => e.tile == t && e.core == core) then s
    else
      let u := s.readmit t core
      u.complete c .ok 0 (u.tile t).epoch)

/-- REPAIR_SPARE (R405): a unit not yet fenced is fenced; the takeover completes the command. -/
def execRepairSpare (id : Nat) (s : State) : Host.Outcome State Fault Refusal :=
  done s (s.repairCmd id 2 fun c =>
    let t := rpTile c.desc
    let core := rpCore c.desc
    if s.svc.repairs.any (fun e => e.tile == t && e.core == core) then s
    else
      let u := if s.unitFenced t core then s else s.fenceUnit t core true
      (u.cmdWaits id).startRecovery t core (some id))

/-! ### Drizzle (R410 to R412) -/

/-- Whether a line may be marched: not allocated, pinned, carved out or retired (R134, R410). -/
def State.lineFree (s : State) (a : Nat) : Bool := !s.covered a 128 && s.outsideCarve a 128 && s.outsideRetired a 128

/-- Whether a segment may run on its unit now (Table 13.6). -/
def State.segmentMay (s : State) (u : TestUnit) : Bool :=
  match u with
  | .core t r p => decide (t < 32) && decide (r < 6) && decide (p ≤ rowLogical r) && (s.tile t).site.isSome && (s.tile t).task.isNone
  | .spare n => s.dist.spares.contains n
  | .march sl line => decide (sl < 1152) && decide (line + 64 ≤ 24576) && (marchLines sl line).all s.lineFree
  | .region n => decide (n < 36)

/-- A segment starts: the lines of a march hold no defined data from here on, and a spare site's islands are powered for the
segment (R22, R411). [DEDUCED, log entry 32] -/
def State.startSegment (s : State) (u : TestUnit) : State :=
  let t := { s with svc.segments := s.svc.segments ++ [u] }
  match u with
  | .march sl line => (marchLines sl line).foldl (fun v a => v.freeRange a 128) t
  | .spare n => if (t.tileAt n).isNone then t.powerSite n true else t
  | _ => t

/-- A segment is over, ended or aborted: a spare site's islands are powered down again (R22). -/
def State.leaveSegment (s : State) (u : TestUnit) : State :=
  let t := { s with svc.segments := s.svc.segments.filter (· != u) }
  match u with
  | .spare n => if (t.tileAt n).isNone then t.powerSite n false else t
  | _ => t

/-- DRIZZLE_SEGMENT (R410): a segment starts when its unit allows it and Drizzle is enabled. -/
def execDrizzleSegment (u : TestUnit) (s : State) : Host.Outcome State Fault Refusal :=
  done s (if bit (s.reg 11 0x18) 0 && s.boot.ready && s.segmentMay u && !s.svc.segments.contains u then s.startSegment u else s)

/-- A march leaves its lines zeroed with valid check bits. -/
def State.marchDone (s : State) (u : TestUnit) : State :=
  match u with
  | .march sl line => (marchLines sl line).foldl (fun t a => t.zeroRange a (a + 128)) s
  | _ => s

/-- A site or position covered by a passing segment. -/
def State.covers (s : State) (u : TestUnit) : State :=
  let t := { s with svc.overdue := s.svc.overdue.filter (· != u) }
  match u with
  | .spare n => t.setSite n { t.site n with cover := t.now }
  | .core x _ _ => (match (t.tile x).site with
    | some n => t.setSite n { t.site n with cover := t.now }
    | none => t)
  | _ => t

/-- What a failing segment does to its unit (R401, R412): a core fails; a spare position or site is entered as bad; the lines of a
march count as uncorrectable for R396. [DEDUCED, log entry 32] -/
def State.segmentFails (s : State) (u : TestUnit) : State :=
  let t := { s with svc.dzfail := satAdd s.svc.dzfail 1 0xFFFF }.drizzleFail 0x1003 u
  match u with
  | .core x r p =>
    if p < rowLogical r then t.failUnit x (some (r, p))
    else (match (t.tile x).site with
      | some n => (t.setSite n { t.site n with badPos := (t.site n).badPos ++ [(r, p)] }).addRepair 3 (n + 2 ^ 8 * r + 2 ^ 12 * p)
      | none => t)
  | .spare n => (({ t with dist.spareBad := t.dist.spareBad ++ [quadOf n] }.setSite n { t.site n with good := false }).addRepair 1 n).markDist
  | .march sl line => { t with cistern.found := t.cistern.found ++ (marchLines sl line).map (fun a => (a / 32, t.now, none)) }
  | _ => t

/-- A segment ends. -/
def State.segmentEnd (s : State) (u : TestUnit) (pass : Bool) : State :=
  let t := (s.leaveSegment u).marchDone u
  if pass then t.covers u else t.segmentFails u

/-! ### TEST (R290) -/

/-- The units of a TEST of a tile or a region, each with whether its segment fails. -/
def testUnits (tile : Bool) (u : Nat) (r : TestFind) : List (TestUnit × Bool) :=
  if tile then
    (List.range 6).flatMap (fun row => (List.range (rowLogical row + 1)).map (fun p => (.core u row p, r.cores.contains (row, p))))
  else [(.region u, r.failing != 0)]

/-- A TEST's segment ends on one unit, ending what Drizzle runs there; an aborted Drizzle segment counts for nothing. -/
def State.testUnit (s : State) (e : TestUnit × Bool) : State :=
  let t := s.leaveSegment e.1
  if e.2 then t.segmentFails e.1 else t.covers e.1

/-- A dispatched TEST, with what the hardware finds. A region's catchment unit is RESTRICTED meanwhile, so its ACTIVE slots fail
(R181, R188); a failing segment is acted on as one of Drizzle (R401, R412). -/
def testCmd (s : State) (c : HostCmd) (r : TestFind) : State :=
  let d := c.desc
  let u := le d 20 4
  if c.fn ≠ 0 then s.fails c .permission
  else
    let st := testCheck s d
    if st ≠ .ok then s.fails c st
    else if le d 16 1 = 0 then
      let t := s.channelTest d r
      t.complete c .ok 0 (t.hcWord (32 * bits u 2 0 + bits u 7 3) 5)
    else
      let tile := le d 16 1 == 2
      let units := testUnits tile u r
      let s := if tile then s else
        let v := s.catRestrict u
        v.setCat u { v.cat u with service := (s.cat u).service }
      (units.foldl State.testUnit s).complete c .ok 0 (if tile then (units.filter (·.2)).length else r.failing % 2 ^ 32)

/-- TEST (R290). -/
def execTest (id : Nat) (r : TestFind) (s : State) : Host.Outcome State Fault Refusal :=
  done s <| withCmd s id 0x10 (testCmd s · r)

/-! ### The ends of Drizzle segments -/

/-- DRIZZLE_SEGMENT_END (R412). -/
def execDrizzleSegmentEnd (u : TestUnit) (pass : Bool) (s : State) : Host.Outcome State Fault Refusal :=
  done s (if s.svc.segments.contains u then s.segmentEnd u pass else s)

/-- DRIZZLE_ABORT (R411): the segment counts for no coverage; the lines of a march hold undefined data.
[DEDUCED, log entry 32] -/
def execDrizzleAbort (u : TestUnit) (s : State) : Host.Outcome State Fault Refusal :=
  done s (if s.svc.segments.contains u then s.leaveSegment u else s)

/-- DRIZZLE_OVERDUE (R412): the unit is counted once, and logged. -/
def execDrizzleOverdue (u : TestUnit) (s : State) : Host.Outcome State Fault Refusal :=
  done s <|
    if s.svc.overdue.contains u then s else { s with svc.overdue := s.svc.overdue ++ [u] }.drizzleFail 0x1004 u

/-! ### Barometer (R414) -/

/-- A region clock takes a value: the distances of the quadrant's regions change, and its seams may slip (R158, R427). -/
def State.setRegionClk (s : State) (q mhz : Nat) : State :=
  let x := s.island q
  if x.clk = mhz then s else (((s.setIsland q { x with clk := mhz }).relock q).slipSeams).markDist

/-- Offset in mV and ceiling in MHz that a re-plan gives an island whose loss is l ps. -/
def baroPlan (i offset ceil l : Nat) : Nat × Nat :=
  let k := Config.baroK i
  let v := Config.vfTable i ceil
  let need := max (5 * ((l : Rat) / (5 * k)).ceil.toNat) offset
  if need ≤ 40 ∧ v + need ≤ 950 then (need, ceil)
  else
    let off := min 40 ((950 - v) / 5 * 5)
    let rest := (l : Rat) - k * (off : Rat)
    (off, ceil - 25 * (rest / (25 * Config.baroQ i)).ceil.toNat)

/-- A clock above its island's limit is forced down at once. -/
def State.forceClk (s : State) (i : Nat) : State :=
  if i < 4 then s.setRegionClk i (min (s.island i).clk (s.islandLimit i))
  else
    let n := if i < 148 then (i - 4) / 4 else i - 148
    match s.tileAt n with
    | some t => s.retimeTile t
    | none => s

/-- The island that path-delay sensor k measures (R413). -/
def sensorOn (k : Nat) : Nat :=
  if k < 1152 then quadOf (k / 32) else (siteIslands ((k - 1152) / 12)).getD (Config.sensorIsland k).val 0

/-- The sensors of island i: 32 in each region of a quadrant, and those of its site's 12 that measure it. -/
def sensorsOf (i : Nat) : List Nat := (List.range 1584).filter (fun k => sensorOn k == i)

/-- Readings of sensors are taken in: a sensor's last measured slack in ps. -/
def State.sense (s : State) (slacks : List (Nat × Int)) : State :=
  { s with svc.slacks := slacks.foldl (fun t e => tset (fun _ => 0) t e.1 e.2) s.svc.slacks }

/-- Loss L of an island in ps: the greatest, over its sensors that have been read, of the baseline less the measured slack at
the island's present clock and rail (R413); a gain is no loss. [DESIGN CHOICE, log entry 48] -/
def State.islandLoss (s : State) (i : Nat) : Nat :=
  ((sensorsOf i).filter (fun k => (tkeys s.svc.slacks).contains k)).foldl (fun m k =>
    max m (Config.baroBase k (s.island i).clk (s.railMv i) - tget (fun _ => 0) s.svc.slacks k).toNat) 0

/-- BAROMETER_REPLAN (R413, R414): the island's sensors have been read. Strips and corners have no sensors.
[DESIGN CHOICE, log entry 13] -/
def execBarometerReplan (island : Nat) (slacks : List (Nat × Int)) (s0 : State) : Host.Outcome State Fault Refusal :=
  within "island" island 192 <|
  done s0 <|
    if 184 ≤ island then s0
    else
      let s := s0.sense (slacks.filter (fun e => decide (e.1 < 1584) && sensorOn e.1 == island))
      let loss := s.islandLoss island
      let x := s.island island
      let top := if x.ceil = 0 then islandTop s island else x.ceil
      let plan := baroPlan island x.offset top loss
      let t := s.setIsland island { x with
        offset := plan.1
        ceil := plan.2
        capped := x.capped || decide (plan.2 < top)
        loss := min loss 255
        replan := (x.replan + 1) % 2 ^ 16 }
      ((t.addRepair 9 (island + 2 ^ 8 * plan.1 + 2 ^ 16 * plan.2)).logRec 0x1005 0xFF
        (island + 2 ^ 8 * plan.1 + 2 ^ 16 * plan.2 + 2 ^ 32 * min loss 255)).forceClk island

end Sys2Proof.Machine
end

