-- ==== Sys2Proof/Machine/Bonds.lean ====
section
/-!
DEFINITION. The bonds between a tile site and its region: retries, retraining, spares, folds and failures (R355 to R358), and a
tile die that is reset or loses its clock (R362, R408).
-/

namespace Sys2Proof.Machine

/-! ### Spares and folds (R356, R357) -/

/-- BD_GRPg of a group or bundle with f failed bonds: up to two spares, then a fold, which counts as both (R356, R358).
[DEDUCED, log entry 35] -/
def spareCode (f : Nat) : Nat := if f ≤ 2 then f else 6
/-- Spares in use under such a code. [DEDUCED, log entry 35] -/
def spareUse (code : Nat) : Nat := if bit code 2 then 2 else code % 4

/-- The state that failed bonds leave a direction in: a group keeps 32 of its 66 bonds, and the frame bundle 24 of its 50, or the
port fails (R356, R357). [DEDUCED, log entry 35] -/
def dirState (groups : List Nat) (frame : Nat) : Nat :=
  if groups.any (fun f => decide (34 < f)) ∨ 26 < frame then 2
  else if groups.any (fun f => decide (2 < f)) ∨ 2 < frame then 1
  else 0

/-- A direction as training leaves it. [DEDUCED, log entry 35] -/
def trainDir (x : BondDir) (groups : List Nat) (frame : Nat) : BondDir :=
  let g := (List.range 8).map (fun i => groups.getD i 0)
  { x with st := dirState g frame, grps := g.map spareCode, frame := spareCode frame }

/-- Spares in use in a direction (R358). -/
def BondDir.spares (x : BondDir) : Nat := (x.grps.map spareUse).sum + spareUse x.frame

/-- LINK_DEGRADED of a bond change (R358). -/
def State.bondEvent (s : State) (n p d : Nat) : State :=
  let x := s.bond n p d
  s.raise 0x01D (2 + 2 ^ 4 * n + 2 ^ 10 * p + 2 ^ 15 * d + 2 ^ 16 * x.st + 2 ^ 20 * x.spares)

/-- The tile that a slice port serves has failed with its port (R357). -/
def State.portFails (s : State) (n : Nat) : State :=
  match s.tileAt n with
  | some t => s.failUnit t none
  | none => s

/-- What a change of a direction raises: its first fold, or its failure (R356, R357). -/
def State.bondChanged (s : State) (n p d was : Nat) : State :=
  let st := (s.bond n p d).st
  if st = was then s
  else if st = 2 then ((s.bondEvent n p d).markDist).portFails n
  else if st = 1 then (s.bondEvent n p d).markDist
  else s

/-! ### Retries and retraining (R355) -/

/-- CRC errors of a port within the last millisecond, both directions. [DEDUCED, log entry 35] -/
def State.recentCrc (s : State) (n p : Nat) : Nat :=
  (((s.bond n p 0).recent ++ (s.bond n p 1).recent).filter (fun t => decide (s.now < t + 1000000))).length

/-- Both directions of a port stop counting and retrain. [DEDUCED, log entry 35] -/
def State.startRetrain (s : State) (n p : Nat) : State :=
  [0, 1].foldl (fun t d => t.setBond n p d { t.bond n p d with recent := [], retraining := true }) s

/-- One bit of the CRC-8 of a beat, with the polynomial 0x07 (R353). -/
def crc8Bit (c : Nat) (b : Bool) : Nat :=
  let t := (c * 2) % 256
  if bit c 7 != b then t ^^^ 0x07 else t

/-- CRC-8 of a beat, from 0x00: its data bits, then frame bits [39:0], each from its lowest byte on and in a byte from the highest
bit down. [DEDUCED, log entry 35] -/
def beatCrc (data : Bytes) (frame : BitVec 48) : Nat :=
  ((data ++ toLe 5 (frame.toNat % 2 ^ 40)).flatMap (fun (b : Byte) => (List.range 8).map (fun i => b.getLsbD (7 - i)))).foldl crc8Bit 0

/-- A receiving end takes a beat: its CRC is right and its CH is not reserved (R353, R355). -/
def beatOk (data : Bytes) (frame : BitVec 48) : Bool :=
  bits frame.toNat 47 40 == beatCrc ((data ++ zeros 64).take 64) frame && decide (bits frame.toNat 3 0 ≤ 0xA)

/-- BOND_NAK_RETRY (R353, R355): a beat received with a CRC mismatch or a reserved CH is discarded and counted, and the fourth
within 1 ms starts a retrain; the beat that is resent is neither lost nor repeated. -/
def execBondNakRetry (region port : Nat) (beat : Beat) (s : State) : Host.Outcome State Fault Refusal :=
  within "region" region 36 <| within "slice port" port 32 <| within "direction" beat.dir 2 <|
  done s <|
    let x := s.bond region port beat.dir
    if (s.site region).bs ≠ 2 ∨ x.st = 2 ∨ beatOk beat.data beat.frame = true then s
    else
      let t := s.setBond region port beat.dir { x with
        crc := satAdd x.crc 1 0xFFFFFFFF
        recent := x.recent.filter (fun u => decide (s.now < u + 1000000)) ++ [s.now] }
      if 4 ≤ t.recentCrc region port then t.startRetrain region port else t

/-- BOND_RETRAIN (R355 to R357): a retrain of one direction ends; failing twice in a row, or with too few good bonds, it fails the
port. [DEDUCED, log entry 35] -/
def execBondRetrain (f : PortFind) (ok : Bool) (s : State) : Host.Outcome State Fault Refusal :=
  within "region" f.region 36 <| within "slice port" f.port 32 <| within "direction" f.dir 2 <|
  done s <|
    let x := s.bond f.region f.port f.dir
    if !x.retraining then s
    else
      let y := { x with retrains := satAdd x.retrains 1 0xFFFF }
      let z := if ok then { trainDir y f.groups f.frame with retraining := false, fails := 0 }
        else if 2 ≤ x.fails + 1 then { y with st := 2, retraining := false, fails := 0 }
        else { y with fails := x.fails + 1 }
      (s.setBond f.region f.port f.dir z).bondChanged f.region f.port f.dir x.st

/-! ### A tile die that is reset or loses its clock (R362, R408) -/

/-- TILE_DIE_RESET (R362, R408): the site's ports are isolated, its tile fenced and its partition quiesced. -/
def execTileDieReset (tile : Nat) (s : State) : Host.Outcome State Fault Refusal :=
  within "tile" tile 32 <|
  done s <|
    let x := s.tile tile
    match x.site with
    | none => s
    | some n =>
      if x.off || x.clockLost then s
      else
        let s1 := s.setSite n { s.site n with bs := 3 }
        let s2 := if x.fenced then s1 else s1.fenceUnit tile none false
        let busy := x.task.isSome
        let s3 := { s2.setTile tile { s2.tile tile with clockLost := true } with
          svc.repairs := s2.svc.repairs.filter (fun e => e.tile != tile) ++ [⟨tile, none, busy, !busy, none⟩] }
        if busy then s3.enterQuiesce tile none else s3

/-- The wait for a tile's clock ends: the quiesce made for it ends too. -/
def State.endClockWait (s : State) (t : Nat) : State :=
  let s1 := s.setTile t { s.tile t with clockLost := false }
  { s1 with svc.repairs := s1.svc.repairs.filter (fun e => e.tile != t) }.leaveQuiesce t none

/-- The tile has failed: a spare takes over, or R405 applies. -/
def State.clockFailed (s : State) (t : Nat) : State :=
  if s.autospare && s.hasSpare t none then s.setTile t { s.tile t with clockLost := false }
  else (s.endClockWait t).startRecovery t none none

/-- TILE_CLOCK_RETURN (R408): the retrained tile that passes its segments returns FENCED (R407); what its die held is lost.
[DEDUCED, log entry 33] -/
def execTileClockReturn (tile : Nat) (ok : Bool) (s : State) : Host.Outcome State Fault Refusal :=
  within "tile" tile 32 <|
  done s <|
    let x := s.tile tile
    match x.site with
    | none => s
    | some n =>
      if !x.clockLost then s
      else if ok then
        let s1 := ((s.setSite n { s.site n with bs := 2 }).endClockWait tile).loseTile tile
        (s1.setTile tile { s1.tile tile with epoch := ((s1.tile tile).epoch + 1) % 2 ^ 32 }).markDist
      else s.clockFailed tile

/-- TILE_CLOCK_WAIT_EXPIRE (R408): 5 ms without the clock. -/
def execTileClockWaitExpire (tile : Nat) (s : State) : Host.Outcome State Fault Refusal :=
  within "tile" tile 32 <| done s (if (s.tile tile).clockLost then s.clockFailed tile else s)

end Sys2Proof.Machine
end

