-- ==== Sys2Proof/Machine/Partner.lean ====
section
/-!
DEFINITION. Partner sites (R363 to R373): the descriptor and its negotiation, the power budget, lanes that fail, and a partner die
that is lost and comes back.
-/

namespace Sys2Proof.Machine

/-! ### Negotiation (R365, R366) -/

/-- Ordering code of a site, as ID_MODULE shows it. -/
def State.partCode (s : State) (site : Nat) : Nat := if site = 0 then s.fuse.partA else s.fuse.partB
/-- Whether the ordering code marks a site populated: it is not "00". -/
def State.populated (s : State) (site : Nat) : Bool := s.partCode site != 0x3030

/-- The first step of R366 that a descriptor fails, 0 for none: its four checks, then rate and protocol.
[DEDUCED, log entry 40] -/
def State.descFails (s : State) (site : Nat) (d : Bytes) : Nat :=
  let rates := le d 14 1
  let proto := le d 15 1
  let ok : List Bool := [
    le d 0 4 == 0x54524150 && le d 4 2 == 1,
    d.length == 256 && le d 252 4 == crc32c (d.take 252),
    zeroAt d 11 1 && zeroAt d 21 1 && zeroAt d 29 3 && zeroAt d 64 64 && bits rates 7 2 == 0 && bits proto 7 5 == 0
      && (List.range 4).all (fun m => decide (le d (16 + m) 1 ≤ 4)),
    s.populated site && le d 12 2 == s.partCode site,
    rates != 0,
    bit proto 0 || ((bit proto 4 || bit proto 3) && (bit proto 1 || bit proto 2))]
  match ok.findIdx? (! ·) with
  | some i => i + 1
  | none => 0

/-- PS_PROTO that negotiation settles on: 0 native, 1 CXL 68 B, 2 CXL 256 B. -/
def protoOf (d : Bytes) : Nat := if bit (le d 15 1) 0 then 0 else if bit (le d 15 1) 4 then 2 else 1
/-- Whether the protocol supports a role (Table 11.5). -/
def roleOk (d : Bytes) (r : Nat) : Bool :=
  if protoOf d = 0 then true else if r = 0 then bit (le d 15 1) 1 else if r = 1 then bit (le d 15 1) 2 else r == 4
/-- The role a module takes: one refused becomes NONE, and only the first takes DEBUG. -/
def roleOf (d : Bytes) (m : Nat) : Nat :=
  let r := le d (16 + m) 1
  if !roleOk d r then 4
  else if r = 3 ∧ (List.range m).any (fun k => le d (16 + k) 1 == 3) then 4
  else r

/-- The site that a descriptor without failures gives (R366). [DEDUCED, log entry 40] -/
def State.negotiated (s : State) (site : Nat) (d : Bytes) (epoch : Nat) : PSite :=
  let starved := decide (s.partnerCap site < pdMin d)
  let role (m : Nat) : Nat := if starved then 4 else roleOf d m
  let coh := (List.range 4).any (fun m => role m == 1)
  { st := 2
    proto := protoOf d
    epoch := epoch
    mods := (List.range 4).map (fun m => { role := role m, width := 0, rate := if bit (le d 14 1) 1 then 0 else 1 })
    agents := if coh then min 32 (le d 20 1) else 0
    cache := if coh then min 2048 (le d 22 2) else 0
    pgrant := if starved then 0 else pdMin d
    desc := d }

/-- What training a site gives, with the first failing step, and the status that a stated failure has (R365).
[DEDUCED, log entry 40] -/
def State.trainSite (s : State) (site : Nat) (f : PartnerFind) (epoch : Nat) : PSite × Nat × Status :=
  if !f.trained then
    (if s.populated site then ({ st := 5, epoch := epoch }, 0, .timeout) else ({ epoch := epoch }, 0, .ok))
  else
    match s.descFails site f.desc with
    | 0 => (s.negotiated site f.desc epoch, 0, .ok)
    | k => ({ st := 5, epoch := epoch }, k, .ok)

/-- Put a site in place: its agents join the coherent domain. -/
def State.placeSite (s : State) (site : Nat) (x : PSite) : State :=
  let t := (s.setPsite site x).grantSite site x.pgrant
  { t with coh.partners := t.coh.partners.filter (fun a => (a - 384) / 32 != site) ++ (List.range x.agents).map (384 + 32 * site + ·) }

/-! ### Budget (R371) -/

/-- PWR_ASK: granted up to the cap. -/
def execPwrAsk (site watts : Nat) (s : State) : Host.Outcome State Fault Refusal :=
  within "site" site 2 <|
  done s <| if (s.psite site).st = 2 then s.grantSite site (min watts (s.askCap site)) else s

/-- PWR_TELE: the site's power and its hottest junction. -/
def execPwrTele (site watts temp : Nat) (s : State) : Host.Outcome State Fault Refusal :=
  within "site" site 2 <|
  done s <|
    if (s.psite site).st = 2 then s.setPsite site { s.psite site with pmeas := watts % 2 ^ 16, tmeas := temp % 2 ^ 8 } else s

/-- A partner die is lost (R373): the site is FENCED and its agents reclaimed; its waits on cells end. -/
def State.fenceSite (s : State) (site : Nat) : State :=
  let ags := (List.range (s.psite site).agents).map (384 + 32 * site + ·)
  let t := ags.foldl State.reclaim s
  let mine (w : Waiter) : Bool := match w with | .partner x _ _ => x == site | _ => false
  let t := { t with
    coh.partners := t.coh.partners.filter (fun a => !ags.contains a)
    sync.table := t.sync.table.filter (fun e => !mine e.w)
    sync.queued := t.sync.queued.filter (fun e => !mine e.w)
    sync.wakes := t.sync.wakes.filter (fun k => !mine k.w) }
  (t.setPsite site { t.psite site with st := 3, desc := [] }).markDist

/-- PARTNER_OVERRUN: PS_OVER is set and the grant cut to PD_PMIN; a condition that lasts 10 ms more resets the die, which is
recorded in the event log. [DEDUCED, log entry 40] -/
def execPartnerOverrun (site : Nat) (lasted : Bool) (s : State) : Host.Outcome State Fault Refusal :=
  within "site" site 2 <|
  done s <|
    let x := s.psite site
    if x.st ≠ 2 then s
    else if !lasted then (s.setPsite site { x with overrun := true }).grantSite site (min x.pgrant (pdMin x.desc))
    else if x.overrun then
      let r := s.freshNat
      (r.2.fenceSite site).logRec r.1 0xFF site
    else s

/-- PARTNER_FENCE (R373). -/
def execPartnerFence (site : Nat) (s : State) : Host.Outcome State Fault Refusal :=
  within "site" site 2 <| done s (if (s.psite site).st = 2 then s.fenceSite site else s)

/-- PARTNER_DIE_RETURN (R373): the site trains and negotiates again; PS_EPOCH advances, and it stays FENCED until PS_READMIT.
[DEDUCED, log entry 40] -/
def execPartnerDieReturn (site : Nat) (f : PartnerFind) (s : State) : Host.Outcome State Fault Refusal :=
  within "site" site 2 <|
  done s <|
    let x := s.psite site
    if x.st ≠ 3 ∨ x.desc ≠ [] then s
    else
      let r := (s.trainSite site f ((x.epoch + 1) % 2 ^ 32)).1
      (s.placeSite site (if r.st = 2 then { r with st := 3, drop := x.drop } else { r with drop := x.drop })).markDist

/-! ### Lanes (R372) -/

/-- A UCIe module after a lane that no redundant lane replaces: x32, then 16 GT/s, then down. -/
def UMod.degrade (u : UMod) : UMod :=
  if u.width = 0 then { u with width := 1 } else if u.rate = 0 then { u with rate := 1 } else { u with width := 3 }

/-- UCIE_LANE_FAIL (R372). -/
def execUcieLaneFail (site m : Nat) (repaired : Bool) (s : State) : Host.Outcome State Fault Refusal :=
  within "site" site 2 <| within "UCIe module" m 4 <|
  done s <|
    let x := s.psite site
    let u := x.mods.getD m {}
    if repaired || x.st != 2 || u.role == 7 || u.width == 3 then s
    else
      let v := u.degrade
      let t := (s.setPsite site { x with mods := x.mods.set m v }).markDist
      (t.raise 0x01D (1 + 2 ^ 4 * site + 2 ^ 5 * m + 2 ^ 8 * v.width + 2 ^ 10 * v.rate)).slowNotice 2 1000

end Sys2Proof.Machine
end

