-- ==== Sys2Proof/Machine/StartUp.lean ====
section
/-!
DEFINITION. Power-on and the stages of start-up (R375 to R388, R469), their reports (R382) and the topology check (R385, R386).
-/

namespace Sys2Proof.Machine

/-! ### Reports (R382) -/

/-- What the common part of a stage report says, with its detail. -/
structure StageRep where
  dur : Nat
  found : Nat := 0
  tested : Nat := 0
  failed : Nat := 0
  spared : Nat := 0
  status : Nat := 0
  hold : Nat := 0
  detail : Bytes := []

/-- The 256 bytes of a report (Table 12.2). -/
def stageBytes (k res boot start : Nat) (r : StageRep) : Bytes :=
  sealReport (toLe 1 k ++ toLe 1 res ++ toLe 2 r.hold ++ toLe 4 boot ++ toLe 8 start ++ toLe 4 r.dur ++ toLe 2 r.found ++
    toLe 2 r.tested ++ toLe 2 r.failed ++ toLe 2 r.spared ++ toLe 1 r.status ++ zeros 35 ++ (r.detail ++ zeros 188).take 188)

/-- A stage ends with a result (Table 12.2): its report is written, and logged unless it passed; FAILED ends start-up (R378).
[DEDUCED, log entry 15] -/
def State.endStage (s : State) (k res : Nat) (r : StageRep) : State :=
  let b := stageBytes k res s.flash.boots s.boot.start r
  let s1 := { s with boot.reports := tset (fun _ => []) s.boot.reports k b }
  let s2 := if res = 0 then s1 else s1.logRec 0x1007 0xFF (le b 0 8) ((b.drop 8).take 24)
  if res = 3 then { s2 with boot.failed := true, boot.running := false }
  else if k = 9 then { s2 with boot.running := false }
  else { s2 with boot.stage := k + 1, boot.start := s.now }

/-- A stage ends PASS, or PASS_DEGRADED when a unit failed or a spare was taken. -/
def State.passStage (s : State) (k : Nat) (r : StageRep) (degraded : Bool := false) : State :=
  s.endStage k (if degraded || r.failed != 0 || r.spared != 0 then 1 else 0) r

/-- Bound of a stage in microseconds (Table 12.1). [DEDUCED, log entry 15] -/
def stageBound (k : Nat) : Nat :=
  [8000, 12000, 1200000, 1500000, 2000000, 4000000, 300000, 500000, 2000000, 200000].getD k 0

/-- Run a stage that is in progress; one that has passed its bound is FAILED (R377). [DEDUCED, log entry 15] -/
def State.stage (s : State) (k dur : Nat) (f : State → State) : State :=
  if !s.boot.powered || !s.boot.running || s.boot.stage != k then s
  else if stageBound k < dur then s.endStage k 3 { dur := dur, status := stCode .timeout }
  else f s

/-- SR_STATUS of a failure for which no rule gives a code: a free byte. [DEDUCED, log entry 15] -/
def State.openStatus (s : State) (failed : Bool) : Nat × State :=
  if failed then (s.freshByte.1.toNat, s.freshByte.2) else (0, s)

/-- A flag for each element of a list of numbers. -/
def maskOf (l : List Nat) : Nat := bitsOf l.eraseDups

/-! ### Power-on (R375) -/

/-- The module without power: what is left is the fuses, the flash, the pin, and what the module has sent out. -/
def State.dark (s : State) : State :=
  { fuse := s.fuse, flash := s.flash, out := s.out, free := s.free, pending := s.pending, boot := { perst := s.boot.perst } }

/-- Start-up begins at S0. -/
def State.startUp (s : State) : State :=
  { s with boot.running := true, boot.stage := 0, boot.start := 0, boot.reports := [], power.rounds := 0 }

/-- Level of the monitor at reset (Table 15.4). -/
def Fuse.monLevel (f : Fuse) : Nat := if f.lifecycle = 0 then 2 else 0

/-- POWER_ON (R375): the input lies within 33 V to 52 V, the converters are good, and REFCLK is present. -/
def execPowerOn (vin : Nat) (refclk : Bool) (s : State) : Host.Outcome State Fault Refusal :=
  if s.boot.powered || !refclk || decide (vin < 33000) || decide (52000 < vin) then done s s
  else
    let d := s.dark
    let b : Boot := { d.boot with powered := true, refclk := true, cold := true }
    doneAt s { d with boot := b, power.vin := vin, mgmt.level := s.fuse.monLevel }.startUp 0

/-! ### S0 (R376, R383, R388) -/

/-- Power limit in W and M-row ceiling in MHz of a variant (Table 0.1). -/
def variantLimits (v : Nat) : Nat × Nat := if v = 0 then (2000, 1250) else if v = 1 then (1600, 1000) else (1200, 750)

/-- The bank that the boot ROM starts, and whether it fell back: the active one, or the other when it fails its check.
[DEDUCED, log entry 16] -/
def pickBank (active : Nat) (ok0 ok1 : Bool) : Option (Nat × Bool) :=
  let ok (b : Nat) : Bool := if b = 0 then ok0 else ok1
  if ok active then some (active, false) else if ok (1 - active) then some (1 - active, true) else none

/-- Magic, version and reserved bytes of an expected topology record (Table 12.4). -/
def topoForm (b : Bytes) : Bool :=
  b.length == 256 && le b 0 4 == 0x4F504F54 && le b 4 2 == 1 && zeroAt b 22 2 && zeroAt b 38 2 && zeroAt b 46 2 && zeroAt b 96 156
/-- CRC of a record of 256 bytes. -/
def crcOk256 (b : Bytes) : Bool := le b 252 4 == crc32c (b.take 252)
/-- A valid copy (R383). -/
def topoValid (b : Bytes) : Bool := topoForm b && crcOk256 b
/-- TR_SEQ. -/
def topoSeq (b : Bytes) : Nat := le b 8 4

/-- The valid copy with the higher TR_SEQ, and whether it is the second one (R383). -/
def Flash.topo (f : Flash) : Option (Bytes × Bool) :=
  match f.topo0.filter topoValid, f.topo1.filter topoValid with
  | some a, some b => if topoSeq a < topoSeq b then some (b, true) else some (a, false)
  | some a, none => some (a, false)
  | none, some b => some (b, true)
  | none, none => none

/-- A valid event log record with EL_CODE 0x01A. -/
def shutValid (b : Bytes) : Bool := b.length == 64 && le b 4 2 == 0x01A && le b 60 4 == crc32c (b.take 60)
/-- A valid acknowledgement of a shutdown record (R435). -/
def ackValid (r b : Bytes) : Bool := shutValid b && le b 0 4 == le r 0 4 && le b 32 1 == 0xAC

/-- The shutdown record that has not been acknowledged. -/
def Flash.shutWaits (f : Flash) : Option Bytes :=
  match f.shutRec.filter shutValid with
  | some r => (match f.shutAck with
    | some a => if ackValid r a then none else some r
    | none => some r)
  | none => none

/-- The shutdown sector is erased when it holds an acknowledged record (R435). -/
def State.eraseAcked (s : State) : State :=
  if s.flash.shutRec.isSome && s.flash.shutWaits.isNone && s.flashOk then
    { s with flash.shutRec := none, flash.shutAck := none }
  else s

/-- The entries of a type of the field-repair record, oldest first. -/
def State.repairs (s : State) (k : Nat) : List Nat := (s.flash.repair.filter (fun e => e.kind == k)).map (·.payload)

/-- The Barometer plans of the field-repair record return (R399). -/
def State.restorePlans (s : State) : State :=
  (s.repairs 9).foldl (fun t p =>
    let i := bits p 7 0
    if i < 184 then
      t.setIsland i { t.island i with
        offset := bits p 13 8
        ceil := bits p 31 16
        capped := decide (bits p 31 16 < islandTop t i)
        replan := ((t.island i).replan + 1) % 2 ^ 16 }
    else t) s

/-- The strips and corners run at their own clocks. -/
def State.powerEdges (s : State) : State :=
  ((List.range 8).map (· + 184)).foldl (fun t i => t.setIsland i { t.island i with off := false, stopped := false, clk := Config.ownClock i }) s

/-- S0 has run: the variant's limits, the records of flash, and the timebase, which counts from here (R47). -/
def State.s0Pass (s : State) (r : S0Find) (bank : Nat) (fell : Bool) : State :=
  let lim := variantLimits s.fuse.variant
  let t := s.eraseAcked
  let wait := t.flash.shutWaits
  let topo := t.flash.topo
  let b : Boot := { t.boot with
    bank := bank
    fallback := fell
    limitW := lim.1
    ceilMhz := lim.2
    topo := topo.map (·.1)
    shutPending := wait.isSome
    aqclk := r.aqclk
    ticking := true }
  let u := { t with boot := b, now := 0 }
  let v := (if s.boot.cold then u.restorePlans else u).powerEdges
  let second : Bool := match topo with | some (_, x) => x | none => false
  let det := toLe 1 bank ++ toLe 1 (b2n fell + 2 * b2n wait.isSome + 4 * b2n topo.isSome + 8 * b2n second) ++ toLe 1 s.fuse.variant ++
    zeros 5 ++ toLe 8 (match wait with | some x => le x 8 8 | none => 0)
  v.passStage 0 { dur := r.dur, found := 2, tested := 2, failed := if s.boot.cold then b2n (!r.bank0Ok) + b2n (!r.bank1Ok) else 0, hold := b2n wait.isSome, detail := det } fell

/-- What S0 does: a module reset does not rerun the boot ROM (R389); both banks bad end start-up (R378).
[DEDUCED, log entry 16; DESIGN CHOICE, log entry 14] -/
def State.s0Run (s : State) (r : S0Find) : State :=
  let t := { s with flash.boots := (s.flash.boots + 1) % 2 ^ 32 }
  if !s.boot.cold then t.s0Pass r s.boot.bank s.boot.fallback
  else
    match pickBank s.flash.active (r.bank0Ok && s.flash.ok0) (r.bank1Ok && s.flash.ok1) with
    | some (b, fell) => t.s0Pass r b fell
    | none =>
      let q := t.openStatus true
      q.2.endStage 0 3 { dur := r.dur, found := 2, tested := 2, failed := 2, status := q.1 }

/-- STAGE_S0 (R377, R381). -/
def execStageS0 (r : S0Find) (s : State) : Host.Outcome State Fault Refusal :=
  let t := s.stage 0 r.dur (·.s0Run r)
  doneAt s t t.now

/-! ### S1 (R378, R381) -/

/-- What S1 does. [DEDUCED, log entry 16] -/
def State.s1Run (s : State) (r : S1Find) : State :=
  let ok := r.trained && decide (3 ≤ r.gen) && decide (r.gen ≤ 6) && (r.width == 4 || r.width == 8 || r.width == 16)
  let bad := ones 16 r.lanesFailed
  let q := s.openStatus (!ok || bad != 0)
  let det := toLe 1 r.gen ++ toLe 1 r.width ++ toLe 2 r.lanesFailed
  if ok then
    let t := { q.2 with boot.gen := r.gen, boot.width := r.width }
    t.passStage 1 { dur := r.dur, found := 16, tested := 16, failed := bad, status := q.1, detail := det }
  else q.2.endStage 1 3 { dur := r.dur, found := 16, tested := 16, failed := bad, status := q.1, detail := det }

/-- STAGE_S1: it runs once PERST# is released. -/
def execStageS1 (r : S1Find) (s : State) : Host.Outcome State Fault Refusal :=
  done s (if s.boot.perst then s else s.stage 1 r.dur (·.s1Run r))

/-! ### S2 (R395, R397, R469) -/

/-- A row is given a spare row of its sub-array; with none left its unit is retired. `found` marks one that the march finds, which
is entered in the field-repair record. -/
def State.spareRow (s : State) (found : Bool) (r : Nat × Nat × Nat) : State :=
  if s.cistern.rows.contains r then s
  else
    let used := (s.cistern.rows.filter (fun x => x.1 == r.1 && x.2.1 == r.2.1)).length
    if 8 ≤ used then s.retireUnit (1536 * (r.1 / 32) + (1024 * r.2.1 + 8 * r.2.2) / 16)
    else
      let t := { s with cistern.rows := s.cistern.rows ++ [r] }
      if found then t.addRepair 4 (r.1 + 2 ^ 11 * r.2.1 + 2 ^ 16 * r.2.2 + 2 ^ 24 * used) else t

/-- A bit of a sub-array is given a spare column; with none left the units of the sub-array are retired. -/
def State.spareCol (s : State) (found : Bool) (c : Nat × Nat × Nat) : State :=
  if s.cistern.cols.contains c then s
  else
    let used := (s.cistern.cols.filter (fun x => x.1 == c.1 && x.2.1 == c.2.1)).length
    if 2 ≤ used then (List.range 64).foldl (fun t u => t.retireUnit (1536 * (c.1 / 32) + 64 * c.2.1 + u)) s
    else
      let t := { s with cistern.cols := s.cistern.cols ++ [c] }
      if found then t.addRepair 5 (c.1 + 2 ^ 11 * c.2.1 + 2 ^ 16 * c.2.2 + 2 ^ 25 * used) else t

/-- Spare rows, spare columns and retired units of the fuse map and the field-repair record, then those the march finds. -/
def State.mendCistern (s : State) (r : S2Find) : State :=
  let units := ((s.repairs 6).map (fun p => 1536 * bits p 5 0 + bits p 26 16)).eraseDups
  let rows := s.fuse.rows ++ (s.repairs 4).map (fun p => (bits p 10 0, bits p 15 11, bits p 22 16))
  let cols := s.fuse.cols ++ (s.repairs 5).map (fun p => (bits p 10 0, bits p 15 11, bits p 24 16))
  let s1 := { s with cistern.retired := units }
  let s2 := cols.foldl (State.spareCol · false) (rows.foldl (State.spareRow · false) s1)
  r.badCols.foldl (State.spareCol · true) (r.badRows.foldl (State.spareRow · true) s2)

/-- The region islands run at their nominal clock, within their limits. -/
def State.powerRegions (s : State) : State :=
  (List.range 4).foldl (fun t q => t.setIsland q { t.island q with off := false, stopped := false, point := 1600, clk := min 1600 (t.islandLimit q) }) s

/-- What S2 does; every granule of the Cistern is left zero. [DEDUCED, log entry 16] -/
def State.s2Run (s : State) (r : S2Find) : State :=
  if r.fatal then
    let q := s.openStatus true
    q.2.endStage 2 3 { dur := r.dur, found := 1152, tested := 1152, status := q.1 }
  else
    let t := (s.powerRegions.mendCistern r).zeroRange cisternBase cisternEnd
    let bad := ((r.badRows ++ r.badCols).map (·.1)).eraseDups
    let spared := ((t.cistern.rows ++ t.cistern.cols).map (·.1)).eraseDups
    let q := t.openStatus (!bad.isEmpty)
    q.2.passStage 2 { dur := r.dur, found := 1152, tested := 1152, failed := bad.length, spared := spared.length, status := q.1, detail := toLe 8 (maskOf (spared.map (· / 32))) ++ toLe 4 t.cistern.retired.length }
      (!t.cistern.retired.isEmpty)

/-- STAGE_S2. -/
def execStageS2 (r : S2Find) (s : State) : Host.Outcome State Fault Refusal := done s (s.stage 2 r.dur (·.s2Run r))

/-! ### S3 (R361) -/

/-- The ports train anew, with the failed bonds found. -/
def State.trainBonds (s : State) (fs : List PortFind) : State :=
  fs.foldl (fun t f =>
    if f.region < 36 ∧ f.port < 32 ∧ f.dir < 2 then
      t.setBond f.region f.port f.dir { trainDir (t.bond f.region f.port f.dir) f.groups f.frame with retraining := false, recent := [], fails := 0 }
    else t) { s with bonds := [] }

/-- Whether a port has a direction in a state. -/
def State.portHas (s : State) (n p st : Nat) : Bool := (s.bond n p 0).st == st || (s.bond n p 1).st == st
/-- The ports, 32 × region + port, of the sites that satisfy a test. -/
def portsWith (f : Nat → Nat → Bool) : List Nat := (List.range 1152).filter (fun k => f (k / 32) (k % 32))

/-- What S3 does: every site is powered and its ports trained. [DEDUCED, log entry 16] -/
def State.s3Run (s : State) (r : S3Find) : State :=
  let t := ((List.range 36).foldl (fun u n => u.powerSite n true) s).trainBonds r.ports
  let dead := portsWith (fun n p => t.portHas n p 2)
  let folded := portsWith (fun n p => t.portHas n p 1)
  let spares (k : Nat) : Nat := (t.bond (k / 32) (k % 32) 0).spares + (t.bond (k / 32) (k % 32) 1).spares
  let listed := (s.repairs 1).map (bits · 5 0)
  let u := (List.range 36).foldl (fun v n =>
    let broken := dead.any (fun k => k / 32 == n)
    v.setSite n { v.site n with good := !listed.contains n && !r.badSites.contains n && !broken, bs := if broken then 0 else 2, dieMode := 0 }) t
  let q := u.openStatus (!dead.isEmpty)
  let det := toLe 8 (maskOf (folded.map (· / 32))) ++ toLe 8 (maskOf (dead.map (· / 32))) ++ toLe 2 folded.length ++
    toLe 2 (((List.range 1152).map spares).sum)
  q.2.passStage 3 { dur := r.dur, found := 1152, tested := 1152, failed := dead.length, spared := ((List.range 1152).filter (fun k => spares k != 0)).length, status := q.1, detail := det }
    (!folded.isEmpty || !r.badSites.isEmpty)

/-- STAGE_S3. -/
def execStageS3 (r : S3Find) (s : State) : Host.Outcome State Fault Refusal := done s (s.stage 3 r.dur (·.s3Run r))

/-! ### S4 (R17 to R19, R34) -/

/-- Physical positions of a row (Table 2.1). -/
def rowPhysical (r : Nat) : Nat := rowLogical r + 1

/-- The spare site of each quadrant: the fuses', or the last one of that quadrant that the field-repair record names (R17). -/
def State.chooseSpares (s : State) : List Nat :=
  (s.repairs 2).foldl (fun l p => if quadOf (bits p 7 2) = bits p 1 0 ∧ bits p 7 2 < 36 then l.set (bits p 1 0) (bits p 7 2) else l) s.fuse.spareSites

/-- The sites that a quadrant's logical tiles take, in the order of R18: with a site of the other eight lost, the spare serves.
[DEDUCED, log entry 16] -/
def State.quadActive (s : State) (q spare : Nat) : List Nat :=
  let good := (quadSites q).filter (fun n => (s.site n).good)
  let active := good.filter (· != spare)
  if active.length = 8 then active else good

/-- Number the tiles of a quadrant: the indices left over are absent (R18, R19). -/
def State.numberQuad (s : State) (q spare : Nat) : State :=
  let act := s.quadActive q spare
  let t := (List.range 8).foldl (fun u i =>
    match act[i]? with
    | some n =>
      let rows := (List.range 6).map (u.site n).rowMap
      let shifted := (List.range 6).filter (fun r => (rows.getD r []).contains (some (rowLogical r)))
      u.setTile (8 * q + i) { site := some n, rows := rows, shifted := shifted }
    | none => u.setTile (8 * q + i) {}) s
  { t with
    dist.spareUsed := if act.contains spare then t.dist.spareUsed ++ [q] else t.dist.spareUsed
    dist.spareBad := if (t.site spare).good then t.dist.spareBad else t.dist.spareBad ++ [q] }

/-- The logical tiles of the four quadrants. -/
def State.numberTiles (s : State) : State :=
  let sp := s.chooseSpares
  let s1 := { s with dist.spares := sp, dist.spareUsed := [], dist.spareBad := [] }
  ((List.range 4).foldl (fun t q => t.numberQuad q (sp.getD q 0)) s1).assignTiles (List.range 8)

/-- Logical cores that are absent in the tiles that are present. [DEDUCED, log entry 52] -/
def State.absentCores (s : State) : Nat :=
  ((List.range 32).map (fun t => if (s.tile t).site.isSome then
    ((s.tile t).rows.map (fun (m : List (Option Nat)) => (m.filter (·.isNone)).length)).sum else 0)).sum

/-- What S4 does; the distance table is first written, and the sites that serve no tile are powered down.
[DEDUCED, log entry 16; DESIGN CHOICE, log entry 5] -/
def State.s4Run (s : State) (r : S4Find) : State :=
  let bad := ((s.repairs 3).map (fun p => (bits p 5 0, bits p 10 8, bits p 15 12)) ++ r.badCores).filter
    (fun b => decide (b.1 < 36) && decide (b.2.1 < 6) && decide (b.2.2 < rowPhysical b.2.1))
  let t := ((List.range 36).foldl (fun u n => u.setSite n { u.site n with good := (u.site n).good && !r.badSites.contains n, badPos := ((bad.filter (fun b => b.1 == n)).map (·.2)).eraseDups }) s).numberTiles
  let used := (List.range 32).filterMap (fun i => (t.tile i).site)
  let u := (((List.range 36).filter (fun n => !used.contains n)).foldl (fun v n => v.powerSite n false) t).retimeAll
  let v := u.updateTable
  let badSites := (List.range 36).filter (fun n => !(v.site n).good)
  let failed := 34 * badSites.length + (((List.range 36).filter (fun n => (v.site n).good)).map (fun n => (v.site n).badPos.length)).sum
  let shifted := (List.range 32).filter (fun i => !(v.tile i).shifted.isEmpty)
  let absent := (List.range 32).filter (fun i => (v.tile i).site.isNone)
  let det := toLe 4 (bitsOf absent) ++ ((List.range 4).map (fun q => BitVec.ofNat 8 (v.spareByte q))) ++ toLe 8 (bitsOf badSites) ++
    toLe 4 (bitsOf shifted) ++ toLe 2 v.absentCores
  let q := v.openStatus (failed != 0)
  q.2.passStage 4 { dur := r.dur, found := 1224, tested := 1224, failed := failed, spared := ((List.range 32).map (fun i => (v.tile i).shifted.length)).sum + v.dist.spareUsed.length, status := q.1, detail := det }

/-- STAGE_S4. -/
def execStageS4 (r : S4Find) (s : State) : Host.Outcome State Fault Refusal := done s (s.stage 4 r.dur (·.s4Run r))

/-! ### S5 (R228, R237, R242, R469) -/

/-- The remapped rows of a stack that the field-repair record lists, as remap entries hold them. -/
def State.remapRows (s : State) (h : Nat) : List Nat :=
  (((s.repairs 7).filter (fun p => bits p 58 56 == h)).map (fun p => bits p 34 1)).eraseDups

/-- A stack after training: its rate, its repaired rows, and the remap entries and retired granules of the field-repair record. -/
def State.trainStack (s : State) (r : S5Find) (h : Nat) : State :=
  let rate := max (min 3 (r.rates.getD h 3)) (s.rateCap h)
  let ppr := r.ppr.getD h (0, 0)
  let rows := (s.remapRows h).drop ppr.2
  let left := (((List.range 1024).zip rows).map (fun (e : Nat × Nat) => (e.1, some e.2)))
  s.setStack h {
    rate := rate
    ppr := ppr.1 + ppr.2
    remap := if rate = 3 then [] else left
    retired := ((s.repairs 8).map (bits · 47 0)).filter (fun g => (dramOf g).h == h)
    ident := if rate = 3 then [] else r.idents.getD h [] }

/-- Whether a byte of HBM belongs to a stack that trained. -/
def State.trained (s : State) (a : Nat) : Bool := decide (a < hbmEnd) && (s.stack (dramOf a).h).rate != 3

/-- HBM after S5: zero at power-on; at a module reset the tested ranges hold the test pattern and the checksum table zero (R469).
[DEDUCED, log entry 52] -/
def State.settleHbm (s : State) (r : S5Find) : State :=
  let t := if s.boot.cold then s.zeroIf s.trained
    else
      (r.tested.foldl (fun u e =>
        if (u.stack e.1).rate = 3 then u
        else (List.range e.2.2.2.2).foldl (fun v i =>
          let a := globalOf ⟨e.1, e.2.1, e.2.2.1, e.2.2.2.1 + i, 0⟩
          (v.zeroRange a (a + 256)).freeRange a 256) u) s).zeroIf (fun a => decide (tableBase ≤ a) && s.trained a)
  { t with seals := [] }

/-- What S5 does. [DEDUCED, log entry 16] -/
def State.s5Run (s : State) (r : S5Find) : State :=
  let s1 := (tkeys s.chans).foldl State.tgHalt s
  let t := ((List.range 8).foldl (fun u h => u.trainStack r h) s1).settleHbm r
  let off := ((List.range 8).filter (fun h => (t.stack h).rate == 3)).length
  let det := (List.range 8).flatMap (fun h => toLe 1 (t.stack h).rate) ++ (List.range 8).flatMap (fun h => toLe 2 (t.stack h).ppr) ++
    (List.range 8).flatMap (fun h => toLe 2 (t.remapUsed h))
  let q := t.openStatus (off != 0)
  q.2.markDist.passStage 5 { dur := r.dur, found := 512, tested := 512, failed := 64 * off, status := q.1, detail := det }

/-- STAGE_S5. -/
def execStageS5 (r : S5Find) (s : State) : Host.Outcome State Fault Refusal := done s (s.stage 5 r.dur (·.s5Run r))

/-! ### S6 -/

/-- What S6 does: directories, sync cells and waiter tables are clear. [DEDUCED, log entry 16] -/
def State.s6Run (s : State) (r : S6Find) : State :=
  let t := { s with coh := { s.coh with dir := [], waiting := [] }, sync := {}, mesh.phases := [0, 0, 0, 0] }
  let q := t.openStatus (r.regions != 0)
  q.2.passStage 6 { dur := r.dur, found := 36, tested := 36, failed := r.regions, status := q.1, detail := toLe 4 r.badDir ++ toLe 4 r.badCells }

/-- STAGE_S6. -/
def execStageS6 (r : S6Find) (s : State) : Host.Outcome State Fault Refusal := done s (s.stage 6 r.dur (·.s6Run r))

/-! ### S7 (R365, R366) -/

/-- What S7 does. [DEDUCED, log entry 16] -/
def State.s7Run (s : State) (a b : PartnerFind) (dur : Nat) : State :=
  let x := s.trainSite 0 a 0
  let y := s.trainSite 1 b 0
  let t := ((s.placeSite 0 x.1).placeSite 1 y.1).markDist
  let mods (u : PSite) : Bytes := (List.range 4).map (fun m => BitVec.ofNat 8 (u.mods.getD m {}).byte)
  let det := toLe 1 x.1.st ++ toLe 1 y.1.st ++ mods x.1 ++ mods y.1 ++ toLe 1 x.2.1 ++ toLe 1 y.2.1
  let first := if x.1.st = 5 then x else y
  let q := t.openStatus (first.1.st == 5 && first.2.2 == .ok)
  q.2.passStage 7 { dur := dur, found := 8, tested := 8, failed := 4 * b2n (x.1.st == 5) + 4 * b2n (y.1.st == 5), status := if first.2.2 = .ok then q.1 else stCode first.2.2, detail := det }

/-- STAGE_S7. -/
def execStageS7 (a b : PartnerFind) (dur : Nat) (s : State) : Host.Outcome State Fault Refusal :=
  done s (s.stage 7 dur (·.s7Run a b dur))

/-! ### S8 (R332, R333, R384) -/

/-- The training of port p: without AQCLK the ports stay DOWN (R438). -/
def State.portFind (s : State) (ports : List PortTrain) (p : Nat) : PortTrain :=
  let t := ports.getD p { up := false, width := 3, rate := 3, peer := none, peerPort := 0 }
  { t with up := t.up && s.boot.aqclk }

/-- What S8 does: the module ID comes from the record, and each port is checked against R333. [DEDUCED, log entry 16] -/
def State.s8Run (s : State) (ports : List PortTrain) (dur : Nat) : State :=
  let id := match s.boot.topo with | some b => bits (le b 6 2) 11 0 | none => 0
  let t := { s with aq.modid := id }
  let u := ((List.range 12).foldl (fun v p => v.trainPort p (s.portFind ports p)) t).markDist
  let wrong := ((List.range 12).filter (fun p => u.portCode p (s.portFind ports p) == 2)).length
  let det := ((List.range 12).flatMap (fun p => u.s8Entry p (s.portFind ports p))) ++ toLe 2 (id + 2 ^ 15 * b2n u.aq.valid)
  let q := u.openStatus (wrong != 0)
  q.2.passStage 8 { dur := dur, found := 12, tested := 12, failed := wrong, status := q.1, detail := det }

/-- STAGE_S8. -/
def execStageS8 (ports : List PortTrain) (dur : Nat) (s : State) : Host.Outcome State Fault Refusal :=
  done s (s.stage 8 dur (·.s8Run ports dur))

/-! ### S9 (R385, R386, R388) -/

/-- Present logical cores of rows lo to hi. -/
def State.rowCount (s : State) (rows : List Nat) : Nat :=
  ((List.range 32).map (fun t => (rows.map (fun r => ((List.range (rowLogical r)).filter (fun p => s.present t r p)).length)).sum)).sum

/-- Vendor, device and code of a partner site as found: zero when EMPTY; none when FAILED, which matches nothing. -/
def PSite.found (x : PSite) : Option Bytes :=
  if x.st = 0 then some (zeros 8)
  else if x.st = 5 then none
  else some ((x.desc.drop 6).take 4 ++ (x.desc.drop 12).take 2 ++ zeros 2)

/-- TR_PEERk as found. -/
def AqPort.found (x : AqPort) : Nat := if x.st = 2 then x.peer + 2 ^ 12 * x.peerPort + 2 ^ 16 * x.width + 2 ^ 18 * x.rate else 2 ^ 30

/-- Ports that differ from a record. -/
def State.portDiff (s : State) (b : Bytes) : List Nat :=
  (List.range 12).filter (fun k =>
    let w := le b (48 + 4 * k) 4
    !bit w 31 && (bits w 19 0 + 2 ^ 30 * b2n (bit w 30)) != (s.port k).found)
/-- Stacks that differ from a record. -/
def State.stackDiff (s : State) (b : Bytes) : List Nat :=
  (List.range 8).filter (fun h => le b (24 + h) 1 != (if (s.stack h).rate = 3 then 0 else 48))

/-- The mismatch word (R386). [DEDUCED, log entry 16] -/
def State.mismatch (s : State) : Nat :=
  match s.boot.topo with
  | none => 2 ^ 6
  | some b =>
    let tiles := bitsOf ((List.range 32).filter (fun t => (s.tile t).site.isSome))
    let cores := s.rowCount [0, 1, 2, 3] != le b 16 2 || s.rowCount [4] != le b 18 2 || s.rowCount [5] != le b 20 2
    let part (i : Nat) : Bool := (s.psite i).found != some ((b.drop (32 + 8 * i)).take 8)
    let ports := s.portDiff b
    let hbms := s.stackDiff b
    b2n (tiles != le b 12 4) + 2 * b2n cores + 4 * b2n (!hbms.isEmpty) + 8 * b2n (part 0) + 16 * b2n (part 1) + 32 * b2n (!ports.isEmpty) +
      2 ^ 8 * bitsOf ports + 2 ^ 20 * bitsOf hbms

/-- The catchment units enter SERVICE, and AQ_ID.VALID is set when the record is valid (R384, R387). -/
def State.enterService (s : State) : State :=
  let t := (List.range 36).foldl (fun u n => u.setCat n { u.cat n with service := true }) s
  { t with aq.valid := s.boot.topo.isSome }

/-- What S9 does: a mismatch holds the module, and a pending shutdown keeps COMPUTE_OFF. [DEDUCED, log entry 16] -/
def State.s9Run (s : State) (dur : Nat) : State :=
  let w := s.mismatch
  let held := w != 0
  let t := if held then s.raise 0x01C w else s.enterService
  let u := { t with boot.ready := true, boot.held := held, boot.computeOff := s.boot.shutPending }
  let q := u.openStatus held
  q.2.endStage 9 (if held then 2 else 0) { dur := dur, found := 6, tested := 6, failed := ones 7 w, hold := 2 * b2n held, status := q.1, detail := toLe 4 w }

/-- STAGE_S9. -/
def execStageS9 (dur : Nat) (s : State) : Host.Outcome State Fault Refusal := done s (s.stage 9 dur (·.s9Run dur))

/-- STAGE_TIMEOUT (R377, R378): the stage in progress ends FAILED. S1 has not begun before PERST# is released.
[DEDUCED, log entry 15] -/
def execStageTimeout (s : State) : Host.Outcome State Fault Refusal :=
  done s <|
    let k := s.boot.stage
    if !s.boot.running || (k == 1 && s.boot.perst) then s
    else s.endStage k 3 { dur := stageBound k, status := stCode .timeout }

/-! ### The end of a hold (R387) -/

/-- ACCEPT_TOPOLOGY. -/
def execAcceptTopology (id : Nat) (s : State) : Host.Outcome State Fault Refusal :=
  done s (s.repairCmd id 3 fun c =>
    let t := { s with
      boot.held := false
      boot.reports := tset (fun _ => []) s.boot.reports 9 (sealReport (putAt (s.report 9) 1 [1])) }
    t.enterService.fails c .ok)

/-- REJECT_TOPOLOGY. -/
def execRejectTopology (id : Nat) (s : State) : Host.Outcome State Fault Refusal :=
  done s (s.repairCmd id 4 fun c => { s with boot.held := false, boot.rejected := true, boot.failed := true }.fails c .ok)

end Sys2Proof.Machine
end

