-- ==== Sys2Proof/Machine/Resets.lean ====
section
/-!
DEFINITION. The resets of Table 12.6 that no command descriptor asks for (R257, R389), PERST# (R379, R381), the input stops (R420), and
the PCIe link and its power states (R252, R253).
-/

namespace Sys2Proof.Machine

/-! ### Module reset (R389) -/

/-- What start-up state a module reset keeps: power, the clocks, the pin, and what the boot ROM found.
[DEDUCED, log entry 17] -/
def Boot.restart (b : Boot) : Boot :=
  { powered := b.powered
    perst := b.perst
    refclk := b.refclk
    aqclk := b.aqclk
    bank := b.bank
    fallback := b.fallback
    limitW := b.limitW
    ceilMhz := b.ceilMhz
    ticking := b.ticking
    shutLog := b.shutLog
    cold := false }

/-- What the Wellkeeper keeps of the input and of the thermal model; failed phases return, and droop, the partner grants and
THERMTRIP# end (R421, R434). [DEDUCED, log entry 17] -/
def Power.restart (p : Power) : Power := { p with failed := [], droop := false, droopAt := none, grantA := 0, grantB := 0 }

/-- A clock island is off and without an operating point; its temperature and its Barometer plan stay.
[DEDUCED, log entry 17] -/
def Island.restart (x : Island) : Island := { x with clk := 0, point := 0, hot := 0, stopped := false, off := true, power := 0, halved := false }

/-- The management complex keeps running; the monitor returns to its level and speed at reset (R458, R459), and the dies' wrappers
are reset. Its times count on from the new timebase. [DEDUCED, log entry 17] -/
def State.mgmtReset (s : State) : Mgmt :=
  { s.mgmt with
    level := s.fuse.monLevel
    chal := none
    lockUntil := s.mgmt.lockUntil - s.now
    baud := 115200
    trial := s.mgmt.trial.map (fun _ => 0)
    wrapper := [] }

/-- The host interface is reset; the blocks that the Wellkeeper serves (service, power) keep their registers, and CFG_HBMRATE keeps
the caps that S5 is to take (R228, Table 7.9). [DEDUCED, log entry 17] -/
def State.hostReset (s : State) : HostIf :=
  let keep (t : Tab Word) : Tab Word := tdrop (fun k => decide (k / 0x20000 < 11) && k != rkey 8 0x40) t
  { regs := keep s.host.regs
    stag := keep s.host.stag
    units := tdrop (fun u => decide (u < 10)) s.host.units
    nextId := s.host.nextId }

/-- Every die but the management complex is reset; HBM keeps its contents, poison included. [DEDUCED, log entry 17] -/
def State.moduleReset (s : State) : State :=
  { s with
    boot := s.boot.restart
    power := s.power.restart
    islands := s.islands.map (fun (e : Nat × Island) => (e.1, e.2.restart))
    sites := s.sites.map (fun (e : Nat × Site) => (e.1, ({ cover := 0 } : Site)))
    tiles := []
    dist := {}
    mem := tdrop (fun a => decide (hbmEnd ≤ a)) s.mem
    grans := tdrop (fun g => decide (hbmEnd ≤ 32 * g)) s.grans
    tcmErrs := []
    cistern := {}
    chans := []
    hbms := []
    cores := []
    mcores := []
    host := s.hostReset
    tasks := []
    parts := []
    svc := { s.svc with repairs := [], segments := [], rateNow := [] }
    mgmt := s.mgmtReset
    sync := {}
    vane := {}
    mesh := {}
    coh := {}
    aq := {}
    qos := {}
    bonds := []
    psites := [] }

/-! ### PERST# and the input -/

/-- PERST_ASSERT (R389): a module reset; start-up waits for the release (R379). [DEDUCED, log entry 17] -/
def execPerstAssert (s : State) : Host.Outcome State Fault Refusal :=
  done s <|
    if s.boot.perst then s
    else if !s.boot.powered then { s with boot.perst := true }
    else
      let t := s.moduleReset
      { t with boot.perst := true }

/-- PERST_RELEASE (R379, R381): S1 begins when it waits for it; after an assertion start-up begins at S0.
[DEDUCED, log entry 17] -/
def execPerstRelease (s : State) : Host.Outcome State Fault Refusal :=
  done s <|
    let t := { s with boot.perst := false }
    if !s.boot.perst || !s.boot.powered then t
    else if s.boot.running then (if s.boot.stage = 1 then { t with boot.start := s.now } else t)
    else if s.boot.ready || s.boot.failed || s.boot.shut then t
    else t.startUp

/-- UNDERVOLTAGE_STOP (R420): below 30 V the module loses its power. -/
def execUndervoltageStop (mv : Nat) (s : State) : Host.Outcome State Fault Refusal :=
  if s.boot.powered && decide (mv < 30000) then doneAt s s.dark 0 else done s s

/-- OVERVOLTAGE_STOP (R420): so does it above 54 V. -/
def execOvervoltageStop (mv : Nat) (s : State) : Host.Outcome State Fault Refusal :=
  if s.boot.powered && decide (54000 < mv) then doneAt s s.dark 0 else done s s

/-! ### Functions (R257) -/

/-- Rings of a function. -/
def State.fnRings (s : State) (fn : Nat) : List Nat := (List.range 256).filter (fun r => s.ringOwner r == fn)

/-- Both copies of the registers of a block whose offset satisfies `p` return to reset. [DEDUCED, log entry 18] -/
def State.resetRegs (s : State) (blk : Nat) (p : Nat → Bool) : State :=
  let hit (k : Nat) : Bool := decide (k / 0x20000 = blk) && p (k % 0x20000)
  { s with host.regs := tdrop hit s.host.regs, host.stag := tdrop hit s.host.stag }

/-- The shared registers that are a function's own: those of its rings and of its partitions' pins; for the physical function every
register but PART_RECT and RING_OWNER, and but those of other functions' rings and partitions. [DEDUCED, log entry 18] -/
def State.ownReg (s : State) (fn o : Nat) : Bool :=
  if 0x4000 ≤ o ∧ o < 0x8000 then s.ringOwner ((o - 0x4000) / 64) == fn
  else if 0x1000 ≤ o ∧ o < 0x1800 then s.partOwner ((o - 0x1000) / 0x100) == fn
  else fn == 0 && !(decide (0x2000 ≤ o) && decide (o < 0x2080)) && !(decide (0x3000 ≤ o) && decide (o < 0x3080))

/-- The rings of a function are disabled: its waits are cancelled, its dispatched commands abandoned, and their completions
discarded. [DEDUCED, log entry 18] -/
def State.dropRings (s : State) (fn : Nat) : State :=
  let mine := s.host.cmds.filter (fun c => c.fn == fn)
  let s0 := (List.range 1024).foldl (fun (u : State) g => match (u.group g).run with
    | some r => if mine.any (fun c => c.id == r.cmd) then u.collEnd g .aborted 0 0 true else u
    | none => u) s
  let s1 := mine.foldl (fun u c => u.cancelWait (.hostCmd c.id)) s0
  let s2 := (s1.fnRings fn).foldl (fun u r => (u.cancelWait (.hostHead r)).setRing r {}) s1
  let s3 := (s2.host.arms.filter (fun a => a.1 == fn)).foldl (fun u a => u.cancelWait (.hostArm fn (a.2.1 + 2 ^ 32 * a.2.2.1))) s2
  let keepReq (r : RemReq) : Bool := match r.user with
    | .host id => !mine.any (fun c => c.id == id)
    | .hostArm f _ => f != fn
    | _ => true
  { s3 with
    host.cmds := s3.host.cmds.filter (fun c => c.fn != fn)
    host.arms := s3.host.arms.filter (fun a => a.1 != fn)
    host.unmasked := s3.host.unmasked.filter (fun k => k / 256 != fn)
    host.pba := s3.host.pba.filter (fun k => k / 256 != fn)
    aq.reqs := s3.aq.reqs.filter keepReq }

/-- A Function Level Reset of a function (R257). [DEDUCED, log entry 18] -/
def State.resetFn (s : State) (fn : Nat) : State :=
  let s1 := s.dropRings fn
  let s2 := ((List.range 8).filter (fun p => s1.partValid p && s1.partOwner p == fn)).foldl State.forceReset s1
  let s3 := (s2.resetRegs fn (fun _ => true)).resetRegs 8 (s2.ownReg fn)
  let s4 := s3.carveTo s.carve s3.carve
  ((s4.setUnit fn { s4.unit fn with busy := false, cmd := none }).setEvbuf fn {}).settlePending

/-- FUNCTION_LEVEL_RESET: of a function that is enabled. [DEDUCED, log entry 18] -/
def execFunctionLevelReset (fn : Nat) (s : State) : Host.Outcome State Fault Refusal :=
  within "function" fn 8 <| done s (if s.boot.powered && decide (fn ≤ s.boot.numVf) then s.resetFn fn else s)

/-- VF_ENABLE_CLEAR (R257). [DEDUCED, log entry 18] -/
def execVfEnableClear (s : State) : Host.Outcome State Fault Refusal :=
  done s <|
    let t := ((List.range s.boot.numVf).map (· + 1)).foldl State.resetFn s
    { t with boot.numVf := 0, boot.d3 := t.boot.d3.filter (· == 0) }

/-- PCIE_HOT_RESET (R389): every function, then every staged register of BAR0, PART_RECT and RING_OWNER among them; the carve-out of
the far cache is released. [DEDUCED, log entry 18] -/
def execPcieHotReset (s : State) : Host.Outcome State Fault Refusal :=
  done s <|
    if !s.boot.powered then s
    else
      let t := (List.range 8).foldl State.resetFn s
      let u := (List.range 9).foldl (fun v b => v.resetRegs b (fun _ => true)) t
      let w := u.assignTiles (List.range 8)
      { w with boot.numVf := 0, boot.d3 := [] }

/-- POWER_STATE_CHANGE (R252): D3hot and back; a function keeps all its state. [DEDUCED, log entry 18] -/
def execPowerStateChange (fn : Nat) (d3 : Bool) (s : State) : Host.Outcome State Fault Refusal :=
  within "function" fn 8 <|
  done s <|
    if !s.boot.powered || decide (s.boot.numVf < fn) then s
    else
      let l := s.boot.d3.filter (· != fn)
      { s with boot.d3 := if d3 then l ++ [fn] else l }

/-- PCIE_RETRAIN (R252): the link has a generation from 3 to 6 and a width of x4, x8 or x16; the host entries of the distance table
change. -/
def execPcieRetrain (gen width : Nat) (s : State) : Host.Outcome State Fault Refusal :=
  done s <|
    if s.boot.width = 0 ∨ gen < 3 ∨ 6 < gen ∨ !(width == 4 || width == 8 || width == 16) then s
    else
      let t := { s with boot.gen := gen, boot.width := width }
      if decide (s.boot.stage ≤ 4) && s.boot.running then t else t.markDist

/-- A shutdown during start-up ends the stage in progress (R379). [DEDUCED, log entry 15] -/
def State.abortStart (s : State) : State :=
  if s.boot.running then s.endStage s.boot.stage 3 { dur := (s.now - s.boot.start) / 1000, status := stCode .aborted } else s

end Sys2Proof.Machine
end

