-- ==== Sys2Proof/Machine/Thermal.lean ====
section
/-!
DEFINITION. Converter phases (R421), the thermal model and its diodes (R428 to R431), the thresholds of islands (R432, R433) and of
stacks (R247, R250), thermal shutdown (R434 to R436), and the clocks that the Wellkeeper sets or stops (R427, R440).
-/

namespace Sys2Proof.Machine

/-! ### Nodes and diodes (R428, R429) -/

/-- Modelled temperature of node i, before any correction. [DESIGN CHOICE, log entry 3] -/
def State.nodeT (s : State) (i : Nat) : Rat := tget (fun _ => (25 : Rat)) s.power.nodes i
/-- Diode d. -/
def State.diode (s : State) (d : Nat) : Diode := tget (fun _ => {}) s.power.diodes d
/-- Set diode d. -/
def State.setDiode (s : State) (d : Nat) (x : Diode) : State := { s with power.diodes := tset (fun _ => {}) s.power.diodes d x }

/-- Nodes of an island: regions are nodes 0 to 35, the tile islands of site n 36 + 5n to 40 + 5n, strips and corners 216 to 223. -/
def islandNodes (i : Nat) : List Nat :=
  if i < 4 then quadSites i
  else if i < 148 then [36 + 5 * ((i - 4) / 4) + (i - 4) % 4]
  else if i < 184 then [36 + 5 * (i - 148) + 4]
  else [216 + (i - 184)]
/-- Node of a diode. -/
def diodeNode (d : Nat) : Nat := if d < 72 then d / 2 else 36 + 5 * ((d - 72) / 4) + (d - 72) % 4
/-- Diodes of a node. -/
def nodeDiodes (i : Nat) : List Nat :=
  if i < 36 then [2 * i, 2 * i + 1]
  else if i < 216 ∧ (i - 36) % 5 < 4 then [72 + 4 * ((i - 36) / 5) + (i - 36) % 5]
  else []
/-- The node whose correction a node takes: a V/S node takes that of M-row 3. -/
def corrNode (i : Nat) : Nat := if 36 ≤ i ∧ i < 216 ∧ (i - 36) % 5 = 4 then i - 1 else i
/-- Correction of a node. -/
def State.corr (s : State) (i : Nat) : Rat := tget (fun _ => (0 : Rat)) s.power.offs (corrNode i)
/-- Whether a node has a broken diode. -/
def State.nodeBroken (s : State) (i : Nat) : Bool := (nodeDiodes i).any (fun d => (s.diode d).broken)
/-- Temperature of a node: a node with a broken diode takes the greater of its modelled temperature plus 10 and 105 (R431). -/
def State.nodeTemp (s : State) (i : Nat) : Rat := if s.nodeBroken i then max (s.nodeT i + 10) 105 else s.nodeT i + s.corr i
/-- Temperature of an island, in 0.125 degrees: that of its hottest node. -/
def State.islandHeat (s : State) (i : Nat) : Int :=
  match (islandNodes i).map (fun n => (8 * s.nodeTemp n).floor) with
  | [] => 0
  | t :: ts => ts.foldl max t
/-- Whether an island has a broken diode. -/
def State.islandBroken (s : State) (i : Nat) : Bool := (islandNodes i).any s.nodeBroken

/-- Power of a node in watts; the nine regions of a quadrant share their island's power. [DEDUCED, log entry 44] -/
def State.nodePower (s : State) (i : Nat) : Rat :=
  if i < 36 then ((s.island (quadOf i)).power : Rat) / 90
  else if i < 216 then
    let n := (i - 36) / 5
    let k := (i - 36) % 5
    ((s.island (if k < 4 then mIsland n k else vsIsland n)).power : Rat) / 10
  else ((s.island (i - 32)).power : Rat) / 10

/-- One node of the model over 0.1 ms (R428). [DEDUCED, log entry 44] -/
def State.heatNode (s : State) (i : Nat) : State :=
  let t := s.nodeT i
  let near := (List.range 224).filter (fun j => j != i && Config.thermRij i j != 0)
  let flow := (t - s.power.tref) / Config.thermR i + (near.map (fun j => (t - s.nodeT j) / Config.thermRij i j)).sum
  { s with power.nodes := tset (fun _ => (25 : Rat)) s.power.nodes i (t + 1 / 10000 / Config.thermC i * (s.nodePower i - flow)) }

/-! ### Thermal states (R432, R433) -/

/-- THERMAL_WARNING or THERMAL_THROTTLE of an island. [DEDUCED, log entry 19] -/
def State.thermEvent (s : State) (code i : Nat) (entry : Bool) (cause : Nat) : State :=
  s.raise code (i + 2 ^ 8 * ofInt 8 ((s.island i).temp / 8) + 2 ^ 16 * b2n entry + 2 ^ 17 * cause + 2 ^ 24 * s.goodPhases) [] mgmtNode

/-- Stacks whose controllers stand in an island's strip. [DEDUCED, log entry 44] -/
def stripStacks (i : Nat) : List Nat := if i = 184 then [0, 1, 2, 3] else if i = 185 then [4, 5, 6, 7] else []

/-- The action of an island that enters THROTTLE. [DEDUCED, log entry 44] -/
def State.enterThrottle (s : State) (i : Nat) : State :=
  let x := s.island i
  if i < 4 then (s.setIsland i { x with cap := some 1200 }).setRegionClk i (min x.clk 1200)
  else if i < 184 then (s.setIsland i { x with cap := some (max (islandFloor i) (x.clk / 2)) }).forceClk i
  else if i < 188 then (stripStacks i).foldl (fun t h => t.setStack h { t.stack h with limited := true }) s
  else if i = 189 ∨ i = 190 then
    let site := i - 189
    if (s.psite site).st = 2 then s.grantSite site (min (s.psite site).pgrant (pdMin (s.psite site).desc)) else s
  else s

/-- Leaving THROTTLE removes the cap. [DEDUCED, log entry 44] -/
def State.leaveThrottle (s : State) (i : Nat) : State :=
  let x := s.island i
  let t := s.setIsland i { x with cap := none }
  if i < 4 then t.setRegionClk i (min x.point (t.islandLimit i))
  else if i < 184 then t.forceClk i
  else (stripStacks i).foldl (fun u h => u.setStack h { u.stack h with limited := false }) t

/-- Every 100 microseconds in THROTTLE the cap of a tile island moves by 25 MHz. -/
def State.moveCap (s : State) (i : Nat) : State :=
  let x := s.island i
  match x.cap with
  | some c =>
    let c2 := if x.last < x.temp then max (islandFloor i) (c - 25) else if x.temp < x.last then min (islandTop s i) (c + 25) else c
    (s.setIsland i { x with cap := some c2 }).forceClk i
  | none => s

/-- One evaluation of an island's state. -/
def State.evalIsland (s : State) (i : Nat) : State :=
  let x := s.island i
  let t := s.islandHeat i
  let h : Int := s.hyst
  let thr := decide ((if x.state = 2 then 8 * (105 - h) else 840) ≤ t)
  let warn := thr || decide ((if 1 ≤ x.state then 8 * (95 - h) else 760) ≤ t)
  let st := if thr then 2 else if warn then 1 else 0
  let s1 := s.setIsland i { x with temp := t, last := x.temp, state := st, hot := if 920 ≤ t then min (x.hot + 1) 2 else 0 }
  let cause := b2n (s.islandBroken i)
  let s2 := if x.state = 0 ∧ 1 ≤ st then s1.thermEvent 0x018 i true 0 else s1
  let s3 := if x.state < 2 ∧ st = 2 then (s2.enterThrottle i).thermEvent 0x019 i true cause
    else if x.state = 2 ∧ st < 2 then (s2.leaveThrottle i).thermEvent 0x019 i false cause
    else if st = 2 ∧ 4 ≤ i ∧ i < 184 then s2.moveCap i else s2
  if 1 ≤ x.state ∧ st = 0 then s3.thermEvent 0x018 i false 0 else s3

/-- The Wellkeeper watches the module. -/
def State.watching (s : State) : Bool := s.boot.powered && s.boot.ticking && !s.boot.shut

/-- THERMAL_EVAL (R428, R432): the model is evaluated, and every island takes its state; ALERT# follows.
[DEDUCED, log entry 44; DESIGN CHOICE, log entry 13] -/
def execThermalEval (s : State) : Host.Outcome State Fault Refusal :=
  done s <|
    if !s.watching then s
    else
      let t := (List.range 192).foldl State.evalIsland ((List.range 224).foldl State.heatNode s)
      { t with power.alert := (List.range 192).any (fun i => decide (1 ≤ (t.island i).state)) }

/-! ### Thermal shutdown (R434 to R436) -/

/-- Payload of THERMAL_SHUTDOWN. -/
def State.shutPayload (s : State) (island cause : Nat) : Nat :=
  island + 2 ^ 8 * ofInt 8 (if island < 192 then (s.island island).temp / 8 else s.hottest.1) + 2 ^ 16 * cause + 2 ^ 32 * (s.now / 1000 % 2 ^ 32)

/-- Post as many events of the physical function as its completion ring takes. -/
def State.postEvents (s : State) : Nat → State
  | 0 => s
  | k + 1 =>
    match (s.evbuf 0).waiting with
    | [] => s
    | e :: rest =>
      if s.evtEn 0 && s.cqReady (s.evcq 0) then
        ((s.setEvbuf 0 { waiting := rest, lost := 0 }).writeRec (s.evcq 0)
          ⟨e.code + 2 ^ 16 * (s.evbuf 0).lost, .ok, 0, true, e.payload, true, none⟩).postEvents k
      else s

/-- The rails of every tile site are off. -/
def State.tilesOff (s : State) : State :=
  let t := (List.range 36).foldl (fun u n => u.powerSite n false) s
  let v := (List.range 384).foldl State.stopCore t
  (List.range 32).foldl (fun u i => u.setTile i { u.tile i with off := true, ask := none, grant := none, sent := none, task := none }) { v with tasks := [] }

/-- Step 1 of R434: tiles, partner dies, stacks, region and strip islands, and Aquifer ports. -/
def State.shutDies (s : State) : State :=
  let t := [0, 1].foldl (fun u k => (if (u.psite k).st = 2 then u.fenceSite k else u).grantSite k 0) s.tilesOff
  let v := (List.range 4 ++ (List.range 4).map (· + 184)).foldl (fun u i => u.setIsland i { u.island i with stopped := true, clk := 0 }) t
  (List.range 12).foldl State.portDown v

/-- Step 2 of R434: every dispatched command completes with ST_ABORTED, and the records and the event are posted. -/
def State.shutRings (s : State) (payload : Nat) : State :=
  let t := s.host.cmds.foldl (fun u c => u.complete c .aborted 0 0) s
  let v := (List.range 256).foldl (fun u r => u.drainCq r (u.ring r).backlog.length) t
  let w := if v.evtEn 0 then v.postTo 0 0x01A payload else v
  w.postEvents 257

/-- A shutdown for an island, or for lost phases (R434, R436); one during start-up ends it (R379). The record waits for flash.
[DEDUCED, log entry 44] -/
def State.shutdown (s : State) (island cause : Nat) : State :=
  let payload := s.shutPayload island cause
  let t := ((s.shutDies.abortStart).shutRings payload)
  let r : LogRec := ⟨0x01A, 0xFF, false, s.now, s.flash.boots, ofInt 8 s.hottest.1, payload, [], false⟩
  { t with
    boot.thermtrip := true
    boot.ready := false
    boot.computeOff := true
    boot.shut := true
    boot.shutLog := some r }

/-- THERMAL_SHUTDOWN: an island has been at 115 degrees or above in two evaluations. [DEDUCED, log entry 44] -/
def execThermalShutdown (island : Nat) (s : State) : Host.Outcome State Fault Refusal :=
  within "island" island 192 <|
  done s (if s.watching && decide (2 ≤ (s.island island).hot) then s.shutdown island 0 else s)

/-- SHUTDOWN_RECORD_WRITE (R435): the record is entered in the log ring, after what waited before it, and in slot 0 of its sector.
[DEDUCED, log entry 44] -/
def execShutdownRecordWrite (s : State) : Host.Outcome State Fault Refusal :=
  done s <|
    match s.boot.shutLog with
    | some r =>
      if !s.flashOk then s
      else
        let t := s.svc.logq.foldl (fun u _ => u.writeOldest) s
        let b := logBytes t.flash.logSeq (t.suppCount r.code r.src) r
        { t.putLog r with boot.shutLog := none, flash := { (t.putLog r).flash with shutRec := some b, shutAck := none } }
    | none => s

/-- PHASE_FAIL (R421): the phase stays off; with fewer than 16 good phases the module shuts down. -/
def execPhaseFail (phase : Nat) (s : State) : Host.Outcome State Fault Refusal :=
  within "phase" phase 24 <|
  done s <|
    if !s.boot.powered || s.power.failed.contains phase then s
    else
      let t := { s with power.failed := s.power.failed ++ [phase] }.throttleAll true 3
      if t.goodPhases < 16 ∧ t.watching then
        let q := t.freshByte
        q.2.shutdown q.1.toNat 1
      else t

/-! ### The housekeeping round (R430, R431) -/

/-- Why a diode is broken by its reading (R431): 0 open, 1 shorted, 2 out of range, 3 disagrees with the model. -/
def State.diodeFault (s : State) (r : Readings) (d : Nat) : Option Nat :=
  if r.shorted.contains d then some 1
  else
    match r.diodes.getD d none with
    | none => some 0
    | some v =>
      let gap : Rat := (v : Rat) / 8 - s.nodeT (diodeNode d)
      if v < -320 ∨ 1200 < v then some 2 else if 15 < gap ∨ gap < -15 then some 3 else none

/-- SENSOR_BROKEN; an open diode has no reading. -/
def State.diodeEvent (s : State) (d kind : Nat) (v : Option Int) : State :=
  let q : Nat × State := match v with
    | some x => (((max 0 (min 255 (x / 8)))).toNat, s)
    | none => (s.freshByte.1.toNat, s.freshByte.2)
  q.2.raise 0x01B (d + 2 ^ 8 * kind + 2 ^ 16 * ofInt 8 (s.nodeT (diodeNode d)).floor + 2 ^ 24 * q.1) [] mgmtNode

/-- One diode in a round. -/
def State.diodeRound (s : State) (r : Readings) (d : Nat) : State :=
  let x := s.diode d
  let v := r.diodes.getD d none
  let y := { x with reading := v.getD x.reading }
  match s.diodeFault r d, x.broken with
  | some k, false => (s.setDiode d { y with broken := true, okRounds := 0 }).diodeEvent d k v
  | some _, true => s.setDiode d { y with okRounds := 0 }
  | none, true =>
    if 1000 ≤ x.okRounds + 1 then (s.setDiode d { y with broken := false, okRounds := 0 }).diodeEvent d 4 v
    else s.setDiode d { y with okRounds := x.okRounds + 1 }
  | none, false => s.setDiode d y

/-- The cold-plate estimate (R428). -/
def State.coldPlate (s : State) : State :=
  let good := (List.range 216).filter (fun d => !(s.diode d).broken)
  if good = [] then s
  else
    let sum : Rat := (good.map (fun d => ((s.diode d).reading : Rat) / 8 - (s.nodeT (diodeNode d) - s.power.tref))).sum
    { s with power.tref := sum / (good.length : Rat) }

/-- The correction of the node of a good diode (R429). [DEDUCED, log entry 44] -/
def State.correctDiode (s : State) (d : Nat) : State :=
  let n := diodeNode d
  if (s.diode d).broken then s
  else
    let o := tget (fun _ => (0 : Rat)) s.power.offs n
    { s with power.offs := tset (fun _ => (0 : Rat)) s.power.offs n (o + (((s.diode d).reading : Rat) / 8 - (s.nodeT n + o)) / 8) }

/-- A stack's temperature in a round (R247). [DEDUCED, log entry 44] -/
def State.stackRound (s : State) (h : Nat) (v : Option Nat) : State :=
  let x := s.stack h
  match v with
  | none =>
    let n := min 3 (x.misses + 1)
    if n = 3 ∧ !x.tlost then
      ((s.setStack h { x with misses := n, tlost := true, refx2 := true, hot := true }).markDist).raise 0x007 h [] (stripOf h)
    else s.setStack h { x with misses := n }
  | some t =>
    let refx2 := decide ((if x.refx2 then 80 else 85) ≤ t)
    let hot := decide ((if x.hot then 90 else 95) ≤ t)
    let halt := decide ((if x.halt then 95 else 105) ≤ t)
    let y := { x with temp := t % 256, misses := 0, tlost := false, refx2 := refx2, hot := hot, halt := halt, queue := if halt && !x.halt then [] else x.queue }
    let s1 := s.setStack h y
    let s2 := if hot && !x.hot then s1.raise 0x006 (h + 2 ^ 8 * (t % 256)) [] (stripOf h) else s1
    let s3 := if refx2 != x.refx2 || hot != x.hot || halt != x.halt then s2.markDist else s2
    if x.halt && !halt then
      (x.heldPuts.foldl State.putMemory (s3.setStack h { s3.stack h with heldPuts := [] })).raise 0x009 h [] (stripOf h)
    else s3

/-- Bytes of an island in the snapshot (Table 14.3). -/
def State.snapIsland (s : State) (i : Nat) : Bytes :=
  let x := s.island i
  toLe 2 (ofInt 16 x.temp) ++ toLe 2 x.power ++ toLe 2 x.clk ++ toLe 2 (s.railMv i) ++
    toLe 1 (x.state + 4 * b2n (s.islandBroken i) + 8 * b2n x.stopped + 16 * b2n x.off) ++ zeros 7
/-- Bytes of a stack. -/
def State.snapStack (s : State) (h : Nat) : Bytes :=
  toLe 1 (s.stack h).temp ++ toLe 1 (s.hbWord h 0 % 64) ++ toLe 2 (s.power.stackPower.getD h 0) ++ zeros 12
/-- Bytes of a phase. -/
def State.snapPhase (s : State) (j : Nat) : Bytes :=
  let p := s.power.phases.getD j (0, 0)
  toLe 2 p.1 ++ toLe 1 p.2 ++ toLe 1 (b2n (s.power.failed.contains j)) ++ zeros 4
/-- Bytes of a partner site. -/
def State.snapSite (s : State) (k : Nat) : Bytes :=
  toLe 2 (s.psite k).pgrant ++ toLe 2 (s.psite k).pmeas ++ toLe 2 (s.psite k).tmeas ++ zeros 10
/-- Bytes of a diode. -/
def State.snapDiode (s : State) (d : Nat) : Bytes := toLe 2 (if (s.diode d).broken then 0x8000 else ofInt 16 (s.diode d).reading)

/-- The first 64 bytes of the snapshot. -/
def State.snapHead (s : State) : Bytes :=
  let worst := (List.range 192).foldl (fun m i => max m (s.island i).state) 0
  let b := toLe 8 s.now ++ toLe 4 s.power.rounds ++ toLe 8 (s.pwrWord 0x40 false) ++ toLe 1 (ofInt 8 s.hottest.1) ++
    toLe 1 (ofInt 8 s.power.flashT) ++ toLe 1 worst ++ toLe 1 s.goodPhases ++
    toLe 1 (s.power.diodes.filter (fun d => d.2.broken)).length ++ zeros 35
  b ++ toLe 4 (crc32c b)

/-- The snapshot of 4,096 bytes. -/
def State.snap (s : State) : Bytes :=
  s.snapHead ++ (List.range 192).flatMap s.snapIsland ++ (List.range 8).flatMap s.snapStack ++ (List.range 24).flatMap s.snapPhase ++
    (List.range 2).flatMap s.snapSite ++ (List.range 216).flatMap s.snapDiode ++ zeros 176

/-- HOUSEKEEPING_ROUND (R247, R430, R431). [DESIGN CHOICE, log entry 13] -/
def execHousekeepingRound (r : Readings) (s : State) : Host.Outcome State Fault Refusal :=
  done s <|
    if !s.boot.powered || !s.boot.ticking then s
    else
      let p := { s.power with
        vin := r.vin
        iin := r.iin
        pin := r.pin
        phases := r.phases
        flashT := r.flash
        stackPower := r.stackPower
        rounds := s.power.rounds + 1 }
      let s1 := (List.range 192).foldl (fun t i => t.setIsland i { t.island i with power := r.islandPower.getD i 0 }) { s with power := p }
      let s2 := ((List.range 216).foldl (fun t d => t.diodeRound r d) s1).coldPlate
      let s3 := (List.range 216).foldl State.correctDiode s2
      let s4 := if s.boot.shut then s3 else (List.range 8).foldl (fun t h => t.stackRound h (r.hbms.getD h none)) s3
      { s4 with power.snapshot := s4.snap }

/-! ### Clocks (R401, R427, R440) -/

/-- REGION_CLOCK_CHANGE (R427): the Wellkeeper's choice from 1.2 to 1.8 GHz, on 25 MHz steps; the other limits stay in force.
[DEDUCED, log entry 45] -/
def execRegionClockChange (q mhz : Nat) (s : State) : Host.Outcome State Fault Refusal :=
  within "quadrant" q 4 <|
  done s <|
    if !s.watching || (s.island q).off || decide (mhz < 1200) || decide (1800 < mhz) || mhz % 25 != 0 then s
    else
      let t := s.setIsland q { s.island q with point := mhz }
      t.setRegionClk q (min mhz (t.islandLimit q))

/-- ISLAND_CLOCK_STOP (R440): the M-row islands of a tile whose M-cores are all idle, or the V/S island of one whose cores are all
stopped. -/
def execIslandClockStop (tile : Nat) (vs : Bool) (s : State) : Host.Outcome State Fault Refusal :=
  within "tile" tile 32 <|
  done s <|
    match (s.tile tile).site with
    | none => s
    | some n =>
      let idle := if vs then (tileAgents tile).all (fun a => !(s.core a).run)
        else (tileMcores tile).all (fun i => s.msState i == 0 || s.msState i == 3)
      if !idle || (s.tile tile).off then s
      else (if vs then [vsIsland n] else (List.range 4).map (mIsland n)).foldl (fun t i => t.setIsland i { t.island i with stopped := true }) s

/-- PLL_LOCK_LOSS (R401): the tile fails. -/
def execPllLockLoss (tile : Nat) (s : State) : Host.Outcome State Fault Refusal :=
  within "tile" tile 32 <| done s (s.failUnit tile none)

end Sys2Proof.Machine
end

