-- ==== Sys2Proof/Machine/Management.lean ====
section
/-!
DEFINITION. The management complex (R446 to R456): the lockstep pair, MCTP endpoints, vendor commands, PLDM sensors and the effecter,
and the firmware update.
-/

namespace Sys2Proof.Machine

/-! ### Who answers (R378, R447) -/

/-- The Wellkeeper runs its firmware: from the end of the S0 of power-on. -/
def State.keeperUp (s : State) : Bool := s.boot.powered && !(s.boot.cold && s.boot.stage == 0)
/-- The boot ROM's recovery state after a failed S0, which serves the firmware-update endpoint only. [DEDUCED, log entry 46] -/
def State.recovery (s : State) : Bool := s.boot.powered && s.boot.cold && s.boot.stage == 0 && s.boot.failed
/-- A binding with an endpoint ID: SMBus, or PCIe once its link has trained. [DEDUCED, log entry 46] -/
def State.bindingUp (s : State) (pcie : Bool) : Bool :=
  if pcie then s.mgmt.eidPcie.isSome && s.boot.width != 0 else s.mgmt.eidSmbus.isSome
/-- Vendor commands and PLDM requests are answered on some binding. -/
def State.mctpUp (s : State) : Bool := s.keeperUp && (s.bindingUp false || s.bindingUp true)
/-- The firmware-update endpoint is answered. -/
def State.updateUp (s : State) : Bool := s.mctpUp || (s.recovery && s.bindingUp false)

/-- A reply: its status and bytes. -/
def State.says (s : State) (st : Status) (b : Bytes) : State := { s with out.status := st, out.reply := b }
/-- A PLDM completion code. [DEDUCED, log entry 46] -/
def State.pldm (s : State) (c : Nat) : State := { s with out.pldm := c }

/-! ### The lockstep pair (R446) -/

/-- What the handover block does not hold is lost as firmware restarts: an update in progress and a challenge (R455).
[DEDUCED, log entry 46] -/
def State.handover (s : State) (bank : Nat) : State := { s with boot.bank := bank, mgmt.update := none, mgmt.chal := none }

/-- LOCKSTEP_ERROR (R446): the pair restarts from the active bank and the error is logged with the count of restarts.
[DEDUCED, log entry 46] -/
def execLockstepError (s : State) : Host.Outcome State Fault Refusal :=
  done s <|
    if !s.keeperUp then s
    else
      let t := { s.handover s.flash.active with flash.lockstep := (s.flash.lockstep + 1) % 2 ^ 32 }
      t.logRec 0x1086 0xFF t.flash.lockstep

/-- SET_ENDPOINT_ID (R447, R465); an ID that MCTP reserves is refused. [DEDUCED, log entry 46] -/
def execSetEndpointId (pcie : Bool) (eid : BitVec 8) (s : State) : Host.Outcome State Fault Refusal :=
  done s <|
    if !(s.keeperUp || (s.recovery && !pcie)) || (pcie && s.boot.width == 0) then s
    else if eid = 0 ∨ eid = 0xFF then s.pldm 1
    else
      let t := if pcie then { s with mgmt.eidPcie := some eid.toNat } else { s with mgmt.eidSmbus := some eid.toNat }
      (t.logRec 0x1088 0xFF (eid.toNat + 2 ^ 8 * b2n pcie)).pldm 0

/-! ### Sensors and the effecter (R452, R453) -/

/-- The value of a sensor in the last complete round, or why there is none: 1 no such sensor, 2 unavailable.
[DEDUCED, log entry 46] -/
def State.sensor (s : State) (id : Nat) : Except Nat Int :=
  let b := s.power.snapshot
  let i := id - 16
  if b = [] then .error (if id = 0 ∨ 208 < id ∨ (4 < id ∧ id < 8) then 1 else 2)
  else if id = 1 then .ok (le b 12 2)
  else if id = 2 then .ok (le b 14 2)
  else if id = 3 then .ok (le b 16 2)
  else if id = 4 then .ok (toInt 8 (le b 20 1))
  else if 8 ≤ id ∧ id < 16 then .ok (le b (3136 + 16 * (id - 8)) 1)
  else if 16 ≤ id ∧ id < 208 then
    (if 148 ≤ i ∨ bit (le b (64 + 16 * i + 8) 1) 4 then .error 2 else .ok (toInt 16 (le b (64 + 16 * i) 2) / 8))
  else if id = 208 then .ok (le b 23 1)
  else .error 1

/-- PLDM_SENSOR_READ (R452). -/
def execPldmSensorRead (id : Nat) (s : State) : Host.Outcome State Fault Refusal :=
  done s <|
    if !s.mctpUp then s
    else
      match s.sensor id with
      | .ok v => { s.pldm 0 with out.rdata := BitVec.ofInt 64 v }
      | .error c => s.pldm c

/-- PLDM_EFFECTER_WRITE (R453): group 0x0001 of the power block is committed with the new CAP; its staging copies stay as they
were. A commit of the block that runs ends first. [DEDUCED, log entry 46] -/
def execPldmEffecterWrite (v : BitVec 16) (s : State) : Host.Outcome State Fault Refusal :=
  done s <|
    if !s.mctpUp then s
    else
      let t := s.commitRun 11
      let cap := [(0x10, v.toNat), (0x18, t.reg 12 0x18)]
      match pwrVerdict t 1 cap with
      | some _ => t.pldm 1
      | none => (((t.applyPwr 1 cap).pldm 0).setUnit 11 { t.unit 11 with running := 1 }).commitEnd 11 none

/-! ### Vendor commands (R449, R450) -/

/-- The identity of an index, or the serial for 75. -/
def State.identityReply (s : State) (index : Nat) : Except Status Bytes :=
  if index = 75 then .ok ((s.fuse.serial ++ zeros 16).take 16)
  else if index < 45 ∨ index = 73 ∨ index = 74 then (match s.identity index with | some b => .ok b | none => .error .absent)
  else .error .range

/-- Answer with bytes, or with a status alone. [DESIGN CHOICE, log entry 8] -/
def State.answerBytes (s : State) (r : Except Status Bytes) : State :=
  match r with
  | .ok b => s.says .ok b
  | .error st => s.says st []

/-- GET_IDENTITY. -/
def execGetIdentity (index : Nat) (s : State) : Host.Outcome State Fault Refusal :=
  done s (if s.mctpUp then s.answerBytes (s.identityReply index) else s)
/-- The report of a stage. -/
def State.stageReply (s : State) (k : Nat) : Except Status Bytes := if k < 10 then .ok (s.report k) else .error .range
/-- GET_STAGE_REPORT. -/
def execGetStageReport (stage : Nat) (s : State) : Host.Outcome State Fault Refusal :=
  done s (if s.mctpUp then s.answerBytes (s.stageReply stage) else s)
/-- From 1 to 16 records of the log. -/
def State.logReply (s : State) (first count : Nat) : Except Status Bytes :=
  if 1 ≤ count ∧ count ≤ 16 then .ok (s.logRead first count) else .error .range
/-- GET_LOG. -/
def execGetLog (first : BitVec 32) (count : Nat) (s : State) : Host.Outcome State Fault Refusal :=
  done s (if s.mctpUp then s.answerBytes (s.logReply first.toNat count) else s)
/-- The last complete snapshot. -/
def State.snapReply (s : State) : Bytes := (s.power.snapshot ++ zeros 4096).take 4096
/-- GET_SNAPSHOT. -/
def execGetSnapshot (s : State) : Host.Outcome State Fault Refusal := done s (if s.mctpUp then s.says .ok s.snapReply else s)
/-- GET_LIFECYCLE. -/
def execGetLifecycle (s : State) : Host.Outcome State Fault Refusal :=
  done s (if s.mctpUp then s.says .ok (toLe 1 s.fuse.lifecycle) else s)

/-- The checks of WRITE_TOPOLOGY, in order (R450). -/
def State.topoCheck (s : State) (rec : Bytes) : Status :=
  let newest := s.flash.topo
  firstFail [
    (topoForm rec, .badField),
    (crcOk256 rec, .checksum),
    ((match newest with | some c => decide (topoSeq c.1 < topoSeq rec) | none => true), .inconsistent),
    (s.flashOk, .tempForbidden)]

/-- WRITE_TOPOLOGY (R450): the record overwrites the older copy. -/
def execWriteTopology (pcie : Bool) (rec : Bytes) (s : State) : Host.Outcome State Fault Refusal :=
  done s <|
    if !s.keeperUp || !s.bindingUp pcie then s
    else
      let st := s.topoCheck rec
      if st ≠ .ok then s.says st []
      else
        let first : Bool := match s.flash.topo with | some (_, second) => second | none => true
        let t := if first then { s with flash.topo0 := some rec } else { s with flash.topo1 := some rec }
        (t.logRec 0x1085 0xFF (topoSeq rec + 2 ^ 32 * b2n pcie)).says .ok []

/-- A new image is in its self-check, which ends within 10 ms (R456). -/
def State.activating (s : State) : Bool :=
  match s.mgmt.trial with
  | some t => decide (s.now < t + 10000000)
  | none => false

/-- RESET_MODULE (R389, R449). -/
def execResetModule (pcie : Bool) (confirm : Byte) (s : State) : Host.Outcome State Fault Refusal :=
  done s <|
    if !s.keeperUp || !s.bindingUp pcie then s
    else if confirm ≠ 0xA5 then s.says .badField []
    else if s.activating then s.says .locked []
    else (((s.logRec 0x1087 0xFF (b2n pcie)).says .ok []).moduleReset).startUp

/-! ### Firmware update (R454 to R456) -/

/-- The bank that an update writes: the one not in use; in recovery the one not marked active. [DEDUCED, log entry 46] -/
def State.inactive (s : State) : Nat := if s.recovery then 1 - s.flash.active else 1 - s.boot.bank
/-- Write a bank and its mark. -/
def State.setBank (s : State) (b : Nat) (ok : Bool) (image : Bytes) : State :=
  if b = 0 then { s with flash.ok0 := ok, flash.bank0 := image } else { s with flash.ok1 := ok, flash.bank1 := image }
/-- Mark a bank active. -/
def State.markActive (s : State) (b : Nat) : State := { s with flash.active := b }

/-- REQUEST_UPDATE: refused while flash is not writable or another update runs. [DEDUCED, log entry 46] -/
def execRequestUpdate (s : State) : Host.Outcome State Fault Refusal :=
  done s <|
    if !s.updateUp then s
    else if !s.flashOk || s.mgmt.update.isSome then s.pldm 3
    else
      let b := s.inactive
      (({ s.setBank b false [] with mgmt.update := some ⟨[], false⟩ }.markActive (if s.recovery then s.flash.active else s.boot.bank)).logRec
        0x1080 0xFF b).pldm 0

/-- FIRMWARE_TRANSFER: while flash is not writable no data is requested. -/
def execFirmwareTransfer (data : Bytes) (s : State) : Host.Outcome State Fault Refusal :=
  done s <|
    match s.mgmt.update with
    | some u =>
      if !s.updateUp || u.verified || !s.flashOk then s
      else
        let d := u.data ++ data
        { s.setBank s.inactive false d with mgmt.update := some ⟨d, false⟩ }
    | none => s

/-- VERIFY_COMPLETE: the CRC and the signature of the image. [DEDUCED, log entry 46] -/
def execVerifyComplete (crc : BitVec 32) (s : State) : Host.Outcome State Fault Refusal :=
  done s <|
    match s.mgmt.update with
    | some u =>
      if !s.updateUp || u.verified || !s.flashOk then s
      else if crc32c u.data = crc.toNat ∧ Config.signatureOk u.data = true then
        { s.setBank s.inactive true u.data with mgmt.update := some ⟨u.data, true⟩ }.pldm 0
      else { s with mgmt.update := none }.pldm 4
    | none => s

/-- CANCEL_UPDATE: an image that is not verified stays marked invalid. -/
def execCancelUpdate (s : State) : Host.Outcome State Fault Refusal :=
  done s (if s.updateUp then { s with mgmt.update := none }.pldm 0 else s)

/-- ACTIVATE_FIRMWARE (R455): the verified image starts, or is marked active for the next start-up when it does not accept the
handover block; refused until S9 or a failed start-up. [DEDUCED, log entry 46] -/
def execActivateFirmware (accepts : Bool) (s : State) : Host.Outcome State Fault Refusal :=
  done s <|
    match s.mgmt.update with
    | some u =>
      if !s.updateUp || !u.verified then s
      else if !(s.boot.stage == 9 || s.boot.failed) || !s.flashOk then s.pldm 6
      else
        let b := s.inactive
        let t := { s with mgmt.update := none }.markActive b
        if accepts then
          ({ t.handover b with mgmt.trial := some s.now }.logRec 0x1081 0xFF b).pldm 0
        else (t.logRec 0x1081 0xFF (b + 2 ^ 8)).pldm 5
    | none => s

/-- FW_FALLBACK (R456): the previous bank runs again, and the new one is marked invalid. [DEDUCED, log entry 46] -/
def execFwFallback (s : State) : Host.Outcome State Fault Refusal :=
  done s <|
    if s.mgmt.trial.isNone || !s.boot.powered then s
    else
      let b := s.boot.bank
      let t := if b = 0 then { s with flash.ok0 := false } else { s with flash.ok1 := false }
      ({ (t.handover (1 - b)).markActive (1 - b) with mgmt.trial := none }).logRec 0x1082 0xFF b

end Sys2Proof.Machine
end

