-- ==== Sys2Proof/Machine/Monitor.lean ====
section
/-!
DEFINITION. The Wellhead monitor (R457 to R459) and the module TAP (R460, R461).
-/

namespace Sys2Proof.Machine

/-! ### The monitor (R458) -/

/-- A command line of the monitor, refused above the present level. [DESIGN CHOICE, log entry 8] -/
def State.monitor (s : State) (level : Nat) (f : State → State) : State :=
  if !s.keeperUp then s else if s.mgmt.level < level then s.says .permission [] else f s

/-- The commands of Table 15.5. [DEDUCED, log entry 47] -/
def monCommands : Bytes := ascii "HELP ID LCS STAGE SENSORS LOG UNLOCK LOCK BAUD PEEK DRIZZLE TG POKE DIEMODE RESET"

/-- HELP. [DEDUCED, log entry 47] -/
def execMonHelp (s : State) : Host.Outcome State Fault Refusal := done s (s.monitor 0 (·.says .ok monCommands))
/-- ID: every identity, an absent die's as zeros, and the serial. [DEDUCED, log entry 47] -/
def execMonId (s : State) : Host.Outcome State Fault Refusal :=
  done s (s.monitor 0 fun t => t.says .ok (((List.range 45 ++ [73, 74]).flatMap (fun i => (t.identity i).getD (zeros 32))) ++
    (t.fuse.serial ++ zeros 16).take 16))
/-- LCS. -/
def execMonLcs (s : State) : Host.Outcome State Fault Refusal := done s (s.monitor 0 fun t => t.says .ok (toLe 1 t.fuse.lifecycle))
/-- STAGE. -/
def execMonStage (stage : Nat) (s : State) : Host.Outcome State Fault Refusal :=
  done s (s.monitor 0 fun t => t.answerBytes (t.stageReply stage))
/-- SENSORS. -/
def execMonSensors (s : State) : Host.Outcome State Fault Refusal := done s (s.monitor 0 fun t => t.says .ok t.snapReply)
/-- LOG. -/
def execMonLog (first : BitVec 32) (count : Nat) (s : State) : Host.Outcome State Fault Refusal :=
  done s (s.monitor 0 fun t => t.answerBytes (t.logReply first.toNat count))

/-- Highest level that a lifecycle state may unlock (Table 15.4). -/
def highestLevel (lifecycle : Nat) : Nat := if lifecycle = 0 ∨ lifecycle = 2 then 2 else if lifecycle = 1 then 1 else 0

/-- The hexadecimal digits of a word, most significant first. -/
def hexDigits : Nat → Nat → Bytes
  | 0, _ => []
  | n + 1, v =>
    let d := v / 16 ^ n % 16
    BitVec.ofNat 8 (if d < 10 then 48 + d else 55 + d) :: hexDigits n v

/-- UNLOCK with a level (R459): a fresh challenge. -/
def execUnlockChallenge (level : Nat) (s : State) : Host.Outcome State Fault Refusal :=
  done s (s.monitor 0 fun t =>
    if level = 0 ∨ highestLevel t.fuse.lifecycle < level ∨ t.now < t.mgmt.lockUntil then t.says .permission []
    else
      let c := Config.challenge t.free
      { t with free := t.free + 1, mgmt.chal := some (c, level, t.now) }.says .ok (hexDigits 8 c.toNat))

/-- A wrong or late response: after three the monitor refuses UNLOCK for 10 minutes. [DEDUCED, log entry 47] -/
def State.unlockFails (s : State) (level : Nat) : State :=
  let n := s.mgmt.fails + 1
  let t := s.logRec 0x1084 0xFF (level % 4 + 2 ^ 8 * n)
  (if 3 ≤ n then { t with mgmt.fails := 0, mgmt.lockUntil := s.now + 600000000000, mgmt.chal := none }
   else { t with mgmt.fails := n }).says .permission []

/-- Whether a code answers the outstanding challenge for a level in time. -/
def State.unlocks (s : State) (level : Nat) (code : BitVec 32) : Bool :=
  match s.mgmt.chal with
  | some (c, l, t) => l == level && decide (s.now ≤ t + 60000000000) && code == Config.unlockResponse c s.fuse.serial level
  | none => false

/-- UNLOCK with a level and a code (R459). [DEDUCED, log entry 47] -/
def execUnlockResponse (level : Nat) (code : BitVec 32) (s : State) : Host.Outcome State Fault Refusal :=
  done s (s.monitor 0 fun t =>
    if t.now < t.mgmt.lockUntil then t.says .permission []
    else if t.unlocks level code then
      ({ t with mgmt.level := level, mgmt.fails := 0, mgmt.chal := none }.logRec 0x1083 0xFF level).says .ok []
    else t.unlockFails level)

/-- UNLOCK_EXPIRE (R459): 30 minutes without a command end an unlock. [DEDUCED, log entry 47] -/
def execUnlockExpire (s : State) : Host.Outcome State Fault Refusal :=
  done s (if s.keeperUp then { s with mgmt.level := min s.mgmt.level s.fuse.monLevel } else s)
/-- LOCK. [DEDUCED, log entry 47] -/
def execLock (s : State) : Host.Outcome State Fault Refusal :=
  done s (s.monitor 0 fun t => { t with mgmt.level := 0 }.says .ok [])
/-- BAUD: from the next line. [DEDUCED, log entry 47] -/
def execBaud (rate : Nat) (s : State) : Host.Outcome State Fault Refusal :=
  done s (s.monitor 0 fun t =>
    if [230400, 460800, 921600, 1500000, 3000000].contains rate then { t with mgmt.baud := rate }.says .ok []
    else t.says .range [])

/-- One aligned read by PEEK, which waits for its line to settle and changes none (R214). [DEDUCED, log entry 47] -/
def State.peekWord (s : State) (a : Nat) : State × Except Status Bytes :=
  match s.place a with
  | .diag o => (match s.diagRead .monitor o with
    | some (t, w) => (t, .ok (toLe 8 w.toNat))
    | none => (s, .error .permission))
  | .hbm _ | .cistern _ | .tcm _ => (match s.memCheck .monitor .load a 8 with
    | .ok =>
      let u := s.settled a 8 false
      (match u.cohRead 506 a 8 with
      | (t, none, b) => ({ u with free := t.free }, .ok b)
      | (_, some _, _) => (u, .error .uncorrectable))
    | st => (s, .error st))
  | .cell _ => (s, .error .permission)
  | _ => (s, .error .range)

/-- Reads of n words from an address on, ended by the first that fails. -/
def State.peekWords (s : State) : Nat → Nat → Bytes → State × Status × Bytes
  | 0, _, b => (s, .ok, b)
  | n + 1, a, b =>
    match s.peekWord a with
    | (t, .ok w) => t.peekWords n (a + 8) (b ++ w)
    | (t, .error st) => (t, st, b)

/-- PEEK. -/
def execMonPeek (addr count : Nat) (s : State) : Host.Outcome State Fault Refusal :=
  done s (s.monitor 1 fun t =>
    if addr % 8 ≠ 0 then t.says .align []
    else if count < 1 ∨ 64 < count then t.says .range []
    else match t.peekWords count addr [] with
      | (u, st, b) => u.says st b)

/-- DRIZZLE: one segment, on a unit that Drizzle could take now. [DEDUCED, log entry 47] -/
def execMonDrizzle (u : TestUnit) (pass : Bool) (s : State) : Host.Outcome State Fault Refusal :=
  done s (s.monitor 1 fun t =>
    if !t.boot.ready || !t.segmentMay u || t.svc.segments.contains u then t.says .locked []
    else ((t.startSegment u).segmentEnd u pass).says .ok [])

/-- The TEST descriptor that a TG line amounts to. -/
def tgDesc (h c pc mode op seed base len : Nat) : Bytes :=
  zeros 20 ++ toLe 4 (h + 8 * c + 2 ^ 8 * pc) ++ toLe 1 (mode + 2 ^ 4 * op) ++ zeros 3 ++ toLe 4 seed ++ toLe 4 base ++ toLe 4 len ++ zeros 24

/-- TG: a run of the generator, as TEST makes it and with its faults (R290). -/
def execMonTg (h c pc mode op : Nat) (seed : BitVec 32) (base len : Nat) (r : TestFind) (s : State) : Host.Outcome State Fault Refusal :=
  done s (s.monitor 1 fun t =>
    if 8 ≤ h ∨ 32 ≤ c ∨ 2 ≤ pc ∨ 8 ≤ mode ∨ 4 ≤ op ∨ 2 ^ 32 ≤ base ∨ 2 ^ 32 ≤ len then t.says .range []
    else
      let d := tgDesc h c pc mode op seed.toNat base len
      let st := testCheck t d
      if st ≠ .ok then t.says st []
      else
        let u := t.channelTest d r
        u.says .ok (toLe 8 (u.hcWord (32 * h + c) 5)))

/-- POKE: an aligned 8-byte write through the home, as agent 506. [DEDUCED, log entry 47] -/
def execPoke (addr : Nat) (v : Word) (s : State) : Host.Outcome State Fault Refusal :=
  done s (s.monitor 2 fun t =>
    if addr % 8 ≠ 0 then t.says .align []
    else match t.place addr with
      | .diag o => (match t.diagWrite .monitor o v.toNat with
        | some u => u.says .ok []
        | none => t.says .permission [])
      | .hbm _ | .cistern _ | .tcm _ => (match t.memCheck .monitor .store addr 8 with
        | .ok => (match t.uWrite 506 addr (toLe 8 v.toNat) with
          | (u, none) => u.says .ok []
          | (u, some _) => u.says .uncorrectable [])
        | st => t.says st [])
      | .cell _ => t.says .permission []
      | _ => t.says .range [])

/-- DIEMODE: the test mode of a tile site without a task or claim (R360). [DEDUCED, log entry 47] -/
def execDiemode (index mode : Nat) (s : State) : Host.Outcome State Fault Refusal :=
  done s (s.monitor 2 fun t =>
    if index < 1 ∨ 36 < index ∨ 2 < mode then t.says .range []
    else
      let n := index - 1
      let busy : Bool := match t.tileAt n with | some i => (t.tile i).task.isSome | none => false
      if busy then t.says .locked []
      else (t.setSite n { t.site n with dieMode := mode }).says .ok [])

/-- RESET. [DEDUCED, log entry 17] -/
def execMonReset (s : State) : Host.Outcome State Fault Refusal :=
  done s (s.monitor 2 fun t => (((t.logRec 0x1087 0xFF 2).says .ok []).moduleReset).startUp)

/-! ### The TAP (R460, R461) -/

/-- A TAP instruction is shifted in: the register's captured value comes out, and a refused instruction loads BYPASS. -/
def State.tap (s : State) (ir : Nat) (allowed : Bool) (f : State → State) : State :=
  let m := { s.mgmt with ir := if allowed then ir else 1, refused := !allowed, driven := allowed && ir == 3 }
  let t := { s with mgmt := m, out.capture := if s.mgmt.refused then 5 else 1 }
  if !s.boot.powered then s else if allowed then f t else t

/-- Whether the lifecycle state and the monitor's level allow EXTEST and the private instructions (Table 15.4). -/
def State.jtagOpen (s : State) : Bool :=
  s.fuse.lifecycle == 0 || ((s.fuse.lifecycle == 1 || s.fuse.lifecycle == 2) && s.mgmt.level == 2)

/-- The value of IDCODE. -/
def State.idcode (s : State) : Nat := 1 + 2 * Config.jep106.toNat + 2 ^ 12 * 0x7360 + 2 ^ 28 * (s.fuse.rev % 16)

/-- IDCODE. -/
def execIdcode (s : State) : Host.Outcome State Fault Refusal :=
  done s (s.tap 0 true fun t => t.answer (BitVec.ofNat 64 t.idcode) .ok)
/-- BYPASS. -/
def execBypass (s : State) : Host.Outcome State Fault Refusal := done s (s.tap 1 true id)
/-- SAMPLE/PRELOAD: the pins are sampled, and the boundary register loaded. -/
def execSamplePreload (bits : Bytes) (s : State) : Host.Outcome State Fault Refusal :=
  done s (s.tap 2 true fun t => { t with free := t.free + 1, mgmt.boundary := bits }.says .ok (Config.pinSample t.free))
/-- EXTEST: while PERST# is asserted, the pins take the boundary register. -/
def execExtest (s : State) : Host.Outcome State Fault Refusal := done s (s.tap 3 (s.jtagOpen && s.boot.perst) id)

/-- Whether DIESEL reaches a die: not the stacks, and a partner only through a module in the DEBUG role. -/
def State.dieReached (s : State) (i : Nat) : Bool :=
  decide (i < 37) || ((i == 73 || i == 74) && (s.psite (i - 73)).mods.any (fun m => m.role == 3 && m.width != 3))

/-- DIESEL. [DEDUCED, log entry 47] -/
def execDiesel (index : Nat) (s : State) : Host.Outcome State Fault Refusal :=
  done s (s.tap 4 (s.jtagOpen && s.dieReached index) fun t => { t with mgmt.die := some index })

/-- The Wellkeeper holds a die's wrapper: during S3, and during a segment on that die. -/
def State.wrapperHeld (s : State) (i : Nat) : Bool :=
  (s.boot.running && s.boot.stage == 3) || s.svc.segments.any (fun u => match u with
    | .core t _ _ => (s.tile t).site == some (i - 1) && i != 0
    | .spare n => i == n + 1
    | _ => i == 0)

/-- DIESCAN: the selected die's wrapper is scanned; the busy bit comes out first. [DEDUCED, log entry 47] -/
def execDiescan (shift : Bytes) (s : State) : Host.Outcome State Fault Refusal :=
  done s (s.tap 5 (s.jtagOpen && s.mgmt.die.isSome) fun t =>
    match t.mgmt.die with
    | none => t
    | some i =>
      if t.wrapperHeld i then t.says .ok (List.replicate shift.length 0xFF)
      else
        let b := ((Config.wrapperBits i t.free) ++ zeros shift.length).take shift.length
        let b := match b with | x :: r => (x &&& 0xFE) :: r | [] => []
        { t with free := t.free + 1, mgmt.wrapper := tset (fun _ => []) t.mgmt.wrapper i shift }.says .ok b)

end Sys2Proof.Machine
end

