-- ==== Sys2Proof/Machine/Dispatch.lean ====
section
/-!
DEFINITION. The meaning of every command: one arm per constructor of `Instr`.
-/

namespace Sys2Proof.Machine

/-- The effect of a command on everything but the queue. -/
def exec (i : Instr) (s : State) : Host.Outcome State Fault Refusal :=
  match i with
  | .powerOn vin refclk => Sys2Proof.Machine.execPowerOn vin refclk s
  | .stageS0 r => Sys2Proof.Machine.execStageS0 r s
  | .stageS1 r => Sys2Proof.Machine.execStageS1 r s
  | .stageS2 r => Sys2Proof.Machine.execStageS2 r s
  | .stageS3 r => Sys2Proof.Machine.execStageS3 r s
  | .stageS4 r => Sys2Proof.Machine.execStageS4 r s
  | .stageS5 r => Sys2Proof.Machine.execStageS5 r s
  | .stageS6 r => Sys2Proof.Machine.execStageS6 r s
  | .stageS7 a b dur => Sys2Proof.Machine.execStageS7 a b dur s
  | .stageS8 ports dur => Sys2Proof.Machine.execStageS8 ports dur s
  | .stageS9 dur => Sys2Proof.Machine.execStageS9 dur s
  | .stageTimeout => Sys2Proof.Machine.execStageTimeout s
  | .perstAssert => Sys2Proof.Machine.execPerstAssert s
  | .perstRelease => Sys2Proof.Machine.execPerstRelease s
  | .undervoltageStop mv => Sys2Proof.Machine.execUndervoltageStop mv s
  | .overvoltageStop mv => Sys2Proof.Machine.execOvervoltageStop mv s
  | .inputBandChange mv => Sys2Proof.Machine.execInputBandChange mv s
  | .phaseFail phase => Sys2Proof.Machine.execPhaseFail phase s
  | .droop => Sys2Proof.Machine.execDroop s
  | .droopEnd => Sys2Proof.Machine.execDroopEnd s
  | .pcieHotReset => Sys2Proof.Machine.execPcieHotReset s
  | .functionLevelReset fn => Sys2Proof.Machine.execFunctionLevelReset fn s
  | .vfEnableClear => Sys2Proof.Machine.execVfEnableClear s
  | .powerStateChange fn d3 => Sys2Proof.Machine.execPowerStateChange fn d3 s
  | .pcieRetrain gen width => Sys2Proof.Machine.execPcieRetrain gen width s
  | .registerWrite path v => Sys2Proof.Machine.execRegisterWrite path v s
  | .readClear path => Sys2Proof.Machine.execReadClear path s
  | .cfgCommit fn group => Sys2Proof.Machine.execCfgCommit fn group s
  | .commitApply fn => Sys2Proof.Machine.execCommitApply fn s
  | .aqCommit group => Sys2Proof.Machine.execAqCommit group s
  | .psCommit group => Sys2Proof.Machine.execPsCommit group s
  | .diagCommit group => Sys2Proof.Machine.execDiagCommit group s
  | .pwrCommit group => Sys2Proof.Machine.execPwrCommit group s
  | .psReadmit site epoch => Sys2Proof.Machine.execPsReadmit site epoch s
  | .diagFlipWrite k v => Sys2Proof.Machine.execDiagFlipWrite k v s
  | .sqDoorbell fn ring idx => Sys2Proof.Machine.execSqDoorbell fn ring idx s
  | .cqDoorbell fn ring idx => Sys2Proof.Machine.execCqDoorbell fn ring idx s
  | .sqFetch ring reply => Sys2Proof.Machine.execSqFetch ring reply s
  | .commandDispatch ring => Sys2Proof.Machine.execCommandDispatch ring s
  | .commandDeadline ring id => Sys2Proof.Machine.execCommandDeadline ring id s
  | .cqPost ring writeOk => Sys2Proof.Machine.execCqPost ring writeOk s
  | .irqCoalesceTimeout ring => Sys2Proof.Machine.execIrqCoalesceTimeout ring s
  | .eventPost put => Sys2Proof.Machine.execEventPost put s
  | .nop id => Sys2Proof.Machine.execNop id s
  | .hostCopy pump id reply => Sys2Proof.Machine.execHostCopy pump id reply s
  | .hostFill pump put => Sys2Proof.Machine.execHostFill pump put s
  | .hostSeal pump id => Sys2Proof.Machine.execHostSeal pump id s
  | .hostVerify pump id => Sys2Proof.Machine.execHostVerify pump id s
  | .launch id => Sys2Proof.Machine.execLaunch id s
  | .launchRelease task => Sys2Proof.Machine.execLaunchRelease task s
  | .halt id => Sys2Proof.Machine.execHalt id s
  | .syncOpSet id => Sys2Proof.Machine.execSyncOpSet id s
  | .syncOpAdd id => Sys2Proof.Machine.execSyncOpAdd id s
  | .syncOpCas id => Sys2Proof.Machine.execSyncOpCas id s
  | .syncOpWaitGe id => Sys2Proof.Machine.execSyncOpWaitGe id s
  | .syncOpWaitEq id => Sys2Proof.Machine.execSyncOpWaitEq id s
  | .syncOpArm id => Sys2Proof.Machine.execSyncOpArm id s
  | .collectiveBarrier id => Sys2Proof.Machine.execCollectiveBarrier id s
  | .collectiveAllReduce id => Sys2Proof.Machine.execCollectiveAllReduce id s
  | .collectiveBroadcast id => Sys2Proof.Machine.execCollectiveBroadcast id s
  | .collectiveReduceScatter id => Sys2Proof.Machine.execCollectiveReduceScatter id s
  | .collectiveComplete group => Sys2Proof.Machine.execCollectiveComplete group s
  | .collectiveTimeout group => Sys2Proof.Machine.execCollectiveTimeout group s
  | .configStage id => Sys2Proof.Machine.execConfigStage id s
  | .configCommit id => Sys2Proof.Machine.execConfigCommit id s
  | .query put => Sys2Proof.Machine.execQuery put s
  | .repairFence id => Sys2Proof.Machine.execRepairFence id s
  | .repairReadmit id => Sys2Proof.Machine.execRepairReadmit id s
  | .repairSpare id => Sys2Proof.Machine.execRepairSpare id s
  | .acceptTopology id => Sys2Proof.Machine.execAcceptTopology id s
  | .rejectTopology id => Sys2Proof.Machine.execRejectTopology id s
  | .partitionReset id => Sys2Proof.Machine.execPartitionReset id s
  | .timestamp id => Sys2Proof.Machine.execTimestamp id s
  | .fence id => Sys2Proof.Machine.execFence id s
  | .test id r => Sys2Proof.Machine.execTest id r s
  | .ackEvent id => Sys2Proof.Machine.execAckEvent id s
  | .bar4Read off size => Sys2Proof.Machine.execBar4Read off size s
  | .bar4Write off data => Sys2Proof.Machine.execBar4Write off data s
  | .tlkSset a rs1 rs2 => Sys2Proof.Machine.execTlkSset a rs1 rs2 s
  | .tlkSadd a rd rs1 rs2 aq rl => Sys2Proof.Machine.execTlkSadd a rd rs1 rs2 aq rl s
  | .tlkSwge a rd rs1 rs2 => Sys2Proof.Machine.execTlkSwge a rd rs1 rs2 s
  | .tlkSweq a rd rs1 rs2 => Sys2Proof.Machine.execTlkSweq a rd rs1 rs2 s
  | .tlkSarm a rd rs1 rs2 => Sys2Proof.Machine.execTlkSarm a rd rs1 rs2 s
  | .tlkScas a rd rs1 rs2 rs3 => Sys2Proof.Machine.execTlkScas a rd rs1 rs2 rs3 s
  | .tlkMcq a rd rs1 rs2 => Sys2Proof.Machine.execTlkMcq a rd rs1 rs2 s
  | .tlkPump a rd rs1 rs2 => Sys2Proof.Machine.execTlkPump a rd rs1 rs2 s
  | .tlkPfence a rd rs1 => Sys2Proof.Machine.execTlkPfence a rd rs1 s
  | .tlkDtr a rd rs1 => Sys2Proof.Machine.execTlkDtr a rd rs1 s
  | .tlkTime a rd => Sys2Proof.Machine.execTlkTime a rd s
  | .tlkExit a rs1 => Sys2Proof.Machine.execTlkExit a rs1 s
  | .taskEnd task => Sys2Proof.Machine.execTaskEnd task s
  | .waitWake w => Sys2Proof.Machine.execWaitWake w s
  | .vcoreTrap a code tval => Sys2Proof.Machine.execVcoreTrap a code tval s
  | .vcoreRun a => Sys2Proof.Machine.execVcoreRun a s
  | .vcoreStop a => Sys2Proof.Machine.execVcoreStop a s
  | .tlkClassWrite a v => Sys2Proof.Machine.execTlkClassWrite a v s
  | .machineTimer a => Sys2Proof.Machine.execMachineTimer a s
  | .scoreInterrupt a => Sys2Proof.Machine.execScoreInterrupt a s
  | .wfi a => Sys2Proof.Machine.execWfi a s
  | .coreFetch a => Sys2Proof.Machine.execCoreFetch a s
  | .cacheLoad a addr size rd form => Sys2Proof.Machine.execCacheLoad a addr size rd form s
  | .cacheStore a addr size op v => Sys2Proof.Machine.execCacheStore a addr size op v s
  | .uncachedAccess a addr size kind rd form v => Sys2Proof.Machine.execUncachedAccess a addr size kind rd form v s
  | .lrDeferTimeout a => Sys2Proof.Machine.execLrDeferTimeout a s
  | .ccClean a v => Sys2Proof.Machine.execCcClean a v s
  | .ccInval a v => Sys2Proof.Machine.execCcInval a v s
  | .ccCleanInval a v => Sys2Proof.Machine.execCcCleanInval a v s
  | .ccPin a v => Sys2Proof.Machine.execCcPin a v s
  | .ccEnable a v => Sys2Proof.Machine.execCcEnable a v s
  | .ccDisable a v => Sys2Proof.Machine.execCcDisable a v s
  | .rdS m => Sys2Proof.Machine.execRdS m s
  | .rdX m => Sys2Proof.Machine.execRdX m s
  | .upg m => Sys2Proof.Machine.execUpg m s
  | .rdU m => Sys2Proof.Machine.execRdU m s
  | .peek m => Sys2Proof.Machine.execPeek m s
  | .wrU m => Sys2Proof.Machine.execWrU m s
  | .putM m => Sys2Proof.Machine.execPutM m s
  | .putC m => Sys2Proof.Machine.execPutC m s
  | .snpRsp m => Sys2Proof.Machine.execSnpRsp m s
  | .stashAcc m => Sys2Proof.Machine.execStashAcc m s
  | .stashDec m => Sys2Proof.Machine.execStashDec m s
  | .stashStep line target => Sys2Proof.Machine.execStashStep line target s
  | .snpS m => Sys2Proof.Machine.execSnpS m s
  | .snpX m => Sys2Proof.Machine.execSnpX m s
  | .snpU m => Sys2Proof.Machine.execSnpU m s
  | .snpP m => Sys2Proof.Machine.execSnpP m s
  | .inv m => Sys2Proof.Machine.execInv m s
  | .stashOffer m => Sys2Proof.Machine.execStashOffer m s
  | .dataR m => Sys2Proof.Machine.execDataR m s
  | .dataM m => Sys2Proof.Machine.execDataM m s
  | .dataPoison m => Sys2Proof.Machine.execDataPoison m s
  | .ackUpg m => Sys2Proof.Machine.execAckUpg m s
  | .wrAck m => Sys2Proof.Machine.execWrAck m s
  | .wbAck m => Sys2Proof.Machine.execWbAck m s
  | .agentReclaim agent => Sys2Proof.Machine.execAgentReclaim agent s
  | .mnop ix => Sys2Proof.Machine.execMnop ix s
  | .mma ix => Sys2Proof.Machine.execMma ix s
  | .int8ClockRestore tile => Sys2Proof.Machine.execInt8ClockRestore tile s
  | .mload ix => Sys2Proof.Machine.execMload ix s
  | .mstore ix => Sys2Proof.Machine.execMstore ix s
  | .msend ix => Sys2Proof.Machine.execMsend ix s
  | .msendArrive ix => Sys2Proof.Machine.execMsendArrive ix s
  | .msync ix => Sys2Proof.Machine.execMsync ix s
  | .mwait ix => Sys2Proof.Machine.execMwait ix s
  | .mSig ix => Sys2Proof.Machine.execMSig ix s
  | .msResume who ix => Sys2Proof.Machine.execMsResume who ix s
  | .msFlush who ix => Sys2Proof.Machine.execMsFlush who ix s
  | .pumpStart p => Sys2Proof.Machine.execPumpStart p s
  | .copy p id => Sys2Proof.Machine.execCopy p id s
  | .gather p id => Sys2Proof.Machine.execGather p id s
  | .scatter p id => Sys2Proof.Machine.execScatter p id s
  | .fill p id => Sys2Proof.Machine.execFill p id s
  | .mcast p id => Sys2Proof.Machine.execMcast p id s
  | .mcAck p id dest => Sys2Proof.Machine.execMcAck p id dest s
  | .mcastTimeout p id dest => Sys2Proof.Machine.execMcastTimeout p id dest s
  | .seal p id => Sys2Proof.Machine.execSeal p id s
  | .verify p id => Sys2Proof.Machine.execVerify p id s
  | .csend p id => Sys2Proof.Machine.execCsend p id s
  | .cinstall p id => Sys2Proof.Machine.execCinstall p id s
  | .crelease p id => Sys2Proof.Machine.execCrelease p id s
  | .pumpComplete p id => Sys2Proof.Machine.execPumpComplete p id s
  | .contributionArrive c => Sys2Proof.Machine.execContributionArrive c s
  | .contributionJoin n c d => Sys2Proof.Machine.execContributionJoin n c d s
  | .slotComplete n slot => Sys2Proof.Machine.execSlotComplete n slot s
  | .slipTimeout region port full => Sys2Proof.Machine.execSlipTimeout region port full s
  | .mergeWindowEnd granule => Sys2Proof.Machine.execMergeWindowEnd granule s
  | .correctiveWriteback granule => Sys2Proof.Machine.execCorrectiveWriteback granule s
  | .vaneResend src dst ref => Sys2Proof.Machine.execVaneResend src dst ref s
  | .flowAck src dst seq => Sys2Proof.Machine.execFlowAck src dst seq s
  | .vaneReorderRelease src dst vc => Sys2Proof.Machine.execVaneReorderRelease src dst vc s
  | .cellRead cell who => Sys2Proof.Machine.execCellRead cell who s
  | .cellSet cell x => Sys2Proof.Machine.execCellSet cell x s
  | .cellAdd cell x posted => Sys2Proof.Machine.execCellAdd cell x posted s
  | .cellCas cell e n => Sys2Proof.Machine.execCellCas cell e n s
  | .cellWaitGe cell b w => Sys2Proof.Machine.execCellWaitGe cell b w s
  | .cellWaitEq cell x w => Sys2Proof.Machine.execCellWaitEq cell x w s
  | .cellArm cell b w => Sys2Proof.Machine.execCellArm cell b w s
  | .waiterQueuedEnter region => Sys2Proof.Machine.execWaiterQueuedEnter region s
  | .waiterCancel w => Sys2Proof.Machine.execWaiterCancel w s
  | .regulationTick => Sys2Proof.Machine.execRegulationTick s
  | .qosWindowEnd c => Sys2Proof.Machine.execQosWindowEnd c s
  | .valveRequest r => Sys2Proof.Machine.execValveRequest r s
  | .hbmBankSchedule h ready find => Sys2Proof.Machine.execHbmBankSchedule h ready find s
  | .housekeepingRound r => Sys2Proof.Machine.execHousekeepingRound r s
  | .hbmDerate h => Sys2Proof.Machine.execHbmDerate h s
  | .hbmRetrainDone h ok => Sys2Proof.Machine.execHbmRetrainDone h ok s
  | .hbmRemap h ch pc sid bank row units bad => Sys2Proof.Machine.execHbmRemap h ch pc sid bank row units bad s
  | .tgStart h c v mismatches => Sys2Proof.Machine.execTgStart h c v mismatches s
  | .tgStop h c => Sys2Proof.Machine.execTgStop h c s
  | .tgDone h c => Sys2Proof.Machine.execTgDone h c s
  | .scrubRead hbm unit late => Sys2Proof.Machine.execScrubRead hbm unit late s
  | .cisternRemap slice sub row => Sys2Proof.Machine.execCisternRemap slice sub row s
  | .cisternColumn slice sub bit => Sys2Proof.Machine.execCisternColumn slice sub bit s
  | .unitRetire region unit => Sys2Proof.Machine.execUnitRetire region unit s
  | .bondNakRetry region port beat => Sys2Proof.Machine.execBondNakRetry region port beat s
  | .bondRetrain f ok => Sys2Proof.Machine.execBondRetrain f ok s
  | .tileDieReset tile => Sys2Proof.Machine.execTileDieReset tile s
  | .tileClockReturn tile ok => Sys2Proof.Machine.execTileClockReturn tile ok s
  | .tileClockWaitExpire tile => Sys2Proof.Machine.execTileClockWaitExpire tile s
  | .aqFlitReceive p fec fseq ack creds body crc => Sys2Proof.Machine.execAqFlitReceive p fec fseq ack creds body crc s
  | .aqLaneFail p lane => Sys2Proof.Machine.execAqLaneFail p lane s
  | .aqPeerTrain p t => Sys2Proof.Machine.execAqPeerTrain p t s
  | .rd p m => Sys2Proof.Machine.execRd p m s
  | .wr p m => Sys2Proof.Machine.execWr p m s
  | .sync p m => Sys2Proof.Machine.execSync p m s
  | .rdr p m => Sys2Proof.Machine.execRdr p m s
  | .wrack p m => Sys2Proof.Machine.execWrack p m s
  | .syncr p m => Sys2Proof.Machine.execSyncr p m s
  | .catc p m c => Sys2Proof.Machine.execCatc p m c s
  | .coll p m => Sys2Proof.Machine.execColl p m s
  | .barr p m => Sys2Proof.Machine.execBarr p m s
  | .slow p m => Sys2Proof.Machine.execSlow p m s
  | .abort p m => Sys2Proof.Machine.execAbort p m s
  | .cdig p m => Sys2Proof.Machine.execCdig p m s
  | .remoteTimeout tag => Sys2Proof.Machine.execRemoteTimeout tag s
  | .slowRenew => Sys2Proof.Machine.execSlowRenew s
  | .pwrAsk site watts => Sys2Proof.Machine.execPwrAsk site watts s
  | .pwrTele site watts temp => Sys2Proof.Machine.execPwrTele site watts temp s
  | .partnerOverrun site lasted => Sys2Proof.Machine.execPartnerOverrun site lasted s
  | .partnerFence site => Sys2Proof.Machine.execPartnerFence site s
  | .ucieLaneFail site m repaired => Sys2Proof.Machine.execUcieLaneFail site m repaired s
  | .budgetRound => Sys2Proof.Machine.execBudgetRound s
  | .pwrReq tile power ask => Sys2Proof.Machine.execPwrReq tile power ask s
  | .pwrGrant tile mhz vsMhz gate => Sys2Proof.Machine.execPwrGrant tile mhz vsMhz gate s
  | .grantTimeout tile => Sys2Proof.Machine.execGrantTimeout tile s
  | .thermalEval => Sys2Proof.Machine.execThermalEval s
  | .thermalShutdown island => Sys2Proof.Machine.execThermalShutdown island s
  | .shutdownRecordWrite => Sys2Proof.Machine.execShutdownRecordWrite s
  | .regionClockChange q mhz => Sys2Proof.Machine.execRegionClockChange q mhz s
  | .islandClockStop tile vs => Sys2Proof.Machine.execIslandClockStop tile vs s
  | .islandWake island => Sys2Proof.Machine.execIslandWake island s
  | .tilePowerDown tile => Sys2Proof.Machine.execTilePowerDown tile s
  | .pllLockLoss tile => Sys2Proof.Machine.execPllLockLoss tile s
  | .unitFailure tile core => Sys2Proof.Machine.execUnitFailure tile core s
  | .quiesceDrained tile row => Sys2Proof.Machine.execQuiesceDrained tile row s
  | .spareTakeover tile row ok => Sys2Proof.Machine.execSpareTakeover tile row ok s
  | .drizzleSegment u => Sys2Proof.Machine.execDrizzleSegment u s
  | .drizzleSegmentEnd u pass => Sys2Proof.Machine.execDrizzleSegmentEnd u pass s
  | .drizzleAbort u => Sys2Proof.Machine.execDrizzleAbort u s
  | .drizzleOverdue u => Sys2Proof.Machine.execDrizzleOverdue u s
  | .barometerReplan island slacks => Sys2Proof.Machine.execBarometerReplan island slacks s
  | .distanceTableUpdate => Sys2Proof.Machine.execDistanceTableUpdate s
  | .eventLogWrite => Sys2Proof.Machine.execEventLogWrite s
  | .flashHoldFlush => Sys2Proof.Machine.execFlashHoldFlush s
  | .lockstepError => Sys2Proof.Machine.execLockstepError s
  | .setEndpointId pcie eid => Sys2Proof.Machine.execSetEndpointId pcie eid s
  | .pldmSensorRead id => Sys2Proof.Machine.execPldmSensorRead id s
  | .pldmEffecterWrite v => Sys2Proof.Machine.execPldmEffecterWrite v s
  | .requestUpdate => Sys2Proof.Machine.execRequestUpdate s
  | .firmwareTransfer data => Sys2Proof.Machine.execFirmwareTransfer data s
  | .verifyComplete crc => Sys2Proof.Machine.execVerifyComplete crc s
  | .activateFirmware accepts => Sys2Proof.Machine.execActivateFirmware accepts s
  | .fwFallback => Sys2Proof.Machine.execFwFallback s
  | .getIdentity index => Sys2Proof.Machine.execGetIdentity index s
  | .getStageReport stage => Sys2Proof.Machine.execGetStageReport stage s
  | .getLog first count => Sys2Proof.Machine.execGetLog first count s
  | .getSnapshot => Sys2Proof.Machine.execGetSnapshot s
  | .writeTopology pcie rec => Sys2Proof.Machine.execWriteTopology pcie rec s
  | .resetModule pcie confirm => Sys2Proof.Machine.execResetModule pcie confirm s
  | .getLifecycle => Sys2Proof.Machine.execGetLifecycle s
  | .monHelp => Sys2Proof.Machine.execMonHelp s
  | .monId => Sys2Proof.Machine.execMonId s
  | .monLcs => Sys2Proof.Machine.execMonLcs s
  | .monStage stage => Sys2Proof.Machine.execMonStage stage s
  | .monSensors => Sys2Proof.Machine.execMonSensors s
  | .monLog first count => Sys2Proof.Machine.execMonLog first count s
  | .unlockChallenge level => Sys2Proof.Machine.execUnlockChallenge level s
  | .unlockResponse level code => Sys2Proof.Machine.execUnlockResponse level code s
  | .unlockExpire => Sys2Proof.Machine.execUnlockExpire s
  | .lock => Sys2Proof.Machine.execLock s
  | .baud rate => Sys2Proof.Machine.execBaud rate s
  | .monPeek addr count => Sys2Proof.Machine.execMonPeek addr count s
  | .monDrizzle u pass => Sys2Proof.Machine.execMonDrizzle u pass s
  | .monTg h c pc mode op seed base len r => Sys2Proof.Machine.execMonTg h c pc mode op seed base len r s
  | .poke addr v => Sys2Proof.Machine.execPoke addr v s
  | .diemode index mode => Sys2Proof.Machine.execDiemode index mode s
  | .monReset => Sys2Proof.Machine.execMonReset s
  | .idcode => Sys2Proof.Machine.execIdcode s
  | .bypass => Sys2Proof.Machine.execBypass s
  | .samplePreload bits => Sys2Proof.Machine.execSamplePreload bits s
  | .extest => Sys2Proof.Machine.execExtest s
  | .diesel index => Sys2Proof.Machine.execDiesel index s
  | .diescan shift => Sys2Proof.Machine.execDiescan shift s
  | .partnerDieReturn site f => Sys2Proof.Machine.execPartnerDieReturn site f s
  | .cancelUpdate => Sys2Proof.Machine.execCancelUpdate s

end Sys2Proof.Machine
end

