-- ==== Sys2Proof/Machine/Step.lean ====
section
/-!
DEFINITION. One step: the command at the front of the queue runs; on an empty queue one nanosecond of the timebase passes.
-/

namespace Sys2Proof.Machine

/-- The module idles: the timebase, when it runs, counts one nanosecond (R47), and the slot counters the cycles of their clocks
(R150). [DESIGN CHOICE, log entries 10, 14, 54] -/
def idle (s : State) : State := if s.boot.ticking then { s with now := s.now + 1, mesh.phases := s.slotTick } else s

/-- Take the command at the front of the queue and run it with the rest of the queue. [DESIGN CHOICE, log entries 10, 53] -/
def step (s : State) : Host.Outcome State Fault Refusal :=
  match s.pending with
  | [] => .next (idle s)
  | c :: rest => exec c { s with pending := rest }

/-- The state with the command that a word spells at the front of its queue; unchanged where the word spells none.
[DESIGN CHOICE, log entries 10, 49] -/
def State.withFetchWord (s : State) (nbits w : Nat) : State :=
  match decodeTableWord nbits w with
  | some c => { s with pending := c :: s.pending }
  | none => s

end Sys2Proof.Machine
end

