-- ==== Sys2Proof/Safety.lean ====
section
/-!
DEFINITION. What a safe run is: every step answers a next state. And what it means that one command completes.
-/

namespace Sys2Proof.Machine

/-- The step from a state answers a next state. -/
def Safe (s : State) : Prop := ∃ t, step s = .next t

/-- `k` steps from a state answer next states. -/
def SafeFor : Nat → State → Prop
  | 0, _ => True
  | k + 1, s => ∃ t, step s = .next t ∧ SafeFor k t

/-- Command `c` completes in state `s`, and the state it leaves satisfies `P`. -/
def Does (c : Instr) (s : State) (P : State → Prop) : Prop := ∃ t, exec c s = .next t ∧ P t

/-- A command of state `s` that works out `t` leaves state `u`: `t` with the queue, the fuses and the timebase of `s`. -/
def Leaves (s t u : State) : Prop := u = { t with
  pending := s.pending
  fuse := s.fuse
  now := s.now }

/-- The state after host command `c`, whose pump effect ended as `r` says, has completed: with ST_OK and the result `ok`, or with the
status and RESULT of the effect (R280). -/
def settled (c : HostCmd) (ok : Nat) (r : State × PEnd) : State :=
  match r with
  | (t, none) => t.complete c .ok 0 ok
  | (t, some (st, x)) => t.complete c st 0 x

/-- A sync cell that exists, holds no error, and is not under a partition reset (R294, R304). -/
abbrev SoundCell (s : State) (c : Nat) : Prop :=
  c < nCells ∧ s.cellErr c = {} ∧ s.placeResetting (cellBase + 8 * c) 8 = false

/-- Core `a` exists and executes its next instruction. -/
abbrev Ready (s : State) (a : Nat) : Prop := a < 384 ∧ s.coreReady a = true

/-- Host command `c`, of opcode `op`, is dispatched under `id` and runs. -/
abbrev Runs (s : State) (id op : Nat) (c : HostCmd) : Prop := s.cmd id = some c ∧ dOp c.desc = op ∧ c.waiting = false

/-- Core `a` executes a sync-cell instruction whose register `rs1` names sound cell `i`, of its own partition, in this
module (R42, R52). -/
abbrev OnCell (s : State) (a rs1 i : Nat) : Prop :=
  Ready s a ∧ s.cellRef ((s.core a).x rs1) = .here i ∧ s.cellMine a i = true ∧ SoundCell s i

/-- M-core `i`, present and neither faulted, waiting nor quiesced, takes command `c` from the head of its queue: every check of
Table 3.13 passes, its flag counter suffices, and no transfer of its own is under way (R98, R104, R108). -/
abbrev MHead (s : State) (i : Nat) (c : MCmd) (rest : List MCmd) : Prop :=
  i < 512 ∧ (s.mc i).queue = c :: rest ∧ s.mPresent i = true ∧ (s.mc i).faulted = false ∧ (s.mc i).waiting = false ∧
  s.quiesced (i / 16) (i / 4 % 4) = false ∧ mCheck (s.mEnv i) i c.desc = none ∧
  le c.desc 3 1 ≤ (s.mc i).lf.getD (le c.desc 2 1 % 4) 0 ∧ (s.mc i).xfers = []

/-- Pump `p` runs the started command `c`, which has passed every check of Table 5.11 and waits for nothing. -/
abbrev Pumping (s : State) (p id : Nat) (c : PCmd) : Prop :=
  p < 156 ∧ (s.pump p).find? (fun x => x.id == id) = some c ∧ c.started = true ∧ c.fin = none ∧ s.aside c = false ∧
  c.waits = [] ∧ c.live = [] ∧ s.pCheck (pumpEnv p c) c.desc c.dests = none

/-- Memory holds no error, no cache a copy, no home a waiting request, no march runs and no reduction slot is ACTIVE: a read
gives the stored bytes, and a write is refused nothing. -/
abbrev Clean (s : State) : Prop :=
  s.grans = [] ∧ s.tcmErrs = [] ∧ s.coh.dir = [] ∧ s.coh.waiting = [] ∧ s.svc.segments = [] ∧ s.activeSlots = []

/-- Whether an address leads to a byte of the Cistern or of HBM of this module. -/
def inMem (s : State) (a : Nat) : Bool :=
  match s.place a with
  | .hbm _ => true
  | .cistern _ => true
  | _ => false

/-- No flip of DIAG_FLIPk is armed (R394). -/
def unarmed (s : State) (k : Nat) : Bool := !bit (tget (fun _ => (0 : Word)) s.svc.flips k).toNat 0

/-- An address of the Cistern or of HBM that pump `p` may access for command `c` with a range of `n` bytes. -/
abbrev May (s : State) (p : Nat) (c : PCmd) (k : AccKind) (a n : Nat) : Prop :=
  s.memCheck (pumpEnv p c).who k a n = .ok ∧ inMem s a = true ∧ isHost (pumpEnv p c) a = false

/-- Command `c` of pump `p` has finished with a status, a DETAIL and a RESULT; the pump's other commands and the other pumps are
as before. -/
def Finished (s t : State) (p : Nat) (c : PCmd) (st : Status) (detail result : Nat) : Prop :=
  t.pump p = (s.pump p).map (fun x => if x.id = c.id then { c with fin := some (st, detail, result) } else x) ∧
  ∀ q, q ≠ p → t.pump q = s.pump q

/-- Host command `c` has completed: it is dispatched no more, and its record is the newest of its completion ring's backlog
(R270, R273). -/
def Ended (s t : State) (c : HostCmd) (st : Status) (detail result : Nat) : Prop :=
  t.host.cmds = s.host.cmds.filter (fun x => x.id != c.id) ∧
  (t.ring (s.sqCq c.ring)).backlog = (s.ring (s.sqCq c.ring)).backlog ++
    [⟨dTag c.desc, st, detail, false, result, bit (dFlags c.desc) 1, some (c.ring, c.id)⟩] ∧
  ∀ r, r ≠ s.sqCq c.ring → t.ring r = s.ring r

end Sys2Proof.Machine
end

