-- ==== Sys2Proof/Certificates/Slice0/Obligations.lean ====
section
/-!
DEFINITION. The statements about the model for the provers. `Does c s P` says that command `c` completes in state `s` and that
`P` holds of the state it leaves; an equation `t = ` with the fields of `s` named says that nothing else changes.
-/

open Sys2Proof Sys2Proof.Machine

/-- A step runs the command at the front of the queue, with the rest of the queue. The queue is the model's own field
(log entry 10) (00_scope). -/
def Obligations.StepRunsFrontCommand : Prop :=
  ∀ (c : Instr) (rest : List Instr) (s : State), s.pending = c :: rest → step s = exec c { s with pending := rest }

/-- No step refuses, and a step faults only on a command for a unit the module does not have (00_scope). -/
def Obligations.EveryCommandHasItsEffect : Prop :=
  ∀ s : State, (∃ t, step s = .next t) ∨ ∃ kind n, step s = .fault (.noSuchUnit kind n)

/-- Every step keeps the identity fuses, takes exactly the front command, and moves the timebase back only where
start-up or power loss does. The queue is the model's own field; that an idle step counts a nanosecond, on the
timebase and the slot counters, is the model's choice (log entries 10 and 54) (R47, R376, R377). -/
def Obligations.EveryStepKeepsFusesQueueAndTime : Prop :=
  ∀ (F : Fuse) (s t : State), s.fuse = F → step s = .next t →
  (t.fuse = F ∧ t.pending = s.pending.tail) ∧
  (s.pending = [] → t = if s.boot.ticking = true then { s with now := s.now + 1, mesh.phases := s.slotTick } else s) ∧
  (∀ c rest, s.pending = c :: rest → (∀ v r, c ≠ .powerOn v r) → (∀ r, c ≠ .stageS0 r) → (∀ v, c ≠ .undervoltageStop v) →
    (∀ v, c ≠ .overvoltageStop v) → t.now = s.now)

/-- After reset the queue is empty, nothing is powered, the timebase stands at 0, every cell reads zero and memory
lists nothing. That the machine begins without power, and that an idle step of it changes nothing, is the model's
choice (log entries 2 and 10) (R47, R376, R377). -/
def Obligations.ResetState : Prop :=
  State.reset.pending = [] ∧ State.reset.fuse = {} ∧ State.reset.boot.powered = false ∧ State.reset.boot.running = false ∧
  State.reset.now = 0 ∧ State.reset.boot.ticking = false ∧ State.reset.memWf = true ∧ (∀ a, State.reset.byte a = 0) ∧
  (∀ i, State.reset.cell i = 0) ∧ (∀ blk o, State.reset.reg blk o = (regReset (rkey blk o)).toNat) ∧
  step State.reset = .next State.reset

/-- READ, SET, ADD and CAS change a sound cell and answer as Table 9.1 says (R295, R294). -/
def Obligations.SyncCellArithmetic : Prop :=
  ∀ (s : State) (c : Nat) (x e n : Word), SoundCell s c →
  let only (t : State) : Prop :=
    (∀ j, j ≠ c → t.cell j = s.cell j) ∧ t = { s with sync := t.sync, svc := t.svc, out := t.out }
  Does (.cellRead c .bar4) s (fun t => t = { s with out.rdata := s.cell c, out.status := .ok }) ∧
  Does (.cellSet c x) s (fun t => t.cell c = x ∧ only t) ∧
  Does (.cellAdd c x false) s (fun t => t.cell c = s.cell c + x ∧ t.out.rdata = s.cell c ∧ only t) ∧
  Does (.cellAdd c x true) s (fun t => t.cell c = s.cell c + x ∧ t.out = s.out ∧ only t) ∧
  Does (.cellCas c e n) s (fun t => t.cell c = (if s.cell c = e then n else s.cell c) ∧ t.out.rdata = s.cell c ∧ only t)

/-- An operation on a cell removes the entries whose condition its value meets and wakes them with it; a wait whose
condition holds ends at once (R298). -/
def Obligations.SyncCellWakesWaiters : Prop :=
  ∀ (s : State) (c : Nat) (x : Word) (w : Waiter), SoundCell s c →
  let hit (e : WaitEnt) (v : Word) : Bool := e.cell == c && waitHolds e.kind e.bound v
  let woken (v : Word) (t : State) : Prop :=
    t.sync.table = s.sync.table.filter (fun e => !hit e v) ∧
    t.sync.wakes = s.sync.wakes ++ (s.sync.table.filter (fun e => hit e v)).map (fun e => ⟨e.w, v, .ok, 0⟩)
  let registers (holds : Bool) (kind : Nat) (t : State) : Prop :=
    (holds = true → t = { s with sync.wakes := s.sync.wakes ++ [⟨w, s.cell c, .ok, 0⟩] }) ∧
    (holds = false → s.waitUsed (c / 2048) < 1024 → s.sync.queued.any (fun x => x.cell / 2048 == c / 2048) = false →
      t.sync.table = s.sync.table ++ [⟨c, kind, x.toNat, w⟩] ∧ t.sync.wakes = s.sync.wakes ∧
      t.sync.cells = s.sync.cells ∧ t.sync.queued = s.sync.queued ∧ t = { s with sync := t.sync })
  let ge : Bool := decide ((s.cell c - x).toNat < 2 ^ 63)
  Does (.cellSet c x) s (woken x) ∧ Does (.cellAdd c x false) s (woken (s.cell c + x)) ∧
  Does (.cellAdd c x true) s (woken (s.cell c + x)) ∧
  Does (.cellWaitGe c x w) s (registers ge 0) ∧ Does (.cellWaitEq c x w) s (registers (decide (s.cell c = x)) 1) ∧
  Does (.cellArm c x w) s (registers ge 4)

/-- A full table queues a registration, the oldest queued one enters when there is room, a WAKE ends a core's wait, a
cancel forgets a waiter (R299, R300, R301). -/
def Obligations.WaitersQueueWakeAndCancel : Prop :=
  ∀ (s : State) (w : Waiter) (n c a rd k : Nat) (e : WaitEnt) (b v : Word),
  (SoundCell s c → (s.cell c == b) = false → 1024 ≤ s.waitUsed (c / 2048) →
    Does (.cellWaitEq c b w) s (fun t => t = { s with sync.queued := s.sync.queued ++ [⟨c, 1, b.toNat, w⟩] })) ∧
  (n < 36 → s.sync.queued.find? (fun e => e.cell / 2048 == n) = some e → s.waitUsed n < 1024 → SoundCell s e.cell →
    waitHolds e.kind e.bound (s.cell e.cell) = false →
    Does (.waiterQueuedEnter n) s (fun t => t.sync.queued = s.sync.queued.erase e ∧ t.sync.table = s.sync.table ++ [e] ∧
      t.sync.wakes = s.sync.wakes ∧ t.sync.cells = s.sync.cells ∧ t = { s with sync := t.sync })) ∧
  ((s.core a).wait = .cell c rd → (s.core a).stopping = false → s.sync.wakes.find? (fun x => x.w == .core a rd) = some ⟨.core a rd, v, .ok, k⟩ →
    Does (.waitWake (.core a rd)) s (fun t =>
      t.sync = { s.sync with wakes := s.sync.wakes.erase ⟨.core a rd, v, .ok, k⟩ } ∧
      t.core a = { (s.core a).setX rd v with pc := (s.core a).pc + 4, wait := .none, hpm := (t.core a).hpm } ∧
      (∀ j, j ≠ a → t.core j = s.core j) ∧ t = { s with sync := t.sync, cores := t.cores })) ∧
  Does (.waiterCancel w) s (fun t => t = { s with
    sync.table := s.sync.table.filter (fun e => e.w != w)
    sync.queued := s.sync.queued.filter (fun e => e.w != w)
    sync.wakes := s.sync.wakes.filter (fun e => e.w != w) })

/-- A vane message is resent up to four times, performed in order once it has arrived, and given up without holding
back its successors (R164, R165). -/
def Obligations.VaneMessagesResentAndPerformed : Prop :=
  ∀ (s : State) (m : VMsg) (src dst seq : Nat) (w : Waiter) (k : Wake),
  (s.vaneFind src dst seq = some m → m.tries < 4 →
    Does (.vaneResend src dst (.add seq)) s (fun t =>
      t = { s with vane.held := s.vane.held.map (fun x => if x = m then { m with tries := m.tries + 1 } else x) })) ∧
  (s.sync.wakes.find? (fun x => x.w == w) = some k → k.tries < 4 →
    Does (.vaneResend src dst (.wake w)) s (fun t =>
      t = { s with sync.wakes := s.sync.wakes.map (fun x => if x = k then { k with tries := k.tries + 1 } else x) })) ∧
  (s.vane.held = [m] → m.src = src → m.dst = dst → m.seq = seq → m.arrived = false → m.performed = false → m.tries < 5 →
    SoundCell s m.cell →
    Does (.flowAck src dst seq) s (fun t => t.cell m.cell = s.cell m.cell + m.val ∧ t.vane.held = [] ∧
      (∀ j, j ≠ m.cell → t.cell j = s.cell j) ∧ t = { s with sync := t.sync, svc := t.svc, vane := t.vane })) ∧
  (s.vane.held = [m] → m.src = src → m.dst = dst → m.performed = false → m.tries = 5 →
    Does (.vaneReorderRelease src dst 0) s (fun t => t = { s with vane.held := [] })) ∧
  Does (.vaneReorderRelease src dst 1) s (fun t => t = s)

/-- Writing a core register sets it and no other; register 0 reads zero and discards writes (R43,
02_tiles_and_cores.md). -/
def Obligations.RegisterZeroReadsZero : Prop :=
  ∀ (c : Core) (r q : Nat) (v : Word),
  (c.setX r v).x r = (if r = 0 then 0 else v) ∧ (c.setX r v).x 0 = 0 ∧ (q ≠ r → (c.setX r v).x q = c.x q) ∧
  (c.setX r v).pc = c.pc ∧ (c.setX r v).csr = c.csr

/-- TLK.SSET, SADD, SCAS, SWGE and SWEQ on a local cell: the cell, the destination register and the pc (R52, R53,
R295). -/
def Obligations.SyncInstructionsOnLocalCells : Prop :=
  ∀ (s : State) (a i rd rs1 rs2 rs3 : Nat) (aq rl : Bool), OnCell s a rs1 i →
  let x := (s.core a).x rs2
  let y := (s.core a).x rs3
  let v := s.cell i
  let retired (rd : Nat) (w : Word) (t : State) : Prop :=
    (t.core a).pc = (s.core a).pc + 4 ∧ (t.core a).wait = .none ∧ (t.core a).x rd = (if rd = 0 then 0 else w) ∧
    (∀ r, r ≠ rd → (t.core a).x r = (s.core a).x r) ∧ (t.core a).csr = (s.core a).csr
  let only (t : State) : Prop :=
    (∀ j, j ≠ i → t.cell j = s.cell j) ∧ (∀ b, b ≠ a → t.core b = s.core b) ∧
    t = { s with sync := t.sync, svc := t.svc, cores := t.cores, vane := t.vane }
  let waits (kind : Nat) (t : State) : Prop :=
    (t.core a).pc = (s.core a).pc ∧ (t.core a).wait = .cell i rd ∧ t.sync.table = s.sync.table ++ [⟨i, kind, x.toNat, .core a rd⟩] ∧
    t.cell i = v ∧ only t
  let ge : Bool := decide ((v - x).toNat < 2 ^ 63)
  let room : Prop := s.waitUsed (i / 2048) < 1024 ∧ s.sync.queued.any (fun e => e.cell / 2048 == i / 2048) = false
  Does (.tlkSset a rs1 rs2) s (fun t => t.cell i = x ∧ retired 0 0 t ∧ only t) ∧
  (rd ≠ 0 ∨ aq = true → Does (.tlkSadd a rd rs1 rs2 aq rl) s (fun t => t.cell i = v + x ∧ retired rd v t ∧ only t)) ∧
  Does (.tlkSadd a 0 rs1 rs2 false rl) s (fun t => t.sync = s.sync ∧ retired 0 0 t ∧ only t ∧
    ∃ q, t.vane.held = s.vane.held ++ [⟨s.coreNode a, i / 2048, q, i, x, 0, false, false, some a⟩]) ∧
  Does (.tlkScas a rd rs1 rs2 rs3) s (fun t => t.cell i = (if v = x then y else v) ∧ retired rd v t ∧ only t) ∧
  (ge = true → Does (.tlkSwge a rd rs1 rs2) s (fun t => t.sync = s.sync ∧ retired rd v t ∧ only t)) ∧
  (ge = false → room → Does (.tlkSwge a rd rs1 rs2) s (waits 0)) ∧
  (v = x → Does (.tlkSweq a rd rs1 rs2) s (fun t => t.sync = s.sync ∧ retired rd v t ∧ only t)) ∧
  (v ≠ x → room → Does (.tlkSweq a rd rs1 rs2) s (waits 1))

/-- TLK.SARM arms the lowest free slot or fires at once; with all eight armed it answers -1; on a V-core it is illegal
(R54). -/
def Obligations.TriggerSlots : Prop :=
  ∀ (s : State) (a i rd rs1 rs2 n : Nat), rd ≠ 0 →
  let x := (s.core a).x rs2
  let ge : Bool := decide ((s.cell i - x).toNat < 2 ^ 63)
  let slot (t : State) : Option Slot := tget (fun _ => none) (t.core a).slots n
  (OnCell s a rs1 i → isScore a = true → s.freeSlot a = some n → ge = true →
    Does (.tlkSarm a rd rs1 rs2) s (fun t => (t.core a).x rd = BitVec.ofNat 64 n ∧ (t.core a).pc = (s.core a).pc + 4 ∧
      (t.core a).syncpend = (s.core a).syncpend ||| BitVec.ofNat 8 (2 ^ n) ∧ slot t = none ∧ t = { s with cores := t.cores })) ∧
  (OnCell s a rs1 i → isScore a = true → s.freeSlot a = some n → ge = false → s.waitUsed (i / 2048) < 1024 →
    s.sync.queued.any (fun e => e.cell / 2048 == i / 2048) = false →
    Does (.tlkSarm a rd rs1 rs2) s (fun t => (t.core a).x rd = BitVec.ofNat 64 n ∧ (t.core a).pc = (s.core a).pc + 4 ∧
      (t.core a).syncpend = (s.core a).syncpend ∧ slot t = some ⟨i, x.toNat⟩ ∧
      t.sync.table = s.sync.table ++ [⟨i, 4, x.toNat, .coreArm a n⟩] ∧ t = { s with cores := t.cores, sync := t.sync })) ∧
  (OnCell s a rs1 i → isScore a = true → s.freeSlot a = none →
    Does (.tlkSarm a rd rs1 rs2) s (fun t => (t.core a).x rd = BitVec.allOnes 64 ∧ (t.core a).pc = (s.core a).pc + 4 ∧
      t = { s with cores := t.cores })) ∧
  (Ready s a → isScore a = false →
    Does (.tlkSarm a rd rs1 rs2) s (fun t => (t.core a).run = false ∧ (t.core a).trapped = true ∧ (t.core a).vcause = 2 ∧
      (t.core a).vepc = (s.core a).pc ∧ t = { s with cores := t.cores, free := t.free }))

/-- TLK.TIME, DTR, PFENCE, EXIT and the tlk_class write: what they put where (R59, R307). -/
def Obligations.CoreControlInstructions : Prop :=
  ∀ (s : State) (a rd rs1 : Nat) (v : Word), Ready s a →
  let x := (s.core a).x rs1
  let wrote (w : Word) (t : State) : Prop :=
    t.core a = { (s.core a).setX rd w with pc := (s.core a).pc + 4 } ∧ (∀ b, b ≠ a → t.core b = s.core b) ∧ t = { s with cores := t.cores }
  Does (.tlkTime a rd) s (wrote (BitVec.ofNat 64 s.now)) ∧
  (x.toNat % 8 = 0 → x.toNat < 2 ^ 15 → Does (.tlkDtr a rd rs1) s (wrote (s.dtWord (x.toNat / 8)))) ∧
  ((s.core a).outst.any (fenced x.toNat) = false → (s.core a).stat = [] → Does (.tlkPfence a rd rs1) s (wrote 0)) ∧
  ((s.core a).outst.any (fenced x.toNat) = true →
    Does (.tlkPfence a rd rs1) s (fun t => t.core a = { s.core a with wait := .pfence x.toNat rd } ∧ t = { s with cores := t.cores })) ∧
  (isScore a = true → (s.core a).umode = false → s.taskOf (tileOf a) = none → (s.core (supervised a false)).run = false →
    (s.core (supervised a true)).run = false →
    Does (.tlkExit a rs1) s (fun t => t.core a = { s.core a with pc := (s.core a).pc + 4, run := false, exit := some (x.toNat % 2 ^ 32) } ∧
      (∀ b, b ≠ a → t.core b = s.core b) ∧ t = { s with cores := t.cores })) ∧
  (((s.taskOf (tileOf a)).all fun k => bit k.classMask (v.toNat % 16)) = true → v.toNat % 16 ≠ 15 →
    Does (.tlkClassWrite a v) s (fun t => t.core a = { s.core a with cls := v.toNat % 16, pc := (s.core a).pc + 4 } ∧
      (∀ b, b ≠ a → t.core b = s.core b) ∧ t = { s with cores := t.cores })) ∧
  (∀ k, s.taskOf (tileOf a) = some k → bit k.classMask (v.toNat % 16) = false →
    Does (.tlkClassWrite a v) s (fun t => (t.core a).cls = (s.core a).cls ∧ (∀ b, b ≠ a → t.core b = s.core b) ∧
      (isScore a = true → (t.core a).csrv 0x341 = (s.core a).pc.toNat ∧ (t.core a).csrv 0x342 = 2 ∧
        (t.core a).pc = BitVec.ofNat 64 ((s.core a).csrv 0x305 / 4 * 4)) ∧
      (isScore a = false → (t.core a).run = false ∧ (t.core a).trapped = true ∧ (t.core a).vcause = 2 ∧
        (t.core a).vepc = (s.core a).pc) ∧ t = { s with cores := t.cores, free := t.free }))

/-- An S-core runs and stops its selected V-core, and an exception stops a V-core with its cause, pc and value kept
(R43, R44). -/
def Obligations.VcoreSupervision : Prop :=
  ∀ (s : State) (a b code : Nat) (tval : Word),
  let w := s.vsel a
  (Ready s a → isScore a = true → (s.core a).umode = false → s.corePresent w = true → s.coreFenced w = false →
    (s.core w).run = false →
    Does (.vcoreRun a) s (fun t => t.core w = { s.core w with run := true, trapped := false, pc := (s.core w).vepc } ∧
      t.core a = { s.core a with pc := (s.core a).pc + 4 } ∧ (∀ j, j ≠ a → j ≠ w → t.core j = s.core j) ∧ t = { s with cores := t.cores })) ∧
  (Ready s a → isScore a = true → (s.core a).umode = false → (s.core w).run = true → (s.core w).wait = .none →
    Does (.vcoreStop a) s (fun t => t.core w = { s.core w with run := false, stopping := false, vepc := (s.core w).pc } ∧
      t.core a = { s.core a with pc := (s.core a).pc + 4 } ∧ (∀ j, j ≠ a → j ≠ w → t.core j = s.core j) ∧ t = { s with cores := t.cores })) ∧
  (Ready s b → isScore b = false →
    Does (.vcoreTrap b code tval) s (fun t => (t.core b).run = false ∧ (t.core b).trapped = true ∧
      (t.core b).vcause = BitVec.ofNat 64 code ∧ (t.core b).vepc = (s.core b).pc ∧ (t.core b).vtval = tval ∧
      (t.core b).xr = (s.core b).xr ∧ (∀ j, j ≠ b → t.core j = s.core j) ∧ t = { s with cores := t.cores }))

/-- The timer becomes pending at tlk_mtimecmp, WFI waits for an interrupt, and taking one saves pc and status and
enters the handler (R466, R43). -/
def Obligations.ScoreInterruptEntry : Prop :=
  ∀ (s : State) (a n : Nat),
  (a < 384 → isScore a = true → Does (.machineTimer a) s (fun t =>
    t.core a = { s.core a with mtip := decide ((s.core a).mtimecmp.toNat ≤ s.now / 64) } ∧ (∀ j, j ≠ a → t.core j = s.core j) ∧
    t = { s with cores := t.cores })) ∧
  (Ready s a → isScore a = true → (s.core a).umode = false → s.irqOf a = none → Does (.wfi a) s (fun t =>
    t.core a = { s.core a with wait := .wfi } ∧ t = { s with cores := t.cores })) ∧
  (Ready s a → isScore a = true → (s.core a).umode = false → s.irqOf a = some n → Does (.wfi a) s (fun t =>
    t.core a = { s.core a with pc := (s.core a).pc + 4 } ∧ t = { s with cores := t.cores })) ∧
  (Ready s a → isScore a = true → s.irqTaken a = true → s.irqOf a = some n → (s.core a).csrv 0x305 % 4 = 0 →
    Does (.scoreInterrupt a) s (fun t =>
      (t.core a).csrv 0x341 = (s.core a).pc.toNat ∧ (t.core a).csrv 0x342 = (2 ^ 63 + n) % 2 ^ 64 ∧ (t.core a).csrv 0x343 = 0 ∧
      (t.core a).pc = BitVec.ofNat 64 ((s.core a).csrv 0x305) ∧ (t.core a).umode = false ∧ (t.core a).xr = (s.core a).xr ∧
      (∀ j, j ≠ a → t.core j = s.core j) ∧ t = { s with cores := t.cores }))

/-- A cache hit loads and stores the line, LR and SC keep the reservation rule, cells are read and written whole, a
fetch reads the pc (R41, R42, R52, R206, R207, R468). -/
def Obligations.CoreLoadsStoresAndFetch : Prop :=
  ∀ (s : State) (a addr size rd e i o : Nat) (sg : Bool) (v : Word), Ready s a → rd ≠ 0 →
  let c := s.cent a e
  let off := s.loc addr % 128
  let got (signed : Bool) : Word := loadVal size signed ((c.data.drop off).take size)
  let held (k : AccKind) : Prop := s.cacheable addr = true ∧ s.coreStatus a k addr size = .ok ∧ (s.ctl a).enable = true ∧
    s.findEnt a (s.loc addr / 128) = some e ∧ c.flips = [] ∧ (s.ctl a).deferred = [] ∧ (s.ctl a).pfEn = false ∧
    s.armedFlip 2 a = none ∧ addr % size = 0
  let pcOn (t : State) : Prop := (t.core a).pc = (s.core a).pc + 4 ∧ t = { s with cores := t.cores, coh := t.coh }
  let stored (t : State) : Prop := (t.cent a e).st = .m ∧ (t.cent a e).data = putAt c.data off (toLe size v.toNat)
  (held .load → c.st ∈ [CState.m, .e, .f, .s] →
    Does (.cacheLoad a addr size rd ⟨sg, none⟩) s (fun t => (t.core a).x rd = got sg ∧ t.cent a e = c ∧ pcOn t)) ∧
  (held .store → c.st ∈ [CState.m, .e] → Does (.cacheStore a addr size .write v) s (fun t => stored t ∧ pcOn t)) ∧
  (held .load → c.st ∈ [CState.m, .e] →
    Does (.cacheStore a addr size (.lr rd) v) s (fun t => (t.core a).x rd = got true ∧
      (t.core a).resv = some (s.loc addr / 128) ∧ (t.cent a e).data = c.data ∧ pcOn t)) ∧
  (held .store → c.st ∈ [CState.m, .e] → (s.core a).resv = some (s.loc addr / 128) →
    Does (.cacheStore a addr size (.sc rd) v) s (fun t => (t.core a).x rd = 0 ∧ (t.core a).resv = none ∧ stored t ∧ pcOn t)) ∧
  (held .store → (s.core a).resv ≠ some (s.loc addr / 128) →
    Does (.cacheStore a addr size (.sc rd) v) s (fun t => (t.core a).x rd = 1 ∧ t.cent a e = c ∧ pcOn t)) ∧
  (s.place addr = .cell i → s.coreCheck a .load addr 8 = .ok → SoundCell s i →
    Does (.uncachedAccess a addr 8 .load rd ⟨sg, none⟩ v) s (fun t => (t.core a).x rd = s.cell i ∧ t.sync = s.sync ∧ pcOn t)) ∧
  (s.place addr = .cell i → s.coreCheck a .store addr 8 = .ok → SoundCell s i →
    Does (.uncachedAccess a addr 8 .store rd ⟨sg, none⟩ v) s (fun t => t.cell i = v ∧ (∀ j, j ≠ i → t.cell j = s.cell j) ∧
      (t.core a).pc = (s.core a).pc + 4 ∧ t = { s with cores := t.cores, sync := t.sync, svc := t.svc })) ∧
  (s.place (s.core a).pc.toNat = .priv o → s.coreCheck a .fetch (s.core a).pc.toNat 2 = .ok → s.tcmErrs = [] →
    ofLe (s.rawBytes (tcmBase + 0x20000 * a + o) 2) % 4 ≠ 3 → ofLe (s.rawBytes (tcmBase + 0x20000 * a + o) 2) ≠ 0x9002 →
    Does (.coreFetch a) s (fun t =>
      t.core a = { s.core a with fetched := ofLe (s.rawBytes (tcmBase + 0x20000 * a + o) 2), kept := (t.core a).kept, hpm := (t.core a).hpm } ∧
      (∀ j, j ≠ a → t.core j = s.core j) ∧ t = { s with cores := t.cores }))

/-- CC_OP cleans, drops and writes back entries, CC_PIN pins, CC_CTL enables after an invalidate-all and disables
(R206, R218, R220, R221, R222, R223). -/
def Obligations.CacheControlWrites : Prop :=
  ∀ (s : State) (a e : Nat) (v : Word), Ready s a → e < 48 → s.pinned a e = false →
  let c := s.cent a e
  let op : Word := BitVec.ofNat 64 (4 + 256 * e)
  let none' : Prop := ∀ k, k < 48 → (s.cent a k).st = .i
  let pcOn (t : State) : Prop := (t.core a).pc = (s.core a).pc + 4 ∧ t = { s with cores := t.cores, coh := t.coh }
  (c.st = .m → c.flips = [] → Does (.ccClean a op) s (fun t => (t.cent a e).st = .wb ∧ (t.cent a e).keep = true ∧
    t.coh.msgs = s.coh.msgs ++ [{ kind := .putM, line := c.line, agent := a, tag := e, keep := true, hasData := true, data := c.data, cls := (s.core a).cls }] ∧
    (t.ctl a).last = 0 ∧ pcOn t)) ∧
  (c.st = .s → Does (.ccInval a op) s (fun t => t.cent a e = {} ∧ t.coh.msgs = s.coh.msgs ∧ (t.ctl a).last = 0 ∧ pcOn t)) ∧
  (c.st = .e → Does (.ccCleanInval a op) s (fun t => (t.cent a e).st = .wb ∧
    t.coh.msgs = s.coh.msgs ++ [{ kind := .putC, line := c.line, agent := a, tag := e, cls := (s.core a).cls }] ∧ pcOn t)) ∧
  (none' → Does (.ccInval a 8) s (fun t => (t.ctl a).invdone = true ∧ (t.ctl a).last = 0 ∧ t.coh.msgs = s.coh.msgs ∧ pcOn t)) ∧
  (none' → e < 32 → (s.ctl a).pin = 0 → (s.ctl a).off = 0 →
    Does (.ccPin a (BitVec.ofNat 64 (2 ^ e))) s (fun t => (t.ctl a).pin = 2 ^ e ∧ (t.ctl a).last = 0 ∧ pcOn t)) ∧
  ((s.ctl a).invdone = true → Does (.ccEnable a v) s (fun t => (t.ctl a).enable = true ∧ (t.ctl a).pfEn = v.getLsbD 1 ∧
    (t.ctl a).stashEn = v.getLsbD 2 ∧ (t.ctl a).last = 0 ∧ pcOn t)) ∧
  ((s.ctl a).invdone = false → Does (.ccEnable a v) s (fun t => t.ctl a = { s.ctl a with last := 5 } ∧ pcOn t)) ∧
  (none' → (s.ctl a).enable = true → Does (.ccDisable a v) s (fun t => (t.ctl a).enable = false ∧ (t.ctl a).invdone = false ∧
    t.coh.msgs = s.coh.msgs ∧ pcOn t)) ∧
  ((s.ctl a).deferred = [] → Does (.lrDeferTimeout a) s (fun t => t.ctl a = { s.ctl a with lrHold := none } ∧ t = { s with coh := t.coh }))

/-- A home that holds no entry for a line grants it exclusive to RD_S, RD_X and UPG, and serves RD_U, PEEK and WR_U
from memory (R198, R208, R211, R214). -/
def Obligations.HomeServesFreeLine : Prop :=
  ∀ (s : State) (m : CohMsg) (i : Nat), m.agent < 509 → s.findWay m.line = none → s.freeWay m.line = some i →
  s.homeFull m.line = false → s.coh.waiting.any (fun w => dirBase w.line == dirBase m.line) = false →
  s.badGrans (128 * m.line) 128 = [] → s.stackStatus (128 * m.line) 128 = .ok → s.activeSlots = [] →
  let s0 := s.stopMarch (128 * m.line) 128
  let bytes := s.rawBytes (128 * m.line) 128
  let goes (k : CohKind) : Prop := s.partnerStops m k = none
  let own (k : CohKind) (t : State) : Prop :=
    t.dirEnt i = { line := m.line, st := 1, ptrs := [some m.agent, none, none, none], age := s.coh.ages + 1 } ∧
    (∀ j, j ≠ i → t.dirEnt j = s.dirEnt j) ∧
    t.coh.msgs = s.coh.msgs.erase { m with kind := k } ++
      [{ kind := .dataM, line := m.line, agent := m.agent, st := .e, data := bytes, off := m.off, len := m.len }] ∧
    t = { s0 with coh := t.coh }
  let read (k : CohKind) (t : State) : Prop :=
    t = { s0 with
      coh.msgs := s.coh.msgs.erase { m with kind := k } ++
        [{ kind := .dataM, line := m.line, agent := m.agent, st := .i, data := bytes, off := m.off, len := m.len }]
      cistern.groups := if k = .peek then s.cistern.groups else t.cistern.groups }
  (goes .rdS → Does (.rdS m) s (own .rdS)) ∧ (goes .rdX → Does (.rdX m) s (own .rdX)) ∧ (goes .upg → Does (.upg m) s (own .upg)) ∧
  (m.off + m.len ≤ 128 → (goes .rdU → Does (.rdU m) s (read .rdU)) ∧ (goes .peek → Does (.peek m) s (read .peek))) ∧
  (goes .wrU → s.grans = [] → m.hole = [] → m.stash = none → Does (.wrU m) s (fun t => t.coh.dir = s.coh.dir ∧ t.mem = (s.putMem [] (128 * m.line + m.off) m.data).mem ∧
    t.coh.msgs = s.coh.msgs.erase { m with kind := .wrU } ++ [{ kind := .wrAck, line := m.line, agent := m.agent }]))

/-- A home snoops the owner of a line, moves to SHARED_F when it forwards to RD_S, and frees the line on the owner's
PUT (R198, R208, R209). -/
def Obligations.HomeSnoopsOwnerAndTakesAnswers : Prop :=
  ∀ (s : State) (m q : CohMsg) (i o : Nat), m.agent < 509 → s.findWay m.line = some i → s.coh.waiting = [] → s.homeFull m.line = false →
  (∀ k ∈ [CohKind.rdS, .rdX, .rdU, .snpRsp, .putC, .putM], s.partnerStops m k = none) →
  let s0 := s.stopMarch (128 * m.line) 128
  let e := s.dirEnt i
  let gone (k : CohKind) : List CohMsg := s.coh.msgs.erase { m with kind := k }
  let ack : CohMsg := { kind := .wbAck, line := m.line, agent := m.agent, tag := m.tag }
  let snooped (k sn : CohKind) (t : State) : Prop :=
    (t.dirEnt i).st = 4 ∧ (t.dirEnt i).wait = [o] ∧ (t.dirEnt i).req = some { m with kind := k } ∧ (t.dirEnt i).prev = 1 ∧
    t.coh.msgs = gone k ++ [{ kind := sn, line := m.line, agent := o, req := m.agent, off := m.off, len := m.len }] ∧
    (∀ j, j ≠ i → t.dirEnt j = s.dirEnt j) ∧ t = { s0 with coh := t.coh }
  (e.st = 1 → e.ptrs = [some o, none, none, none] →
    Does (.rdS m) s (snooped .rdS .snpS) ∧ Does (.rdX m) s (snooped .rdX .snpX) ∧ Does (.rdU m) s (snooped .rdU .snpU)) ∧
  (e.st = 4 → e.prev = 1 → e.ptrs = [some m.agent, none, none, none] → e.wait = [m.agent] → e.req = some q → e.held = [] →
    m.result = .fwd → m.hasData = false → m.cancel = false → m.poison = false → q.agent ≠ m.agent → q.cancel = false → s.cxl q.agent = false →
    (q.kind = .rdS → Does (.snpRsp m) s (fun t => (t.dirEnt i).st = 2 ∧
      (t.dirEnt i).ptrs = [some q.agent, some m.agent, none, none] ∧ t.coh.msgs = gone .snpRsp ∧ t = { s with coh := t.coh })) ∧
    (q.kind = .rdX → Does (.snpRsp m) s (fun t => (t.dirEnt i).st = 1 ∧
      (t.dirEnt i).ptrs = [some q.agent, none, none, none] ∧ t.coh.msgs = gone .snpRsp ∧ t = { s with coh := t.coh }))) ∧
  (e.st = 1 → e.ptrs = [some m.agent, none, none, none] → s.coh.cancelled = [] →
    Does (.putC m) s (fun t => t.dirEnt i = {} ∧ (∀ j, j ≠ i → t.dirEnt j = s.dirEnt j) ∧ t.coh.msgs = gone .putC ++ [ack] ∧
      t = { s with coh := t.coh })) ∧
  (e.st = 1 → e.ptrs = [some m.agent, none, none, none] → s.coh.cancelled = [] → m.keep = false → m.poison = false →
    s.grans = [] → s.stackStatus (128 * m.line) 128 = .ok →
    Does (.putM m) s (fun t => t.dirEnt i = {} ∧ t.mem = (s.lineWrite m.agent m.line m.data 0).mem ∧ t.coh.msgs = gone .putM ++ [ack]))

/-- The stash step offers an unheld line exclusive, its answer makes the target the owner or frees the entry, and a
reclaim empties a lost agent's cache (R209, R213, R215). -/
def Obligations.HomeStashAndReclaim : Prop :=
  ∀ (s : State) (m : CohMsg) (a x i : Nat),
  (a < 384 → s.findEnt a x = none → s.findWay x = none → s.freeWay x = some i → s.badGrans (128 * x) 128 = [] →
    s.stackStatus (128 * x) 128 = .ok → s.activeSlots = [] →
    Does (.stashStep x a) s (fun t => (t.dirEnt i).st = 6 ∧ (t.dirEnt i).line = x ∧ (t.dirEnt i).wait = [a] ∧
      t.coh.msgs = s.coh.msgs ++ [{ kind := .stashOffer, line := x, agent := a, st := .e, data := s.rawBytes (128 * x) 128 }] ∧
      (∀ j, j ≠ i → t.dirEnt j = s.dirEnt j) ∧ t = { s with coh := t.coh })) ∧
  (m.agent < 509 → s.findWay m.line = some i → (s.dirEnt i).st = 6 → (s.dirEnt i).prev = 0 → (s.dirEnt i).wait = [m.agent] →
    (s.dirEnt i).held = [] → s.coh.waiting = [] → s.partnerStops m .stashAcc = none → s.partnerStops m .stashDec = none →
    Does (.stashAcc m) s (fun t => (t.dirEnt i).st = 1 ∧ (t.dirEnt i).ptrs = [some m.agent, none, none, none] ∧
      t.coh.msgs = s.coh.msgs.erase { m with kind := .stashAcc } ∧ t = { s with coh := t.coh }) ∧
    Does (.stashDec m) s (fun t => t.dirEnt i = {} ∧ t.coh.msgs = s.coh.msgs.erase { m with kind := .stashDec } ∧
      t = { s with coh := t.coh })) ∧
  (a < 384 → Does (.agentReclaim a) s (fun t => (∀ e, e < 48 → t.cent a e = {}) ∧ (t.ctl a).enable = false))

/-- A cache answers SNP_S, SNP_X, SNP_U, SNP_P and INV as Table 6.5 says for a line it holds, and MISS for one it does
not (R203, R205, R206). -/
def Obligations.CacheAnswersSnoops : Prop :=
  ∀ (s : State) (m : CohMsg) (e : Nat), m.agent < 384 → (s.ctl m.agent).lrHold = none →
  let a := m.agent
  let c := s.cent a e
  let gone (k : CohKind) : List CohMsg := s.coh.msgs.erase { m with kind := k }
  let fwd (st : CState) : CohMsg := { kind := .dataR, line := m.line, agent := m.req, st := if st = .f ∧ s.cxl m.req then .s else st, data := c.data, off := m.off, len := m.len }
  let rsp (r : SnpResult) (d : Option Bytes) : CohMsg :=
    { kind := .snpRsp, line := m.line, agent := a, result := r, hasData := d.isSome, data := d.getD [] }
  let only (t : State) : Prop := t = { s with cores := t.cores, coh := t.coh }
  (s.findEnt a m.line = some e → c.st = .m → c.flips = [] →
    Does (.snpS m) s (fun t => t.cent a e = { c with st := .s } ∧ t.coh.msgs = gone .snpS ++ [fwd .f, rsp .fwd (some c.data)] ∧ only t) ∧
    Does (.snpX m) s (fun t => t.cent a e = {} ∧ t.coh.msgs = gone .snpX ++ [fwd .m, rsp .fwd none] ∧ only t) ∧
    Does (.snpU m) s (fun t => t.cent a e = { c with st := .e } ∧ t.coh.msgs = gone .snpU ++ [fwd .i, rsp .fwd (some c.data)] ∧ only t) ∧
    Does (.snpP m) s (fun t => t.cent a e = c ∧ t.coh.msgs = gone .snpP ++ [fwd .i, rsp .fwd none] ∧ only t)) ∧
  (s.findEnt a m.line = some e → c.st ∈ [CState.e, .f, .s] → c.flips = [] →
    Does (.inv m) s (fun t => t.cent a e = {} ∧ t.coh.msgs = gone .inv ++ [rsp .ack none] ∧ only t)) ∧
  (s.findEnt a m.line = none →
    Does (.snpS m) s (fun t => t.coh.msgs = gone .snpS ++ [rsp .miss none] ∧ only t) ∧
    Does (.inv m) s (fun t => t.coh.msgs = gone .inv ++ [rsp .miss none] ∧ only t))

/-- Fills, upgrades, acknowledgements, poison and stash offers change the entry that waits for them as Table 6.6 says
(R206, R211). -/
def Obligations.CacheTakesReplies : Prop :=
  ∀ (s : State) (m : CohMsg) (e : Nat), m.agent < 384 → (s.ctl m.agent).acc = none → (s.ctl m.agent).deferred = [] →
  let a := m.agent
  let c := s.cent a e
  let gone (k : CohKind) : List CohMsg := s.coh.msgs.erase { m with kind := k }
  let only (t : State) : Prop := t = { s with coh := t.coh }
  (s.findEnt a m.line = some e → c.st = .is → c.oneUse = false → m.st ≠ .i →
    Does (.dataR m) s (fun t => t.cent a e = { c with st := m.st, data := m.data, pf := false } ∧ t.coh.msgs = gone .dataR ∧ only t) ∧
    Does (.dataM m) s (fun t => t.cent a e = { c with st := m.st, data := m.data, pf := false } ∧ t.coh.msgs = gone .dataM ∧ only t) ∧
    Does (.dataPoison m) s (fun t => t.cent a e = {} ∧ t.coh.msgs = gone .dataPoison ∧ only t)) ∧
  (s.findEnt a m.line = some e → c.st = .sm →
    Does (.ackUpg m) s (fun t => t.cent a e = { c with st := .e, wasF := false } ∧ t.coh.msgs = gone .ackUpg ∧ only t)) ∧
  (m.tag = e → c.st = .wb → c.keep = false → (s.ctl a).fill = none → (s.ctl a).maint = [] → (s.ctl a).after = 0 →
    Does (.wbAck m) s (fun t => t.cent a e = {} ∧ t.coh.msgs = gone .wbAck ∧ only t)) ∧
  Does (.wrAck m) s (fun t => t = { s with coh.msgs := gone .wrAck }) ∧
  ((s.ctl a).enable = true → (s.ctl a).stashEn = true → s.findEnt a m.line = none → s.invalidEnt a = some e →
    Does (.stashOffer m) s (fun t => t.cent a e = { line := m.line, st := m.st, data := m.data } ∧
      t.coh.msgs = gone .stashOffer ++ [{ kind := .stashAcc, line := m.line, agent := a }] ∧ only t)) ∧
  ((s.ctl a).stashEn = false →
    Does (.stashOffer m) s (fun t => t = { s with coh.msgs := gone .stashOffer ++ [{ kind := .stashDec, line := m.line, agent := a }] }))

/-- MNOP, MSYNC and MWAIT retire from the head of the queue, a failed check faults the M-core, and RESUME and FLUSH
clear the fault (R98, R103, R104, R107, R108, R109, R110). -/
def Obligations.MatrixCommandsRetire : Prop :=
  ∀ (s : State) (i : Nat) (c : MCmd) (rest : List MCmd),
  let d := c.desc
  let x := s.mc i
  let n := le d 2 1 % 4
  let retired : MCore := { x with
    queue := rest
    lf := x.lf.set n (x.lf.getD n 0 - le d 3 1)
    sigs := if bit (le d 1 1) 0 then x.sigs ++ [le d 4 4] else x.sigs
    done := (x.done + 1) % 2 ^ 32 }
  let others (t : State) : Prop := ∀ j, j ≠ i → t.mc j = s.mc j
  let clk := (s.setMc i { x with queue := rest }).mHead i
  let cell := le d 12 4
  let v : Word := BitVec.ofNat 64 (le d 16 8)
  let sent (k : Nat) (w : Word) (t : State) : Prop := ∃ q, t.vane.held = s.vane.held ++ [⟨s.mRegion i, k / 2048, q, k, w, 0, false, false, none⟩]
  (MHead s i c rest → le d 0 1 = 0 → Does (.mnop i) s (fun t => t.mc i = retired ∧ others t ∧ t = { s with mcores := t.mcores, tiles := clk.tiles, islands := clk.islands })) ∧
  (MHead s i c rest → le d 0 1 = 5 → le d 8 1 = 0 → SoundCell s cell →
    Does (.msync i) s (fun t => t.cell cell = v ∧ (∀ j, j ≠ cell → t.cell j = s.cell j) ∧ t.mc i = retired ∧ others t ∧
      t = { s with mcores := t.mcores, sync := t.sync, svc := t.svc, tiles := clk.tiles, islands := clk.islands })) ∧
  (MHead s i c rest → le d 0 1 = 5 → le d 8 1 = 1 →
    Does (.msync i) s (fun t => sent cell v t ∧ t.mc i = retired ∧ others t ∧
      t = { s with mcores := t.mcores, vane := t.vane, tiles := clk.tiles, islands := clk.islands })) ∧
  (MHead s i c rest → le d 0 1 = 6 → le d 8 1 = 0 → SoundCell s cell → (s.cell cell - v).toNat < 2 ^ 63 →
    Does (.mwait i) s (fun t => t.mc i = retired ∧ others t ∧ t = { s with mcores := t.mcores, tiles := clk.tiles, islands := clk.islands })) ∧
  (MHead s i c rest → le d 0 1 = 6 → le d 8 1 = 0 → SoundCell s cell → 2 ^ 63 ≤ (s.cell cell - v).toNat →
    s.waitUsed (cell / 2048) < 1024 → s.sync.queued.any (fun q => q.cell / 2048 == cell / 2048) = false →
    Does (.mwait i) s (fun t => (t.mc i).waiting = true ∧ (t.mc i).queue = c :: rest ∧ others t ∧
      t.sync.table = s.sync.table ++ [⟨cell, 0, le d 16 8, .mcore i⟩] ∧ t = { s with mcores := t.mcores, sync := t.sync })) ∧
  (i < 512 → x.queue = c :: rest → s.mPresent i = true → x.faulted = false → x.waiting = false →
    s.quiesced (i / 16) (i / 4 % 4) = false → 7 ≤ le d 0 1 →
    Does (.mnop i) s (fun t => t.mc i = { x with faulted := true, code := 1, opc := le d 0 1, field := 0, seq := c.seq } ∧ others t ∧
      t = { s with mcores := t.mcores })) ∧
  (i < 512 → ∀ k l, x.sigs = k :: l → x.xfers = [] →
    Does (.mSig i) s (fun t => sent k 1 t ∧ t.mc i = { x with sigs := l } ∧ others t ∧ t = { s with mcores := t.mcores, vane := t.vane })) ∧
  (i < 512 → x.faulted = true → x.stale = false →
    Does (.msResume .wellkeeper i) s (fun t => t.mc i = { x with queue := x.queue.drop 1, faulted := false, done := (x.done + 1) % 2 ^ 32 } ∧
      others t ∧ (let r := (s.setMc i { x with queue := x.queue.drop 1 }).mHead i
      t = { s with mcores := t.mcores, out := t.out, tiles := r.tiles, islands := r.islands }))) ∧
  (i < 512 → x.waiting = false → x.stale = false →
    Does (.msFlush .wellkeeper i) s (fun t => t.mc i = { x with queue := [], faulted := false, done := (x.done + x.queue.length) % 2 ^ 32 } ∧
      others t ∧ t = { s with mcores := t.mcores, out := t.out }))

/-- MMA accumulates, MLOAD and MSTORE move a row between memory and a buffer, MSEND passes a block on, and the INT8
clock returns (R78, R83, R86, R99, R100, R101, R102, R106). -/
def Obligations.MatrixDataCommands : Prop :=
  ∀ (s : State) (i : Nat) (c : MCmd) (rest : List MCmd) (x : MXfer) (xs : List MXfer) (t1 : Nat), (s.mc i).errs = [] →
  let d := c.desc
  let fa := bits (le d 8 1) 3 0
  let fb := bits (le d 8 1) 7 4
  let k := le d 14 2
  let a := mRow (s.mc i) 0 fa (le d 16 4) (le d 20 4) (le d 40 4) (le d 48 2) k 0
  let b := mRow (s.mc i) 1 fb (le d 24 4) (le d 28 4) (le d 44 4) (le d 50 2) k 0
  let clk := (s.setMc i { s.mc i with queue := rest }).mHead i
  let gone (t : State) : Prop := (t.mc i).queue = rest ∧ (t.mc i).done = ((s.mc i).done + 1) % 2 ^ 32 ∧ ∀ j, j ≠ i → t.mc j = s.mc j
  let quiet : Prop := unarmed s 4 = true
  let far (p : Nat) : Prop := inMem s p = true
  (MHead s i c rest → le d 0 1 = 1 → quiet → bit (le d 9 1) 0 = false → opClass fa fb ≠ 4 → le d 10 2 = 1 → le d 12 2 = 1 →
    Does (.mma i) s (fun t => (t.mc i).read 2 (le d 32 4) 4 =
        toLe 4 (mmaFp32 (bit (le d 9 1) 1) (le ((s.mc i).read 2 (le d 32 4) 4) 0 4) (blockValues false (k / 32) a.1 b.1 a.2 b.2)) ∧
      gone t ∧ t = { s with mcores := t.mcores, tiles := clk.tiles, islands := clk.islands })) ∧
  (MHead s i c rest → le d 0 1 = 2 → quiet → Clean s → le d 10 2 = 1 → s.mAccess i .load d = .ok → far (le d 16 8) →
    Does (.mload i) s (fun t => (t.mc i).read (le d 8 1) (le d 28 4) (le d 12 4) = s.rawBytes (le d 16 8) (le d 12 4) ∧ gone t ∧
      t = { s with mcores := t.mcores, cistern := t.cistern, tiles := clk.tiles, islands := clk.islands })) ∧
  (MHead s i c rest → le d 0 1 = 3 → Clean s → bit (le d 9 1) 4 = false → le d 10 2 = 1 → s.mAccess i .store d = .ok → far (le d 24 8) →
    Does (.mstore i) s (fun t => t.mem = (s.putMem [] (s.loc (le d 24 8))
        ((mstoreElems d ((s.mc i).read 2 (le d 16 4) (le d 12 2 * accBytes (bit (le d 9 1) 0))) 0).map
          (fun e => toLe (outBytes (le d 8 1)) e.1)).flatten).mem ∧ gone t)) ∧
  (MHead s i c rest → le d 0 1 = 4 → le d 9 1 < 4 → Does (.msend i) s (fun t => (t.mc i).queue = rest ∧
    ∃ j, mDest i (le d 9 1) = some (false, j) ∧
      (t.mc i).xfers = [⟨c, false, j, le d 10 1, le d 20 4, le d 11 1, (s.mc i).read (le d 8 1) (le d 16 4) (le d 12 4), false⟩] ∧
      (∀ j, j ≠ i → t.mc j = s.mc j) ∧ t = { s with mcores := t.mcores, tiles := clk.tiles, islands := clk.islands })) ∧
  (i < 512 → quiet → (s.mc i).xfers = x :: xs → x.toV = false → x.dst ≠ i → x.lf < 4 → (s.mc x.dst).lf.length = 4 →
    (s.mc x.dst).lf.getD x.lf 0 < 65535 →
    Does (.msendArrive i) s (fun t => (t.mc i).xfers = xs ∧ (t.mc i).done = ((s.mc i).done + 1) % 2 ^ 32 ∧
      (x.landed = false → (t.mc x.dst).read x.buf x.base x.data.length = x.data) ∧
      (t.mc x.dst).lf.getD x.lf 0 = (s.mc x.dst).lf.getD x.lf 0 + 1 ∧ t = { s with mcores := t.mcores })) ∧
  (t1 < 32 → Does (.int8ClockRestore t1) s (fun t => (t.tile t1).classI = false ∧ (∀ j, j ≠ t1 → t.tile j = s.tile j) ∧
    t = { s with tiles := t.tiles, islands := t.islands }))

/-- TLK.MCQ and TLK.PUMP queue a command, a pump starts its next one and completes a finished one to its core (R56,
R167, R175, R57). -/
def Obligations.PumpStartAndComplete : Prop :=
  ∀ (s : State) (a rd rs1 rs2 p id : Nat) (d : Bytes) (c : PCmd) (st : Status) (detail res : Nat),
  let reg (v : Word) : Word := if rd = 0 then 0 else v
  let ad := ((s.core a).x rs1).toNat
  let sel := ((s.core a).x rs2).toNat
  let i := 16 * tileOf a + 4 * sel + a % 12
  let u := (s.coreBytes a ad 64).1
  let k := u.core a
  (Ready s a → isScore a = true → sel < 4 → ad % 64 = 0 → s.mcqPlace ad = true → (s.coreBytes a ad 64).2 = .ok d →
    u.mPresent i = true → (u.mc i).stale = false →
    (u.mDepth i < 32 → Does (.tlkMcq a rd rs1 rs2) s (fun t => (t.mc i).queue = (u.mc i).queue ++ [⟨d, k.cls, (u.mc i).pushes⟩] ∧
      (t.core a).x rd = 0 ∧ (t.core a).pc = k.pc + 4 ∧ (∀ j, j ≠ i → t.mc j = u.mc j) ∧
      t = { u.mPush i k.cls d with cores := t.cores })) ∧
    (32 ≤ u.mDepth i → Does (.tlkMcq a rd rs1 rs2) s (fun t => (t.core a).x rd = reg 1 ∧ (t.core a).pc = k.pc + 4 ∧
      t = { u with cores := t.cores }))) ∧
  (Ready s a → ad % 64 = 0 → (s.coreBytes a ad 64).2 = .ok d → u.selectPump a (k.x rs2).toNat = some p → k.outst.length < 16 →
    (u.pump p).length < 64 →
    Does (.tlkPump a rd rs1 rs2) s (fun t =>
      t.pump p = u.pump p ++ [{ id := u.mesh.nextId, desc := d, agent := a, ticket := k.tickets, cls := k.cls }] ∧
      (t.core a).x rd = reg (BitVec.ofNat 64 k.tickets) ∧ (t.core a).outst = k.outst ++ [k.tickets] ∧
      (t.core a).pc = k.pc + 4 ∧ (∀ q, q ≠ p → t.pump q = u.pump q) ∧ t = { u with cores := t.cores, mesh := t.mesh })) ∧
  (p < 156 → s.pumpNext p = some c → s.coreFenced c.agent = false → 0 < pPop c.desc → pPop c.desc ≤ 10 →
    Does (.pumpStart p) s (fun t => t.pump p = (s.pump p).map (fun x => if x.id = c.id then { c with started := true } else x) ∧
      (∀ q, q ≠ p → t.pump q = s.pump q) ∧ t = { s with mesh := t.mesh })) ∧
  (p < 156 → (s.pump p).find? (fun x => x.id == id) = some c → c.fin = some (st, detail, res) → c.waits = [] → s.aside c = false →
    bit (pFlags c.desc) 4 = false → bit (pFlags c.desc) 0 = false → (s.core c.agent).outst.contains c.ticket = true →
    (s.core c.agent).wait = .none →
    Does (.pumpComplete p id) s (fun t => t.pump p = (s.pump p).filter (fun x => x.id != id) ∧ (∀ q, q ≠ p → t.pump q = s.pump q) ∧
      t.core c.agent = { s.core c.agent with
        outst := (s.core c.agent).outst.filter (· != c.ticket), stat := (s.core c.agent).stat ++ [(c.ticket, st)] } ∧
      (∀ b, b ≠ c.agent → t.core b = s.core b) ∧ t = { s with cores := t.cores, mesh := t.mesh }))

/-- COPY, GATHER, SCATTER, FILL and MCAST put the bytes where the descriptor says, and a lost destination is counted
(R170, R171, R172, R177, R178, R180). -/
def Obligations.PumpsMoveData : Prop :=
  ∀ (s : State) (p id w : Nat) (c : PCmd), Clean s → bit (pFlags c.desc) 1 = false → bit (pFlags c.desc) 2 = false →
  bit (pFlags c.desc) 3 = false →
  let d := c.desc
  let wrote (a : Nat) (b : Bytes) (n : Nat) (t : State) : Prop :=
    t.mem = (s.putMem [] (s.loc a) b).mem ∧ Finished s t p c .ok 0 n ∧
    t = { s with mem := t.mem, grans := t.grans, cistern := t.cistern, svc := t.svc, cores := t.cores, mesh := t.mesh }
  let src := le d 16 8
  let dst := le d 24 8
  let n := le d 44 4
  let list := s.rawBytes (le d 32 8) (if bit (le d 48 1) 0 then 8 else 4)
  let one := ofLe (s.rawBytes (le d 24 8) 8)
  (Pumping s p id c → pPop d = 1 → le d 36 2 = 1 → le d 38 2 = 1 → May s p c .load src (le d 32 4) → May s p c .store dst (le d 32 4) →
    Does (.copy p id) s (wrote dst (s.rawBytes src (le d 32 4)) (le d 32 4))) ∧
  (Pumping s p id c → pPop d = 2 → le d 40 4 = 1 → May s p c .load (le d 32 8) (if bit (le d 48 1) 0 then 8 else 4) →
    May s p c .load (src + pIndex d list 0 * n) n → May s p c .store dst n →
    Does (.gather p id) s (wrote dst (s.rawBytes (src + pIndex d list 0 * n) n) n)) ∧
  (Pumping s p id c → pPop d = 3 → le d 40 4 = 1 → May s p c .load (le d 32 8) (if bit (le d 48 1) 0 then 8 else 4) →
    May s p c .load src n → May s p c .store (dst + pIndex d list 0 * n) n →
    Does (.scatter p id) s (wrote (dst + pIndex d list 0 * n) (s.rawBytes src n) n)) ∧
  (Pumping s p id c → pPop d = 4 → May s p c .store src (le d 24 8) →
    Does (.fill p id) s (wrote src (fillBytes d) (le d 24 8))) ∧
  (p < 156 → (s.pump p).find? (fun x => x.id == id) = some c → c.started = true → c.fin = none → s.aside c = false → c.live = [] →
    pPop d = 5 → le d 36 1 = 1 → dst % 8 = 0 → May s p c .load dst 8 → s.pCheck (pumpEnv p c) d [one] = none → c.chunk = 0 →
    c.failed = 0 → 0 < le d 32 4 → le d 32 4 ≤ 65536 → May s p c .load src (le d 32 4) → s.mcGone one = false →
    Does (.mcast p id) s (fun t => t.pump p = (s.pump p).map (fun x => if x.id = c.id then
        { c with dests := [one], buf := s.rawBytes src (le d 32 4), live := [0] } else x) ∧
      t = { s with mesh := t.mesh, cistern := t.cistern })) ∧
  (p < 156 → (s.pump p).find? (fun x => x.id == id) = some c → s.aside c = false → c.live = [0] → c.dests = [w] → c.chunk = 0 →
    c.failed = 0 → le d 32 4 ≤ 65536 →
    (May s p c .store w c.buf.length → s.mcHolder (s.mcKey p w) = some (p, id, 0) → Does (.mcAck p id 0) s (fun t => t.mem = (s.putMem [] (s.loc w) c.buf).mem ∧
      Finished s t p { c with live := [], chunk := 1 } .ok 0 0)) ∧
    Does (.mcastTimeout p id 0) s (fun t => Finished s t p { c with live := [], chunk := 1, failed := 1 } .partialDone 1 1))

/-- SEAL records a block's CRC-32C, VERIFY compares it, and catchment slots are installed, fed, completed and released
(R172, R183, R184, R185, R186, R187, R188, R189, R239). -/
def Obligations.SealsAndCatchments : Prop :=
  ∀ (s : State) (p id n slot : Nat) (c : PCmd) (g h : Contrib),
  let d := c.desc
  let a := le d 16 8
  let k := sealEntry (s.loc a)
  let crc := crc32c (s.rawBytes a 4096)
  let found := ofLe (s.rawBytes (tableBase + 4 * k.1) 4)
  let u := s.cat (cisPlace (s.loc g.addr)).n
  (Pumping s p id c → Clean s → pPop d = 6 → le d 24 4 = 1 → May s p c .load a 4096 → inMem s (tableBase + 4 * k.1) = true →
    s.stackStatus (tableBase + 4 * k.1) 4 = .ok →
    Does (.seal p id) s (fun t => t.seal k.1 = k.2 ∧ t.mem = (s.putMem [] (s.loc (tableBase + 4 * k.1)) (toLe 4 crc)).mem ∧
      Finished s t p c .ok 0 1)) ∧
  (Pumping s p id c → Clean s → pPop d = 7 → le d 24 4 = 1 → May s p c .load a 4096 → inMem s (tableBase + 4 * k.1) = true →
    s.stackStatus (tableBase + 4 * k.1) 4 = .ok →
    Does (.verify p id) s (fun t => t.mem = s.mem ∧
      (s.seal k.1 = k.2 → found = crc → Finished s t p c .ok 0 1) ∧
      (s.seal k.1 = k.2 → found ≠ crc → Finished s t p c .checksum 0 0) ∧
      (s.seal k.1 ≠ k.2 → Finished s t p c .unsealed 0 0))) ∧
  (Pumping s p id c → Clean s → pPop d = 8 → s.isRemote (le d 24 8) = false →
    May s p c .load a (le d 32 4 * sfmtBytes (bits (le d 36 1) 3 0)) →
    Does (.csend p id) s (fun t => t.mesh.flights = s.mesh.flights ++ (List.range (le d 32 4)).map (fun j =>
        { csendContrib d (s.rawBytes a (le d 32 4 * sfmtBytes (bits (le d 36 1) 3 0))) j with
          src := if p < 144 then some (p / 4) else none }) ∧
      Finished s t p c .ok 0 (le d 32 4 * sfmtBytes (bits (le d 36 1) 3 0)) ∧ t = { s with mesh := t.mesh, cistern := t.cistern })) ∧
  (Pumping s p id c → s.coh.dir = [] → s.coh.waiting = [] → pPop d = 10 → n = (cisPlace (s.loc a)).n →
    (List.range 64).find? (fun j => ((s.cat n).slot j).state != 0 && ((s.cat n).slot j).group.isNone && ((s.cat n).slot j).tgt == s.loc a) = some slot →
    Does (.crelease p id) s (fun t => (t.cat n).slot slot = {} ∧ (∀ j, j ≠ slot → (t.cat n).slot j = (s.cat n).slot j) ∧
      Finished s t p c .ok 0 0 ∧ t = { s with mesh := t.mesh })) ∧
  (n < 36 → contribJoins g h = true → s.passes n g = true → s.passes n h = true → s.mesh.flights = [g, h] →
    Does (.contributionJoin n g h) s (fun t => t = { s with mesh.flights := [{ contribJoin g h with src := some n }] })) ∧
  (cisternBase ≤ s.loc g.addr → s.loc g.addr < cisternEnd → u.find (· == 1) (s.loc g.addr) = none → u.raised = some s.now →
    Does (.contributionArrive g) s (fun t => t.cat (cisPlace (s.loc g.addr)).n =
        { u with orphans := min (u.orphans + 1) (2 ^ 32 - 1), orphanAddr := s.loc g.addr } ∧
      t.mesh.flights = s.mesh.flights.erase g ∧ t = { s with mesh := t.mesh })) ∧
  (n < 36 → slot < 64 → ((s.cat n).slot slot).state = 1 → ((s.cat n).slot slot).group = none →
    ((s.cat n).slot slot).written.length = rdCount ((s.cat n).slot slot).desc → s.writesOpen (448 + n) = false → s.coh.refused = [] →
    Does (.slotComplete n slot) s (fun t => ((t.cat n).slot slot).state = 2 ∧
      (∃ q, t.vane.held = s.vane.held ++
        [⟨n, rdDone ((s.cat n).slot slot).desc / 2048, q, rdDone ((s.cat n).slot slot).desc, 1, 0, false, false, none⟩]) ∧
      t = { s with mesh := t.mesh, vane := t.vane })) ∧
  (Pumping s p id c → Clean s → d.length = 64 → pPop d = 9 → n = (cisPlace (rdTgt d)).n → (s.cat n).service = true → (List.range 64).all (fun j => ((s.cat n).slot j).state == 0) = true →
    s.loc (rdTgt d) = rdTgt d → s.loc (rdAcc d) = rdAcc d →
    rdTgt d + rdCount d * rdW d ≤ cisternBase + (n + 1) * blockBytes →
    cisternBase + n * blockBytes ≤ rdAcc d → rdAcc d + 32 * rdCount d ≤ cisternBase + (n + 1) * blockBytes →
    overlap (rdTgt d) (rdCount d * rdW d) (rdAcc d) (32 * rdCount d) = false →
    overlap (rdTgt d) (rdCount d * rdW d) (s.loc (rdOut d)) (rdCount d * outBytes (rdCode d)) = false →
    overlap (rdAcc d) (32 * rdCount d) (s.loc (rdOut d)) (rdCount d * outBytes (rdCode d)) = false →
    Does (.cinstall p id) s (fun t => ((t.cat n).slot 0).state = 1 ∧ ((t.cat n).slot 0).cls = c.cls ∧
      (∀ j, j ≠ 0 → (t.cat n).slot j = (s.cat n).slot j) ∧ Finished s t p c .ok 0 0))

/-- A doorbell moves its index within the ring's size, an overrun puts the ring into error, and a fetch takes
descriptors (R256, R268, R269, R270). -/
def Obligations.DoorbellsAndFetch : Prop :=
  ∀ (s : State) (fn r : Nat) (idx : BitVec 32) (b : Bytes), fn < 8 → r < 256 → s.live fn = true → s.ringOwner r = fn → s.cmdEn fn = true →
  let x := s.ring r
  let others (t : State) : Prop := (∀ q, q ≠ r → t.ring q = s.ring q) ∧ t.host.regs = s.host.regs ∧ t.host.cmds = s.host.cmds
  let only (t : State) : Prop := t = { s with host := t.host }
  let held := (idx.toNat + 2 ^ 32 - x.ci) % 2 ^ 32
  let freed := (idx.toNat + 2 ^ 32 - x.cqCi) % 2 ^ 32
  let n := min 16 (s.sqHeld r - x.fetched.length)
  (s.sqEn r = true → x.sqErr = 0 → idx.toNat ≠ x.pi → held = 0 →
    Does (.sqDoorbell fn r idx) s (fun t => t.ring r = { x with pi := idx.toNat, fetched := [], headTick := none, headWaits := false, headMet := false } ∧
      others t ∧ t = { s with host := t.host, sync := (s.cancelWait (.hostHead r)).sync })) ∧
  (s.sqEn r = true → x.sqErr = 0 → idx.toNat ≠ x.pi → 0 < held → held ≤ 2 ^ s.sqLog r →
    Does (.sqDoorbell fn r idx) s (fun t => t.ring r = { x with pi := idx.toNat, fetched := x.fetched.take held } ∧ others t ∧ only t)) ∧
  (s.sqEn r = true → x.sqErr = 0 → idx.toNat ≠ x.pi → 2 ^ s.sqLog r < held →
    Does (.sqDoorbell fn r idx) s (fun t => t.ring r = { x with sqErr := 1 } ∧ others t ∧ only t)) ∧
  (s.sqEn r = false → Does (.sqDoorbell fn r idx) s (fun t => t = s)) ∧
  (s.cqEn r = true → x.cqErr = 0 → idx.toNat ≠ x.cqCi → freed ≤ s.cqHeld r →
    Does (.cqDoorbell fn r idx) s (fun t => t.ring r = { x with cqCi := idx.toNat } ∧ others t ∧ only t)) ∧
  (s.cqEn r = true → x.cqErr = 0 → idx.toNat ≠ x.cqCi → s.cqHeld r < freed →
    Does (.cqDoorbell fn r idx) s (fun t => t.ring r = { x with cqErr := 1 } ∧ others t ∧ only t)) ∧
  (s.sqEn r = true → x.sqErr = 0 → 0 < n → b.length = 64 * n →
    Does (.sqFetch r (.data b)) s (fun t => (t.ring r).fetched = x.fetched ++ chunks64 n b ∧ (t.ring r).ci = x.ci ∧
      (t.ring r).pi = x.pi ∧ others t ∧ only t)) ∧
  (s.sqEn r = true → x.sqErr = 0 → 0 < n →
    Does (.sqFetch r .unsupported) s (fun t => t.ring r = { x with sqErr := 2 } ∧ others t ∧ only t))

/-- The head of a ring is dispatched, or completes with the status of its failed check or with ST_TIMEOUT at its
deadline (R270, R275, R276, R277). -/
def Obligations.HeadDispatchAndDeadline : Prop :=
  ∀ (s : State) (r : Nat) (d : Bytes) (rest : List Bytes), r < 256 → (s.ring r).fetched = d :: rest → s.sqEn r = true →
  s.live (s.ringOwner r) = true → (s.ring (s.sqCq r)).backlog.length < 64 →
  let st := firstBad [commonCheck s (s.ringOwner r) d, gateCheck s (s.ringOwner r) d]
  let popped (t : State) : Prop := (t.ring r).ci = ((s.ring r).ci + 1) % 2 ^ 32 ∧ (t.ring r).fetched = rest
  let rec' (code : Status) : Rec := ⟨dTag d, code, 0, false, 0, bit (dFlags d) 1, none⟩
  let ended (code : Status) (t : State) : Prop := t.host.cmds = s.host.cmds ∧ popped t ∧
    (t.ring (s.sqCq r)).backlog = (s.ring (s.sqCq r)).backlog ++ [rec' code]
  (st = .ok → bit (dFlags d) 0 = false → bits (dWait d) 18 17 = 0 → (s.ring r).headTick = some none → s.dispatchFull r d = false →
    Does (.commandDispatch r) s (fun t => t.host.cmds = s.host.cmds ++ [⟨s.host.nextId, r, s.ringOwner r, d, none, false⟩] ∧
      t.host.nextId = s.host.nextId + 1 ∧ popped t ∧ t = { s with host := t.host, out := t.out })) ∧
  (st ≠ .ok → Does (.commandDispatch r) s (ended st)) ∧
  (∀ k, (s.ring r).headTick = some (some k) → Does (.commandDeadline r none) s (ended .timeout))

/-- CQ_POST and EVENT_POST write the oldest record to its slot, and an expired coalescing time signals the ring's
vector (R270, R271, R274, R292). -/
def Obligations.RecordsEventsAndInterrupts : Prop :=
  ∀ (s : State) (r fn : Nat) (x : Rec) (rest : List Rec) (e : Event) (es : List Event), r < 256 →
  let q := s.ring r
  let size := 2 ^ s.cqLog r
  let slot := bits (s.reg 8 (0x4008 + 64 * r)) 63 12 * 4096 + 16 * (q.cqPi % size)
  let moved (t : State) : Prop := (t.ring r).cqPi = (q.cqPi + 1) % 2 ^ 32 ∧
    (t.ring r).phase = (if q.cqPi % size + 1 = size then !q.phase else q.phase) ∧ (∀ k, k ≠ r → t.ring k = s.ring k)
  (q.backlog = x :: rest → s.cqReady r = true → x.irq = false →
    Does (.cqPost r true) s (fun t => t.out.hostMem = putBytes s.out.hostMem slot (recBytes x q.phase) ∧ (t.ring r).backlog = rest ∧
      moved t ∧ t.out.msix = s.out.msix ∧ t = { s with host := t.host, out := t.out })) ∧
  (q.backlog = x :: rest → s.cqReady r = true →
    Does (.cqPost r false) s (fun t => t.ring r = { q with cqErr := 2 } ∧ t.out = s.out ∧ t = { s with host := t.host })) ∧
  (fn < 8 → (s.evbuf fn).waiting = e :: es → s.evtEn fn = true → s.evcq fn = r → s.cqReady r = true →
    Does (.eventPost ⟨fn, true⟩) s (fun t => (t.evbuf fn).waiting = es ∧ (t.evbuf fn).lost = 0 ∧ moved t ∧
      t.out.hostMem = putBytes s.out.hostMem slot
        (recBytes ⟨e.code + 2 ^ 16 * (s.evbuf fn).lost, .ok, 0, true, e.payload, true, none⟩ q.phase)) ∧
    Does (.eventPost ⟨fn, false⟩) s (fun t => t.ring r = { q with cqErr := 2 } ∧ t.out = s.out ∧ t = { s with host := t.host })) ∧
  (bit (s.reg 8 (0x4018 + 64 * r)) 9 = true → bits (s.reg 8 (0x4018 + 64 * r)) 47 32 ≠ 0 → 0 < q.coal →
    s.host.unmasked.contains (256 * s.ringOwner r + bits (s.reg 8 (0x4018 + 64 * r)) 23 16) = true →
    Does (.irqCoalesceTimeout r) s (fun t => t.out.msix = s.out.msix ++ [(s.ringOwner r, bits (s.reg 8 (0x4018 + 64 * r)) 23 16)] ∧
      t.ring r = { q with coal := 0 } ∧ t = { s with host := t.host, out := t.out }))

/-- A commit captures the staged values, is refused while one runs, and applies its group whole or not at all (R260,
R336, R374, R391, R418, R259). -/
def Obligations.CommitsAreValidatedThenApplied : Prop :=
  ∀ (s : State) (fn g v w : Nat), g < 2 ^ 16 → v < 2 ^ 16 → w < 2 ^ 16 →
  let only (t : State) : Prop := t = { s with host := t.host }
  let start (u blk : Nat) (t : State) : Prop :=
    t.host.regs = s.host.regs ∧ t.host.stag = s.host.stag ∧ (∀ k, k ≠ u → t.unit k = s.unit k) ∧ only t ∧
    ((s.unit u).busy = false → t.unit u = { s.unit u with
      busy := true, running := g, captured := (groupRegs blk g).map (fun o => (o, s.staged blk o)), cmd := none }) ∧
    ((s.unit u).busy = true → t.unit u = { s.unit u with overrun := true })
  let running : Prop := (s.unit 11).busy = true ∧ (s.unit 11).running = 1 ∧ (s.unit 11).captured = [(0x10, v), (0x18, w)] ∧ (s.unit 11).cmd = none
  let result (code field : Nat) (t : State) : Prop := (t.unit 11).busy = false ∧ (t.unit 11).code = code ∧ (t.unit 11).field = field ∧
    (t.unit 11).group = 1 ∧ (t.unit 11).seq = ((s.unit 11).seq + 1) % 2 ^ 16
  (fn < 8 → s.live fn = true → Does (.cfgCommit fn g) s (start fn (if g = 1 then fn else 8))) ∧
  Does (.aqCommit g) s (start 8 9) ∧ Does (.psCommit g) s (start 9 10) ∧ Does (.diagCommit g) s (start 10 11) ∧
  Does (.pwrCommit g) s (start 11 12) ∧
  (running → (v = 0 ∨ (600 ≤ v ∧ v ≤ s.boot.limitW)) → w % 256 ≤ 150 → w / 256 ≤ 150 →
    Does (.commitApply 11) s (fun t => t.reg 12 0x10 = v ∧ t.reg 12 0x18 = w ∧ result 0 0xFFFF t ∧
      (∀ k, k < 2 → (t.psite k).pgrant = min (s.psite k).pgrant (bits w (8 * k + 7) (8 * k))) ∧
      t = { s with host := t.host, psites := t.psites, power := t.power })) ∧
  (running → v ≠ 0 → (v < 600 ∨ s.boot.limitW < v) →
    Does (.commitApply 11) s (fun t => t.host.regs = s.host.regs ∧ result 3 0x10 t ∧ only t)) ∧
  (fn < 8 → s.live fn = true → Does (.registerWrite (.bar0 fn 0x28) (BitVec.ofNat 64 v)) s (fun t =>
    t.staged fn 0x28 = v ∧ t.host.regs = s.host.regs ∧ t.host.units = s.host.units ∧ only t))

/-- A read clears the counters it returns, a flip mask arms only a bit that exists, and a site is readmitted only with
its epoch (R9, R373, R394, R143). -/
def Obligations.RegisterReadsReadmitAndFlip : Prop :=
  ∀ (s : State) (i k site target a : Nat) (ep : BitVec 32), site < 2 → k < 6 →
  let x := s.psite site
  (i < 1152 → Does (.readClear (.diag .wellkeeper (diagBase + 0x61000000 + 16 * i))) s (fun t =>
    t.out.rdata = BitVec.ofNat 64 (s.csWord i 0) ∧ (t.slice i).ce = 0 ∧ (t.slice i).ue = 0 ∧ (t.slice i).line = (s.slice i).line ∧
    (∀ j, j ≠ i → t.slice j = s.slice j) ∧ t = { s with cistern := t.cistern, out := t.out })) ∧
  (target < (flipRange k).1 → a < (flipRange k).2 → target < 2 ^ 16 → a < 2 ^ 9 →
    Does (.diagFlipWrite k (BitVec.ofNat 64 (1 + 2 ^ 16 * a + 2 ^ 48 * target))) s (fun t =>
      t.flip k = 1 + 2 ^ 16 * a + 2 ^ 48 * target ∧ (∀ j, j ≠ k → t.flip j = s.flip j) ∧ t = { s with svc := t.svc })) ∧
  ((flipRange k).1 ≤ target → a < (flipRange k).2 → target < 2 ^ 16 → a < 2 ^ 9 →
    Does (.diagFlipWrite k (BitVec.ofNat 64 (1 + 2 ^ 16 * a + 2 ^ 48 * target))) s (fun t =>
      t.flip k = 4 + 2 ^ 16 * a + 2 ^ 48 * target ∧ t = { s with svc := t.svc })) ∧
  (x.st = 3 → x.desc ≠ [] → x.epoch = ep.toNat → Does (.psReadmit site ep) s (fun t => t.psite site = { x with st := 2 } ∧
    (t.unit 9).code = 0 ∧ (∀ j, j ≠ site → t.psite j = s.psite j) ∧ t = { s with psites := t.psites, host := t.host, dist := t.dist })) ∧
  (x.st = 3 → x.desc ≠ [] → x.epoch ≠ ep.toNat → Does (.psReadmit site ep) s (fun t => t.psite site = x ∧
    (t.unit 9).code = 8 ∧ t = { s with host := t.host }))

/-- NOP, TIMESTAMP, FENCE, CONFIG_STAGE, CONFIG_COMMIT, QUERY, TEST and ACK_EVENT do their work and complete with
ST_OK (R273, R285, R286, R289, R290, R291). -/
def Obligations.SimpleHostCommands : Prop :=
  ∀ (s : State) (id : Nat) (c : HostCmd) (r : TestFind),
  let d := c.desc
  let host (t : State) : Prop := t = { s with host := t.host }
  (Runs s id 0 c → zeroAt d 16 48 = true → Does (.nop id) s (fun t => Ended s t c .ok 0 0 ∧ host t)) ∧
  (Runs s id 0 c → zeroAt d 16 48 = false → Does (.nop id) s (fun t => Ended s t c .badField 0 0 ∧ host t)) ∧
  (Runs s id 0xE c → zeroAt d 16 48 = true → Does (.timestamp id) s (fun t => Ended s t c .ok 0 s.now ∧ host t)) ∧
  (Runs s id 0xF c → zeroAt d 16 48 = true → s.host.cmds = [c] → (∀ q ∈ s.host.rings, q.2.backlog = []) →
    Does (.fence id) s (fun t => Ended s t c .ok 0 0 ∧ host t)) ∧
  (Runs s id 9 c → le d 16 2 = 0x28 → le d 18 1 = 1 → le d 19 1 = 0 → zeroAt d 20 4 = true → c.fn = 0 →
    Does (.configStage id) s (fun t => Ended s t c .ok 0 0 ∧ t.staged 0 0x28 = le d 24 8 % 2 ^ 64 ∧ t.host.regs = s.host.regs ∧ host t)) ∧
  (Runs s id 0xA c → le d 16 2 = 1 → zeroAt d 18 46 = true → c.fn = 0 → (s.unit 0).busy = false →
    Does (.configCommit id) s (fun t => (t.unit 0).busy = true ∧ (t.unit 0).running = 1 ∧ (t.unit 0).cmd = some id ∧
      t.host.cmds = s.host.cmds.map (fun x => if x.id = id then { x with waiting := true } else x) ∧ host t)) ∧
  (Runs s id 0xB c → le d 16 1 = 3 → zeroAt d 17 3 = true → le d 20 4 = 0 → le d 24 8 = 2 ^ 62 → 16 ≤ le d 32 4 → zeroAt d 36 28 = true →
    Does (.query ⟨id, true⟩) s (fun t => Ended s t c .ok 0 16 ∧ t.out.hostMem = putBytes s.out.hostMem 0 ((s.fuse.serial ++ zeros 16).take 16) ∧
      t = { s with host := t.host, out := t.out }) ∧
    Does (.query ⟨id, false⟩) s (fun t => Ended s t c .aborted 0 0 ∧ host t)) ∧
  (Runs s id 0x10 c → c.fn = 0 → testCheck s d = .ok → le d 16 1 = 2 → r.cores = [] →
    Does (.test id r) s (fun t => Ended s t c .ok 0 0 ∧ (∀ n, (s.tile (le d 20 4)).site = some n → (t.site n).cover = s.now) ∧
      t = { s with host := t.host, svc := t.svc, sites := t.sites })) ∧
  (Runs s id 0x11 c → c.fn = 0 → zeroAt d 18 46 = true → le d 16 2 = 0x01A → s.boot.computeOff = true → s.flashOk = true →
    Does (.ackEvent id) s (fun t => Ended s t c .ok 0 0 ∧ t.boot.computeOff = false ∧ t.boot.shutPending = false ∧
      t = { s with host := t.host, boot := t.boot, flash := t.flash }))

/-- SYNC_OP SET, ADD, CAS, WAIT_GE, WAIT_EQ and ARM act on a cell of this module and complete with the old value or
wait (R283, R295, R298, R308). -/
def Obligations.HostSyncOperations : Prop :=
  ∀ (s : State) (id i : Nat) (c : HostCmd), Runs s id 7 c → syncCheck s c.fn c.desc = .ok → s.soHere c.desc = some i → SoundCell s i →
  let d := c.desc
  let x := soVal d
  let y := soVal2 d
  let v := s.cell i
  let ge : Bool := decide ((v - x).toNat < 2 ^ 63)
  let only (t : State) : Prop := (∀ j, j ≠ i → t.cell j = s.cell j) ∧ t = { s with sync := t.sync, svc := t.svc, host := t.host }
  let waits (k : Nat) (t : State) : Prop := t.sync.table = s.sync.table ++ [⟨i, k, x.toNat, .hostCmd c.id⟩] ∧
    t.host.cmds = s.host.cmds.map (fun q => if q.id = c.id then { q with waiting := true } else q) ∧ t.cell i = v ∧ only t
  let room : Prop := s.waitUsed (i / 2048) < 1024 ∧ s.sync.queued.any (fun q => q.cell / 2048 == i / 2048) = false
  (soOp d = 0 → Does (.syncOpSet id) s (fun t => t.cell i = x ∧ Ended s t c .ok 0 0 ∧ only t)) ∧
  (soOp d = 1 → Does (.syncOpAdd id) s (fun t => t.cell i = v + x ∧ Ended s t c .ok 0 v.toNat ∧ only t)) ∧
  (soOp d = 2 → Does (.syncOpCas id) s (fun t => t.cell i = (if v = x then y else v) ∧ Ended s t c .ok 0 v.toNat ∧ only t)) ∧
  (soOp d = 3 → ge = true → Does (.syncOpWaitGe id) s (fun t => Ended s t c .ok 0 v.toNat ∧ t.sync = s.sync ∧ only t)) ∧
  (soOp d = 3 → ge = false → room → Does (.syncOpWaitGe id) s (waits 0)) ∧
  (soOp d = 4 → v = x → Does (.syncOpWaitEq id) s (fun t => Ended s t c .ok 0 v.toNat ∧ t.sync = s.sync ∧ only t)) ∧
  (soOp d = 4 → v ≠ x → room → Does (.syncOpWaitEq id) s (waits 1)) ∧
  (soOp d = 5 → ge = false → room → Does (.syncOpArm id) s (fun t => Ended s t c .ok 0 0 ∧
    t.host.arms = s.host.arms ++ [(c.fn, dTag d, i, x.toNat)] ∧
    t.sync.table = s.sync.table ++ [⟨i, 4, x.toNat, .hostArm c.fn (dTag d + 2 ^ 32 * i)⟩] ∧ only t))

/-- HOST COPY, FILL, SEAL and VERIFY run their pump effect and complete, and BAR4 reads and writes cells and memory
(R280, R255, R239). -/
def Obligations.HostDataCommands : Prop :=
  ∀ (s : State) (pump id i off : Nat) (c : HostCmd) (b : Bytes) (reply : HostReply) (ok : Bool), pump < 8 → s.sqPump c.ring = pump → s.hostStarts pump c = true →
  let d (pop : Nat) : Bytes := hostDesc pop c.desc
  let e := hostEnv pump c
  let q (pop : Nat) : State × Bool := s.pSettle (s.pLines e (d pop) [])
  (Runs s id 1 c → s.pCheck e (d 1) [] = none → (q 1).2 = true → replyFits reply (d 1) = true →
    Does (.hostCopy pump id reply) s (fun u =>
      Leaves s (settled c (le (d 1) 32 4 * (le (d 1) 36 2 * le (d 1) 38 2)) (hostCopy reply e (d 1) (q 1).1)) u)) ∧
  (isHost e (le (d 1) 16 8) = false → isHost e (le (d 1) 24 8) = false → hostCopy reply e (d 1) s = copyEffect e (d 1) none s) ∧
  (Runs s id 2 c → s.pCheck e (d 4) [] = none → (q 4).2 = true →
    Does (.hostFill pump ⟨id, ok⟩) s (fun u => Leaves s (settled c (le (d 4) 24 8) (hostFill ok e (d 4) (q 4).1)) u)) ∧
  (Runs s id 2 c → Clean s → s.pCheck e (d 4) [] = none → s.memCheck e.who .store (le (d 4) 16 8) (le (d 4) 24 8) = .ok →
    isHost e (le (d 4) 16 8) = false → inMem s (le (d 4) 16 8) = true →
    Does (.hostFill pump ⟨id, ok⟩) s (fun t => t.mem = (s.putMem [] (s.loc (le (d 4) 16 8)) (fillBytes (d 4))).mem ∧
      Ended s t c .ok 0 (le (d 4) 24 8))) ∧
  (Runs s id 3 c → s.pCheck e (d 6) [] = none → (q 6).2 = true →
    Does (.hostSeal pump id) s (fun u => Leaves s (settled c (le (d 6) 24 4) (sealEffect e (d 6) (q 6).1)) u)) ∧
  (Runs s id 4 c → s.pCheck e (d 7) [] = none → (q 7).2 = true →
    Does (.hostVerify pump id) s (fun u => Leaves s (settled c (le (d 7) 24 4) (verifyEffect e (d 7) (q 7).1)) u)) ∧
  (s.live 0 = true → off + 8 ≤ s.boot.bar4Gib * 2 ^ 30 → s.bar4Addr off = cellBase + 8 * i → SoundCell s i →
    Does (.bar4Read off 8) s (fun t => t.out.reply = toLe 8 (s.cell i).toNat ∧ t.out.status = .ok ∧ t = { s with out := t.out }) ∧
    (b.length = 8 → Does (.bar4Write off b) s (fun t => t.cell i = BitVec.ofNat 64 (ofLe b) ∧ (∀ j, j ≠ i → t.cell j = s.cell j) ∧
      t = { s with sync := t.sync, svc := t.svc })))

/-- Power-on starts S0, a good bank passes S0 to S1, a trained link passes S1, and a stage past its bound fails (R375,
R376, R377, R378, R381, R382). -/
def Obligations.PowerAndEarlyStages : Prop :=
  ∀ (s : State) (vin : Nat) (r0 : S0Find) (r1 : S1Find),
  let runs (k : Nat) : Prop := s.boot.powered = true ∧ s.boot.running = true ∧ s.boot.stage = k
  let report (t : State) (k res : Nat) : Prop := (t.report k).length = 256 ∧ le (t.report k) 0 1 = k ∧ le (t.report k) 1 1 = res
  let bankOk (b : Nat) : Bool := if b = 0 then r0.bank0Ok && s.flash.ok0 else r0.bank1Ok && s.flash.ok1
  (s.boot.powered = false → 33000 ≤ vin → vin ≤ 52000 →
    Does (.powerOn vin true) s (fun t => t.boot.powered = true ∧ t.boot.running = true ∧ t.boot.stage = 0 ∧ t.boot.cold = true ∧
      t.power.vin = vin ∧
      t = { ({} : State) with
        fuse := s.fuse, flash := s.flash, out := s.out, free := s.free, pending := s.pending
        boot := t.boot, power := t.power, mgmt := t.mgmt })) ∧
  (runs 0 → s.boot.cold = true → r0.dur ≤ 8000 → s.flash.active < 2 → bankOk s.flash.active = true →
    Does (.stageS0 r0) s (fun t => t.boot.bank = s.flash.active ∧ t.boot.fallback = false ∧ t.boot.limitW = (variantLimits s.fuse.variant).1 ∧
      t.boot.ceilMhz = (variantLimits s.fuse.variant).2 ∧ t.boot.ticking = true ∧ t.now = 0 ∧ t.boot.stage = 1 ∧ t.boot.running = true ∧
      t.flash.boots = (s.flash.boots + 1) % 2 ^ 32 ∧ t.mem = s.mem ∧ t.host = s.host)) ∧
  (runs 0 → s.boot.cold = true → r0.dur ≤ 8000 → bankOk s.flash.active = false → bankOk (1 - s.flash.active) = false →
    Does (.stageS0 r0) s (fun t => t.boot.failed = true ∧ t.boot.running = false ∧ report t 0 3 ∧ t.mem = s.mem ∧ t.host = s.host)) ∧
  (runs 1 → s.boot.perst = false → r1.dur ≤ 12000 → r1.trained = true → 3 ≤ r1.gen → r1.gen ≤ 6 → r1.width = 16 →
    Does (.stageS1 r1) s (fun t => t.boot.gen = r1.gen ∧ t.boot.width = 16 ∧ t.boot.stage = 2 ∧ t.boot.running = true ∧
      t.boot.start = s.now ∧ t.mem = s.mem ∧ t.host = s.host)) ∧
  (runs 1 → s.boot.perst = false → 12000 < r1.dur →
    Does (.stageS1 r1) s (fun t => t.boot.failed = true ∧ t.boot.running = false ∧ report t 1 3 ∧ le (t.report 1) 28 1 = 11 ∧
      t.boot.width = s.boot.width ∧ t.mem = s.mem ∧ t.host = s.host)) ∧
  (∀ k, runs k → k < 10 → (k = 1 → s.boot.perst = false) → Does .stageTimeout s (fun t => t.boot.failed = true ∧ t.boot.running = false ∧ report t k 3 ∧
    le (t.report k) 28 1 = 11 ∧ t.mem = s.mem ∧ t.host = s.host))

/-- S2 to S6 leave what each stage builds: a zeroed Cistern, trained bonds, numbered tiles, trained memory and empty
directories (R18, R19, R361, R377, R469). -/
def Obligations.MiddleStages : Prop :=
  ∀ (s : State) (r2 : S2Find) (r3 : S3Find) (r4 : S4Find) (r5 : S5Find) (r6 : S6Find),
  let runs (k : Nat) : Prop := s.boot.powered = true ∧ s.boot.running = true ∧ s.boot.stage = k
  let next (t : State) (k : Nat) : Prop := t.boot.stage = k ∧ t.boot.running = true ∧ t.boot.failed = s.boot.failed ∧ t.boot.start = s.now
  (runs 2 → r2.dur ≤ 1200000 → r2.fatal = false → Does (.stageS2 r2) s (fun t => next t 3 ∧
    (∀ a, cisternBase ≤ a → a < cisternEnd → t.byte a = 0) ∧ (∀ q, q < 4 → (t.island q).off = false ∧ (t.island q).point = 1600))) ∧
  (runs 3 → r3.dur ≤ 1500000 → Does (.stageS3 r3) s (fun t => next t 4 ∧ t.mem = s.mem ∧ t.host = s.host ∧
    (∀ n, n < 36 → (t.site n).powered = true ∧ (n ∈ r3.badSites → (t.site n).good = false)) ∧
    (∀ n p d, n < 36 → p < 32 → d < 2 → (∀ f ∈ r3.ports, ¬(f.region = n ∧ f.port = p ∧ f.dir = d)) → t.bond n p d = {}))) ∧
  (runs 4 → r4.dur ≤ 2000000 → Does (.stageS4 r4) s (fun t => next t 5 ∧ t.mem = s.mem ∧
    (∀ i n, i < 32 → (t.tile i).site = some n → n ∈ quadSites (i / 8) ∧ (t.site n).good = true) ∧
    (∀ q j, q < 4 → j < 8 → (t.tile (8 * q + j)).site = (t.quadActive q (s.chooseSpares.getD q 0))[j]?))) ∧
  (runs 5 → r5.dur ≤ 4000000 → Does (.stageS5 r5) s (fun t => next t 6 ∧ t.seals = [] ∧ t.host = s.host ∧
    (∀ h, h < 8 → (t.stack h).rate = max (min 3 (r5.rates.getD h 3)) (s.rateCap h)) ∧
    (s.boot.cold = true → ∀ a, a < hbmEnd → (t.stack (dramOf a).h).rate ≠ 3 → t.byte a = 0))) ∧
  (runs 6 → r6.dur ≤ 300000 → Does (.stageS6 r6) s (fun t => next t 7 ∧ (∀ i, t.cell i = 0) ∧ t.coh.dir = [] ∧
    t.sync.table = [] ∧ t.mem = s.mem ∧ t.host = s.host))

/-- S7 and S8 train the partner sites and ports, and S9 makes the module ready, held when the topology record differs
(R377, R384, R385, R386). -/
def Obligations.LateStages : Prop :=
  ∀ (s : State) (a b : PartnerFind) (ports : List PortTrain) (dur : Nat),
  let runs (k : Nat) : Prop := s.boot.powered = true ∧ s.boot.running = true ∧ s.boot.stage = k
  let next (t : State) (k : Nat) : Prop := t.boot.stage = k ∧ t.boot.running = true ∧ t.boot.failed = s.boot.failed ∧ t.boot.start = s.now
  let id : Nat := match s.boot.topo with | some x => bits (le x 6 2) 11 0 | none => 0
  let find (p : Nat) : PortTrain := s.portFind ports p
  (runs 7 → dur ≤ 500000 → Does (.stageS7 a b dur) s (fun t => next t 8 ∧ t.psite 0 = (s.trainSite 0 a 0).1 ∧
    t.psite 1 = (s.trainSite 1 b 0).1 ∧ t.mem = s.mem ∧ t.host = s.host)) ∧
  (runs 8 → dur ≤ 2000000 → Does (.stageS8 ports dur) s (fun t => next t 9 ∧
    t.aq.modid = id ∧ (∀ p, p < 12 → t.port p = (s.port p).train { find p with up := (find p).up && { s with aq.modid := id }.portCode p (find p) != 2 }) ∧ t.mem = s.mem ∧ t.host = s.host)) ∧
  (runs 9 → dur ≤ 200000 → s.mismatch = 0 → Does (.stageS9 dur) s (fun t => t.boot.ready = true ∧ t.boot.held = false ∧
    t.boot.running = false ∧ t.boot.stage = 9 ∧ t.boot.computeOff = s.boot.shutPending ∧ t.aq.valid = s.boot.topo.isSome ∧
    (∀ n, n < 36 → (t.cat n).service = true) ∧ t.mem = s.mem)) ∧
  (runs 9 → dur ≤ 200000 → s.mismatch ≠ 0 → Does (.stageS9 dur) s (fun t => t.boot.ready = true ∧ t.boot.held = true ∧
    t.boot.running = false ∧ t.boot.stage = 9 ∧ t.aq = s.aq ∧ t.mesh = s.mesh ∧ t.mem = s.mem))

/-- A loss of input power leaves the module dark, and every module reset keeps HBM, fuses and flash and loses the rest
(R375, R381, R389, R420, R449, R458). -/
def Obligations.PowerLossAndModuleReset : Prop :=
  ∀ (s : State) (mv : Nat) (pcie : Bool), s.boot.powered = true →
  let dark (t : State) : Prop := t.boot.powered = false ∧ t.boot.ready = false ∧ t.mem = [] ∧ t.cores = [] ∧ t.host = {} ∧ t.tasks = [] ∧
    t.now = 0 ∧ t.boot.ticking = false ∧ t.fuse = s.fuse ∧ t.flash = s.flash ∧ t.out = s.out
  let reset (t : State) : Prop := t.boot.powered = true ∧ t.boot.ready = false ∧ t.cores = [] ∧ t.mcores = [] ∧ t.tasks = [] ∧
    t.parts = [] ∧ t.sync = {} ∧ t.coh = {} ∧ t.tiles = [] ∧ t.tcmErrs = [] ∧ (∀ a, a < hbmEnd → t.byte a = s.byte a) ∧
    (∀ a, hbmEnd ≤ a → t.byte a = 0) ∧ t.fuse = s.fuse ∧ t.flash = s.flash ∧ t.now = s.now
  let starts (t : State) : Prop := t.boot.running = true ∧ t.boot.stage = 0
  (mv < 30000 → Does (.undervoltageStop mv) s dark) ∧
  (54000 < mv → Does (.overvoltageStop mv) s dark) ∧
  (s.boot.perst = false → Does .perstAssert s (fun t => reset t ∧ t.boot.perst = true ∧ t.boot.running = false)) ∧
  (s.boot.perst = true → s.boot.running = false → s.boot.ready = false → s.boot.failed = false → s.boot.shut = false →
    Does .perstRelease s (fun t => starts t ∧ t.boot.perst = false ∧ t.mem = s.mem ∧ t.host = s.host)) ∧
  (s.keeperUp = true → s.bindingUp pcie = true → s.activating = false → Does (.resetModule pcie 0xA5) s (fun t => reset t ∧ starts t)) ∧
  (s.keeperUp = true → 2 ≤ s.mgmt.level → Does .monReset s (fun t => reset t ∧ starts t ∧ t.out.status = .ok))

/-- Function-level and hot resets return configuration to reset values, and a new link width changes the distance
table (R252, R253, R257, R389). -/
def Obligations.FunctionResetsAndLink : Prop :=
  ∀ (s : State) (fn gen width : Nat) (d3 : Bool), s.boot.powered = true → fn ≤ s.boot.numVf → fn < 8 →
  Does .pcieHotReset s (fun t => (∀ b o, b < 9 → o < 0x20000 → t.reg b o = (regReset (rkey b o)).toNat ∧ t.staged b o = (regReset (rkey b o)).toNat) ∧
    t.boot.numVf = 0 ∧ t.boot.d3 = []) ∧
  Does (.functionLevelReset fn) s (fun t => t.reg fn 0x28 = 0 ∧ t.staged fn 0x28 = 0 ∧ (t.unit fn).busy = false) ∧
  Does .vfEnableClear s (fun t => t.boot.numVf = 0 ∧ ∀ f ∈ t.boot.d3, f = 0) ∧
  Does (.powerStateChange fn d3) s (fun t => (fn ∈ t.boot.d3 ↔ d3 = true) ∧ (∀ g, g ≠ fn → (g ∈ t.boot.d3 ↔ g ∈ s.boot.d3)) ∧
    t = { s with boot.d3 := t.boot.d3 }) ∧
  (s.boot.width ≠ 0 → s.boot.running = false → 3 ≤ gen → gen ≤ 6 → (width = 4 ∨ width = 8 ∨ width = 16) →
    Does (.pcieRetrain gen width) s (fun t =>
      t = { s with boot.gen := gen, boot.width := width, dist.dirty := true }))

/-- Leaving the input band, a failed phase and a droop are recorded and told to the host, and nothing else stops
(R420, R421, R424). -/
def Obligations.InputPower : Prop :=
  ∀ (s : State) (mv ph : Nat), s.boot.powered = true → s.evtEn 0 = true → (s.evbuf 0).waiting.length < 256 →
  let told (t : State) : Prop := ∃ p, (t.evbuf 0).waiting = (s.evbuf 0).waiting ++ [⟨0x019, p⟩]
  (s.power.outBand = false → ((30000 ≤ mv ∧ mv < 33000) ∨ (52000 < mv ∧ mv ≤ 54000)) →
    Does (.inputBandChange mv) s (fun t => told t ∧ t = { s with power.outBand := true, host := t.host, svc := t.svc })) ∧
  (s.power.outBand = true → 33000 ≤ mv → mv ≤ 52000 →
    Does (.inputBandChange mv) s (fun t => told t ∧ t = { s with power.outBand := false, host := t.host, svc := t.svc })) ∧
  (ph < 24 → s.power.failed.contains ph = false → s.power.failed.length ≤ 7 →
    Does (.phaseFail ph) s (fun t => told t ∧ t = { s with power.failed := s.power.failed ++ [ph], host := t.host, svc := t.svc })) ∧
  (s.power.droopAt = none → Does .droop s (fun t => told t ∧ t.power.droop = true ∧ t.power.droops = min (s.power.droops + 1) 0xFFFF ∧
    t.power.droopAt = some s.now ∧ t = { s with power := t.power, islands := t.islands, host := t.host, svc := t.svc })) ∧
  (s.power.droop = true → Does .droopEnd s (fun t => t.power.droop = false ∧ t = { s with power := t.power, islands := t.islands }))

/-- A held module is accepted or rejected, a good topology record replaces the older copy, and an endpoint takes its
address (R383, R387, R447, R450). -/
def Obligations.TopologyAndEndpoints : Prop :=
  ∀ (s : State) (id : Nat) (c : HostCmd) (b : Bytes) (e : BitVec 8),
  (Runs s id 0xC c → le c.desc 16 1 = 3 → repairCheck s c.fn c.desc = .ok → Does (.acceptTopology id) s (fun t => Ended s t c .ok 0 0 ∧
    t.boot.held = false ∧ t.aq.valid = s.boot.topo.isSome ∧ t.mem = s.mem)) ∧
  (Runs s id 0xC c → le c.desc 16 1 = 4 → repairCheck s c.fn c.desc = .ok → Does (.rejectTopology id) s (fun t => Ended s t c .ok 0 0 ∧
    t.boot.held = false ∧ t.boot.rejected = true ∧ t.boot.failed = true ∧ t = { s with boot := t.boot, host := t.host })) ∧
  (s.keeperUp = true → s.bindingUp false = true → s.topoCheck b = .ok → Does (.writeTopology false b) s (fun t => t.out.status = .ok ∧
    (match s.flash.topo with
     | some (x, false) => t.flash.topo1 = some b ∧ t.flash.topo0 = some x
     | _ => t.flash.topo0 = some b ∧ t.flash.topo1 = s.flash.topo1) ∧
    t = { s with flash := t.flash, svc := t.svc, out := t.out })) ∧
  (s.keeperUp = true → s.bindingUp false = true → topoForm b = false → Does (.writeTopology false b) s (fun t =>
    t.out.status = .badField ∧ t = { s with out := t.out })) ∧
  (s.keeperUp = true → s.boot.width ≠ 0 → e ≠ 0 → e ≠ 0xFF → Does (.setEndpointId true e) s (fun t => t.mgmt.eidPcie = some e.toNat ∧
    t.mgmt.eidSmbus = s.mgmt.eidSmbus ∧ t.out.pldm = 0 ∧ t = { s with mgmt := t.mgmt, svc := t.svc, out := t.out })) ∧
  (s.keeperUp = true → e ≠ 0 → e ≠ 0xFF → Does (.setEndpointId false e) s (fun t => t.mgmt.eidSmbus = some e.toNat ∧
    t.mgmt.eidPcie = s.mgmt.eidPcie ∧ t.out.pldm = 0 ∧ t = { s with mgmt := t.mgmt, svc := t.svc, out := t.out }))

/-- An update goes into the inactive bank, is verified, and is activated or falls back (R454, R455, R456). -/
def Obligations.FirmwareUpdate : Prop :=
  ∀ (s : State) (u : Update) (data : Bytes) (crc : BitVec 32), s.updateUp = true → s.recovery = false → s.boot.bank < 2 → s.flashOk = true →
  let b := 1 - s.boot.bank
  let bank (t : State) : Bool × Bytes := if b = 0 then (t.flash.ok0, t.flash.bank0) else (t.flash.ok1, t.flash.bank1)
  let same (t : State) : Prop := t = { s with flash := t.flash, mgmt := t.mgmt, boot := t.boot, svc := t.svc, out := t.out }
  (s.mgmt.update = none → Does .requestUpdate s (fun t => bank t = (false, []) ∧ t.mgmt.update = some ⟨[], false⟩ ∧
    t.flash.active = s.boot.bank ∧ t.out.pldm = 0 ∧ same t)) ∧
  (s.mgmt.update = some u → u.verified = false → Does (.firmwareTransfer data) s (fun t => bank t = (false, u.data ++ data) ∧
    t.mgmt.update = some ⟨u.data ++ data, false⟩ ∧ same t)) ∧
  (s.mgmt.update = some u → u.verified = false → crc32c u.data = crc.toNat → Does (.verifyComplete crc) s (fun t => same t ∧
    if Config.signatureOk u.data then bank t = (true, u.data) ∧ t.mgmt.update = some ⟨u.data, true⟩ ∧ t.out.pldm = 0
    else t.mgmt.update = none ∧ t.out.pldm = 4 ∧ t.flash = s.flash)) ∧
  (s.mgmt.update = some u → u.verified = false → crc32c u.data ≠ crc.toNat →
    Does (.verifyComplete crc) s (fun t => t.mgmt.update = none ∧ t.out.pldm = 4 ∧ t.flash = s.flash ∧ same t)) ∧
  (s.mgmt.update = some u → u.verified = true → s.boot.stage = 9 → Does (.activateFirmware true) s (fun t => t.boot.bank = b ∧
    t.flash.active = b ∧ t.mgmt.trial = some s.now ∧ t.mgmt.update = none ∧ t.out.pldm = 0 ∧ same t)) ∧
  (s.mgmt.trial ≠ none → s.boot.powered = true → Does .fwFallback s (fun t => t.boot.bank = b ∧ t.flash.active = b ∧ t.mgmt.trial = none ∧
    (if s.boot.bank = 0 then t.flash.ok0 = false else t.flash.ok1 = false) ∧ same t)) ∧
  Does .cancelUpdate s (fun t => t.mgmt.update = none ∧ t.out.pldm = 0 ∧ same t)

/-- Management reads answer identities, reports, the log, the snapshot, the life cycle and sensors; the effecter sets
the cap (R382, R449, R452, R453, R458, R464). -/
def Obligations.ManagementReads : Prop :=
  ∀ (s : State) (k n : Nat) (f : BitVec 32) (w : BitVec 16), s.mctpUp = true →
  let answers (st : Status) (b : Bytes) (t : State) : Prop := t.out.status = st ∧ t.out.reply = b ∧ t = { s with out := t.out }
  let snap : Bytes := (s.power.snapshot ++ zeros 4096).take 4096
  let serial : Bytes := (s.fuse.serial ++ zeros 16).take 16
  Does (.getIdentity 75) s (answers .ok serial) ∧
  (45 ≤ k → k ≠ 73 → k ≠ 74 → k ≠ 75 → Does (.getIdentity k) s (answers .range [])) ∧
  (k < 10 → Does (.getStageReport k) s (answers .ok (s.report k)) ∧ Does (.monStage k) s (answers .ok (s.report k))) ∧
  (10 ≤ k → Does (.getStageReport k) s (answers .range [])) ∧
  (1 ≤ n → n ≤ 16 → Does (.getLog f n) s (answers .ok (s.logRead f.toNat n)) ∧ Does (.monLog f n) s (answers .ok (s.logRead f.toNat n))) ∧
  Does .getSnapshot s (answers .ok snap) ∧ Does .monSensors s (answers .ok snap) ∧
  Does .getLifecycle s (answers .ok (toLe 1 s.fuse.lifecycle)) ∧ Does .monLcs s (answers .ok (toLe 1 s.fuse.lifecycle)) ∧
  Does .monHelp s (answers .ok monCommands) ∧
  Does .monId s (fun t => (∃ b, t.out.reply = b ++ serial ∧ b.length = 32 * 47) ∧ t.out.status = .ok ∧ t = { s with out := t.out }) ∧
  (s.power.snapshot ≠ [] → Does (.pldmSensorRead 1) s (fun t => t.out.rdata = BitVec.ofNat 64 (le s.power.snapshot 12 2) ∧
    t.out.pldm = 0 ∧ t = { s with out := t.out })) ∧
  (208 < k → Does (.pldmSensorRead k) s (fun t => t.out.pldm = 1 ∧ t = { s with out := t.out })) ∧
  ((s.unit 11).busy = false → (s.unit 11).cmd = none → w ≠ 0 → 600 ≤ w.toNat → w.toNat ≤ s.boot.limitW →
    bits (s.reg 12 0x18) 7 0 ≤ 150 → bits (s.reg 12 0x18) 15 8 ≤ 150 → s.reg 12 0x18 < 2 ^ 16 →
    Does (.pldmEffecterWrite w) s (fun t => t.reg 12 0x10 = w.toNat ∧ t.reg 12 0x18 = s.reg 12 0x18 ∧ t.out.pldm = 0 ∧
      (t.unit 11).code = 0 ∧ (t.unit 11).seq = ((s.unit 11).seq + 1) % 2 ^ 16 ∧ t = { s with host := t.host, out := t.out, psites := t.psites, power := t.power }))

/-- The monitor's level is raised by the right answer to a challenge, and dropped by LOCK and by expiry (R457, R458,
R459). -/
def Obligations.MonitorLevels : Prop :=
  ∀ (s : State) (k rate : Nat) (code : BitVec 32), s.keeperUp = true →
  let only (t : State) : Prop := t = { s with mgmt := t.mgmt, out := t.out, svc := t.svc, free := t.free }
  (1 ≤ k → k ≤ highestLevel s.fuse.lifecycle → s.mgmt.lockUntil ≤ s.now → Does (.unlockChallenge k) s (fun t =>
    t.mgmt.chal = some (Config.challenge s.free, k, s.now) ∧ t.mgmt.level = s.mgmt.level ∧ t.out.status = .ok ∧
    t.out.reply = hexDigits 8 (Config.challenge s.free).toNat ∧ only t)) ∧
  Does (.unlockChallenge 0) s (fun t => t.out.status = .permission ∧ t.mgmt = s.mgmt ∧ only t) ∧
  (s.mgmt.lockUntil ≤ s.now → s.unlocks k code = true → Does (.unlockResponse k code) s (fun t =>
    t.mgmt.level = k ∧ t.mgmt.fails = 0 ∧ t.mgmt.chal = none ∧ t.out.status = .ok ∧ only t)) ∧
  (s.mgmt.lockUntil ≤ s.now → s.unlocks k code = false → s.mgmt.fails = 2 → Does (.unlockResponse k code) s (fun t =>
    t.mgmt.level = s.mgmt.level ∧ t.mgmt.lockUntil = s.now + 600000000000 ∧ t.out.status = .permission ∧ only t)) ∧
  (s.now < s.mgmt.lockUntil → Does (.unlockResponse k code) s (fun t => t.mgmt = s.mgmt ∧ t.out.status = .permission ∧ only t)) ∧
  Does .lock s (fun t => t.mgmt = { s.mgmt with level := 0 } ∧ t.out.status = .ok ∧ only t) ∧
  Does .unlockExpire s (fun t => t.mgmt = { s.mgmt with level := min s.mgmt.level s.fuse.monLevel } ∧ only t) ∧
  (rate ∈ [230400, 460800, 921600, 1500000, 3000000] → Does (.baud rate) s (fun t => t.mgmt = { s.mgmt with baud := rate } ∧
    t.out.status = .ok ∧ only t)) ∧
  (rate ∉ [230400, 460800, 921600, 1500000, 3000000] → Does (.baud rate) s (fun t => t.mgmt = s.mgmt ∧ t.out.status = .range ∧ only t))

/-- PEEK, POKE, DRIZZLE, TG and DIEMODE act only at their level, and refuse what they may not reach (R458, R459). -/
def Obligations.MonitorAccess : Prop :=
  ∀ (s : State) (a v i k c : Nat) (u : TestUnit) (pass : Bool) (r : TestFind) (seed : BitVec 32) (base len : Nat) (t' : State) (w : Bytes), s.keeperUp = true →
  let answers (st : Status) (t : State) : Prop := t.out.status = st ∧ t.out.reply = [] ∧ t = { s with out := t.out }
  let d := tgDesc k c 0 0 2 seed.toNat base len
  (s.mgmt.level = 0 → Does (.monPeek a 1) s (answers .permission) ∧ Does (.monDrizzle u true) s (answers .permission) ∧
    Does (.monTg k c 0 0 2 seed base len r) s (answers .permission)) ∧
  (s.mgmt.level < 2 → Does (.poke a (BitVec.ofNat 64 v)) s (answers .permission) ∧ Does (.diemode i k) s (answers .permission)) ∧
  (1 ≤ s.mgmt.level → a % 8 = 0 → s.peekWord a = (t', .ok w) → t'.pending = s.pending → t'.fuse = s.fuse → t'.now = s.now →
    Does (.monPeek a 1) s (fun t => t.out.status = .ok ∧ t.out.reply = w ∧ t = { t' with out := t.out })) ∧
  (1 ≤ s.mgmt.level → s.boot.ready = true → s.segmentMay u = true → u ∉ s.svc.segments → Does (.monDrizzle u pass) s (fun t =>
    t.out.status = .ok ∧ t.out.reply = [] ∧ (pass = true → u ∉ t.svc.overdue) ∧
    Leaves s { (s.startSegment u).segmentEnd u pass with out := t.out } t)) ∧
  (2 ≤ s.mgmt.level → Clean s → a % 8 = 0 → inMem s a = true → s.memCheck .monitor .store a 8 = .ok →
    Does (.poke a (BitVec.ofNat 64 v)) s (fun t => t.out.status = .ok ∧ t.mem = (s.putMem [] (s.loc a) (toLe 8 v)).mem)) ∧
  (1 ≤ s.mgmt.level → s.segmentMay u = false → Does (.monDrizzle u true) s (answers .locked)) ∧
  (1 ≤ s.mgmt.level → k < 8 → c < 32 → base < 2 ^ 32 → len < 2 ^ 32 → testCheck s d = .ok →
    Does (.monTg k c 0 0 2 seed base len r) s (fun t => t.out.status = .ok ∧
      t.out.reply = toLe 8 ((s.channelTest d r).hcWord (32 * k + c) 5) ∧
      Leaves s { s.channelTest d r with out := t.out } t)) ∧
  (2 ≤ s.mgmt.level → i < nCells → Does (.poke (cellBase + 8 * i) (BitVec.ofNat 64 v)) s (answers .permission)) ∧
  (2 ≤ s.mgmt.level → a % 8 ≠ 0 → Does (.poke a (BitVec.ofNat 64 v)) s (answers .align)) ∧
  (2 ≤ s.mgmt.level → 1 ≤ i → i ≤ 36 → k ≤ 2 → s.tileAt (i - 1) = none → Does (.diemode i k) s (fun t =>
    (t.site (i - 1)).dieMode = k ∧ (∀ j, j ≠ i - 1 → t.site j = s.site j) ∧ t = { s with sites := t.sites, out := t.out }))

/-- The test access port answers IDCODE to anyone, and drives pins or reaches a die only when the life cycle opens it
(R460, R461). -/
def Obligations.TestAccessPort : Prop :=
  ∀ (s : State) (b : Bytes) (i : Nat), s.boot.powered = true →
  let ir (k : Nat) (t : State) : Prop := t.mgmt.ir = k ∧ t.mgmt.refused = false ∧ t.mgmt.driven = (k == 3) ∧
    t.out.capture = (if s.mgmt.refused then 5 else 1)
  let refused (t : State) : Prop := t.mgmt.ir = 1 ∧ t.mgmt.refused = true ∧ t.mgmt.driven = false
  let only (t : State) : Prop := t = { s with mgmt := t.mgmt, out := t.out, free := t.free }
  Does .idcode s (fun t => ir 0 t ∧ t.out.rdata = BitVec.ofNat 64 s.idcode ∧ only t) ∧
  Does .bypass s (fun t => ir 1 t ∧ only t) ∧
  Does (.samplePreload b) s (fun t => ir 2 t ∧ t.mgmt.boundary = b ∧ t.out.reply = Config.pinSample s.free ∧ only t) ∧
  (s.jtagOpen = true → s.boot.perst = true → Does .extest s (fun t => ir 3 t ∧ only t)) ∧
  (s.jtagOpen = false ∨ s.boot.perst = false → Does .extest s (fun t => refused t ∧ only t)) ∧
  (s.jtagOpen = true → s.dieReached i = true → Does (.diesel i) s (fun t => ir 4 t ∧ t.mgmt.die = some i ∧ only t)) ∧
  (s.jtagOpen = false → Does (.diesel i) s (fun t => refused t ∧ t.mgmt.die = s.mgmt.die ∧ only t)) ∧
  (s.jtagOpen = true → s.mgmt.die = some i → s.wrapperHeld i = false → Does (.diescan b) s (fun t => ir 5 t ∧
    tget (fun _ => []) t.mgmt.wrapper i = b ∧ t.out.reply.length = b.length ∧ only t)) ∧
  (s.jtagOpen = true → s.mgmt.die = some i → s.wrapperHeld i = true → Does (.diescan b) s (fun t => ir 5 t ∧
    t.out.reply = List.replicate b.length 0xFF ∧ t.mgmt.wrapper = s.mgmt.wrapper ∧ only t))

/-- A tile's request is kept, the budget round grants what it asks when it fits, and a grant sets its clocks' points
(R354, R425, R426, R427). -/
def Obligations.PowerGrants : Prop :=
  ∀ (s : State) (i n g w a mhz vs gate : Nat), i < 32 → (s.tile i).site = some n → n < 36 → (s.tile i).off = false →
  let x := s.tile i
  let m := mhz / 25 * 25
  let elsewhere (t : State) : Prop := ∀ k, (∀ r, r < 4 → k ≠ mIsland n r) → k ≠ vsIsland n → t.island k = s.island k
  (s.sidePorts n = [] → Does (.pwrReq i w a) s (fun t => t = s) ∧ Does (.pwrGrant i mhz vs gate) s (fun t => t = s)) ∧
  (s.sidePorts n ≠ [] → Does (.pwrReq i w a) s (fun t => t.tile i = { x with meas := w, ask := some a } ∧ (∀ j, j ≠ i → t.tile j = s.tile j) ∧
    t = { s with tiles := t.tiles })) ∧
  (x.ask = some a → (∀ j ∈ List.range 32, j ≠ i → (s.tile j).ask = none) → Does .budgetRound s (fun t =>
    t.tile i = { x with sent := some (if (a : Rat) ≤ s.avail then a else s.avail.floor.toNat), ask := none } ∧
    (∀ j, j ≠ i → t.tile j = s.tile j) ∧ t = { s with tiles := t.tiles })) ∧
  (x.sent = some g → s.sidePorts n ≠ [] → Does (.pwrGrant i mhz vs gate) s (fun t => (t.tile i).grant = some g ∧ (t.tile i).sent = none ∧
    (t.tile i).gated = min gate 1000 ∧ (∀ r, r < 4 → (t.island (mIsland n r)).point =
      (if m ≤ s.boot.ceilMhz then max 500 m else (s.island (mIsland n r)).point)) ∧
    (t.island (vsIsland n)).point = max 400 (min 1800 (vs / 25 * 25)) ∧ elsewhere t ∧ t = { s with tiles := t.tiles, islands := t.islands })) ∧
  Does (.grantTimeout i) s (fun t => (t.tile i).grant = none ∧ (∀ r, r < 4 → (t.island (mIsland n r)).point = 0) ∧
    (t.island (vsIsland n)).point = 0 ∧ elsewhere t ∧ t = { s with tiles := t.tiles, islands := t.islands })

/-- Clocks change, stop and wake one island at a time, and an idle tile powers down only when allowed (R22, R78, R427,
R440, R442). -/
def Obligations.ClocksAndIdleTiles : Prop :=
  ∀ (s : State) (q mhz i n k : Nat), i < 32 → (s.tile i).site = some n → n < 36 → (s.tile i).off = false →
  let stopped (l : List Nat) (t : State) : Prop := (∀ j, t.island j = (if j ∈ l then { s.island j with stopped := true } else s.island j)) ∧
    t = { s with islands := t.islands }
  let down (t : State) : Prop := (t.tile i).off = true ∧ (t.tile i).ask = none ∧ (t.tile i).grant = none ∧ (t.tile i).sent = none ∧ t.dist.dirty = true ∧ (t.site n).powered = false ∧
    (∀ r, r < 4 → (t.island (mIsland n r)).off = true) ∧ (t.island (vsIsland n)).off = true ∧
    (∀ j, j ≠ i → t.tile j = s.tile j) ∧ t = { s with tiles := t.tiles, sites := t.sites, islands := t.islands, dist := t.dist }
  (s.watching = true → q < 4 → (s.island q).off = false → 1200 ≤ mhz → mhz ≤ 1800 → mhz % 25 = 0 →
    Does (.regionClockChange q mhz) s (fun t => (t.island q).point = mhz ∧ (t.island q).clk = min mhz (s.islandLimit q) ∧
      (∀ j, j ≠ q → t.island j = s.island j) ∧ t.mem = s.mem ∧ t.cores = s.cores)) ∧
  ((∀ a ∈ tileAgents i, (s.core a).run = false) → Does (.islandClockStop i true) s (stopped [vsIsland n])) ∧
  ((∀ j ∈ tileMcores i, s.msState j = 0 ∨ s.msState j = 3) → Does (.islandClockStop i false) s
    (stopped [mIsland n 0, mIsland n 1, mIsland n 2, mIsland n 3])) ∧
  (k < 192 → (s.island k).stopped = true → (s.island k).off = false → Does (.islandWake k) s (fun t =>
    t.island k = { s.island k with stopped := false } ∧ (∀ j, j ≠ k → t.island j = s.island j) ∧ t = { s with islands := t.islands })) ∧
  Does (.int8ClockRestore i) s (fun t => (t.tile i).classI = false ∧ (∀ j, j ≠ i → t.tile j = s.tile j) ∧
    t = { s with tiles := t.tiles, islands := t.islands }) ∧
  (bit (s.reg 12 0x30) 0 = true → (s.tile i).task = none → Does (.tilePowerDown i) s down) ∧
  (bit (s.reg 12 0x30) 0 = false → Does (.tilePowerDown i) s (fun t => t = s))

/-- Housekeeping takes the readings, the evaluation follows them, and a hot island shuts the module down with a record
(R13, R414, R428, R430, R432, R434, R435). -/
def Obligations.HeatAndShutdown : Prop :=
  ∀ (s : State) (r : Readings) (k : Nat) (slacks : List (Nat × Int)) (x : LogRec),
  (s.boot.powered = true → s.boot.ticking = true → Does (.housekeepingRound r) s (fun t => t.power.vin = r.vin ∧ t.power.iin = r.iin ∧
    t.power.pin = r.pin ∧ t.power.flashT = r.flash ∧ t.power.rounds = s.power.rounds + 1 ∧ t.power.snapshot.length = 4096 ∧
    t.cores = s.cores ∧ t.boot = s.boot)) ∧
  (s.watching = true → Does .thermalEval s (fun t => (t.power.alert = true ↔ ∃ i, i < 192 ∧ 1 ≤ (t.island i).state) ∧
    t.mem = s.mem ∧ t.cores = s.cores ∧ t.host.regs = s.host.regs)) ∧
  (s.watching = true → k < 192 → 2 ≤ (s.island k).hot → Does (.thermalShutdown k) s (fun t => t.boot.shut = true ∧ t.boot.ready = false ∧
    t.boot.computeOff = true ∧ t.boot.thermtrip = true ∧ ∃ y, t.boot.shutLog = some y ∧ y.code = 0x01A ∧ y.result = s.shutPayload k 0)) ∧
  (s.boot.shutLog = some x → s.flashOk = true → s.svc.logq = [] → Does .shutdownRecordWrite s (fun t => t.boot.shutLog = none ∧
    t.flash.shutRec = some (logBytes s.flash.logSeq (s.suppCount x.code x.src) x) ∧ t.flash.shutAck = none ∧
    t = { s with boot := { s.boot with shutLog := none }, flash := t.flash, svc := t.svc })) ∧
  (4 ≤ k → k < 148 → (s.island k).ceil = 0 →
    let v := s.sense (slacks.filter (fun e => decide (e.1 < 1584) && sensorOn e.1 == k))
    let loss := v.islandLoss k
    Does (.barometerReplan k slacks) s (fun t => t.svc.slacks = v.svc.slacks ∧ (t.island k).offset = (baroPlan k (s.island k).offset s.boot.ceilMhz loss).1 ∧
    (t.island k).ceil = (baroPlan k (s.island k).offset s.boot.ceilMhz loss).2 ∧ (t.island k).loss = min loss 255 ∧ t.mem = s.mem))

/-- A partner site is granted what it asks up to its cap, is cut back on overrun, fenced, and returns fenced with a
new epoch (R366, R371, R372, R373). -/
def Obligations.PartnerSites : Prop :=
  ∀ (s : State) (k w temp m : Nat) (f : PartnerFind), k < 2 →
  let x := s.psite k
  let others (t : State) : Prop := ∀ j, j ≠ k → t.psite j = s.psite j
  (x.st = 2 → Does (.pwrAsk k w) s (fun t => t.psite k = { x with pgrant := min w (s.askCap k) } ∧ others t ∧
    (if k = 0 then t.power.grantA else t.power.grantB) = min w (s.askCap k) ∧ t = { s with psites := t.psites, power := t.power })) ∧
  (x.st = 2 → Does (.pwrTele k w temp) s (fun t => t.psite k = { x with pmeas := w % 2 ^ 16, tmeas := temp % 2 ^ 8 } ∧ others t ∧
    t = { s with psites := t.psites })) ∧
  (x.st = 2 → Does (.partnerOverrun k false) s (fun t => t.psite k = { x with overrun := true, pgrant := min x.pgrant (pdMin x.desc) } ∧ others t ∧
    t = { s with psites := t.psites, power := t.power })) ∧
  (x.st = 2 → Does (.partnerFence k) s (fun t => (t.psite k).st = 3 ∧ (t.psite k).desc = [])) ∧
  (x.st = 2 → m < 4 → (x.mods.getD m {}).role ≠ 7 → (x.mods.getD m {}).width = 0 → m < x.mods.length → s.slowPorts = [] → s.slowTargets = [] →
    Does (.ucieLaneFail k m false) s (fun t => t.psite k = { x with mods := x.mods.set m { x.mods.getD m {} with width := 1 } } ∧ others t ∧
      t.dist.dirty = true ∧ t = { s with psites := t.psites, dist := t.dist, host := t.host, svc := t.svc })) ∧
  (m < 4 → Does (.ucieLaneFail k m true) s (fun t => t = s)) ∧
  (x.st = 3 → x.desc = [] → f.trained = true → s.descFails k f.desc = 0 → Does (.partnerDieReturn k f) s (fun t =>
    (t.psite k).st = 3 ∧ (t.psite k).desc = f.desc ∧ (t.psite k).epoch = (x.epoch + 1) % 2 ^ 32 ∧ (t.psite k).drop = x.drop ∧ others t ∧
    t = { s with psites := t.psites, power := t.power, coh := t.coh, dist := t.dist }))

/-- A failed unit is fenced, REPAIR fences and readmits one with a new epoch, and a clock loss fences until it ends
(R287, R402, R403, R407, R408). -/
def Obligations.FencingAndReadmission : Prop :=
  ∀ (s : State) (i n r p id : Nat) (c : HostCmd), i < 32 → (s.tile i).site = some n →
  let x := s.tile i
  let marked (t : State) : Prop := t.dist.dirty = true
  (s.autospare = false → x.fenced = false → x.off = false → Does (.unitFailure i none) s (fun t => (t.tile i).fenced = true ∧ marked t) ∧
    Does (.pllLockLoss i) s (fun t => (t.tile i).fenced = true ∧ marked t)) ∧
  (s.autospare = false → s.present i r p = true → x.fencedCores.contains (r, p) = false →
    Does (.unitFailure i (some (r, p))) s (fun t => (t.tile i).fencedCores.contains (r, p) = true ∧ marked t)) ∧
  (s.autospare = false → Runs s id 0xC c → rpAction c.desc = 0 → repairCheck s c.fn c.desc = .ok → rpTile c.desc = i → rpCore c.desc = none →
    Does (.repairFence id) s (fun t => (t.tile i).fenced = true ∧ t.cmd id = none ∧ marked t)) ∧
  (Runs s id 0xC c → rpAction c.desc = 1 → repairCheck s c.fn c.desc = .ok → rpTile c.desc = i → rpCore c.desc = none → x.off = false →
    s.svc.repairs = [] → Does (.repairReadmit id) s (fun t => (t.tile i).fenced = false ∧ (t.tile i).fencedCores = [] ∧
      (t.tile i).epoch = (x.epoch + 1) % 2 ^ 32 ∧ (∀ j, j ≠ i → t.tile j = s.tile j) ∧ t.cmd id = none ∧ marked t)) ∧
  (x.fenced = false → x.off = false → x.clockLost = false → Does (.tileDieReset i) s (fun t => (t.tile i).fenced = true ∧
    (t.tile i).clockLost = true)) ∧
  (x.clockLost = true → s.autospare = false → x.part = none → s.svc.repairs = [] →
    let done (t : State) : Prop := t.tile i = { x with clockLost := false } ∧ (∀ j, j ≠ i → t.tile j = s.tile j) ∧ t = { s with tiles := t.tiles }
    Does (.tileClockReturn i false) s done ∧ Does (.tileClockWaitExpire i) s done) ∧
  (x.clockLost = true → Does (.tileClockReturn i true) s (fun t => (t.tile i).clockLost = false ∧ (t.site n).bs = 2 ∧ marked t))

/-- REPAIR_SPARE starts a recovery, draining completes it, and the quadrant's spare site takes the tile over (R20,
R287, R403, R404). -/
def Obligations.SparesTakeOver : Prop :=
  ∀ (s : State) (i n m id : Nat) (c : HostCmd) (e : Repair), i < 32 → (s.tile i).site = some n → n < 36 → m < 36 → m ≠ n →
  (Runs s id 0xC c → rpAction c.desc = 2 → repairCheck s c.fn c.desc = .ok → rpTile c.desc = i → rpCore c.desc = none →
    (s.tile i).fenced = true → (s.tile i).task = none → s.svc.repairs = [] → Does (.repairSpare id) s (fun t =>
      t.svc.repairs = [⟨i, none, false, true, some id⟩] ∧
      t.host.cmds = s.host.cmds.map (fun x => if x.id = id then { x with waiting := true } else x) ∧
      t = { s with svc.repairs := t.svc.repairs, host.cmds := t.host.cmds })) ∧
  (s.repairOf i (e.core.map (·.1)) = some e → s.atBoundary e = false → Does (.quiesceDrained i (e.core.map (·.1))) s (fun t => t = s)) ∧
  (s.repairOf i (e.core.map (·.1)) = some e → s.atBoundary e = true → Does (.quiesceDrained i (e.core.map (·.1))) s (fun t =>
    t.svc.repairs = s.svc.repairs.map (fun x => if x = e then { x with drained := true } else x) ∧
    t = { s with svc.repairs := t.svc.repairs })) ∧
  (s.svc.repairs = [e] → e = ⟨i, none, e.quiet, true, none⟩ → (s.tile i).clockLost = false → s.spareSite (i / 8) = some m →
    Does (.spareTakeover i none true) s (fun t => (t.tile i).site = some m ∧ (t.tile i).shifted = [] ∧ (t.site n).good = false ∧
      (t.site m).bs = 2 ∧ t.dist.spareUsed = s.dist.spareUsed ++ [i / 8] ∧ t.svc.repairs = [] ∧ (∀ j, j ≠ i → t.tile j = s.tile j) ∧
      t.dist.dirty = true))

/-- Drizzle takes and gives back its units, and the log, the distance table and lockstep errors are recorded (R22,
R30, R400, R410, R411, R412, R415, R446). -/
def Obligations.DrizzleAndUpkeep : Prop :=
  ∀ (s : State) (u : TestUnit) (k line : Nat) (x : LogRec) (rest : List LogRec),
  let starts (v : TestUnit) : Prop := bit (s.reg 11 0x18) 0 = true ∧ s.boot.ready = true ∧ s.segmentMay v = true ∧ v ∉ s.svc.segments
  let took (v : TestUnit) (t : State) : Prop := t.svc.segments = s.svc.segments ++ [v]
  let gave (v : TestUnit) (t : State) : Prop := ∀ w, w ∈ t.svc.segments ↔ w ∈ s.svc.segments ∧ w ≠ v
  let power (on : Bool) (t : State) : Prop := (t.site k).powered = on ∧ (∀ i ∈ siteIslands k, (t.island i).off = !on) ∧
    (∀ j, j ≠ k → t.site j = s.site j) ∧ (∀ i, i ∉ siteIslands k → t.island i = s.island i)
  (starts u → (∀ a b, u ≠ .march a b) → (∀ n, u ≠ .spare n) → Does (.drizzleSegment u) s (fun t => took u t ∧
    t = { s with svc.segments := t.svc.segments })) ∧
  (starts (.spare k) → s.tileAt k = none → Does (.drizzleSegment (.spare k)) s (fun t => took (.spare k) t ∧ power true t ∧
    t = { s with svc.segments := t.svc.segments, sites := t.sites, islands := t.islands })) ∧
  (starts (.march k line) → Does (.drizzleSegment (.march k line)) s (fun t => took (.march k line) t ∧
    (∀ b, (∀ a ∈ marchLines k line, b < a ∨ a + 128 ≤ b) → t.byte b = s.byte b) ∧
    t = { s with svc.segments := t.svc.segments, mem := t.mem, free := t.free })) ∧
  (.spare k ∈ s.svc.segments → s.tileAt k = none → Does (.drizzleSegmentEnd (.spare k) true) s (fun t => gave (.spare k) t ∧
    (t.site k).cover = s.now ∧ power false t ∧ t = { s with svc := t.svc, sites := t.sites, islands := t.islands })) ∧
  (u ∈ s.svc.segments → (∀ n, u ≠ .spare n) → Does (.drizzleAbort u) s (fun t => gave u t ∧ t = { s with svc.segments := t.svc.segments })) ∧
  (.spare k ∈ s.svc.segments → s.tileAt k = none → Does (.drizzleAbort (.spare k)) s (fun t => gave (.spare k) t ∧ power false t ∧
    t = { s with svc.segments := t.svc.segments, sites := t.sites, islands := t.islands })) ∧
  (u ∉ s.svc.overdue → s.svc.logq.length < 1024 → Does (.drizzleOverdue u) s (fun t => t.svc.overdue = s.svc.overdue ++ [u] ∧
    t.svc.logq.length = s.svc.logq.length + 1 ∧ t = { s with svc := t.svc })) ∧
  (s.flashOk = true → s.svc.logq = x :: rest → Does .eventLogWrite s (fun t => t.svc.logq = rest ∧ t = { s with svc := t.svc, flash := t.flash })) ∧
  (s.flashOk = false → Does .eventLogWrite s (fun t => t.svc.logq = s.svc.logq.map (fun r => { r with delayed := true }) ∧
    t = { s with svc.logq := t.svc.logq })) ∧
  (s.flashOk = true → Does .flashHoldFlush s (fun t => t.svc.heldRepairs = [] ∧ t = { s with svc := t.svc, flash := t.flash })) ∧
  (s.dist.dirty = true → s.stale = true → s.tasks = [] → Does .distanceTableUpdate s (fun t => t.dist.gen = (s.dist.gen + 2) % 2 ^ 32 ∧
    t.dist.dirty = false ∧ (∀ j, 0 < j → j < dtWords → t.dtWord j = s.freshWord j) ∧
    t = { s with dist := t.dist, host := t.host, svc := t.svc })) ∧
  (s.dist.dirty = true → s.stale = false → Does .distanceTableUpdate s (fun t => t = { s with dist.dirty := false })) ∧
  (s.keeperUp = true → s.svc.logq.length < 1024 → Does .lockstepError s (fun t => t.flash.lockstep = (s.flash.lockstep + 1) % 2 ^ 32 ∧
    t.boot.bank = s.flash.active ∧ t.mgmt.update = none ∧ t.svc.logq.length = s.svc.logq.length + 1 ∧
    t = { s with boot := t.boot, flash := t.flash, mgmt := t.mgmt, svc := t.svc }))

/-- Cistern repairs move a row or a column to a spare while one is left, and retire the unit after that (R126, R139,
R156, R392, R395, R396, R397). -/
def Obligations.CisternUpkeep : Prop :=
  ∀ (s : State) (i sub row b n u g k : Nat) (late : Bool) (m : MeshSched), i < 1152 → sub < 24 → row < 128 → b < 266 → n < 36 → u < 1536 →
  s.flashOk = true → s.flash.repair.length < 4092 →
  let id := 1536 * n + u
  let repaired (t : State) (kind payload : Nat) : Prop := t.flash.repair = s.flash.repair ++ [⟨kind, s.flash.boots, payload⟩]
  let used (l : List (Nat × Nat × Nat)) : Nat := (l.filter (fun r => r.1 == i && r.2.1 == sub)).length
  let gs := rowGrans i sub row
  let v := 1536 * (i / 32) + (1024 * sub + 8 * row) / 16
  (s.cisRowDue gs = false → Does (.cisternRemap i sub row) s (fun t => t = s)) ∧
  (s.cisColDue i sub b = false → Does (.cisternColumn i sub b) s (fun t => t = s)) ∧
  (s.cisRowDue gs = true → used s.cistern.rows < 8 → Does (.cisternRemap i sub row) s (fun t => t.cistern.rows = s.cistern.rows ++ [(i, sub, row)] ∧
    repaired t 4 (i + 2 ^ 11 * sub + 2 ^ 16 * row + 2 ^ 24 * used s.cistern.rows) ∧
    (∀ e ∈ t.cistern.found, e.1 ∉ gs) ∧
    t = { s with cistern.rows := t.cistern.rows, cistern.found := t.cistern.found, grans := t.grans, flash := t.flash, svc := t.svc })) ∧
  (s.cisRowDue gs = true → 8 ≤ used s.cistern.rows → s.cistern.retired.contains v = false → s.covered (unitAddr v) 65536 = false →
    Does (.cisternRemap i sub row) s (fun t => t.cistern.retired = s.cistern.retired ++ [v] ∧ t.cistern.rows = s.cistern.rows ∧
      t = { s with cistern := t.cistern, aq := t.aq, flash := t.flash, svc := t.svc, host := t.host })) ∧
  (s.cisColDue i sub b = true → used s.cistern.cols < 2 → Does (.cisternColumn i sub b) s (fun t => t.cistern.cols = s.cistern.cols ++ [(i, sub, b)] ∧
    repaired t 5 (i + 2 ^ 11 * sub + 2 ^ 16 * b + 2 ^ 25 * used s.cistern.cols) ∧
    t = { s with cistern.cols := t.cistern.cols, cistern.found := t.cistern.found, grans := t.grans, flash := t.flash, svc := t.svc })) ∧
  (s.cistern.retired.contains id = false → s.covered (unitAddr id) 65536 = false → Does (.unitRetire n u) s (fun t =>
    t.cistern.retired = s.cistern.retired ++ [id] ∧ repaired t 6 (id / 1536 + 2 ^ 16 * (id % 1536)) ∧
    t = { s with cistern := t.cistern, aq := t.aq, flash := t.flash, svc := t.svc, host := t.host })) ∧
  (s.grans = [] → Does (.scrubRead false n late) s (fun t => (t.scrub n).next = ((s.scrub n).next + 1) % (blockBytes / 32) ∧
    (t.scrub n).late = late ∧ (∀ j, j ≠ n → t.scrub j = s.scrub j) ∧ t = { s with svc := t.svc })) ∧
  (s.cistern.correct.contains g = true → (s.gran g).flips.length = 1 → Does (.correctiveWriteback g) s (fun t =>
    t.gran g = {} ∧ t.cistern.correct = s.cistern.correct.filter (· != g) ∧ (∀ j, j ≠ g → t.gran j = s.gran j) ∧
    t = { s with grans := t.grans, cistern.correct := t.cistern.correct })) ∧
  Does (.mergeWindowEnd g) s (fun t => (∀ x, x ∈ t.cistern.groups ↔ x ∈ s.cistern.groups ∧ x.gran ≠ g) ∧
    t = { s with cistern.groups := t.cistern.groups }) ∧
  (tget (fun _ => none) s.mesh.scheds n = none → Does (.slipTimeout n k false) s (fun t => t = s)) ∧
  (tget (fun _ => none) s.mesh.scheds n = some m → m.active = true → (msPorts m.sect).contains k = true → m.credited.contains k = false →
    s.tasks = [] → Does (.slipTimeout n k false) s (fun t =>
      tget (fun _ => none) t.mesh.scheds n = some { m with credited := m.credited ++ [k] } ∧
      (∀ j, j ≠ n → tget (fun _ => none) t.mesh.scheds j = tget (fun _ => none) s.mesh.scheds j) ∧
      t = { s with mesh := t.mesh, host := t.host, svc := t.svc }))

/-- A stack steps its rate down and retrains, a row moves to the remap area, and the traffic generator runs on a held
channel (R243, R245, R246, R249, R398). -/
def Obligations.HbmRates : Prop :=
  ∀ (s : State) (h c k ch pc sid bank row mode seed : Nat) (units : List Nat) (v : Word) (mm : List (Nat × Nat × Word)) (r : TgRun), h < 8 → c < 32 →
  let x := s.stack h
  let y := s.chan (32 * h + c)
  let key := ch % 32 + 2 ^ 5 * (pc % 2) + 2 ^ 6 * (sid % 16) + 2 ^ 10 * (bank % 64) + 2 ^ 16 * (row % 2 ^ 18)
  let others (t : State) : Prop := ∀ j, j ≠ h → t.stack j = s.stack j
  let chans (t : State) : Prop := (∀ j, j ≠ 32 * h + c → t.chan j = s.chan j) ∧ t = { s with chans := t.chans }
  let gs := dramRow h (ch % 32) (pc % 2) units
  let steps := tgSteps h c r
  (x.rate < 2 → s.slowPorts = [] → s.slowTargets = [] → Does (.hbmDerate h) s (fun t => t.stack h = { x with rate := x.rate + 1, retraining := true } ∧ others t ∧
    t.dist.dirty = true ∧ t = { s with hbms := t.hbms, dist := t.dist, host := t.host, svc := t.svc })) ∧
  (x.rate = 2 → Does (.hbmDerate h) s (fun t => t.stack h = { x with rate := 3, retraining := false, queue := [] } ∧ others t ∧
    t = { s with hbms := t.hbms, dist := t.dist, host := t.host, svc := t.svc })) ∧
  (x.rate = 3 → Does (.hbmDerate h) s (fun t => t = s)) ∧
  (x.retraining = true → s.rateCap h ≤ x.rate → Does (.hbmRetrainDone h true) s (fun t => t.stack h = { x with retraining := false } ∧
    others t ∧ t = { s with hbms := t.hbms })) ∧
  (s.rowDue (32 * h + ch % 32) gs = false → Does (.hbmRemap h ch pc sid bank row units []) s (fun t => t = s)) ∧
  (s.rowDue (32 * h + ch % 32) gs = true → (List.range 1024).find? (fun i => (s.remapEnt h i).isNone) = some k → Does (.hbmRemap h ch pc sid bank row units []) s (fun t =>
    t.remapEnt h k = some key ∧ others t ∧ t.mem = s.mem ∧ t.boot = s.boot)) ∧
  (s.chanHeld (32 * h + c) = false → Does (.tgStart h c v mm) s (fun t => (t.chan (32 * h + c)).refused = true ∧
    (t.chan (32 * h + c)).busy = false ∧ (t.chan (32 * h + c)).run = none ∧ chans t)) ∧
  (s.chanHeld (32 * h + c) = true → mode < 4 → (mode = 1 → seed ≠ 0) → y.seed = seed → y.len ≠ 0 → y.base + y.len ≤ 3145728 →
    Does (.tgStart h c (BitVec.ofNat 64 (mode + 2 ^ 5)) mm) s (fun t => (t.chan (32 * h + c)).busy = true ∧
      (t.chan (32 * h + c)).refused = false ∧ (t.chan (32 * h + c)).fail = false ∧
      (t.chan (32 * h + c)).run = some ⟨mode, 2, 0, seed, y.base, y.len, mm⟩ ∧ chans t)) ∧
  (y.run = some r → r.op = 2 → s.grans = [] → r.wrong = [] → (∀ e ∈ steps, s.rawBytes e.2.2.1 256 = e.2.2.2) → Does (.tgDone h c) s (fun t =>
    t.chan (32 * h + c) = { y with busy := false, done := true, run := none } ∧ chans t)) ∧
  (y.run = some r → r.op = 2 → s.grans = [] → (∃ e ∈ steps, ∃ i ∈ List.range 8, s.rawBytes (e.2.2.1 + 32 * i) 32 ≠ (e.2.2.2.drop (32 * i)).take 32) →
    Does (.tgDone h c) s (fun t =>
      (t.chan (32 * h + c)).fail = true ∧ (t.chan (32 * h + c)).done = true ∧ (t.chan (32 * h + c)).busy = false ∧ chans t)) ∧
  (y.run = some r → r.op = 2 → s.grans = [] → Does (.tgStop h c) s (fun t => (t.chan (32 * h + c)).busy = false ∧ (t.chan (32 * h + c)).aborted = true ∧ (t.chan (32 * h + c)).run = none ∧
      (∀ j, j ≠ 32 * h + c → t.chan j = s.chan j) ∧ t = { s with chans := t.chans, free := s.free + 1 }))

/-- A request waits at its valve without allowance, is charged and queued with it, and a tick gives the allowances out
(R233, R311, R312, R316, R317, R321, R323). -/
def Obligations.MemoryRegulation : Prop :=
  ∀ (s : State) (r : ValveReq) (c h n g rep : Nat) (e : QEnt), r.valve < valveCount → r.cls < 16 → c < 16 → h < 8 →
  let q := s.qos' c
  let key := valveKey r.valve r.cls h
  (s.charges r = [] → Does (.valveRequest r) s (fun t => t = s)) ∧
  (s.charges r = [(h, n)] → (s.stack h).halt = false → (s.stack h).rate ≠ 3 → r.kind = .ordinary → r.cls ≠ 15 → s.qos.held = [] →
    0 < s.allowance key → s.qRoom (s.stack h).queue r.cls = true → Does (.valveRequest r) s (fun t =>
      t.allowance key = s.allowance key - (n : Rat) ∧ (t.qos' r.cls).released = (s.qos' r.cls).released + n ∧
      (t.stack h).queue = (s.stack h).queue ++ [⟨r, s.now, s.deadlineOf r⟩] ∧ t.qos.held = [] ∧ (∀ j, j ≠ h → t.stack j = s.stack j) ∧
      t = { s with qos := t.qos, hbms := t.hbms })) ∧
  (s.charges r = [(h, n)] → (s.stack h).halt = false → r.kind = .ordinary → r.cls ≠ 15 → s.allowance key ≤ 0 →
    Does (.valveRequest r) s (fun t => t.qos.held = s.qos.held ++ [r] ∧ t.hbms = s.hbms ∧ t.shown key = s.shown key + n ∧
      t = { s with qos := t.qos })) ∧
  (s.qos.held = [] → s.slowPorts = [] → s.slowTargets = [] → Does .regulationTick s (fun t => t.qos.held = [] ∧ t.hbms = s.hbms ∧ t.mem = s.mem ∧ t.cores = s.cores ∧
    ∀ v k j, k < 16 → j < 8 → s.shown (valveKey v k j) = 0 → t.allowance (valveKey v k j) = min (s.allowance (valveKey v k j)) 0)) ∧
  (q.wanted < s.guar c * s.window c * 1000 → Does (.qosWindowEnd c) s (fun t => (t.qos' c).meas = min (q.released / (1000 * s.window c)) 0xFFFF ∧
    (t.qos' c).dem = min (q.wanted / (1000 * s.window c)) 0xFFFF ∧ (t.qos' c).released = 0 ∧ (t.qos' c).wanted = 0 ∧
    (∀ k, k ≠ c → t.qos' k = s.qos' k) ∧ t = { s with qos := t.qos })) ∧
  ((s.stack h).retraining = false → (s.stack h).rate ≠ 3 → (s.stack h).queue = [e] → (s.stack h).input = [] → e.r.cls = 15 → e.dl = none →
    Does (.hbmBankSchedule h [e.r.id] {}) s (fun t => t.stack h = { s.stack h with queue := [], served := some e.r.id } ∧
      (∀ j, j ≠ h → t.stack j = s.stack j) ∧ t = { s with hbms := t.hbms })) ∧
  (32 * g < hbmEnd → (dramOf (32 * g)).h = h → Does (.hbmBankSchedule h [] ⟨[], [(g, rep)]⟩) s (fun t =>
    t.gran g = { s.gran g with ode := min rep 2 } ∧ (∀ j, j ≠ g → t.gran j = s.gran j) ∧ t = { s with grans := t.grans })) ∧
  Does (.hbmBankSchedule h [] {}) s (fun t => t = s)

/-- Errors on a bond are counted and the fourth in a millisecond retrains it; a port takes flits in order and loses
lanes with its width (R326, R328, R329, R330, R333, R353, R355, R356, R380). -/
def Obligations.BondsAndPorts : Prop :=
  ∀ (s : State) (n p d port fec lane : Nat) (fseq ack : BitVec 16) (creds : BitVec 32) (body data : Bytes) (crc : Word) (frame : BitVec 48) (f : PortFind) (tr : PortTrain), n < 36 → p < 32 → d < 2 → port < 12 → lane < 8 →
  let x := s.bond n p d
  let y := s.port port
  let flit := flitOf fseq ack creds body crc
  let inOrder : Prop := bits (le flit 0 2) 11 0 = (y.rxSeq + 1) % 4096
  let counted : AqPort := { y with fecce := satAdd y.fecce (b2n (fec == 1)) 0xFFFFFFFF, fecue := satAdd y.fecue (b2n (fec == 2)) 0xFFFFFFFF }
  let took : AqPort := { counted with
    rxSeq := bits (le flit 0 2) 11 0
    nak := false
    rxPart := (y.stream flit).2
    unacked := ackFlits y.unacked (bits (le flit 2 2) 11 0)
    used := (y.credited (flitCreds flit)).used }
  (beatOk data frame = true → Does (.bondNakRetry n p ⟨d, data, frame⟩) s (fun t => t = s)) ∧
  (beatOk data frame = false → (s.site n).bs = 2 → x.st ≠ 2 → 3 ≤ s.recentCrc n p → Does (.bondNakRetry n p ⟨d, data, frame⟩) s (fun t =>
    (t.bond n p d).crc = min (x.crc + 1) 0xFFFFFFFF ∧ (t.bond n p 0).retraining = true ∧ (t.bond n p 1).retraining = true ∧
    t = { s with bonds := t.bonds })) ∧
  (beatOk data frame = false → (s.site n).bs = 2 → x.st ≠ 2 → s.recentCrc n p < 3 → Does (.bondNakRetry n p ⟨d, data, frame⟩) s (fun t => (t.bond n p d).crc = min (x.crc + 1) 0xFFFFFFFF ∧
    (t.bond n p d).retraining = x.retraining ∧ (t.bond n p d).st = x.st ∧ t = { s with bonds := t.bonds })) ∧
  (f.region = n → f.port = p → f.dir = d → f.groups = [] → f.frame = 0 → x.retraining = true → x.st = 0 → Does (.bondRetrain f true) s (fun t =>
    (t.bond n p d).st = 0 ∧ (t.bond n p d).retraining = false ∧ (t.bond n p d).retrains = min (x.retrains + 1) 0xFFFF ∧
    t = { s with bonds := t.bonds })) ∧
  (y.st = 2 → fec < 2 → flitOk flit = true → inOrder → bit (le flit 2 2) 12 = false → y.txq = [] → Does (.aqFlitReceive port fec fseq ack creds body crc) s
    (Leaves s ((y.stream flit).1.foldl (fun u m => u.deliver port m) (s.setPort port took)))) ∧
  (y.st = 2 → fec < 3 → fec = 2 ∨ flitOk flit = false ∨ ¬ inOrder → Does (.aqFlitReceive port fec fseq ack creds body crc) s (fun t =>
    t = s.setPort port { counted with nak := true })) ∧
  (y.st ≠ 2 → fec < 3 → Does (.aqFlitReceive port fec fseq ack creds body crc) s (fun t => t = s)) ∧
  (y.st ≠ 2 ∨ bit y.lanes lane = true → Does (.aqLaneFail port lane) s (fun t => t = s)) ∧
  (y.st = 2 → bit y.lanes lane = false → max y.width (widestGroup (y.lanes ||| 2 ^ lane)) < 3 → Does (.aqLaneFail port lane) s (fun t =>
    (t.port port).lanes = y.lanes ||| 2 ^ lane ∧ (t.port port).width = max y.width (widestGroup (y.lanes ||| 2 ^ lane)) ∧ (t.port port).st = 2 ∧
    t.dist.dirty = true ∧ t.mem = s.mem)) ∧
  (tr.up = false → Does (.aqPeerTrain port tr) s (fun t => t = s)) ∧
  (y.st = 0 → s.boot.ready = true → s.boot.shut = false → tr.up = true → s.portCode port tr ≠ 2 → Does (.aqPeerTrain port tr) s (fun t =>
    t.port port = y.train tr ∧ (∀ k, k ≠ port → t.port k = s.port k) ∧ t.dist.dirty = true ∧ t.mem = s.mem))

/-- A request for this module is admitted and answered, one for another is forwarded, and an answer or its deadline
ends the request (R334, R335, R337, R338, R341, R342). -/
def Obligations.RemoteRequestsAndReplies : Prop :=
  ∀ (s : State) (p q a rd ad n i tag id : Nat) (m : AqMsg) (c : Contrib) (r : RemReq) (h : HostCmd), p < 12 → s.aq.valid = true →
  let here : Prop := m.dmod = s.aq.modid
  let answer (u t : State) (x : AqMsg) : Prop := t = u.reply p m x
  let waits (u : RemUser) : Prop := here ∧ s.req m.tag = some r ∧ r.dmod = m.smod ∧ r.user = u ∧ r.far = none ∧ r.tag = m.tag ∧ m.status = .ok ∧
    s.awaits a m.tag = true ∧ (s.core a).stopping = false
  let ended (t : State) (v : Word) (k : Nat) : Prop := t.core a = { (s.core a).setX k v with pc := (s.core a).pc + 4, wait := .none } ∧
    t.aq.reqs = s.aq.reqs.filter (fun x => x.tag != r.tag) ∧ (∀ b, b ≠ a → t.core b = s.core b) ∧ t = { s with cores := t.cores, aq := t.aq }
  (here → Clean s → s.remoteCheck p m .load m.len = .ok → 0 < m.len → Does (.rd p m) s (fun t => ∃ u, u = { s with cistern := u.cistern } ∧
    answer u t { kind := .rdr, len := m.len, data := s.rawBytes m.addr m.len })) ∧
  (m.dmod ≠ s.aq.modid → s.route m.dmod = some q → m.level < 3 → Does (.rd p m) s (fun t => t = s.transmit q { m with level := m.level + 1 })) ∧
  (here → Clean s → s.remoteCheck p m .store m.data.length = .ok → m.data ≠ [] → Does (.wr p m) s (fun t => ∃ u,
    u.mem = (s.putMem [] (s.loc m.addr) m.data).mem ∧ u = { s with mem := u.mem, grans := u.grans, cistern := u.cistern, svc := u.svc, cores := u.cores } ∧
    answer u t { kind := .wrack })) ∧
  (here → le m.data 0 8 = 1 → le m.data 8 8 = i → SoundCell s i → s.cellOpen p m i = true → Does (.sync p m) s (fun t => ∃ u,
    u.cell i = s.cell i + BitVec.ofNat 64 (le m.data 16 8) ∧ (∀ j, j ≠ i → u.cell j = s.cell j) ∧ u = { s with sync := u.sync, svc := u.svc } ∧
    answer u t (syncrMsg .ok (s.cell i)))) ∧
  (here → le m.data 8 8 = i → s.cellOpen p m i = false → Does (.sync p m) s (fun t => answer s t { syncrMsg .ok 0 with status := .permission })) ∧
  (here → placeLocal m.addr = .cistern n → s.regionPart (cisPlace m.addr).n = some q → bit (s.reg 9 (0x40 + 8 * q)) 3 = true →
    bits (s.reg 9 (0x40 + 8 * q)) 27 16 ≤ m.smod → m.smod ≤ bits (s.reg 9 (0x40 + 8 * q)) 43 32 → s.placeResetting m.addr 1 = false →
    s.catRange m.addr 1 = true → Does (.catc p m c) s (fun t =>
      answer { s with mesh.flights := s.mesh.flights ++ [{ c with addr := m.addr }] } t { kind := .wrack })) ∧
  (waits (.load a ad n rd false) → r.kind = .rd → Does (.rdr p m) s (fun t => ended t (loadVal n false m.data) rd)) ∧
  (waits (.store a) → r.kind = .wr → Does (.wrack p m) s (fun t => ended t 0 0)) ∧
  (waits (.cell a rd) → r.kind = .sync → Does (.syncr p m) s (fun t => ended t (BitVec.ofNat 64 (le m.data 0 8)) rd)) ∧
  (s.req tag = some r → r.tag = tag → r.timed = true → s.reqDeadline r ≤ s.now → r.user = .host id → r.far = none → s.cmd id = some h →
    Does (.remoteTimeout tag) s (fun t => Ended s t h .timeout 0 0 ∧ t.aq.reqs = s.aq.reqs.filter (fun x => x.tag != tag) ∧
      t = { s with aq := t.aq, host := t.host })) ∧
  (here → Does (.slow p m) s (fun t => t.expiry m.smod = s.now + 1000 * bits (le m.data 0 8) 15 0 ∧
    (t.port p).slow = min ((s.port p).slow + 1) 0xFFFF ∧ t = { s with aq := t.aq })) ∧
  (s.aq.slow = false → s.slowNow = false → Does .slowRenew s (fun t => t = s)) ∧
  (s.slowNow = true → Does .slowRenew s (Leaves s ({ s with aq.slow := true }.slowNotice 1 1000))) ∧
  (s.aq.slow = true → s.slowNow = false → Does .slowRenew s (Leaves s ({ s with aq.slow := false }.slowNotice 1 0)))

/-- A collective starts its group's run, counts what its peers send, and completes, times out or is aborted (R284,
R344, R345, R346, R347). -/
def Obligations.CollectivesRun : Prop :=
  ∀ (s : State) (id g p q : Nat) (c : HostCmd) (m : AqMsg) (r : GroupRun) (step : CStep),
  let d := c.desc
  let x := s.group g
  let n := x.members.length
  let me := s.grRank g
  let fresh : Prop := Runs s id 8 c ∧ collCheck s c.fn d = .ok ∧ cGroup d = g ∧ x.run = none ∧ x.early = []
  let started (t : State) : Prop := (t.group g).run = some { cmd := id, seq := x.seq, start := s.now, digest := operandDigest d } ∧
    (t.group g).seq = (x.seq + 1) % 2 ^ 14 ∧ t.host.cmds = s.host.cmds.map (fun k => if k.id = id then { k with waiting := true } else k) ∧
    t = { s with host.cmds := t.host.cmds, mesh := t.mesh, aq := t.aq, out := t.out }
  let member : Prop := p < 12 ∧ m.dmod = s.aq.modid ∧ s.aq.valid = true ∧ s.armed g = true ∧ m.group = g ∧ x.members.findIdx? (· == m.smod) = some q ∧
    x.run = some r ∧ m.seq = r.seq ∧ s.cmd r.cmd = some c
  let more (e : Nat × Nat × Nat) : GroupRun := { r with got := r.got ++ [e] }
  let still (e : Nat × Nat × Nat) : Prop := (stepsOf (ctype d) n)[r.step]? = some step ∧ unheard (more e) (stepNeeds n me (cCount d) step) ≠ []
  let heard (e : Nat × Nat × Nat) (t : State) : Prop := (t.group g).run = some (more e) ∧ (∀ k, k ≠ g → t.group k = s.group k)
  (fresh → ctype d = 0 → 2 ≤ n → (peerSet n me 0).filter (· != me) ≠ [] → Does (.collectiveBarrier id) s started) ∧
  (fresh → ctype d = 2 → me ≠ 0 → 0 < cCount d → Does (.collectiveBroadcast id) s started) ∧
  (fresh → ctype d = 1 → Does (.collectiveAllReduce id) s (fun t => Leaves s (s.collStart c) t)) ∧
  (fresh → ctype d = 3 → Does (.collectiveReduceScatter id) s (fun t => Leaves s (s.collStart c) t)) ∧
  (member → still (3, q, le m.data 0 8 + 1) → Does (.barr p { m with kind := .barr }) s (fun t => heard (3, q, le m.data 0 8 + 1) t ∧
    t = { s with aq := t.aq })) ∧
  (member → still (2, q, 1) → le m.data 0 4 = x.digest → le m.data 4 4 = r.digest → Does (.cdig p { m with kind := .cdig }) s (fun t =>
    heard (2, q, 1) t ∧ t = { s with aq := t.aq })) ∧
  (member → still (0, q, m.data.length / 32) → s.collOpen m = true → m.tag % 2 = 0 → ∀ u, s.takeUp g d m.elem (m.data.length / 32) m.data = (u, true) →
    Does (.coll p { m with kind := .coll }) s (fun t => heard (0, q, m.data.length / 32) t ∧ t.mem = u.mem)) ∧
  (member → ctype d = 0 → Does (.abort p { m with kind := .abort }) s (fun t => Ended s t c .aborted 0 (le m.data 4 4) ∧
    (t.group g).run = none ∧ (t.group g).last = 15)) ∧
  (g < 1024 → x.run = some r → r.ready = true → s.cmd r.cmd = some c → ctype d = 0 → bit (cDone d) 31 = false →
    Does (.collectiveComplete g) s (fun t => Ended s t c .ok r.flags r.seq ∧ (t.group g).run = none ∧ (t.group g).last = 0)) ∧
  (g < 1024 → x.run = some r → r.ready = false → s.collDeadline g r ≤ s.now → s.cmd r.cmd = some c →
    (stepsOf (ctype d) n)[r.step]? = some step → Does (.collectiveTimeout g) s (fun t => (t.group g).run = none ∧ t.cmd r.cmd = none))

/-- A good image is launched, its release starts every S-core, its end takes the task away, and a partition reset
clears the pins (R71, R73, R281, R282, R288). -/
def Obligations.TasksAndPartitions : Prop :=
  ∀ (s : State) (id i : Nat) (c : HostCmd) (k : Task),
  (Runs s id 5 c →
    let d := c.desc
    let a := le d 16 8
    firstBad [launchOperands s c.fn d, firstFail [(a % 64 == 0, .align), (s.imagePlace a 128, .range)], s.stackStatus a 128] = .ok →
    ∀ s1 s2 h b, s.uRead loader a 128 = (s1, none, h) → le h 16 8 ≤ 2 ^ 32 → le h 16 8 ≠ 0 → s1.imagePlace a (le h 16 8) = true → headerOk h = true →
    s1.stackStatus a (le h 16 8) = .ok → s1.uRead loader a (le h 16 8) = (s2, none, b) →
    let tiles := maskTiles (le d 24 4)
    let j : Job := ⟨b, tiles, ((tiles.head?).bind s2.tilePart).getD 0, dClass d % 16, c.fn⟩
    crc32c (putAt b 24 (zeros 4)) = le b 24 4 → launchTiles s2 c.fn j.n tiles (le b 28 4) = .ok → launchImage s2 j = .ok →
    Does (.launch id) s (fun t => t.mem = (launchRun s2 c j).mem ∧ t.tasks = (launchRun s2 c j).tasks ∧ t.cores = (launchRun s2 c j).cores ∧
      t.host = (launchRun s2 c j).host)) ∧
  (s.tasks.find? (fun x => x.id == id && !x.released) = some k → s.mesh.scheds = [] → s.writesOpen loader = false →
    s.coh.refused = [] → s.cmd k.hostId = some c →
    Does (.launchRelease id) s (fun t => Ended s t c .ok 0 s.dist.gen ∧
      (∀ n p, n ∈ k.tiles → p < 4 → s.corePresent (agentOf n p) = true → (t.core (agentOf n p)).run = true) ∧
      (∀ x ∈ t.tasks, x.id = k.id → x = { k with released := true }) ∧ t = { s with host := t.host, tasks := t.tasks, cores := t.cores })) ∧
  (s.tasks.find? (fun x => x.id == id && x.released) = some k →
    (∀ n ∈ k.tiles, ∀ p, p < 4 → s.corePresent (agentOf n p) = false ∨ (s.core (agentOf n p)).exit ≠ none) →
    (s.endTasks (fun x => x.id == id)).2 = true → Does (.taskEnd id) s (fun t => ∀ x ∈ t.tasks, x.id ≠ id)) ∧
  (Runs s id 6 c → zeroAt c.desc 20 44 = true →
    let ts := maskTiles (le c.desc 16 4)
    let on (x : Task) : Bool := x.tiles.any ts.contains
    let mask := ((s.tasks.filter on).map (·.mask)).foldl (· ||| ·) 0
    (∀ n ∈ ts, s.fnTile c.fn n = true ∧ (s.tile n).site ≠ none) → s.svc.repairs = [] → ∀ u, s.endTasks on = (u, true) →
    Does (.halt id) s (fun t => t.host = (u.complete c .ok 0 mask).host ∧ t.tasks = u.tasks ∧ t.mem = u.mem ∧ t.cores = u.cores)) ∧
  (Runs s id 13 c → i < 8 → le c.desc 16 1 = i → zeroAt c.desc 17 47 = true → s.partValid i = true → c.fn = 0 → s.svc.repairs = [] →
    (s.beginReset i).2 = true → Does (.partitionReset id) s (fun t => t.part i = {} ∧ (∀ n, n < 16 → t.reg 8 (pinReg i n) = 0) ∧ t.cmd id = none))
end

