-- ==== Sys2Proof/Laws/Table.lean ====
section
/-!
SUPPORT. Sparse tables: what a read after a write gives, and that every operation on memory keeps its canonical form.
-/

namespace Sys2Proof.Machine

theorem tget_tclear_ne {α : Type} (d : Nat → α) (t : Tab α) {j k : Nat} (h : j ≠ k) :
    tget d (tclear k t) j = tget d t j := by
  induction t with
  | nil => rfl
  | cons e t ih =>
    obtain ⟨i, w⟩ := e
    by_cases hi : i = k
    · have : j ≠ i := fun e => h (e.trans hi)
      simp [tclear, hi, tget, h] at ih ⊢
      exact ih
    · simp only [tclear, List.filter_cons, bne_iff_ne, ne_eq, hi, not_false_eq_true, if_true, tget] at ih ⊢
      rw [ih]

theorem tget_tclear_self {α : Type} (d : Nat → α) (t : Tab α) (k : Nat) : tget d (tclear k t) k = d k := by
  induction t with
  | nil => rfl
  | cons e t ih =>
    obtain ⟨i, w⟩ := e
    by_cases hi : i = k
    · simpa [tclear, hi] using ih
    · have : ¬ k = i := fun e => hi e.symm
      simp only [tclear, List.filter_cons, bne_iff_ne, ne_eq, hi, not_false_eq_true, if_true, tget, this, if_false] at ih ⊢
      exact ih

/-- A key reads as what was written to it last. -/
@[simp] theorem tget_tset_self {α : Type} [DecidableEq α] (d : Nat → α) (t : Tab α) (k : Nat) (v : α) :
    tget d (tset d t k v) k = v := by
  induction t with
  | nil => by_cases h : v = d k <;> simp [tset, tget, h]
  | cons e t ih =>
    obtain ⟨i, w⟩ := e
    by_cases h1 : k < i
    · by_cases h2 : v = d k
      · simp only [tset, h1, if_true, h2]; exact tget_tclear_self d _ k
      · simp [tset, h1, h2, tget]
    · by_cases h3 : k = i
      · by_cases h2 : v = d k
        · subst h3
          simp only [tset, h1, if_false, h2, if_true]
          exact tget_tclear_self d _ k
        · subst h3
          simp [tset, h2, tget]
      · simp [tset, h1, h3, tget, ih]

/-- Every other key reads as before. -/
theorem tget_tset_ne {α : Type} [DecidableEq α] (d : Nat → α) (t : Tab α) {j k : Nat} (v : α) (h : j ≠ k) :
    tget d (tset d t k v) j = tget d t j := by
  induction t with
  | nil => by_cases hv : v = d k <;> simp [tset, tget, hv, h]
  | cons e t ih =>
    obtain ⟨i, w⟩ := e
    by_cases h1 : k < i
    · by_cases h2 : v = d k
      · simp only [tset, h1, if_true, h2]; exact tget_tclear_ne d _ h
      · simp [tset, h1, h2, tget, h]
    · by_cases h3 : k = i
      · by_cases h2 : v = d k
        · subst h3
          simp only [tset, h1, if_false, if_true, h2, tget, h]
          exact tget_tclear_ne d _ h
        · subst h3
          simp [tset, h2, tget, h]
      · simp only [tset, h1, if_false, h3, tget, ih]

/-- Filling a table from a list of keys: a listed key other than 0 reads its value, another what it read before. -/
theorem tget_fill {α : Type} [DecidableEq α] (d f : Nat → α) (l : List Nat) (t : Tab α) (k : Nat) :
    tget d (l.foldl (fun m j => if j = 0 then m else tset d m j (f j)) t) k = if k ∈ l ∧ k ≠ 0 then f k else tget d t k := by
  induction l generalizing t with
  | nil => simp
  | cons j l ih =>
    simp only [List.foldl_cons, ih, List.mem_cons]
    by_cases h : k ∈ l ∧ k ≠ 0
    · simp [h]
    · by_cases hk : k = j
      · subst hk; by_cases h0 : k = 0 <;> simp_all
      · have hn : ¬((k = j ∨ k ∈ l) ∧ k ≠ 0) := by tauto
        rw [if_neg h, if_neg hn]
        split
        · rfl
        · exact tget_tset_ne d t _ hk

theorem twfFrom_le {α : Type} [DecidableEq α] (d : Nat → α) (t : Tab α) {lo lo' : Nat} (h : lo' ≤ lo)
    (w : twfFrom d lo t = true) : twfFrom d lo' t = true := by
  cases t with
  | nil => rfl
  | cons e t =>
    obtain ⟨i, v⟩ := e
    simp only [twfFrom, Bool.and_eq_true, decide_eq_true_eq] at w ⊢
    exact ⟨⟨Nat.le_trans h w.1.1, w.1.2⟩, w.2⟩

theorem twfFrom_filter {α : Type} [DecidableEq α] (d : Nat → α) (p : Nat × α → Bool) (t : Tab α) (lo : Nat)
    (w : twfFrom d lo t = true) : twfFrom d lo (t.filter p) = true := by
  induction t generalizing lo with
  | nil => rfl
  | cons e t ih =>
    obtain ⟨i, v⟩ := e
    simp only [twfFrom, Bool.and_eq_true, decide_eq_true_eq] at w
    by_cases hp : p (i, v) = true
    · simp only [List.filter_cons, hp, if_true, twfFrom, Bool.and_eq_true, decide_eq_true_eq]
      exact ⟨w.1, ih _ w.2⟩
    · simp only [List.filter_cons, hp]
      exact twfFrom_le d _ (Nat.le_succ_of_le w.1.1) (ih _ w.2)

theorem twfFrom_tset {α : Type} [DecidableEq α] (d : Nat → α) (t : Tab α) (lo k : Nat) (v : α) (hk : lo ≤ k)
    (w : twfFrom d lo t = true) : twfFrom d lo (tset d t k v) = true := by
  induction t generalizing lo with
  | nil => by_cases h : v = d k <;> simp [tset, twfFrom, h, hk]
  | cons e t ih =>
    obtain ⟨i, u⟩ := e
    have w0 := w
    simp only [twfFrom, Bool.and_eq_true, decide_eq_true_eq] at w
    by_cases h1 : k < i
    · by_cases h2 : v = d k
      · simp only [tset, h1, if_true, h2]; exact twfFrom_filter d _ _ _ w0
      · simp only [tset, h1, if_true, h2, if_false, twfFrom, Bool.and_eq_true, decide_eq_true_eq]
        exact ⟨⟨hk, h2⟩, ⟨h1, w.1.2⟩, w.2⟩
    · by_cases h3 : k = i
      · by_cases h2 : v = d k
        · subst h3
          simp only [tset, h1, if_false, if_true, h2]
          exact twfFrom_le d _ (Nat.le_succ_of_le w.1.1) (twfFrom_filter d _ _ _ w.2)
        · subst h3
          simp only [tset, h1, if_false, if_true, h2, twfFrom, Bool.and_eq_true, decide_eq_true_eq]
          exact ⟨⟨hk, h2⟩, w.2⟩
      · simp only [tset, h1, if_false, h3, twfFrom, Bool.and_eq_true, decide_eq_true_eq]
        exact ⟨w.1, ih _ (by omega) w.2⟩

/-- Writing an entry keeps the canonical form. -/
theorem twf_tset {α : Type} [DecidableEq α] (d : Nat → α) (t : Tab α) (k : Nat) (v : α) (w : twf d t = true) :
    twf d (tset d t k v) = true := twfFrom_tset d t 0 k v (Nat.zero_le k) w

/-- Dropping entries keeps the canonical form. -/
theorem twf_tdrop {α : Type} [DecidableEq α] (d : Nat → α) (p : Nat → Bool) (t : Tab α) (w : twf d t = true) :
    twf d (tdrop p t) = true := twfFrom_filter d _ t 0 w

/-- Writing a run of bytes keeps the canonical form. -/
theorem twf_putBytes (bs : Bytes) (m : Tab Byte) (a : Nat) (w : twf memDefault m = true) :
    twf memDefault (putBytes m a bs) = true := by
  induction bs generalizing m a with
  | nil => exact w
  | cons b t ih => exact ih _ _ (twf_tset memDefault m a b w)

/-- Memory after reset has the canonical form. -/
theorem reset_memWf : State.reset.memWf = true := rfl

/-- Writing one byte keeps memory's form. -/
theorem memWf_setByte (s : State) (a : Nat) (b : Byte) (w : s.memWf = true) : (s.setByte a b).memWf = true :=
  twf_tset memDefault s.mem a b w

/-- Zeroing a range keeps memory's form. -/
theorem memWf_zeroMem (s : State) (lo hi : Nat) (w : s.memWf = true) : (s.zeroMem lo hi).memWf = true := by
  unfold State.memWf State.zeroMem
  exact twf_tdrop (α := Byte) memDefault (fun a => decide (lo ≤ a) && decide (a < hi)) s.mem w

/-- A byte reads as what was written to it, and every other byte as before. -/
theorem byte_setByte (s : State) (a j : Nat) (b : Byte) : (s.setByte a b).byte j = if j = a then b else s.byte j := by
  by_cases h : j = a
  · subst h; simp [State.byte, State.setByte]
  · simp [State.byte, State.setByte, tget_tset_ne, h]

end Sys2Proof.Machine
end

