-- ==== Sys2Proof/Laws/Distance.lean ====
section
/-!
SUPPORT. The distance table: an update leaves nothing to bring up to date.
-/

namespace Sys2Proof.Machine

/-- No word of the table is computed from the words it holds. -/
theorem freshWord_words (s : State) (w : Tab Word) (k : Nat) : ({ s with dist.words := w } : State).freshWord k = s.freshWord k := by
  have hm (l : List Nat) : ({ s with dist.words := w } : State).seams l = s.seams l := by
    induction l with
    | nil => rfl
    | cons a t ih =>
      cases t with
      | nil => rfl
      | cons b u => unfold State.seams; rw [ih]; rfl
  have ht (n j : Nat) : ({ s with dist.words := w } : State).targetWord n j = s.targetWord n j := by
    unfold State.targetWord State.target
    simp only [hm]
    rfl
  have hb (t j : Nat) : ({ s with dist.words := w } : State).blockWord t j = s.blockWord t j := by
    unfold State.blockWord
    simp only [ht]
    rfl
  unfold State.freshWord State.tableWord
  simp only [hb]
  rfl

/-- A table whose words are those of an update differs from the machine in no word, so it is not brought up to date again. -/
theorem stale_filled (s : State) (t : State) (ht : t = { s with dist.words := (List.range dtWords).foldl (fun m k =>
    if k = 0 then m else tset (fun _ => (0 : Word)) m k (s.freshWord k)) s.dist.words }) : t.stale = false := by
  have h (k : Nat) (h0 : 0 < k) (hk : k < dtWords) : t.staleWord k = false := by
    subst ht
    unfold State.staleWord
    rw [freshWord_words, show (∀ (w : Tab Word), ({ s with dist.words := w } : State).dist.words = w) from fun _ => rfl, tget_fill]
    simp [List.mem_range.2 hk, Nat.ne_of_gt h0]
  unfold State.stale
  have h1 : (List.range 8).any (fun k => k != 0 && t.staleWord k) = false := by
    rw [List.any_eq_false]
    intro k hk
    rw [List.mem_range] at hk
    by_cases h0 : k = 0
    · simp [h0]
    · simp [h k (Nat.pos_of_ne_zero h0) (by unfold dtWords; omega)]
  have h2 : t.staleTiles = 0 := by
    unfold State.staleTiles
    rw [List.filter_eq_nil_iff.2]
    · rfl
    · intro t ht
      rw [List.mem_range] at ht
      simp only [List.any_eq_true, not_exists, not_and, Bool.not_eq_true]
      intro j hj
      rw [List.mem_range] at hj
      exact h _ (by omega) (by unfold dtWords; omega)
  rw [h1, h2]; rfl

end Sys2Proof.Machine
end

