-- ==== Sys2Proof/Laws/State.lean ====
section
/-!
SUPPORT. What each update of the state does to each field of it, and what reading an entry gives after it is set.
-/

namespace Sys2Proof.Machine

/-! ### setCore -/

@[simp] theorem setCore_pending (s : State) (a : Nat) (x : Core) : (s.setCore a x).pending = s.pending := rfl
@[simp] theorem setCore_now (s : State) (a : Nat) (x : Core) : (s.setCore a x).now = s.now := rfl
@[simp] theorem setCore_free (s : State) (a : Nat) (x : Core) : (s.setCore a x).free = s.free := rfl
@[simp] theorem setCore_fuse (s : State) (a : Nat) (x : Core) : (s.setCore a x).fuse = s.fuse := rfl
@[simp] theorem setCore_flash (s : State) (a : Nat) (x : Core) : (s.setCore a x).flash = s.flash := rfl
@[simp] theorem setCore_boot (s : State) (a : Nat) (x : Core) : (s.setCore a x).boot = s.boot := rfl
@[simp] theorem setCore_power (s : State) (a : Nat) (x : Core) : (s.setCore a x).power = s.power := rfl
@[simp] theorem setCore_islands (s : State) (a : Nat) (x : Core) : (s.setCore a x).islands = s.islands := rfl
@[simp] theorem setCore_sites (s : State) (a : Nat) (x : Core) : (s.setCore a x).sites = s.sites := rfl
@[simp] theorem setCore_tiles (s : State) (a : Nat) (x : Core) : (s.setCore a x).tiles = s.tiles := rfl
@[simp] theorem setCore_dist (s : State) (a : Nat) (x : Core) : (s.setCore a x).dist = s.dist := rfl
@[simp] theorem setCore_mem (s : State) (a : Nat) (x : Core) : (s.setCore a x).mem = s.mem := rfl
@[simp] theorem setCore_grans (s : State) (a : Nat) (x : Core) : (s.setCore a x).grans = s.grans := rfl
@[simp] theorem setCore_tcmErrs (s : State) (a : Nat) (x : Core) : (s.setCore a x).tcmErrs = s.tcmErrs := rfl
@[simp] theorem setCore_cistern (s : State) (a : Nat) (x : Core) : (s.setCore a x).cistern = s.cistern := rfl
@[simp] theorem setCore_chans (s : State) (a : Nat) (x : Core) : (s.setCore a x).chans = s.chans := rfl
@[simp] theorem setCore_hbms (s : State) (a : Nat) (x : Core) : (s.setCore a x).hbms = s.hbms := rfl
@[simp] theorem setCore_seals (s : State) (a : Nat) (x : Core) : (s.setCore a x).seals = s.seals := rfl
@[simp] theorem setCore_mcores (s : State) (a : Nat) (x : Core) : (s.setCore a x).mcores = s.mcores := rfl
@[simp] theorem setCore_host (s : State) (a : Nat) (x : Core) : (s.setCore a x).host = s.host := rfl
@[simp] theorem setCore_out (s : State) (a : Nat) (x : Core) : (s.setCore a x).out = s.out := rfl
@[simp] theorem setCore_tasks (s : State) (a : Nat) (x : Core) : (s.setCore a x).tasks = s.tasks := rfl
@[simp] theorem setCore_nextTask (s : State) (a : Nat) (x : Core) : (s.setCore a x).nextTask = s.nextTask := rfl
@[simp] theorem setCore_parts (s : State) (a : Nat) (x : Core) : (s.setCore a x).parts = s.parts := rfl
@[simp] theorem setCore_svc (s : State) (a : Nat) (x : Core) : (s.setCore a x).svc = s.svc := rfl
@[simp] theorem setCore_mgmt (s : State) (a : Nat) (x : Core) : (s.setCore a x).mgmt = s.mgmt := rfl
@[simp] theorem setCore_sync (s : State) (a : Nat) (x : Core) : (s.setCore a x).sync = s.sync := rfl
@[simp] theorem setCore_vane (s : State) (a : Nat) (x : Core) : (s.setCore a x).vane = s.vane := rfl
@[simp] theorem setCore_mesh (s : State) (a : Nat) (x : Core) : (s.setCore a x).mesh = s.mesh := rfl
@[simp] theorem setCore_coh (s : State) (a : Nat) (x : Core) : (s.setCore a x).coh = s.coh := rfl
@[simp] theorem setCore_aq (s : State) (a : Nat) (x : Core) : (s.setCore a x).aq = s.aq := rfl
@[simp] theorem setCore_qos (s : State) (a : Nat) (x : Core) : (s.setCore a x).qos = s.qos := rfl
@[simp] theorem setCore_bonds (s : State) (a : Nat) (x : Core) : (s.setCore a x).bonds = s.bonds := rfl
@[simp] theorem setCore_psites (s : State) (a : Nat) (x : Core) : (s.setCore a x).psites = s.psites := rfl
/-- The entry set reads as set, and every other entry as before. -/
theorem core_setCore (s : State) (a : Nat) (x : Core) (j : Nat) : (s.setCore a x).core j = if j = a then x else s.core j := by
  by_cases h : j = a
  · subst h; simp [State.core, State.setCore]
  · simp [State.core, State.setCore, tget_tset_ne, h]

/-! ### setTile -/

@[simp] theorem setTile_pending (s : State) (a : Nat) (x : Tile) : (s.setTile a x).pending = s.pending := rfl
@[simp] theorem setTile_now (s : State) (a : Nat) (x : Tile) : (s.setTile a x).now = s.now := rfl
@[simp] theorem setTile_free (s : State) (a : Nat) (x : Tile) : (s.setTile a x).free = s.free := rfl
@[simp] theorem setTile_fuse (s : State) (a : Nat) (x : Tile) : (s.setTile a x).fuse = s.fuse := rfl
@[simp] theorem setTile_flash (s : State) (a : Nat) (x : Tile) : (s.setTile a x).flash = s.flash := rfl
@[simp] theorem setTile_boot (s : State) (a : Nat) (x : Tile) : (s.setTile a x).boot = s.boot := rfl
@[simp] theorem setTile_power (s : State) (a : Nat) (x : Tile) : (s.setTile a x).power = s.power := rfl
@[simp] theorem setTile_islands (s : State) (a : Nat) (x : Tile) : (s.setTile a x).islands = s.islands := rfl
@[simp] theorem setTile_sites (s : State) (a : Nat) (x : Tile) : (s.setTile a x).sites = s.sites := rfl
@[simp] theorem setTile_dist (s : State) (a : Nat) (x : Tile) : (s.setTile a x).dist = s.dist := rfl
@[simp] theorem setTile_mem (s : State) (a : Nat) (x : Tile) : (s.setTile a x).mem = s.mem := rfl
@[simp] theorem setTile_grans (s : State) (a : Nat) (x : Tile) : (s.setTile a x).grans = s.grans := rfl
@[simp] theorem setTile_tcmErrs (s : State) (a : Nat) (x : Tile) : (s.setTile a x).tcmErrs = s.tcmErrs := rfl
@[simp] theorem setTile_cistern (s : State) (a : Nat) (x : Tile) : (s.setTile a x).cistern = s.cistern := rfl
@[simp] theorem setTile_chans (s : State) (a : Nat) (x : Tile) : (s.setTile a x).chans = s.chans := rfl
@[simp] theorem setTile_hbms (s : State) (a : Nat) (x : Tile) : (s.setTile a x).hbms = s.hbms := rfl
@[simp] theorem setTile_seals (s : State) (a : Nat) (x : Tile) : (s.setTile a x).seals = s.seals := rfl
@[simp] theorem setTile_cores (s : State) (a : Nat) (x : Tile) : (s.setTile a x).cores = s.cores := rfl
@[simp] theorem setTile_mcores (s : State) (a : Nat) (x : Tile) : (s.setTile a x).mcores = s.mcores := rfl
@[simp] theorem setTile_host (s : State) (a : Nat) (x : Tile) : (s.setTile a x).host = s.host := rfl
@[simp] theorem setTile_out (s : State) (a : Nat) (x : Tile) : (s.setTile a x).out = s.out := rfl
@[simp] theorem setTile_tasks (s : State) (a : Nat) (x : Tile) : (s.setTile a x).tasks = s.tasks := rfl
@[simp] theorem setTile_nextTask (s : State) (a : Nat) (x : Tile) : (s.setTile a x).nextTask = s.nextTask := rfl
@[simp] theorem setTile_parts (s : State) (a : Nat) (x : Tile) : (s.setTile a x).parts = s.parts := rfl
@[simp] theorem setTile_svc (s : State) (a : Nat) (x : Tile) : (s.setTile a x).svc = s.svc := rfl
@[simp] theorem setTile_mgmt (s : State) (a : Nat) (x : Tile) : (s.setTile a x).mgmt = s.mgmt := rfl
@[simp] theorem setTile_sync (s : State) (a : Nat) (x : Tile) : (s.setTile a x).sync = s.sync := rfl
@[simp] theorem setTile_vane (s : State) (a : Nat) (x : Tile) : (s.setTile a x).vane = s.vane := rfl
@[simp] theorem setTile_mesh (s : State) (a : Nat) (x : Tile) : (s.setTile a x).mesh = s.mesh := rfl
@[simp] theorem setTile_coh (s : State) (a : Nat) (x : Tile) : (s.setTile a x).coh = s.coh := rfl
@[simp] theorem setTile_aq (s : State) (a : Nat) (x : Tile) : (s.setTile a x).aq = s.aq := rfl
@[simp] theorem setTile_qos (s : State) (a : Nat) (x : Tile) : (s.setTile a x).qos = s.qos := rfl
@[simp] theorem setTile_bonds (s : State) (a : Nat) (x : Tile) : (s.setTile a x).bonds = s.bonds := rfl
@[simp] theorem setTile_psites (s : State) (a : Nat) (x : Tile) : (s.setTile a x).psites = s.psites := rfl
/-- The entry set reads as set, and every other entry as before. -/
theorem tile_setTile (s : State) (a : Nat) (x : Tile) (j : Nat) : (s.setTile a x).tile j = if j = a then x else s.tile j := by
  by_cases h : j = a
  · subst h; simp [State.tile, State.setTile]
  · simp [State.tile, State.setTile, tget_tset_ne, h]

/-! ### setSite -/

@[simp] theorem setSite_pending (s : State) (a : Nat) (x : Site) : (s.setSite a x).pending = s.pending := rfl
@[simp] theorem setSite_now (s : State) (a : Nat) (x : Site) : (s.setSite a x).now = s.now := rfl
@[simp] theorem setSite_free (s : State) (a : Nat) (x : Site) : (s.setSite a x).free = s.free := rfl
@[simp] theorem setSite_fuse (s : State) (a : Nat) (x : Site) : (s.setSite a x).fuse = s.fuse := rfl
@[simp] theorem setSite_flash (s : State) (a : Nat) (x : Site) : (s.setSite a x).flash = s.flash := rfl
@[simp] theorem setSite_boot (s : State) (a : Nat) (x : Site) : (s.setSite a x).boot = s.boot := rfl
@[simp] theorem setSite_power (s : State) (a : Nat) (x : Site) : (s.setSite a x).power = s.power := rfl
@[simp] theorem setSite_islands (s : State) (a : Nat) (x : Site) : (s.setSite a x).islands = s.islands := rfl
@[simp] theorem setSite_tiles (s : State) (a : Nat) (x : Site) : (s.setSite a x).tiles = s.tiles := rfl
@[simp] theorem setSite_dist (s : State) (a : Nat) (x : Site) : (s.setSite a x).dist = s.dist := rfl
@[simp] theorem setSite_mem (s : State) (a : Nat) (x : Site) : (s.setSite a x).mem = s.mem := rfl
@[simp] theorem setSite_grans (s : State) (a : Nat) (x : Site) : (s.setSite a x).grans = s.grans := rfl
@[simp] theorem setSite_tcmErrs (s : State) (a : Nat) (x : Site) : (s.setSite a x).tcmErrs = s.tcmErrs := rfl
@[simp] theorem setSite_cistern (s : State) (a : Nat) (x : Site) : (s.setSite a x).cistern = s.cistern := rfl
@[simp] theorem setSite_chans (s : State) (a : Nat) (x : Site) : (s.setSite a x).chans = s.chans := rfl
@[simp] theorem setSite_hbms (s : State) (a : Nat) (x : Site) : (s.setSite a x).hbms = s.hbms := rfl
@[simp] theorem setSite_seals (s : State) (a : Nat) (x : Site) : (s.setSite a x).seals = s.seals := rfl
@[simp] theorem setSite_cores (s : State) (a : Nat) (x : Site) : (s.setSite a x).cores = s.cores := rfl
@[simp] theorem setSite_mcores (s : State) (a : Nat) (x : Site) : (s.setSite a x).mcores = s.mcores := rfl
@[simp] theorem setSite_host (s : State) (a : Nat) (x : Site) : (s.setSite a x).host = s.host := rfl
@[simp] theorem setSite_out (s : State) (a : Nat) (x : Site) : (s.setSite a x).out = s.out := rfl
@[simp] theorem setSite_tasks (s : State) (a : Nat) (x : Site) : (s.setSite a x).tasks = s.tasks := rfl
@[simp] theorem setSite_nextTask (s : State) (a : Nat) (x : Site) : (s.setSite a x).nextTask = s.nextTask := rfl
@[simp] theorem setSite_parts (s : State) (a : Nat) (x : Site) : (s.setSite a x).parts = s.parts := rfl
@[simp] theorem setSite_svc (s : State) (a : Nat) (x : Site) : (s.setSite a x).svc = s.svc := rfl
@[simp] theorem setSite_mgmt (s : State) (a : Nat) (x : Site) : (s.setSite a x).mgmt = s.mgmt := rfl
@[simp] theorem setSite_sync (s : State) (a : Nat) (x : Site) : (s.setSite a x).sync = s.sync := rfl
@[simp] theorem setSite_vane (s : State) (a : Nat) (x : Site) : (s.setSite a x).vane = s.vane := rfl
@[simp] theorem setSite_mesh (s : State) (a : Nat) (x : Site) : (s.setSite a x).mesh = s.mesh := rfl
@[simp] theorem setSite_coh (s : State) (a : Nat) (x : Site) : (s.setSite a x).coh = s.coh := rfl
@[simp] theorem setSite_aq (s : State) (a : Nat) (x : Site) : (s.setSite a x).aq = s.aq := rfl
@[simp] theorem setSite_qos (s : State) (a : Nat) (x : Site) : (s.setSite a x).qos = s.qos := rfl
@[simp] theorem setSite_bonds (s : State) (a : Nat) (x : Site) : (s.setSite a x).bonds = s.bonds := rfl
@[simp] theorem setSite_psites (s : State) (a : Nat) (x : Site) : (s.setSite a x).psites = s.psites := rfl
/-- The entry set reads as set, and every other entry as before. -/
theorem site_setSite (s : State) (a : Nat) (x : Site) (j : Nat) : (s.setSite a x).site j = if j = a then x else s.site j := by
  by_cases h : j = a
  · subst h; simp [State.site, State.setSite]
  · simp [State.site, State.setSite, tget_tset_ne, h]

/-! ### setIsland -/

@[simp] theorem setIsland_pending (s : State) (a : Nat) (x : Island) : (s.setIsland a x).pending = s.pending := rfl
@[simp] theorem setIsland_now (s : State) (a : Nat) (x : Island) : (s.setIsland a x).now = s.now := rfl
@[simp] theorem setIsland_free (s : State) (a : Nat) (x : Island) : (s.setIsland a x).free = s.free := rfl
@[simp] theorem setIsland_fuse (s : State) (a : Nat) (x : Island) : (s.setIsland a x).fuse = s.fuse := rfl
@[simp] theorem setIsland_flash (s : State) (a : Nat) (x : Island) : (s.setIsland a x).flash = s.flash := rfl
@[simp] theorem setIsland_boot (s : State) (a : Nat) (x : Island) : (s.setIsland a x).boot = s.boot := rfl
@[simp] theorem setIsland_power (s : State) (a : Nat) (x : Island) : (s.setIsland a x).power = s.power := rfl
@[simp] theorem setIsland_sites (s : State) (a : Nat) (x : Island) : (s.setIsland a x).sites = s.sites := rfl
@[simp] theorem setIsland_tiles (s : State) (a : Nat) (x : Island) : (s.setIsland a x).tiles = s.tiles := rfl
@[simp] theorem setIsland_dist (s : State) (a : Nat) (x : Island) : (s.setIsland a x).dist = s.dist := rfl
@[simp] theorem setIsland_mem (s : State) (a : Nat) (x : Island) : (s.setIsland a x).mem = s.mem := rfl
@[simp] theorem setIsland_grans (s : State) (a : Nat) (x : Island) : (s.setIsland a x).grans = s.grans := rfl
@[simp] theorem setIsland_tcmErrs (s : State) (a : Nat) (x : Island) : (s.setIsland a x).tcmErrs = s.tcmErrs := rfl
@[simp] theorem setIsland_cistern (s : State) (a : Nat) (x : Island) : (s.setIsland a x).cistern = s.cistern := rfl
@[simp] theorem setIsland_chans (s : State) (a : Nat) (x : Island) : (s.setIsland a x).chans = s.chans := rfl
@[simp] theorem setIsland_hbms (s : State) (a : Nat) (x : Island) : (s.setIsland a x).hbms = s.hbms := rfl
@[simp] theorem setIsland_seals (s : State) (a : Nat) (x : Island) : (s.setIsland a x).seals = s.seals := rfl
@[simp] theorem setIsland_cores (s : State) (a : Nat) (x : Island) : (s.setIsland a x).cores = s.cores := rfl
@[simp] theorem setIsland_mcores (s : State) (a : Nat) (x : Island) : (s.setIsland a x).mcores = s.mcores := rfl
@[simp] theorem setIsland_host (s : State) (a : Nat) (x : Island) : (s.setIsland a x).host = s.host := rfl
@[simp] theorem setIsland_out (s : State) (a : Nat) (x : Island) : (s.setIsland a x).out = s.out := rfl
@[simp] theorem setIsland_tasks (s : State) (a : Nat) (x : Island) : (s.setIsland a x).tasks = s.tasks := rfl
@[simp] theorem setIsland_nextTask (s : State) (a : Nat) (x : Island) : (s.setIsland a x).nextTask = s.nextTask := rfl
@[simp] theorem setIsland_parts (s : State) (a : Nat) (x : Island) : (s.setIsland a x).parts = s.parts := rfl
@[simp] theorem setIsland_svc (s : State) (a : Nat) (x : Island) : (s.setIsland a x).svc = s.svc := rfl
@[simp] theorem setIsland_mgmt (s : State) (a : Nat) (x : Island) : (s.setIsland a x).mgmt = s.mgmt := rfl
@[simp] theorem setIsland_sync (s : State) (a : Nat) (x : Island) : (s.setIsland a x).sync = s.sync := rfl
@[simp] theorem setIsland_vane (s : State) (a : Nat) (x : Island) : (s.setIsland a x).vane = s.vane := rfl
@[simp] theorem setIsland_mesh (s : State) (a : Nat) (x : Island) : (s.setIsland a x).mesh = s.mesh := rfl
@[simp] theorem setIsland_coh (s : State) (a : Nat) (x : Island) : (s.setIsland a x).coh = s.coh := rfl
@[simp] theorem setIsland_aq (s : State) (a : Nat) (x : Island) : (s.setIsland a x).aq = s.aq := rfl
@[simp] theorem setIsland_qos (s : State) (a : Nat) (x : Island) : (s.setIsland a x).qos = s.qos := rfl
@[simp] theorem setIsland_bonds (s : State) (a : Nat) (x : Island) : (s.setIsland a x).bonds = s.bonds := rfl
@[simp] theorem setIsland_psites (s : State) (a : Nat) (x : Island) : (s.setIsland a x).psites = s.psites := rfl
/-- The entry set reads as set, and every other entry as before. -/
theorem island_setIsland (s : State) (a : Nat) (x : Island) (j : Nat) : (s.setIsland a x).island j = if j = a then x else s.island j := by
  by_cases h : j = a
  · subst h; simp [State.island, State.setIsland]
  · simp [State.island, State.setIsland, tget_tset_ne, h]

/-! ### setStack -/

@[simp] theorem setStack_pending (s : State) (a : Nat) (x : Stack) : (s.setStack a x).pending = s.pending := rfl
@[simp] theorem setStack_now (s : State) (a : Nat) (x : Stack) : (s.setStack a x).now = s.now := rfl
@[simp] theorem setStack_free (s : State) (a : Nat) (x : Stack) : (s.setStack a x).free = s.free := rfl
@[simp] theorem setStack_fuse (s : State) (a : Nat) (x : Stack) : (s.setStack a x).fuse = s.fuse := rfl
@[simp] theorem setStack_flash (s : State) (a : Nat) (x : Stack) : (s.setStack a x).flash = s.flash := rfl
@[simp] theorem setStack_boot (s : State) (a : Nat) (x : Stack) : (s.setStack a x).boot = s.boot := rfl
@[simp] theorem setStack_power (s : State) (a : Nat) (x : Stack) : (s.setStack a x).power = s.power := rfl
@[simp] theorem setStack_islands (s : State) (a : Nat) (x : Stack) : (s.setStack a x).islands = s.islands := rfl
@[simp] theorem setStack_sites (s : State) (a : Nat) (x : Stack) : (s.setStack a x).sites = s.sites := rfl
@[simp] theorem setStack_tiles (s : State) (a : Nat) (x : Stack) : (s.setStack a x).tiles = s.tiles := rfl
@[simp] theorem setStack_dist (s : State) (a : Nat) (x : Stack) : (s.setStack a x).dist = s.dist := rfl
@[simp] theorem setStack_mem (s : State) (a : Nat) (x : Stack) : (s.setStack a x).mem = s.mem := rfl
@[simp] theorem setStack_grans (s : State) (a : Nat) (x : Stack) : (s.setStack a x).grans = s.grans := rfl
@[simp] theorem setStack_tcmErrs (s : State) (a : Nat) (x : Stack) : (s.setStack a x).tcmErrs = s.tcmErrs := rfl
@[simp] theorem setStack_cistern (s : State) (a : Nat) (x : Stack) : (s.setStack a x).cistern = s.cistern := rfl
@[simp] theorem setStack_chans (s : State) (a : Nat) (x : Stack) : (s.setStack a x).chans = s.chans := rfl
@[simp] theorem setStack_seals (s : State) (a : Nat) (x : Stack) : (s.setStack a x).seals = s.seals := rfl
@[simp] theorem setStack_cores (s : State) (a : Nat) (x : Stack) : (s.setStack a x).cores = s.cores := rfl
@[simp] theorem setStack_mcores (s : State) (a : Nat) (x : Stack) : (s.setStack a x).mcores = s.mcores := rfl
@[simp] theorem setStack_host (s : State) (a : Nat) (x : Stack) : (s.setStack a x).host = s.host := rfl
@[simp] theorem setStack_out (s : State) (a : Nat) (x : Stack) : (s.setStack a x).out = s.out := rfl
@[simp] theorem setStack_tasks (s : State) (a : Nat) (x : Stack) : (s.setStack a x).tasks = s.tasks := rfl
@[simp] theorem setStack_nextTask (s : State) (a : Nat) (x : Stack) : (s.setStack a x).nextTask = s.nextTask := rfl
@[simp] theorem setStack_parts (s : State) (a : Nat) (x : Stack) : (s.setStack a x).parts = s.parts := rfl
@[simp] theorem setStack_svc (s : State) (a : Nat) (x : Stack) : (s.setStack a x).svc = s.svc := rfl
@[simp] theorem setStack_mgmt (s : State) (a : Nat) (x : Stack) : (s.setStack a x).mgmt = s.mgmt := rfl
@[simp] theorem setStack_sync (s : State) (a : Nat) (x : Stack) : (s.setStack a x).sync = s.sync := rfl
@[simp] theorem setStack_vane (s : State) (a : Nat) (x : Stack) : (s.setStack a x).vane = s.vane := rfl
@[simp] theorem setStack_mesh (s : State) (a : Nat) (x : Stack) : (s.setStack a x).mesh = s.mesh := rfl
@[simp] theorem setStack_coh (s : State) (a : Nat) (x : Stack) : (s.setStack a x).coh = s.coh := rfl
@[simp] theorem setStack_aq (s : State) (a : Nat) (x : Stack) : (s.setStack a x).aq = s.aq := rfl
@[simp] theorem setStack_qos (s : State) (a : Nat) (x : Stack) : (s.setStack a x).qos = s.qos := rfl
@[simp] theorem setStack_bonds (s : State) (a : Nat) (x : Stack) : (s.setStack a x).bonds = s.bonds := rfl
@[simp] theorem setStack_psites (s : State) (a : Nat) (x : Stack) : (s.setStack a x).psites = s.psites := rfl
/-- The entry set reads as set, and every other entry as before. -/
theorem stack_setStack (s : State) (a : Nat) (x : Stack) (j : Nat) : (s.setStack a x).stack j = if j = a then x else s.stack j := by
  by_cases h : j = a
  · subst h; simp [State.stack, State.setStack]
  · simp [State.stack, State.setStack, tget_tset_ne, h]

/-! ### setChan -/

@[simp] theorem setChan_pending (s : State) (a : Nat) (x : Chan) : (s.setChan a x).pending = s.pending := rfl
@[simp] theorem setChan_now (s : State) (a : Nat) (x : Chan) : (s.setChan a x).now = s.now := rfl
@[simp] theorem setChan_free (s : State) (a : Nat) (x : Chan) : (s.setChan a x).free = s.free := rfl
@[simp] theorem setChan_fuse (s : State) (a : Nat) (x : Chan) : (s.setChan a x).fuse = s.fuse := rfl
@[simp] theorem setChan_flash (s : State) (a : Nat) (x : Chan) : (s.setChan a x).flash = s.flash := rfl
@[simp] theorem setChan_boot (s : State) (a : Nat) (x : Chan) : (s.setChan a x).boot = s.boot := rfl
@[simp] theorem setChan_power (s : State) (a : Nat) (x : Chan) : (s.setChan a x).power = s.power := rfl
@[simp] theorem setChan_islands (s : State) (a : Nat) (x : Chan) : (s.setChan a x).islands = s.islands := rfl
@[simp] theorem setChan_sites (s : State) (a : Nat) (x : Chan) : (s.setChan a x).sites = s.sites := rfl
@[simp] theorem setChan_tiles (s : State) (a : Nat) (x : Chan) : (s.setChan a x).tiles = s.tiles := rfl
@[simp] theorem setChan_dist (s : State) (a : Nat) (x : Chan) : (s.setChan a x).dist = s.dist := rfl
@[simp] theorem setChan_mem (s : State) (a : Nat) (x : Chan) : (s.setChan a x).mem = s.mem := rfl
@[simp] theorem setChan_grans (s : State) (a : Nat) (x : Chan) : (s.setChan a x).grans = s.grans := rfl
@[simp] theorem setChan_tcmErrs (s : State) (a : Nat) (x : Chan) : (s.setChan a x).tcmErrs = s.tcmErrs := rfl
@[simp] theorem setChan_cistern (s : State) (a : Nat) (x : Chan) : (s.setChan a x).cistern = s.cistern := rfl
@[simp] theorem setChan_hbms (s : State) (a : Nat) (x : Chan) : (s.setChan a x).hbms = s.hbms := rfl
@[simp] theorem setChan_seals (s : State) (a : Nat) (x : Chan) : (s.setChan a x).seals = s.seals := rfl
@[simp] theorem setChan_cores (s : State) (a : Nat) (x : Chan) : (s.setChan a x).cores = s.cores := rfl
@[simp] theorem setChan_mcores (s : State) (a : Nat) (x : Chan) : (s.setChan a x).mcores = s.mcores := rfl
@[simp] theorem setChan_host (s : State) (a : Nat) (x : Chan) : (s.setChan a x).host = s.host := rfl
@[simp] theorem setChan_out (s : State) (a : Nat) (x : Chan) : (s.setChan a x).out = s.out := rfl
@[simp] theorem setChan_tasks (s : State) (a : Nat) (x : Chan) : (s.setChan a x).tasks = s.tasks := rfl
@[simp] theorem setChan_nextTask (s : State) (a : Nat) (x : Chan) : (s.setChan a x).nextTask = s.nextTask := rfl
@[simp] theorem setChan_parts (s : State) (a : Nat) (x : Chan) : (s.setChan a x).parts = s.parts := rfl
@[simp] theorem setChan_svc (s : State) (a : Nat) (x : Chan) : (s.setChan a x).svc = s.svc := rfl
@[simp] theorem setChan_mgmt (s : State) (a : Nat) (x : Chan) : (s.setChan a x).mgmt = s.mgmt := rfl
@[simp] theorem setChan_sync (s : State) (a : Nat) (x : Chan) : (s.setChan a x).sync = s.sync := rfl
@[simp] theorem setChan_vane (s : State) (a : Nat) (x : Chan) : (s.setChan a x).vane = s.vane := rfl
@[simp] theorem setChan_mesh (s : State) (a : Nat) (x : Chan) : (s.setChan a x).mesh = s.mesh := rfl
@[simp] theorem setChan_coh (s : State) (a : Nat) (x : Chan) : (s.setChan a x).coh = s.coh := rfl
@[simp] theorem setChan_aq (s : State) (a : Nat) (x : Chan) : (s.setChan a x).aq = s.aq := rfl
@[simp] theorem setChan_qos (s : State) (a : Nat) (x : Chan) : (s.setChan a x).qos = s.qos := rfl
@[simp] theorem setChan_bonds (s : State) (a : Nat) (x : Chan) : (s.setChan a x).bonds = s.bonds := rfl
@[simp] theorem setChan_psites (s : State) (a : Nat) (x : Chan) : (s.setChan a x).psites = s.psites := rfl
/-- The entry set reads as set, and every other entry as before. -/
theorem chan_setChan (s : State) (a : Nat) (x : Chan) (j : Nat) : (s.setChan a x).chan j = if j = a then x else s.chan j := by
  by_cases h : j = a
  · subst h; simp [State.chan, State.setChan]
  · simp [State.chan, State.setChan, tget_tset_ne, h]

/-! ### setRing -/

@[simp] theorem setRing_pending (s : State) (a : Nat) (x : Ring) : (s.setRing a x).pending = s.pending := rfl
@[simp] theorem setRing_now (s : State) (a : Nat) (x : Ring) : (s.setRing a x).now = s.now := rfl
@[simp] theorem setRing_free (s : State) (a : Nat) (x : Ring) : (s.setRing a x).free = s.free := rfl
@[simp] theorem setRing_fuse (s : State) (a : Nat) (x : Ring) : (s.setRing a x).fuse = s.fuse := rfl
@[simp] theorem setRing_flash (s : State) (a : Nat) (x : Ring) : (s.setRing a x).flash = s.flash := rfl
@[simp] theorem setRing_boot (s : State) (a : Nat) (x : Ring) : (s.setRing a x).boot = s.boot := rfl
@[simp] theorem setRing_power (s : State) (a : Nat) (x : Ring) : (s.setRing a x).power = s.power := rfl
@[simp] theorem setRing_islands (s : State) (a : Nat) (x : Ring) : (s.setRing a x).islands = s.islands := rfl
@[simp] theorem setRing_sites (s : State) (a : Nat) (x : Ring) : (s.setRing a x).sites = s.sites := rfl
@[simp] theorem setRing_tiles (s : State) (a : Nat) (x : Ring) : (s.setRing a x).tiles = s.tiles := rfl
@[simp] theorem setRing_dist (s : State) (a : Nat) (x : Ring) : (s.setRing a x).dist = s.dist := rfl
@[simp] theorem setRing_mem (s : State) (a : Nat) (x : Ring) : (s.setRing a x).mem = s.mem := rfl
@[simp] theorem setRing_grans (s : State) (a : Nat) (x : Ring) : (s.setRing a x).grans = s.grans := rfl
@[simp] theorem setRing_tcmErrs (s : State) (a : Nat) (x : Ring) : (s.setRing a x).tcmErrs = s.tcmErrs := rfl
@[simp] theorem setRing_cistern (s : State) (a : Nat) (x : Ring) : (s.setRing a x).cistern = s.cistern := rfl
@[simp] theorem setRing_chans (s : State) (a : Nat) (x : Ring) : (s.setRing a x).chans = s.chans := rfl
@[simp] theorem setRing_hbms (s : State) (a : Nat) (x : Ring) : (s.setRing a x).hbms = s.hbms := rfl
@[simp] theorem setRing_seals (s : State) (a : Nat) (x : Ring) : (s.setRing a x).seals = s.seals := rfl
@[simp] theorem setRing_cores (s : State) (a : Nat) (x : Ring) : (s.setRing a x).cores = s.cores := rfl
@[simp] theorem setRing_mcores (s : State) (a : Nat) (x : Ring) : (s.setRing a x).mcores = s.mcores := rfl
@[simp] theorem setRing_out (s : State) (a : Nat) (x : Ring) : (s.setRing a x).out = s.out := rfl
@[simp] theorem setRing_tasks (s : State) (a : Nat) (x : Ring) : (s.setRing a x).tasks = s.tasks := rfl
@[simp] theorem setRing_nextTask (s : State) (a : Nat) (x : Ring) : (s.setRing a x).nextTask = s.nextTask := rfl
@[simp] theorem setRing_parts (s : State) (a : Nat) (x : Ring) : (s.setRing a x).parts = s.parts := rfl
@[simp] theorem setRing_svc (s : State) (a : Nat) (x : Ring) : (s.setRing a x).svc = s.svc := rfl
@[simp] theorem setRing_mgmt (s : State) (a : Nat) (x : Ring) : (s.setRing a x).mgmt = s.mgmt := rfl
@[simp] theorem setRing_sync (s : State) (a : Nat) (x : Ring) : (s.setRing a x).sync = s.sync := rfl
@[simp] theorem setRing_vane (s : State) (a : Nat) (x : Ring) : (s.setRing a x).vane = s.vane := rfl
@[simp] theorem setRing_mesh (s : State) (a : Nat) (x : Ring) : (s.setRing a x).mesh = s.mesh := rfl
@[simp] theorem setRing_coh (s : State) (a : Nat) (x : Ring) : (s.setRing a x).coh = s.coh := rfl
@[simp] theorem setRing_aq (s : State) (a : Nat) (x : Ring) : (s.setRing a x).aq = s.aq := rfl
@[simp] theorem setRing_qos (s : State) (a : Nat) (x : Ring) : (s.setRing a x).qos = s.qos := rfl
@[simp] theorem setRing_bonds (s : State) (a : Nat) (x : Ring) : (s.setRing a x).bonds = s.bonds := rfl
@[simp] theorem setRing_psites (s : State) (a : Nat) (x : Ring) : (s.setRing a x).psites = s.psites := rfl
@[simp] theorem setRing_host_regs (s : State) (a : Nat) (x : Ring) : (s.setRing a x).host.regs = s.host.regs := rfl
@[simp] theorem setRing_host_stag (s : State) (a : Nat) (x : Ring) : (s.setRing a x).host.stag = s.host.stag := rfl
@[simp] theorem setRing_host_units (s : State) (a : Nat) (x : Ring) : (s.setRing a x).host.units = s.host.units := rfl
@[simp] theorem setRing_host_cmds (s : State) (a : Nat) (x : Ring) : (s.setRing a x).host.cmds = s.host.cmds := rfl
@[simp] theorem setRing_host_nextId (s : State) (a : Nat) (x : Ring) : (s.setRing a x).host.nextId = s.host.nextId := rfl
@[simp] theorem setRing_host_evbuf (s : State) (a : Nat) (x : Ring) : (s.setRing a x).host.evbuf = s.host.evbuf := rfl
@[simp] theorem setRing_host_unmasked (s : State) (a : Nat) (x : Ring) : (s.setRing a x).host.unmasked = s.host.unmasked := rfl
@[simp] theorem setRing_host_pba (s : State) (a : Nat) (x : Ring) : (s.setRing a x).host.pba = s.host.pba := rfl
@[simp] theorem setRing_host_arms (s : State) (a : Nat) (x : Ring) : (s.setRing a x).host.arms = s.host.arms := rfl
/-- The entry set reads as set, and every other entry as before. -/
theorem ring_setRing (s : State) (a : Nat) (x : Ring) (j : Nat) : (s.setRing a x).ring j = if j = a then x else s.ring j := by
  by_cases h : j = a
  · subst h; simp [State.ring, State.setRing]
  · simp [State.ring, State.setRing, tget_tset_ne, h]

/-! ### setUnit -/

@[simp] theorem setUnit_pending (s : State) (a : Nat) (x : CommitUnit) : (s.setUnit a x).pending = s.pending := rfl
@[simp] theorem setUnit_now (s : State) (a : Nat) (x : CommitUnit) : (s.setUnit a x).now = s.now := rfl
@[simp] theorem setUnit_free (s : State) (a : Nat) (x : CommitUnit) : (s.setUnit a x).free = s.free := rfl
@[simp] theorem setUnit_fuse (s : State) (a : Nat) (x : CommitUnit) : (s.setUnit a x).fuse = s.fuse := rfl
@[simp] theorem setUnit_flash (s : State) (a : Nat) (x : CommitUnit) : (s.setUnit a x).flash = s.flash := rfl
@[simp] theorem setUnit_boot (s : State) (a : Nat) (x : CommitUnit) : (s.setUnit a x).boot = s.boot := rfl
@[simp] theorem setUnit_power (s : State) (a : Nat) (x : CommitUnit) : (s.setUnit a x).power = s.power := rfl
@[simp] theorem setUnit_islands (s : State) (a : Nat) (x : CommitUnit) : (s.setUnit a x).islands = s.islands := rfl
@[simp] theorem setUnit_sites (s : State) (a : Nat) (x : CommitUnit) : (s.setUnit a x).sites = s.sites := rfl
@[simp] theorem setUnit_tiles (s : State) (a : Nat) (x : CommitUnit) : (s.setUnit a x).tiles = s.tiles := rfl
@[simp] theorem setUnit_dist (s : State) (a : Nat) (x : CommitUnit) : (s.setUnit a x).dist = s.dist := rfl
@[simp] theorem setUnit_mem (s : State) (a : Nat) (x : CommitUnit) : (s.setUnit a x).mem = s.mem := rfl
@[simp] theorem setUnit_grans (s : State) (a : Nat) (x : CommitUnit) : (s.setUnit a x).grans = s.grans := rfl
@[simp] theorem setUnit_tcmErrs (s : State) (a : Nat) (x : CommitUnit) : (s.setUnit a x).tcmErrs = s.tcmErrs := rfl
@[simp] theorem setUnit_cistern (s : State) (a : Nat) (x : CommitUnit) : (s.setUnit a x).cistern = s.cistern := rfl
@[simp] theorem setUnit_chans (s : State) (a : Nat) (x : CommitUnit) : (s.setUnit a x).chans = s.chans := rfl
@[simp] theorem setUnit_hbms (s : State) (a : Nat) (x : CommitUnit) : (s.setUnit a x).hbms = s.hbms := rfl
@[simp] theorem setUnit_seals (s : State) (a : Nat) (x : CommitUnit) : (s.setUnit a x).seals = s.seals := rfl
@[simp] theorem setUnit_cores (s : State) (a : Nat) (x : CommitUnit) : (s.setUnit a x).cores = s.cores := rfl
@[simp] theorem setUnit_mcores (s : State) (a : Nat) (x : CommitUnit) : (s.setUnit a x).mcores = s.mcores := rfl
@[simp] theorem setUnit_out (s : State) (a : Nat) (x : CommitUnit) : (s.setUnit a x).out = s.out := rfl
@[simp] theorem setUnit_tasks (s : State) (a : Nat) (x : CommitUnit) : (s.setUnit a x).tasks = s.tasks := rfl
@[simp] theorem setUnit_nextTask (s : State) (a : Nat) (x : CommitUnit) : (s.setUnit a x).nextTask = s.nextTask := rfl
@[simp] theorem setUnit_parts (s : State) (a : Nat) (x : CommitUnit) : (s.setUnit a x).parts = s.parts := rfl
@[simp] theorem setUnit_svc (s : State) (a : Nat) (x : CommitUnit) : (s.setUnit a x).svc = s.svc := rfl
@[simp] theorem setUnit_mgmt (s : State) (a : Nat) (x : CommitUnit) : (s.setUnit a x).mgmt = s.mgmt := rfl
@[simp] theorem setUnit_sync (s : State) (a : Nat) (x : CommitUnit) : (s.setUnit a x).sync = s.sync := rfl
@[simp] theorem setUnit_vane (s : State) (a : Nat) (x : CommitUnit) : (s.setUnit a x).vane = s.vane := rfl
@[simp] theorem setUnit_mesh (s : State) (a : Nat) (x : CommitUnit) : (s.setUnit a x).mesh = s.mesh := rfl
@[simp] theorem setUnit_coh (s : State) (a : Nat) (x : CommitUnit) : (s.setUnit a x).coh = s.coh := rfl
@[simp] theorem setUnit_aq (s : State) (a : Nat) (x : CommitUnit) : (s.setUnit a x).aq = s.aq := rfl
@[simp] theorem setUnit_qos (s : State) (a : Nat) (x : CommitUnit) : (s.setUnit a x).qos = s.qos := rfl
@[simp] theorem setUnit_bonds (s : State) (a : Nat) (x : CommitUnit) : (s.setUnit a x).bonds = s.bonds := rfl
@[simp] theorem setUnit_psites (s : State) (a : Nat) (x : CommitUnit) : (s.setUnit a x).psites = s.psites := rfl
@[simp] theorem setUnit_host_regs (s : State) (a : Nat) (x : CommitUnit) : (s.setUnit a x).host.regs = s.host.regs := rfl
@[simp] theorem setUnit_host_stag (s : State) (a : Nat) (x : CommitUnit) : (s.setUnit a x).host.stag = s.host.stag := rfl
@[simp] theorem setUnit_host_rings (s : State) (a : Nat) (x : CommitUnit) : (s.setUnit a x).host.rings = s.host.rings := rfl
@[simp] theorem setUnit_host_cmds (s : State) (a : Nat) (x : CommitUnit) : (s.setUnit a x).host.cmds = s.host.cmds := rfl
@[simp] theorem setUnit_host_nextId (s : State) (a : Nat) (x : CommitUnit) : (s.setUnit a x).host.nextId = s.host.nextId := rfl
@[simp] theorem setUnit_host_evbuf (s : State) (a : Nat) (x : CommitUnit) : (s.setUnit a x).host.evbuf = s.host.evbuf := rfl
@[simp] theorem setUnit_host_unmasked (s : State) (a : Nat) (x : CommitUnit) : (s.setUnit a x).host.unmasked = s.host.unmasked := rfl
@[simp] theorem setUnit_host_pba (s : State) (a : Nat) (x : CommitUnit) : (s.setUnit a x).host.pba = s.host.pba := rfl
@[simp] theorem setUnit_host_arms (s : State) (a : Nat) (x : CommitUnit) : (s.setUnit a x).host.arms = s.host.arms := rfl
/-- The entry set reads as set, and every other entry as before. -/
theorem unit_setUnit (s : State) (a : Nat) (x : CommitUnit) (j : Nat) : (s.setUnit a x).unit j = if j = a then x else s.unit j := by
  by_cases h : j = a
  · subst h; simp [State.unit, State.setUnit]
  · simp [State.unit, State.setUnit, tget_tset_ne, h]

/-! ### setEvbuf -/

@[simp] theorem setEvbuf_pending (s : State) (a : Nat) (x : EvBuf) : (s.setEvbuf a x).pending = s.pending := rfl
@[simp] theorem setEvbuf_now (s : State) (a : Nat) (x : EvBuf) : (s.setEvbuf a x).now = s.now := rfl
@[simp] theorem setEvbuf_free (s : State) (a : Nat) (x : EvBuf) : (s.setEvbuf a x).free = s.free := rfl
@[simp] theorem setEvbuf_fuse (s : State) (a : Nat) (x : EvBuf) : (s.setEvbuf a x).fuse = s.fuse := rfl
@[simp] theorem setEvbuf_flash (s : State) (a : Nat) (x : EvBuf) : (s.setEvbuf a x).flash = s.flash := rfl
@[simp] theorem setEvbuf_boot (s : State) (a : Nat) (x : EvBuf) : (s.setEvbuf a x).boot = s.boot := rfl
@[simp] theorem setEvbuf_power (s : State) (a : Nat) (x : EvBuf) : (s.setEvbuf a x).power = s.power := rfl
@[simp] theorem setEvbuf_islands (s : State) (a : Nat) (x : EvBuf) : (s.setEvbuf a x).islands = s.islands := rfl
@[simp] theorem setEvbuf_sites (s : State) (a : Nat) (x : EvBuf) : (s.setEvbuf a x).sites = s.sites := rfl
@[simp] theorem setEvbuf_tiles (s : State) (a : Nat) (x : EvBuf) : (s.setEvbuf a x).tiles = s.tiles := rfl
@[simp] theorem setEvbuf_dist (s : State) (a : Nat) (x : EvBuf) : (s.setEvbuf a x).dist = s.dist := rfl
@[simp] theorem setEvbuf_mem (s : State) (a : Nat) (x : EvBuf) : (s.setEvbuf a x).mem = s.mem := rfl
@[simp] theorem setEvbuf_grans (s : State) (a : Nat) (x : EvBuf) : (s.setEvbuf a x).grans = s.grans := rfl
@[simp] theorem setEvbuf_tcmErrs (s : State) (a : Nat) (x : EvBuf) : (s.setEvbuf a x).tcmErrs = s.tcmErrs := rfl
@[simp] theorem setEvbuf_cistern (s : State) (a : Nat) (x : EvBuf) : (s.setEvbuf a x).cistern = s.cistern := rfl
@[simp] theorem setEvbuf_chans (s : State) (a : Nat) (x : EvBuf) : (s.setEvbuf a x).chans = s.chans := rfl
@[simp] theorem setEvbuf_hbms (s : State) (a : Nat) (x : EvBuf) : (s.setEvbuf a x).hbms = s.hbms := rfl
@[simp] theorem setEvbuf_seals (s : State) (a : Nat) (x : EvBuf) : (s.setEvbuf a x).seals = s.seals := rfl
@[simp] theorem setEvbuf_cores (s : State) (a : Nat) (x : EvBuf) : (s.setEvbuf a x).cores = s.cores := rfl
@[simp] theorem setEvbuf_mcores (s : State) (a : Nat) (x : EvBuf) : (s.setEvbuf a x).mcores = s.mcores := rfl
@[simp] theorem setEvbuf_out (s : State) (a : Nat) (x : EvBuf) : (s.setEvbuf a x).out = s.out := rfl
@[simp] theorem setEvbuf_tasks (s : State) (a : Nat) (x : EvBuf) : (s.setEvbuf a x).tasks = s.tasks := rfl
@[simp] theorem setEvbuf_nextTask (s : State) (a : Nat) (x : EvBuf) : (s.setEvbuf a x).nextTask = s.nextTask := rfl
@[simp] theorem setEvbuf_parts (s : State) (a : Nat) (x : EvBuf) : (s.setEvbuf a x).parts = s.parts := rfl
@[simp] theorem setEvbuf_svc (s : State) (a : Nat) (x : EvBuf) : (s.setEvbuf a x).svc = s.svc := rfl
@[simp] theorem setEvbuf_mgmt (s : State) (a : Nat) (x : EvBuf) : (s.setEvbuf a x).mgmt = s.mgmt := rfl
@[simp] theorem setEvbuf_sync (s : State) (a : Nat) (x : EvBuf) : (s.setEvbuf a x).sync = s.sync := rfl
@[simp] theorem setEvbuf_vane (s : State) (a : Nat) (x : EvBuf) : (s.setEvbuf a x).vane = s.vane := rfl
@[simp] theorem setEvbuf_mesh (s : State) (a : Nat) (x : EvBuf) : (s.setEvbuf a x).mesh = s.mesh := rfl
@[simp] theorem setEvbuf_coh (s : State) (a : Nat) (x : EvBuf) : (s.setEvbuf a x).coh = s.coh := rfl
@[simp] theorem setEvbuf_aq (s : State) (a : Nat) (x : EvBuf) : (s.setEvbuf a x).aq = s.aq := rfl
@[simp] theorem setEvbuf_qos (s : State) (a : Nat) (x : EvBuf) : (s.setEvbuf a x).qos = s.qos := rfl
@[simp] theorem setEvbuf_bonds (s : State) (a : Nat) (x : EvBuf) : (s.setEvbuf a x).bonds = s.bonds := rfl
@[simp] theorem setEvbuf_psites (s : State) (a : Nat) (x : EvBuf) : (s.setEvbuf a x).psites = s.psites := rfl
@[simp] theorem setEvbuf_host_regs (s : State) (a : Nat) (x : EvBuf) : (s.setEvbuf a x).host.regs = s.host.regs := rfl
@[simp] theorem setEvbuf_host_stag (s : State) (a : Nat) (x : EvBuf) : (s.setEvbuf a x).host.stag = s.host.stag := rfl
@[simp] theorem setEvbuf_host_units (s : State) (a : Nat) (x : EvBuf) : (s.setEvbuf a x).host.units = s.host.units := rfl
@[simp] theorem setEvbuf_host_rings (s : State) (a : Nat) (x : EvBuf) : (s.setEvbuf a x).host.rings = s.host.rings := rfl
@[simp] theorem setEvbuf_host_cmds (s : State) (a : Nat) (x : EvBuf) : (s.setEvbuf a x).host.cmds = s.host.cmds := rfl
@[simp] theorem setEvbuf_host_nextId (s : State) (a : Nat) (x : EvBuf) : (s.setEvbuf a x).host.nextId = s.host.nextId := rfl
@[simp] theorem setEvbuf_host_unmasked (s : State) (a : Nat) (x : EvBuf) : (s.setEvbuf a x).host.unmasked = s.host.unmasked := rfl
@[simp] theorem setEvbuf_host_pba (s : State) (a : Nat) (x : EvBuf) : (s.setEvbuf a x).host.pba = s.host.pba := rfl
@[simp] theorem setEvbuf_host_arms (s : State) (a : Nat) (x : EvBuf) : (s.setEvbuf a x).host.arms = s.host.arms := rfl
/-- The entry set reads as set, and every other entry as before. -/
theorem evbuf_setEvbuf (s : State) (a : Nat) (x : EvBuf) (j : Nat) : (s.setEvbuf a x).evbuf j = if j = a then x else s.evbuf j := by
  by_cases h : j = a
  · subst h; simp [State.evbuf, State.setEvbuf]
  · simp [State.evbuf, State.setEvbuf, tget_tset_ne, h]

/-! ### setPart -/

@[simp] theorem setPart_pending (s : State) (a : Nat) (x : Part) : (s.setPart a x).pending = s.pending := rfl
@[simp] theorem setPart_now (s : State) (a : Nat) (x : Part) : (s.setPart a x).now = s.now := rfl
@[simp] theorem setPart_free (s : State) (a : Nat) (x : Part) : (s.setPart a x).free = s.free := rfl
@[simp] theorem setPart_fuse (s : State) (a : Nat) (x : Part) : (s.setPart a x).fuse = s.fuse := rfl
@[simp] theorem setPart_flash (s : State) (a : Nat) (x : Part) : (s.setPart a x).flash = s.flash := rfl
@[simp] theorem setPart_boot (s : State) (a : Nat) (x : Part) : (s.setPart a x).boot = s.boot := rfl
@[simp] theorem setPart_power (s : State) (a : Nat) (x : Part) : (s.setPart a x).power = s.power := rfl
@[simp] theorem setPart_islands (s : State) (a : Nat) (x : Part) : (s.setPart a x).islands = s.islands := rfl
@[simp] theorem setPart_sites (s : State) (a : Nat) (x : Part) : (s.setPart a x).sites = s.sites := rfl
@[simp] theorem setPart_tiles (s : State) (a : Nat) (x : Part) : (s.setPart a x).tiles = s.tiles := rfl
@[simp] theorem setPart_dist (s : State) (a : Nat) (x : Part) : (s.setPart a x).dist = s.dist := rfl
@[simp] theorem setPart_mem (s : State) (a : Nat) (x : Part) : (s.setPart a x).mem = s.mem := rfl
@[simp] theorem setPart_grans (s : State) (a : Nat) (x : Part) : (s.setPart a x).grans = s.grans := rfl
@[simp] theorem setPart_tcmErrs (s : State) (a : Nat) (x : Part) : (s.setPart a x).tcmErrs = s.tcmErrs := rfl
@[simp] theorem setPart_cistern (s : State) (a : Nat) (x : Part) : (s.setPart a x).cistern = s.cistern := rfl
@[simp] theorem setPart_chans (s : State) (a : Nat) (x : Part) : (s.setPart a x).chans = s.chans := rfl
@[simp] theorem setPart_hbms (s : State) (a : Nat) (x : Part) : (s.setPart a x).hbms = s.hbms := rfl
@[simp] theorem setPart_seals (s : State) (a : Nat) (x : Part) : (s.setPart a x).seals = s.seals := rfl
@[simp] theorem setPart_cores (s : State) (a : Nat) (x : Part) : (s.setPart a x).cores = s.cores := rfl
@[simp] theorem setPart_mcores (s : State) (a : Nat) (x : Part) : (s.setPart a x).mcores = s.mcores := rfl
@[simp] theorem setPart_host (s : State) (a : Nat) (x : Part) : (s.setPart a x).host = s.host := rfl
@[simp] theorem setPart_out (s : State) (a : Nat) (x : Part) : (s.setPart a x).out = s.out := rfl
@[simp] theorem setPart_tasks (s : State) (a : Nat) (x : Part) : (s.setPart a x).tasks = s.tasks := rfl
@[simp] theorem setPart_nextTask (s : State) (a : Nat) (x : Part) : (s.setPart a x).nextTask = s.nextTask := rfl
@[simp] theorem setPart_svc (s : State) (a : Nat) (x : Part) : (s.setPart a x).svc = s.svc := rfl
@[simp] theorem setPart_mgmt (s : State) (a : Nat) (x : Part) : (s.setPart a x).mgmt = s.mgmt := rfl
@[simp] theorem setPart_sync (s : State) (a : Nat) (x : Part) : (s.setPart a x).sync = s.sync := rfl
@[simp] theorem setPart_vane (s : State) (a : Nat) (x : Part) : (s.setPart a x).vane = s.vane := rfl
@[simp] theorem setPart_mesh (s : State) (a : Nat) (x : Part) : (s.setPart a x).mesh = s.mesh := rfl
@[simp] theorem setPart_coh (s : State) (a : Nat) (x : Part) : (s.setPart a x).coh = s.coh := rfl
@[simp] theorem setPart_aq (s : State) (a : Nat) (x : Part) : (s.setPart a x).aq = s.aq := rfl
@[simp] theorem setPart_qos (s : State) (a : Nat) (x : Part) : (s.setPart a x).qos = s.qos := rfl
@[simp] theorem setPart_bonds (s : State) (a : Nat) (x : Part) : (s.setPart a x).bonds = s.bonds := rfl
@[simp] theorem setPart_psites (s : State) (a : Nat) (x : Part) : (s.setPart a x).psites = s.psites := rfl
/-- The entry set reads as set, and every other entry as before. -/
theorem part_setPart (s : State) (a : Nat) (x : Part) (j : Nat) : (s.setPart a x).part j = if j = a then x else s.part j := by
  by_cases h : j = a
  · subst h; simp [State.part, State.setPart]
  · simp [State.part, State.setPart, tget_tset_ne, h]

/-! ### setMc -/

@[simp] theorem setMc_pending (s : State) (a : Nat) (x : MCore) : (s.setMc a x).pending = s.pending := rfl
@[simp] theorem setMc_now (s : State) (a : Nat) (x : MCore) : (s.setMc a x).now = s.now := rfl
@[simp] theorem setMc_free (s : State) (a : Nat) (x : MCore) : (s.setMc a x).free = s.free := rfl
@[simp] theorem setMc_fuse (s : State) (a : Nat) (x : MCore) : (s.setMc a x).fuse = s.fuse := rfl
@[simp] theorem setMc_flash (s : State) (a : Nat) (x : MCore) : (s.setMc a x).flash = s.flash := rfl
@[simp] theorem setMc_boot (s : State) (a : Nat) (x : MCore) : (s.setMc a x).boot = s.boot := rfl
@[simp] theorem setMc_power (s : State) (a : Nat) (x : MCore) : (s.setMc a x).power = s.power := rfl
@[simp] theorem setMc_islands (s : State) (a : Nat) (x : MCore) : (s.setMc a x).islands = s.islands := rfl
@[simp] theorem setMc_sites (s : State) (a : Nat) (x : MCore) : (s.setMc a x).sites = s.sites := rfl
@[simp] theorem setMc_tiles (s : State) (a : Nat) (x : MCore) : (s.setMc a x).tiles = s.tiles := rfl
@[simp] theorem setMc_dist (s : State) (a : Nat) (x : MCore) : (s.setMc a x).dist = s.dist := rfl
@[simp] theorem setMc_mem (s : State) (a : Nat) (x : MCore) : (s.setMc a x).mem = s.mem := rfl
@[simp] theorem setMc_grans (s : State) (a : Nat) (x : MCore) : (s.setMc a x).grans = s.grans := rfl
@[simp] theorem setMc_tcmErrs (s : State) (a : Nat) (x : MCore) : (s.setMc a x).tcmErrs = s.tcmErrs := rfl
@[simp] theorem setMc_cistern (s : State) (a : Nat) (x : MCore) : (s.setMc a x).cistern = s.cistern := rfl
@[simp] theorem setMc_chans (s : State) (a : Nat) (x : MCore) : (s.setMc a x).chans = s.chans := rfl
@[simp] theorem setMc_hbms (s : State) (a : Nat) (x : MCore) : (s.setMc a x).hbms = s.hbms := rfl
@[simp] theorem setMc_seals (s : State) (a : Nat) (x : MCore) : (s.setMc a x).seals = s.seals := rfl
@[simp] theorem setMc_cores (s : State) (a : Nat) (x : MCore) : (s.setMc a x).cores = s.cores := rfl
@[simp] theorem setMc_host (s : State) (a : Nat) (x : MCore) : (s.setMc a x).host = s.host := rfl
@[simp] theorem setMc_out (s : State) (a : Nat) (x : MCore) : (s.setMc a x).out = s.out := rfl
@[simp] theorem setMc_tasks (s : State) (a : Nat) (x : MCore) : (s.setMc a x).tasks = s.tasks := rfl
@[simp] theorem setMc_nextTask (s : State) (a : Nat) (x : MCore) : (s.setMc a x).nextTask = s.nextTask := rfl
@[simp] theorem setMc_parts (s : State) (a : Nat) (x : MCore) : (s.setMc a x).parts = s.parts := rfl
@[simp] theorem setMc_svc (s : State) (a : Nat) (x : MCore) : (s.setMc a x).svc = s.svc := rfl
@[simp] theorem setMc_mgmt (s : State) (a : Nat) (x : MCore) : (s.setMc a x).mgmt = s.mgmt := rfl
@[simp] theorem setMc_sync (s : State) (a : Nat) (x : MCore) : (s.setMc a x).sync = s.sync := rfl
@[simp] theorem setMc_vane (s : State) (a : Nat) (x : MCore) : (s.setMc a x).vane = s.vane := rfl
@[simp] theorem setMc_mesh (s : State) (a : Nat) (x : MCore) : (s.setMc a x).mesh = s.mesh := rfl
@[simp] theorem setMc_coh (s : State) (a : Nat) (x : MCore) : (s.setMc a x).coh = s.coh := rfl
@[simp] theorem setMc_aq (s : State) (a : Nat) (x : MCore) : (s.setMc a x).aq = s.aq := rfl
@[simp] theorem setMc_qos (s : State) (a : Nat) (x : MCore) : (s.setMc a x).qos = s.qos := rfl
@[simp] theorem setMc_bonds (s : State) (a : Nat) (x : MCore) : (s.setMc a x).bonds = s.bonds := rfl
@[simp] theorem setMc_psites (s : State) (a : Nat) (x : MCore) : (s.setMc a x).psites = s.psites := rfl
/-- The entry set reads as set, and every other entry as before. -/
theorem mc_setMc (s : State) (a : Nat) (x : MCore) (j : Nat) : (s.setMc a x).mc j = if j = a then x else s.mc j := by
  by_cases h : j = a
  · subst h; simp [State.mc, State.setMc]
  · simp [State.mc, State.setMc, tget_tset_ne, h]

/-! ### setByte -/

@[simp] theorem setByte_pending (s : State) (a : Nat) (x : Byte) : (s.setByte a x).pending = s.pending := rfl
@[simp] theorem setByte_now (s : State) (a : Nat) (x : Byte) : (s.setByte a x).now = s.now := rfl
@[simp] theorem setByte_free (s : State) (a : Nat) (x : Byte) : (s.setByte a x).free = s.free := rfl
@[simp] theorem setByte_fuse (s : State) (a : Nat) (x : Byte) : (s.setByte a x).fuse = s.fuse := rfl
@[simp] theorem setByte_flash (s : State) (a : Nat) (x : Byte) : (s.setByte a x).flash = s.flash := rfl
@[simp] theorem setByte_boot (s : State) (a : Nat) (x : Byte) : (s.setByte a x).boot = s.boot := rfl
@[simp] theorem setByte_power (s : State) (a : Nat) (x : Byte) : (s.setByte a x).power = s.power := rfl
@[simp] theorem setByte_islands (s : State) (a : Nat) (x : Byte) : (s.setByte a x).islands = s.islands := rfl
@[simp] theorem setByte_sites (s : State) (a : Nat) (x : Byte) : (s.setByte a x).sites = s.sites := rfl
@[simp] theorem setByte_tiles (s : State) (a : Nat) (x : Byte) : (s.setByte a x).tiles = s.tiles := rfl
@[simp] theorem setByte_dist (s : State) (a : Nat) (x : Byte) : (s.setByte a x).dist = s.dist := rfl
@[simp] theorem setByte_grans (s : State) (a : Nat) (x : Byte) : (s.setByte a x).grans = s.grans := rfl
@[simp] theorem setByte_tcmErrs (s : State) (a : Nat) (x : Byte) : (s.setByte a x).tcmErrs = s.tcmErrs := rfl
@[simp] theorem setByte_cistern (s : State) (a : Nat) (x : Byte) : (s.setByte a x).cistern = s.cistern := rfl
@[simp] theorem setByte_chans (s : State) (a : Nat) (x : Byte) : (s.setByte a x).chans = s.chans := rfl
@[simp] theorem setByte_hbms (s : State) (a : Nat) (x : Byte) : (s.setByte a x).hbms = s.hbms := rfl
@[simp] theorem setByte_seals (s : State) (a : Nat) (x : Byte) : (s.setByte a x).seals = s.seals := rfl
@[simp] theorem setByte_cores (s : State) (a : Nat) (x : Byte) : (s.setByte a x).cores = s.cores := rfl
@[simp] theorem setByte_mcores (s : State) (a : Nat) (x : Byte) : (s.setByte a x).mcores = s.mcores := rfl
@[simp] theorem setByte_host (s : State) (a : Nat) (x : Byte) : (s.setByte a x).host = s.host := rfl
@[simp] theorem setByte_out (s : State) (a : Nat) (x : Byte) : (s.setByte a x).out = s.out := rfl
@[simp] theorem setByte_tasks (s : State) (a : Nat) (x : Byte) : (s.setByte a x).tasks = s.tasks := rfl
@[simp] theorem setByte_nextTask (s : State) (a : Nat) (x : Byte) : (s.setByte a x).nextTask = s.nextTask := rfl
@[simp] theorem setByte_parts (s : State) (a : Nat) (x : Byte) : (s.setByte a x).parts = s.parts := rfl
@[simp] theorem setByte_svc (s : State) (a : Nat) (x : Byte) : (s.setByte a x).svc = s.svc := rfl
@[simp] theorem setByte_mgmt (s : State) (a : Nat) (x : Byte) : (s.setByte a x).mgmt = s.mgmt := rfl
@[simp] theorem setByte_sync (s : State) (a : Nat) (x : Byte) : (s.setByte a x).sync = s.sync := rfl
@[simp] theorem setByte_vane (s : State) (a : Nat) (x : Byte) : (s.setByte a x).vane = s.vane := rfl
@[simp] theorem setByte_mesh (s : State) (a : Nat) (x : Byte) : (s.setByte a x).mesh = s.mesh := rfl
@[simp] theorem setByte_coh (s : State) (a : Nat) (x : Byte) : (s.setByte a x).coh = s.coh := rfl
@[simp] theorem setByte_aq (s : State) (a : Nat) (x : Byte) : (s.setByte a x).aq = s.aq := rfl
@[simp] theorem setByte_qos (s : State) (a : Nat) (x : Byte) : (s.setByte a x).qos = s.qos := rfl
@[simp] theorem setByte_bonds (s : State) (a : Nat) (x : Byte) : (s.setByte a x).bonds = s.bonds := rfl
@[simp] theorem setByte_psites (s : State) (a : Nat) (x : Byte) : (s.setByte a x).psites = s.psites := rfl

/-! ### setGran -/

@[simp] theorem setGran_pending (s : State) (a : Nat) (x : Gran) : (s.setGran a x).pending = s.pending := rfl
@[simp] theorem setGran_now (s : State) (a : Nat) (x : Gran) : (s.setGran a x).now = s.now := rfl
@[simp] theorem setGran_free (s : State) (a : Nat) (x : Gran) : (s.setGran a x).free = s.free := rfl
@[simp] theorem setGran_fuse (s : State) (a : Nat) (x : Gran) : (s.setGran a x).fuse = s.fuse := rfl
@[simp] theorem setGran_flash (s : State) (a : Nat) (x : Gran) : (s.setGran a x).flash = s.flash := rfl
@[simp] theorem setGran_boot (s : State) (a : Nat) (x : Gran) : (s.setGran a x).boot = s.boot := rfl
@[simp] theorem setGran_power (s : State) (a : Nat) (x : Gran) : (s.setGran a x).power = s.power := rfl
@[simp] theorem setGran_islands (s : State) (a : Nat) (x : Gran) : (s.setGran a x).islands = s.islands := rfl
@[simp] theorem setGran_sites (s : State) (a : Nat) (x : Gran) : (s.setGran a x).sites = s.sites := rfl
@[simp] theorem setGran_tiles (s : State) (a : Nat) (x : Gran) : (s.setGran a x).tiles = s.tiles := rfl
@[simp] theorem setGran_dist (s : State) (a : Nat) (x : Gran) : (s.setGran a x).dist = s.dist := rfl
@[simp] theorem setGran_mem (s : State) (a : Nat) (x : Gran) : (s.setGran a x).mem = s.mem := rfl
@[simp] theorem setGran_tcmErrs (s : State) (a : Nat) (x : Gran) : (s.setGran a x).tcmErrs = s.tcmErrs := rfl
@[simp] theorem setGran_cistern (s : State) (a : Nat) (x : Gran) : (s.setGran a x).cistern = s.cistern := rfl
@[simp] theorem setGran_chans (s : State) (a : Nat) (x : Gran) : (s.setGran a x).chans = s.chans := rfl
@[simp] theorem setGran_hbms (s : State) (a : Nat) (x : Gran) : (s.setGran a x).hbms = s.hbms := rfl
@[simp] theorem setGran_seals (s : State) (a : Nat) (x : Gran) : (s.setGran a x).seals = s.seals := rfl
@[simp] theorem setGran_cores (s : State) (a : Nat) (x : Gran) : (s.setGran a x).cores = s.cores := rfl
@[simp] theorem setGran_mcores (s : State) (a : Nat) (x : Gran) : (s.setGran a x).mcores = s.mcores := rfl
@[simp] theorem setGran_host (s : State) (a : Nat) (x : Gran) : (s.setGran a x).host = s.host := rfl
@[simp] theorem setGran_out (s : State) (a : Nat) (x : Gran) : (s.setGran a x).out = s.out := rfl
@[simp] theorem setGran_tasks (s : State) (a : Nat) (x : Gran) : (s.setGran a x).tasks = s.tasks := rfl
@[simp] theorem setGran_nextTask (s : State) (a : Nat) (x : Gran) : (s.setGran a x).nextTask = s.nextTask := rfl
@[simp] theorem setGran_parts (s : State) (a : Nat) (x : Gran) : (s.setGran a x).parts = s.parts := rfl
@[simp] theorem setGran_svc (s : State) (a : Nat) (x : Gran) : (s.setGran a x).svc = s.svc := rfl
@[simp] theorem setGran_mgmt (s : State) (a : Nat) (x : Gran) : (s.setGran a x).mgmt = s.mgmt := rfl
@[simp] theorem setGran_sync (s : State) (a : Nat) (x : Gran) : (s.setGran a x).sync = s.sync := rfl
@[simp] theorem setGran_vane (s : State) (a : Nat) (x : Gran) : (s.setGran a x).vane = s.vane := rfl
@[simp] theorem setGran_mesh (s : State) (a : Nat) (x : Gran) : (s.setGran a x).mesh = s.mesh := rfl
@[simp] theorem setGran_coh (s : State) (a : Nat) (x : Gran) : (s.setGran a x).coh = s.coh := rfl
@[simp] theorem setGran_aq (s : State) (a : Nat) (x : Gran) : (s.setGran a x).aq = s.aq := rfl
@[simp] theorem setGran_qos (s : State) (a : Nat) (x : Gran) : (s.setGran a x).qos = s.qos := rfl
@[simp] theorem setGran_bonds (s : State) (a : Nat) (x : Gran) : (s.setGran a x).bonds = s.bonds := rfl
@[simp] theorem setGran_psites (s : State) (a : Nat) (x : Gran) : (s.setGran a x).psites = s.psites := rfl
/-- The entry set reads as set, and every other entry as before. -/
theorem gran_setGran (s : State) (a : Nat) (x : Gran) (j : Nat) : (s.setGran a x).gran j = if j = a then x else s.gran j := by
  by_cases h : j = a
  · subst h; simp [State.gran, State.setGran]
  · simp [State.gran, State.setGran, tget_tset_ne, h]

/-! ### setTcmErr -/

@[simp] theorem setTcmErr_pending (s : State) (a : Nat) (x : Gran) : (s.setTcmErr a x).pending = s.pending := rfl
@[simp] theorem setTcmErr_now (s : State) (a : Nat) (x : Gran) : (s.setTcmErr a x).now = s.now := rfl
@[simp] theorem setTcmErr_free (s : State) (a : Nat) (x : Gran) : (s.setTcmErr a x).free = s.free := rfl
@[simp] theorem setTcmErr_fuse (s : State) (a : Nat) (x : Gran) : (s.setTcmErr a x).fuse = s.fuse := rfl
@[simp] theorem setTcmErr_flash (s : State) (a : Nat) (x : Gran) : (s.setTcmErr a x).flash = s.flash := rfl
@[simp] theorem setTcmErr_boot (s : State) (a : Nat) (x : Gran) : (s.setTcmErr a x).boot = s.boot := rfl
@[simp] theorem setTcmErr_power (s : State) (a : Nat) (x : Gran) : (s.setTcmErr a x).power = s.power := rfl
@[simp] theorem setTcmErr_islands (s : State) (a : Nat) (x : Gran) : (s.setTcmErr a x).islands = s.islands := rfl
@[simp] theorem setTcmErr_sites (s : State) (a : Nat) (x : Gran) : (s.setTcmErr a x).sites = s.sites := rfl
@[simp] theorem setTcmErr_tiles (s : State) (a : Nat) (x : Gran) : (s.setTcmErr a x).tiles = s.tiles := rfl
@[simp] theorem setTcmErr_dist (s : State) (a : Nat) (x : Gran) : (s.setTcmErr a x).dist = s.dist := rfl
@[simp] theorem setTcmErr_mem (s : State) (a : Nat) (x : Gran) : (s.setTcmErr a x).mem = s.mem := rfl
@[simp] theorem setTcmErr_grans (s : State) (a : Nat) (x : Gran) : (s.setTcmErr a x).grans = s.grans := rfl
@[simp] theorem setTcmErr_cistern (s : State) (a : Nat) (x : Gran) : (s.setTcmErr a x).cistern = s.cistern := rfl
@[simp] theorem setTcmErr_chans (s : State) (a : Nat) (x : Gran) : (s.setTcmErr a x).chans = s.chans := rfl
@[simp] theorem setTcmErr_hbms (s : State) (a : Nat) (x : Gran) : (s.setTcmErr a x).hbms = s.hbms := rfl
@[simp] theorem setTcmErr_seals (s : State) (a : Nat) (x : Gran) : (s.setTcmErr a x).seals = s.seals := rfl
@[simp] theorem setTcmErr_cores (s : State) (a : Nat) (x : Gran) : (s.setTcmErr a x).cores = s.cores := rfl
@[simp] theorem setTcmErr_mcores (s : State) (a : Nat) (x : Gran) : (s.setTcmErr a x).mcores = s.mcores := rfl
@[simp] theorem setTcmErr_host (s : State) (a : Nat) (x : Gran) : (s.setTcmErr a x).host = s.host := rfl
@[simp] theorem setTcmErr_out (s : State) (a : Nat) (x : Gran) : (s.setTcmErr a x).out = s.out := rfl
@[simp] theorem setTcmErr_tasks (s : State) (a : Nat) (x : Gran) : (s.setTcmErr a x).tasks = s.tasks := rfl
@[simp] theorem setTcmErr_nextTask (s : State) (a : Nat) (x : Gran) : (s.setTcmErr a x).nextTask = s.nextTask := rfl
@[simp] theorem setTcmErr_parts (s : State) (a : Nat) (x : Gran) : (s.setTcmErr a x).parts = s.parts := rfl
@[simp] theorem setTcmErr_svc (s : State) (a : Nat) (x : Gran) : (s.setTcmErr a x).svc = s.svc := rfl
@[simp] theorem setTcmErr_mgmt (s : State) (a : Nat) (x : Gran) : (s.setTcmErr a x).mgmt = s.mgmt := rfl
@[simp] theorem setTcmErr_sync (s : State) (a : Nat) (x : Gran) : (s.setTcmErr a x).sync = s.sync := rfl
@[simp] theorem setTcmErr_vane (s : State) (a : Nat) (x : Gran) : (s.setTcmErr a x).vane = s.vane := rfl
@[simp] theorem setTcmErr_mesh (s : State) (a : Nat) (x : Gran) : (s.setTcmErr a x).mesh = s.mesh := rfl
@[simp] theorem setTcmErr_coh (s : State) (a : Nat) (x : Gran) : (s.setTcmErr a x).coh = s.coh := rfl
@[simp] theorem setTcmErr_aq (s : State) (a : Nat) (x : Gran) : (s.setTcmErr a x).aq = s.aq := rfl
@[simp] theorem setTcmErr_qos (s : State) (a : Nat) (x : Gran) : (s.setTcmErr a x).qos = s.qos := rfl
@[simp] theorem setTcmErr_bonds (s : State) (a : Nat) (x : Gran) : (s.setTcmErr a x).bonds = s.bonds := rfl
@[simp] theorem setTcmErr_psites (s : State) (a : Nat) (x : Gran) : (s.setTcmErr a x).psites = s.psites := rfl
/-- The entry set reads as set, and every other entry as before. -/
theorem tcmErr_setTcmErr (s : State) (a : Nat) (x : Gran) (j : Nat) : (s.setTcmErr a x).tcmErr j = if j = a then x else s.tcmErr j := by
  by_cases h : j = a
  · subst h; simp [State.tcmErr, State.setTcmErr]
  · simp [State.tcmErr, State.setTcmErr, tget_tset_ne, h]

/-! ### setSlice -/

@[simp] theorem setSlice_pending (s : State) (a : Nat) (x : SliceErr) : (s.setSlice a x).pending = s.pending := rfl
@[simp] theorem setSlice_now (s : State) (a : Nat) (x : SliceErr) : (s.setSlice a x).now = s.now := rfl
@[simp] theorem setSlice_free (s : State) (a : Nat) (x : SliceErr) : (s.setSlice a x).free = s.free := rfl
@[simp] theorem setSlice_fuse (s : State) (a : Nat) (x : SliceErr) : (s.setSlice a x).fuse = s.fuse := rfl
@[simp] theorem setSlice_flash (s : State) (a : Nat) (x : SliceErr) : (s.setSlice a x).flash = s.flash := rfl
@[simp] theorem setSlice_boot (s : State) (a : Nat) (x : SliceErr) : (s.setSlice a x).boot = s.boot := rfl
@[simp] theorem setSlice_power (s : State) (a : Nat) (x : SliceErr) : (s.setSlice a x).power = s.power := rfl
@[simp] theorem setSlice_islands (s : State) (a : Nat) (x : SliceErr) : (s.setSlice a x).islands = s.islands := rfl
@[simp] theorem setSlice_sites (s : State) (a : Nat) (x : SliceErr) : (s.setSlice a x).sites = s.sites := rfl
@[simp] theorem setSlice_tiles (s : State) (a : Nat) (x : SliceErr) : (s.setSlice a x).tiles = s.tiles := rfl
@[simp] theorem setSlice_dist (s : State) (a : Nat) (x : SliceErr) : (s.setSlice a x).dist = s.dist := rfl
@[simp] theorem setSlice_mem (s : State) (a : Nat) (x : SliceErr) : (s.setSlice a x).mem = s.mem := rfl
@[simp] theorem setSlice_grans (s : State) (a : Nat) (x : SliceErr) : (s.setSlice a x).grans = s.grans := rfl
@[simp] theorem setSlice_tcmErrs (s : State) (a : Nat) (x : SliceErr) : (s.setSlice a x).tcmErrs = s.tcmErrs := rfl
@[simp] theorem setSlice_chans (s : State) (a : Nat) (x : SliceErr) : (s.setSlice a x).chans = s.chans := rfl
@[simp] theorem setSlice_hbms (s : State) (a : Nat) (x : SliceErr) : (s.setSlice a x).hbms = s.hbms := rfl
@[simp] theorem setSlice_seals (s : State) (a : Nat) (x : SliceErr) : (s.setSlice a x).seals = s.seals := rfl
@[simp] theorem setSlice_cores (s : State) (a : Nat) (x : SliceErr) : (s.setSlice a x).cores = s.cores := rfl
@[simp] theorem setSlice_mcores (s : State) (a : Nat) (x : SliceErr) : (s.setSlice a x).mcores = s.mcores := rfl
@[simp] theorem setSlice_host (s : State) (a : Nat) (x : SliceErr) : (s.setSlice a x).host = s.host := rfl
@[simp] theorem setSlice_out (s : State) (a : Nat) (x : SliceErr) : (s.setSlice a x).out = s.out := rfl
@[simp] theorem setSlice_tasks (s : State) (a : Nat) (x : SliceErr) : (s.setSlice a x).tasks = s.tasks := rfl
@[simp] theorem setSlice_nextTask (s : State) (a : Nat) (x : SliceErr) : (s.setSlice a x).nextTask = s.nextTask := rfl
@[simp] theorem setSlice_parts (s : State) (a : Nat) (x : SliceErr) : (s.setSlice a x).parts = s.parts := rfl
@[simp] theorem setSlice_svc (s : State) (a : Nat) (x : SliceErr) : (s.setSlice a x).svc = s.svc := rfl
@[simp] theorem setSlice_mgmt (s : State) (a : Nat) (x : SliceErr) : (s.setSlice a x).mgmt = s.mgmt := rfl
@[simp] theorem setSlice_sync (s : State) (a : Nat) (x : SliceErr) : (s.setSlice a x).sync = s.sync := rfl
@[simp] theorem setSlice_vane (s : State) (a : Nat) (x : SliceErr) : (s.setSlice a x).vane = s.vane := rfl
@[simp] theorem setSlice_mesh (s : State) (a : Nat) (x : SliceErr) : (s.setSlice a x).mesh = s.mesh := rfl
@[simp] theorem setSlice_coh (s : State) (a : Nat) (x : SliceErr) : (s.setSlice a x).coh = s.coh := rfl
@[simp] theorem setSlice_aq (s : State) (a : Nat) (x : SliceErr) : (s.setSlice a x).aq = s.aq := rfl
@[simp] theorem setSlice_qos (s : State) (a : Nat) (x : SliceErr) : (s.setSlice a x).qos = s.qos := rfl
@[simp] theorem setSlice_bonds (s : State) (a : Nat) (x : SliceErr) : (s.setSlice a x).bonds = s.bonds := rfl
@[simp] theorem setSlice_psites (s : State) (a : Nat) (x : SliceErr) : (s.setSlice a x).psites = s.psites := rfl
@[simp] theorem setSlice_cistern_groups (s : State) (a : Nat) (x : SliceErr) : (s.setSlice a x).cistern.groups = s.cistern.groups := rfl
@[simp] theorem setSlice_cistern_rows (s : State) (a : Nat) (x : SliceErr) : (s.setSlice a x).cistern.rows = s.cistern.rows := rfl
@[simp] theorem setSlice_cistern_cols (s : State) (a : Nat) (x : SliceErr) : (s.setSlice a x).cistern.cols = s.cistern.cols := rfl
@[simp] theorem setSlice_cistern_retired (s : State) (a : Nat) (x : SliceErr) : (s.setSlice a x).cistern.retired = s.cistern.retired := rfl
@[simp] theorem setSlice_cistern_unitsPending (s : State) (a : Nat) (x : SliceErr) : (s.setSlice a x).cistern.unitsPending = s.cistern.unitsPending := rfl
@[simp] theorem setSlice_cistern_correct (s : State) (a : Nat) (x : SliceErr) : (s.setSlice a x).cistern.correct = s.cistern.correct := rfl
@[simp] theorem setSlice_cistern_found (s : State) (a : Nat) (x : SliceErr) : (s.setSlice a x).cistern.found = s.cistern.found := rfl
/-- The entry set reads as set, and every other entry as before. -/
theorem slice_setSlice (s : State) (a : Nat) (x : SliceErr) (j : Nat) : (s.setSlice a x).slice j = if j = a then x else s.slice j := by
  by_cases h : j = a
  · subst h; simp [State.slice, State.setSlice]
  · simp [State.slice, State.setSlice, tget_tset_ne, h]

/-! ### setPsite -/

@[simp] theorem setPsite_pending (s : State) (a : Nat) (x : PSite) : (s.setPsite a x).pending = s.pending := rfl
@[simp] theorem setPsite_now (s : State) (a : Nat) (x : PSite) : (s.setPsite a x).now = s.now := rfl
@[simp] theorem setPsite_free (s : State) (a : Nat) (x : PSite) : (s.setPsite a x).free = s.free := rfl
@[simp] theorem setPsite_fuse (s : State) (a : Nat) (x : PSite) : (s.setPsite a x).fuse = s.fuse := rfl
@[simp] theorem setPsite_flash (s : State) (a : Nat) (x : PSite) : (s.setPsite a x).flash = s.flash := rfl
@[simp] theorem setPsite_boot (s : State) (a : Nat) (x : PSite) : (s.setPsite a x).boot = s.boot := rfl
@[simp] theorem setPsite_power (s : State) (a : Nat) (x : PSite) : (s.setPsite a x).power = s.power := rfl
@[simp] theorem setPsite_islands (s : State) (a : Nat) (x : PSite) : (s.setPsite a x).islands = s.islands := rfl
@[simp] theorem setPsite_sites (s : State) (a : Nat) (x : PSite) : (s.setPsite a x).sites = s.sites := rfl
@[simp] theorem setPsite_tiles (s : State) (a : Nat) (x : PSite) : (s.setPsite a x).tiles = s.tiles := rfl
@[simp] theorem setPsite_dist (s : State) (a : Nat) (x : PSite) : (s.setPsite a x).dist = s.dist := rfl
@[simp] theorem setPsite_mem (s : State) (a : Nat) (x : PSite) : (s.setPsite a x).mem = s.mem := rfl
@[simp] theorem setPsite_grans (s : State) (a : Nat) (x : PSite) : (s.setPsite a x).grans = s.grans := rfl
@[simp] theorem setPsite_tcmErrs (s : State) (a : Nat) (x : PSite) : (s.setPsite a x).tcmErrs = s.tcmErrs := rfl
@[simp] theorem setPsite_cistern (s : State) (a : Nat) (x : PSite) : (s.setPsite a x).cistern = s.cistern := rfl
@[simp] theorem setPsite_chans (s : State) (a : Nat) (x : PSite) : (s.setPsite a x).chans = s.chans := rfl
@[simp] theorem setPsite_hbms (s : State) (a : Nat) (x : PSite) : (s.setPsite a x).hbms = s.hbms := rfl
@[simp] theorem setPsite_seals (s : State) (a : Nat) (x : PSite) : (s.setPsite a x).seals = s.seals := rfl
@[simp] theorem setPsite_cores (s : State) (a : Nat) (x : PSite) : (s.setPsite a x).cores = s.cores := rfl
@[simp] theorem setPsite_mcores (s : State) (a : Nat) (x : PSite) : (s.setPsite a x).mcores = s.mcores := rfl
@[simp] theorem setPsite_host (s : State) (a : Nat) (x : PSite) : (s.setPsite a x).host = s.host := rfl
@[simp] theorem setPsite_out (s : State) (a : Nat) (x : PSite) : (s.setPsite a x).out = s.out := rfl
@[simp] theorem setPsite_tasks (s : State) (a : Nat) (x : PSite) : (s.setPsite a x).tasks = s.tasks := rfl
@[simp] theorem setPsite_nextTask (s : State) (a : Nat) (x : PSite) : (s.setPsite a x).nextTask = s.nextTask := rfl
@[simp] theorem setPsite_parts (s : State) (a : Nat) (x : PSite) : (s.setPsite a x).parts = s.parts := rfl
@[simp] theorem setPsite_svc (s : State) (a : Nat) (x : PSite) : (s.setPsite a x).svc = s.svc := rfl
@[simp] theorem setPsite_mgmt (s : State) (a : Nat) (x : PSite) : (s.setPsite a x).mgmt = s.mgmt := rfl
@[simp] theorem setPsite_sync (s : State) (a : Nat) (x : PSite) : (s.setPsite a x).sync = s.sync := rfl
@[simp] theorem setPsite_vane (s : State) (a : Nat) (x : PSite) : (s.setPsite a x).vane = s.vane := rfl
@[simp] theorem setPsite_mesh (s : State) (a : Nat) (x : PSite) : (s.setPsite a x).mesh = s.mesh := rfl
@[simp] theorem setPsite_coh (s : State) (a : Nat) (x : PSite) : (s.setPsite a x).coh = s.coh := rfl
@[simp] theorem setPsite_aq (s : State) (a : Nat) (x : PSite) : (s.setPsite a x).aq = s.aq := rfl
@[simp] theorem setPsite_qos (s : State) (a : Nat) (x : PSite) : (s.setPsite a x).qos = s.qos := rfl
@[simp] theorem setPsite_bonds (s : State) (a : Nat) (x : PSite) : (s.setPsite a x).bonds = s.bonds := rfl
/-- The entry set reads as set, and every other entry as before. -/
theorem psite_setPsite (s : State) (a : Nat) (x : PSite) (j : Nat) : (s.setPsite a x).psite j = if j = a then x else s.psite j := by
  by_cases h : j = a
  · subst h; simp [State.psite, State.setPsite]
  · simp [State.psite, State.setPsite, tget_tset_ne, h]

/-! ### setCat -/

@[simp] theorem setCat_pending (s : State) (a : Nat) (x : CatUnit) : (s.setCat a x).pending = s.pending := rfl
@[simp] theorem setCat_now (s : State) (a : Nat) (x : CatUnit) : (s.setCat a x).now = s.now := rfl
@[simp] theorem setCat_free (s : State) (a : Nat) (x : CatUnit) : (s.setCat a x).free = s.free := rfl
@[simp] theorem setCat_fuse (s : State) (a : Nat) (x : CatUnit) : (s.setCat a x).fuse = s.fuse := rfl
@[simp] theorem setCat_flash (s : State) (a : Nat) (x : CatUnit) : (s.setCat a x).flash = s.flash := rfl
@[simp] theorem setCat_boot (s : State) (a : Nat) (x : CatUnit) : (s.setCat a x).boot = s.boot := rfl
@[simp] theorem setCat_power (s : State) (a : Nat) (x : CatUnit) : (s.setCat a x).power = s.power := rfl
@[simp] theorem setCat_islands (s : State) (a : Nat) (x : CatUnit) : (s.setCat a x).islands = s.islands := rfl
@[simp] theorem setCat_sites (s : State) (a : Nat) (x : CatUnit) : (s.setCat a x).sites = s.sites := rfl
@[simp] theorem setCat_tiles (s : State) (a : Nat) (x : CatUnit) : (s.setCat a x).tiles = s.tiles := rfl
@[simp] theorem setCat_dist (s : State) (a : Nat) (x : CatUnit) : (s.setCat a x).dist = s.dist := rfl
@[simp] theorem setCat_mem (s : State) (a : Nat) (x : CatUnit) : (s.setCat a x).mem = s.mem := rfl
@[simp] theorem setCat_grans (s : State) (a : Nat) (x : CatUnit) : (s.setCat a x).grans = s.grans := rfl
@[simp] theorem setCat_tcmErrs (s : State) (a : Nat) (x : CatUnit) : (s.setCat a x).tcmErrs = s.tcmErrs := rfl
@[simp] theorem setCat_cistern (s : State) (a : Nat) (x : CatUnit) : (s.setCat a x).cistern = s.cistern := rfl
@[simp] theorem setCat_chans (s : State) (a : Nat) (x : CatUnit) : (s.setCat a x).chans = s.chans := rfl
@[simp] theorem setCat_hbms (s : State) (a : Nat) (x : CatUnit) : (s.setCat a x).hbms = s.hbms := rfl
@[simp] theorem setCat_seals (s : State) (a : Nat) (x : CatUnit) : (s.setCat a x).seals = s.seals := rfl
@[simp] theorem setCat_cores (s : State) (a : Nat) (x : CatUnit) : (s.setCat a x).cores = s.cores := rfl
@[simp] theorem setCat_mcores (s : State) (a : Nat) (x : CatUnit) : (s.setCat a x).mcores = s.mcores := rfl
@[simp] theorem setCat_host (s : State) (a : Nat) (x : CatUnit) : (s.setCat a x).host = s.host := rfl
@[simp] theorem setCat_out (s : State) (a : Nat) (x : CatUnit) : (s.setCat a x).out = s.out := rfl
@[simp] theorem setCat_tasks (s : State) (a : Nat) (x : CatUnit) : (s.setCat a x).tasks = s.tasks := rfl
@[simp] theorem setCat_nextTask (s : State) (a : Nat) (x : CatUnit) : (s.setCat a x).nextTask = s.nextTask := rfl
@[simp] theorem setCat_parts (s : State) (a : Nat) (x : CatUnit) : (s.setCat a x).parts = s.parts := rfl
@[simp] theorem setCat_svc (s : State) (a : Nat) (x : CatUnit) : (s.setCat a x).svc = s.svc := rfl
@[simp] theorem setCat_mgmt (s : State) (a : Nat) (x : CatUnit) : (s.setCat a x).mgmt = s.mgmt := rfl
@[simp] theorem setCat_sync (s : State) (a : Nat) (x : CatUnit) : (s.setCat a x).sync = s.sync := rfl
@[simp] theorem setCat_vane (s : State) (a : Nat) (x : CatUnit) : (s.setCat a x).vane = s.vane := rfl
@[simp] theorem setCat_coh (s : State) (a : Nat) (x : CatUnit) : (s.setCat a x).coh = s.coh := rfl
@[simp] theorem setCat_aq (s : State) (a : Nat) (x : CatUnit) : (s.setCat a x).aq = s.aq := rfl
@[simp] theorem setCat_qos (s : State) (a : Nat) (x : CatUnit) : (s.setCat a x).qos = s.qos := rfl
@[simp] theorem setCat_bonds (s : State) (a : Nat) (x : CatUnit) : (s.setCat a x).bonds = s.bonds := rfl
@[simp] theorem setCat_psites (s : State) (a : Nat) (x : CatUnit) : (s.setCat a x).psites = s.psites := rfl
@[simp] theorem setCat_mesh_pumps (s : State) (a : Nat) (x : CatUnit) : (s.setCat a x).mesh.pumps = s.mesh.pumps := rfl
@[simp] theorem setCat_mesh_nextId (s : State) (a : Nat) (x : CatUnit) : (s.setCat a x).mesh.nextId = s.mesh.nextId := rfl
@[simp] theorem setCat_mesh_scheds (s : State) (a : Nat) (x : CatUnit) : (s.setCat a x).mesh.scheds = s.mesh.scheds := rfl
@[simp] theorem setCat_mesh_flights (s : State) (a : Nat) (x : CatUnit) : (s.setCat a x).mesh.flights = s.mesh.flights := rfl
@[simp] theorem setCat_mesh_landing (s : State) (a : Nat) (x : CatUnit) : (s.setCat a x).mesh.landing = s.mesh.landing := rfl
@[simp] theorem setCat_mesh_phases (s : State) (a : Nat) (x : CatUnit) : (s.setCat a x).mesh.phases = s.mesh.phases := rfl
/-- The entry set reads as set, and every other entry as before. -/
theorem cat_setCat (s : State) (a : Nat) (x : CatUnit) (j : Nat) : (s.setCat a x).cat j = if j = a then x else s.cat j := by
  by_cases h : j = a
  · subst h; simp [State.cat, State.setCat]
  · simp [State.cat, State.setCat, tget_tset_ne, h]

/-! ### setPump -/

@[simp] theorem setPump_pending (s : State) (a : Nat) (x : List PCmd) : (s.setPump a x).pending = s.pending := rfl
@[simp] theorem setPump_now (s : State) (a : Nat) (x : List PCmd) : (s.setPump a x).now = s.now := rfl
@[simp] theorem setPump_free (s : State) (a : Nat) (x : List PCmd) : (s.setPump a x).free = s.free := rfl
@[simp] theorem setPump_fuse (s : State) (a : Nat) (x : List PCmd) : (s.setPump a x).fuse = s.fuse := rfl
@[simp] theorem setPump_flash (s : State) (a : Nat) (x : List PCmd) : (s.setPump a x).flash = s.flash := rfl
@[simp] theorem setPump_boot (s : State) (a : Nat) (x : List PCmd) : (s.setPump a x).boot = s.boot := rfl
@[simp] theorem setPump_power (s : State) (a : Nat) (x : List PCmd) : (s.setPump a x).power = s.power := rfl
@[simp] theorem setPump_islands (s : State) (a : Nat) (x : List PCmd) : (s.setPump a x).islands = s.islands := rfl
@[simp] theorem setPump_sites (s : State) (a : Nat) (x : List PCmd) : (s.setPump a x).sites = s.sites := rfl
@[simp] theorem setPump_tiles (s : State) (a : Nat) (x : List PCmd) : (s.setPump a x).tiles = s.tiles := rfl
@[simp] theorem setPump_dist (s : State) (a : Nat) (x : List PCmd) : (s.setPump a x).dist = s.dist := rfl
@[simp] theorem setPump_mem (s : State) (a : Nat) (x : List PCmd) : (s.setPump a x).mem = s.mem := rfl
@[simp] theorem setPump_grans (s : State) (a : Nat) (x : List PCmd) : (s.setPump a x).grans = s.grans := rfl
@[simp] theorem setPump_tcmErrs (s : State) (a : Nat) (x : List PCmd) : (s.setPump a x).tcmErrs = s.tcmErrs := rfl
@[simp] theorem setPump_cistern (s : State) (a : Nat) (x : List PCmd) : (s.setPump a x).cistern = s.cistern := rfl
@[simp] theorem setPump_chans (s : State) (a : Nat) (x : List PCmd) : (s.setPump a x).chans = s.chans := rfl
@[simp] theorem setPump_hbms (s : State) (a : Nat) (x : List PCmd) : (s.setPump a x).hbms = s.hbms := rfl
@[simp] theorem setPump_seals (s : State) (a : Nat) (x : List PCmd) : (s.setPump a x).seals = s.seals := rfl
@[simp] theorem setPump_cores (s : State) (a : Nat) (x : List PCmd) : (s.setPump a x).cores = s.cores := rfl
@[simp] theorem setPump_mcores (s : State) (a : Nat) (x : List PCmd) : (s.setPump a x).mcores = s.mcores := rfl
@[simp] theorem setPump_host (s : State) (a : Nat) (x : List PCmd) : (s.setPump a x).host = s.host := rfl
@[simp] theorem setPump_out (s : State) (a : Nat) (x : List PCmd) : (s.setPump a x).out = s.out := rfl
@[simp] theorem setPump_tasks (s : State) (a : Nat) (x : List PCmd) : (s.setPump a x).tasks = s.tasks := rfl
@[simp] theorem setPump_nextTask (s : State) (a : Nat) (x : List PCmd) : (s.setPump a x).nextTask = s.nextTask := rfl
@[simp] theorem setPump_parts (s : State) (a : Nat) (x : List PCmd) : (s.setPump a x).parts = s.parts := rfl
@[simp] theorem setPump_svc (s : State) (a : Nat) (x : List PCmd) : (s.setPump a x).svc = s.svc := rfl
@[simp] theorem setPump_mgmt (s : State) (a : Nat) (x : List PCmd) : (s.setPump a x).mgmt = s.mgmt := rfl
@[simp] theorem setPump_sync (s : State) (a : Nat) (x : List PCmd) : (s.setPump a x).sync = s.sync := rfl
@[simp] theorem setPump_vane (s : State) (a : Nat) (x : List PCmd) : (s.setPump a x).vane = s.vane := rfl
@[simp] theorem setPump_coh (s : State) (a : Nat) (x : List PCmd) : (s.setPump a x).coh = s.coh := rfl
@[simp] theorem setPump_aq (s : State) (a : Nat) (x : List PCmd) : (s.setPump a x).aq = s.aq := rfl
@[simp] theorem setPump_qos (s : State) (a : Nat) (x : List PCmd) : (s.setPump a x).qos = s.qos := rfl
@[simp] theorem setPump_bonds (s : State) (a : Nat) (x : List PCmd) : (s.setPump a x).bonds = s.bonds := rfl
@[simp] theorem setPump_psites (s : State) (a : Nat) (x : List PCmd) : (s.setPump a x).psites = s.psites := rfl
@[simp] theorem setPump_mesh_nextId (s : State) (a : Nat) (x : List PCmd) : (s.setPump a x).mesh.nextId = s.mesh.nextId := rfl
@[simp] theorem setPump_mesh_cats (s : State) (a : Nat) (x : List PCmd) : (s.setPump a x).mesh.cats = s.mesh.cats := rfl
@[simp] theorem setPump_mesh_scheds (s : State) (a : Nat) (x : List PCmd) : (s.setPump a x).mesh.scheds = s.mesh.scheds := rfl
@[simp] theorem setPump_mesh_flights (s : State) (a : Nat) (x : List PCmd) : (s.setPump a x).mesh.flights = s.mesh.flights := rfl
@[simp] theorem setPump_mesh_landing (s : State) (a : Nat) (x : List PCmd) : (s.setPump a x).mesh.landing = s.mesh.landing := rfl
@[simp] theorem setPump_mesh_phases (s : State) (a : Nat) (x : List PCmd) : (s.setPump a x).mesh.phases = s.mesh.phases := rfl
/-- The entry set reads as set, and every other entry as before. -/
theorem pump_setPump (s : State) (a : Nat) (x : List PCmd) (j : Nat) : (s.setPump a x).pump j = if j = a then x else s.pump j := by
  by_cases h : j = a
  · subst h; simp [State.pump, State.setPump]
  · simp [State.pump, State.setPump, tget_tset_ne, h]

/-! ### setDir -/

@[simp] theorem setDir_pending (s : State) (a : Nat) (x : DirEnt) : (s.setDir a x).pending = s.pending := rfl
@[simp] theorem setDir_now (s : State) (a : Nat) (x : DirEnt) : (s.setDir a x).now = s.now := rfl
@[simp] theorem setDir_free (s : State) (a : Nat) (x : DirEnt) : (s.setDir a x).free = s.free := rfl
@[simp] theorem setDir_fuse (s : State) (a : Nat) (x : DirEnt) : (s.setDir a x).fuse = s.fuse := rfl
@[simp] theorem setDir_flash (s : State) (a : Nat) (x : DirEnt) : (s.setDir a x).flash = s.flash := rfl
@[simp] theorem setDir_boot (s : State) (a : Nat) (x : DirEnt) : (s.setDir a x).boot = s.boot := rfl
@[simp] theorem setDir_power (s : State) (a : Nat) (x : DirEnt) : (s.setDir a x).power = s.power := rfl
@[simp] theorem setDir_islands (s : State) (a : Nat) (x : DirEnt) : (s.setDir a x).islands = s.islands := rfl
@[simp] theorem setDir_sites (s : State) (a : Nat) (x : DirEnt) : (s.setDir a x).sites = s.sites := rfl
@[simp] theorem setDir_tiles (s : State) (a : Nat) (x : DirEnt) : (s.setDir a x).tiles = s.tiles := rfl
@[simp] theorem setDir_dist (s : State) (a : Nat) (x : DirEnt) : (s.setDir a x).dist = s.dist := rfl
@[simp] theorem setDir_mem (s : State) (a : Nat) (x : DirEnt) : (s.setDir a x).mem = s.mem := rfl
@[simp] theorem setDir_grans (s : State) (a : Nat) (x : DirEnt) : (s.setDir a x).grans = s.grans := rfl
@[simp] theorem setDir_tcmErrs (s : State) (a : Nat) (x : DirEnt) : (s.setDir a x).tcmErrs = s.tcmErrs := rfl
@[simp] theorem setDir_cistern (s : State) (a : Nat) (x : DirEnt) : (s.setDir a x).cistern = s.cistern := rfl
@[simp] theorem setDir_chans (s : State) (a : Nat) (x : DirEnt) : (s.setDir a x).chans = s.chans := rfl
@[simp] theorem setDir_hbms (s : State) (a : Nat) (x : DirEnt) : (s.setDir a x).hbms = s.hbms := rfl
@[simp] theorem setDir_seals (s : State) (a : Nat) (x : DirEnt) : (s.setDir a x).seals = s.seals := rfl
@[simp] theorem setDir_cores (s : State) (a : Nat) (x : DirEnt) : (s.setDir a x).cores = s.cores := rfl
@[simp] theorem setDir_mcores (s : State) (a : Nat) (x : DirEnt) : (s.setDir a x).mcores = s.mcores := rfl
@[simp] theorem setDir_host (s : State) (a : Nat) (x : DirEnt) : (s.setDir a x).host = s.host := rfl
@[simp] theorem setDir_out (s : State) (a : Nat) (x : DirEnt) : (s.setDir a x).out = s.out := rfl
@[simp] theorem setDir_tasks (s : State) (a : Nat) (x : DirEnt) : (s.setDir a x).tasks = s.tasks := rfl
@[simp] theorem setDir_nextTask (s : State) (a : Nat) (x : DirEnt) : (s.setDir a x).nextTask = s.nextTask := rfl
@[simp] theorem setDir_parts (s : State) (a : Nat) (x : DirEnt) : (s.setDir a x).parts = s.parts := rfl
@[simp] theorem setDir_svc (s : State) (a : Nat) (x : DirEnt) : (s.setDir a x).svc = s.svc := rfl
@[simp] theorem setDir_mgmt (s : State) (a : Nat) (x : DirEnt) : (s.setDir a x).mgmt = s.mgmt := rfl
@[simp] theorem setDir_sync (s : State) (a : Nat) (x : DirEnt) : (s.setDir a x).sync = s.sync := rfl
@[simp] theorem setDir_vane (s : State) (a : Nat) (x : DirEnt) : (s.setDir a x).vane = s.vane := rfl
@[simp] theorem setDir_mesh (s : State) (a : Nat) (x : DirEnt) : (s.setDir a x).mesh = s.mesh := rfl
@[simp] theorem setDir_aq (s : State) (a : Nat) (x : DirEnt) : (s.setDir a x).aq = s.aq := rfl
@[simp] theorem setDir_qos (s : State) (a : Nat) (x : DirEnt) : (s.setDir a x).qos = s.qos := rfl
@[simp] theorem setDir_bonds (s : State) (a : Nat) (x : DirEnt) : (s.setDir a x).bonds = s.bonds := rfl
@[simp] theorem setDir_psites (s : State) (a : Nat) (x : DirEnt) : (s.setDir a x).psites = s.psites := rfl
@[simp] theorem setDir_coh_ents (s : State) (a : Nat) (x : DirEnt) : (s.setDir a x).coh.ents = s.coh.ents := rfl
@[simp] theorem setDir_coh_ctls (s : State) (a : Nat) (x : DirEnt) : (s.setDir a x).coh.ctls = s.coh.ctls := rfl
@[simp] theorem setDir_coh_msgs (s : State) (a : Nat) (x : DirEnt) : (s.setDir a x).coh.msgs = s.coh.msgs := rfl
@[simp] theorem setDir_coh_waiting (s : State) (a : Nat) (x : DirEnt) : (s.setDir a x).coh.waiting = s.coh.waiting := rfl
@[simp] theorem setDir_coh_cancelled (s : State) (a : Nat) (x : DirEnt) : (s.setDir a x).coh.cancelled = s.coh.cancelled := rfl
@[simp] theorem setDir_coh_ages (s : State) (a : Nat) (x : DirEnt) : (s.setDir a x).coh.ages = s.coh.ages := rfl
@[simp] theorem setDir_coh_refused (s : State) (a : Nat) (x : DirEnt) : (s.setDir a x).coh.refused = s.coh.refused := rfl
@[simp] theorem setDir_coh_partners (s : State) (a : Nat) (x : DirEnt) : (s.setDir a x).coh.partners = s.coh.partners := rfl
/-- The entry set reads as set, and every other entry as before. -/
theorem dirEnt_setDir (s : State) (a : Nat) (x : DirEnt) (j : Nat) : (s.setDir a x).dirEnt j = if j = a then x else s.dirEnt j := by
  by_cases h : j = a
  · subst h; simp [State.dirEnt, State.setDir]
  · simp [State.dirEnt, State.setDir, tget_tset_ne, h]

/-! ### setCtl -/

@[simp] theorem setCtl_pending (s : State) (a : Nat) (x : CacheCtl) : (s.setCtl a x).pending = s.pending := rfl
@[simp] theorem setCtl_now (s : State) (a : Nat) (x : CacheCtl) : (s.setCtl a x).now = s.now := rfl
@[simp] theorem setCtl_free (s : State) (a : Nat) (x : CacheCtl) : (s.setCtl a x).free = s.free := rfl
@[simp] theorem setCtl_fuse (s : State) (a : Nat) (x : CacheCtl) : (s.setCtl a x).fuse = s.fuse := rfl
@[simp] theorem setCtl_flash (s : State) (a : Nat) (x : CacheCtl) : (s.setCtl a x).flash = s.flash := rfl
@[simp] theorem setCtl_boot (s : State) (a : Nat) (x : CacheCtl) : (s.setCtl a x).boot = s.boot := rfl
@[simp] theorem setCtl_power (s : State) (a : Nat) (x : CacheCtl) : (s.setCtl a x).power = s.power := rfl
@[simp] theorem setCtl_islands (s : State) (a : Nat) (x : CacheCtl) : (s.setCtl a x).islands = s.islands := rfl
@[simp] theorem setCtl_sites (s : State) (a : Nat) (x : CacheCtl) : (s.setCtl a x).sites = s.sites := rfl
@[simp] theorem setCtl_tiles (s : State) (a : Nat) (x : CacheCtl) : (s.setCtl a x).tiles = s.tiles := rfl
@[simp] theorem setCtl_dist (s : State) (a : Nat) (x : CacheCtl) : (s.setCtl a x).dist = s.dist := rfl
@[simp] theorem setCtl_mem (s : State) (a : Nat) (x : CacheCtl) : (s.setCtl a x).mem = s.mem := rfl
@[simp] theorem setCtl_grans (s : State) (a : Nat) (x : CacheCtl) : (s.setCtl a x).grans = s.grans := rfl
@[simp] theorem setCtl_tcmErrs (s : State) (a : Nat) (x : CacheCtl) : (s.setCtl a x).tcmErrs = s.tcmErrs := rfl
@[simp] theorem setCtl_cistern (s : State) (a : Nat) (x : CacheCtl) : (s.setCtl a x).cistern = s.cistern := rfl
@[simp] theorem setCtl_chans (s : State) (a : Nat) (x : CacheCtl) : (s.setCtl a x).chans = s.chans := rfl
@[simp] theorem setCtl_hbms (s : State) (a : Nat) (x : CacheCtl) : (s.setCtl a x).hbms = s.hbms := rfl
@[simp] theorem setCtl_seals (s : State) (a : Nat) (x : CacheCtl) : (s.setCtl a x).seals = s.seals := rfl
@[simp] theorem setCtl_cores (s : State) (a : Nat) (x : CacheCtl) : (s.setCtl a x).cores = s.cores := rfl
@[simp] theorem setCtl_mcores (s : State) (a : Nat) (x : CacheCtl) : (s.setCtl a x).mcores = s.mcores := rfl
@[simp] theorem setCtl_host (s : State) (a : Nat) (x : CacheCtl) : (s.setCtl a x).host = s.host := rfl
@[simp] theorem setCtl_out (s : State) (a : Nat) (x : CacheCtl) : (s.setCtl a x).out = s.out := rfl
@[simp] theorem setCtl_tasks (s : State) (a : Nat) (x : CacheCtl) : (s.setCtl a x).tasks = s.tasks := rfl
@[simp] theorem setCtl_nextTask (s : State) (a : Nat) (x : CacheCtl) : (s.setCtl a x).nextTask = s.nextTask := rfl
@[simp] theorem setCtl_parts (s : State) (a : Nat) (x : CacheCtl) : (s.setCtl a x).parts = s.parts := rfl
@[simp] theorem setCtl_svc (s : State) (a : Nat) (x : CacheCtl) : (s.setCtl a x).svc = s.svc := rfl
@[simp] theorem setCtl_mgmt (s : State) (a : Nat) (x : CacheCtl) : (s.setCtl a x).mgmt = s.mgmt := rfl
@[simp] theorem setCtl_sync (s : State) (a : Nat) (x : CacheCtl) : (s.setCtl a x).sync = s.sync := rfl
@[simp] theorem setCtl_vane (s : State) (a : Nat) (x : CacheCtl) : (s.setCtl a x).vane = s.vane := rfl
@[simp] theorem setCtl_mesh (s : State) (a : Nat) (x : CacheCtl) : (s.setCtl a x).mesh = s.mesh := rfl
@[simp] theorem setCtl_aq (s : State) (a : Nat) (x : CacheCtl) : (s.setCtl a x).aq = s.aq := rfl
@[simp] theorem setCtl_qos (s : State) (a : Nat) (x : CacheCtl) : (s.setCtl a x).qos = s.qos := rfl
@[simp] theorem setCtl_bonds (s : State) (a : Nat) (x : CacheCtl) : (s.setCtl a x).bonds = s.bonds := rfl
@[simp] theorem setCtl_psites (s : State) (a : Nat) (x : CacheCtl) : (s.setCtl a x).psites = s.psites := rfl
@[simp] theorem setCtl_coh_dir (s : State) (a : Nat) (x : CacheCtl) : (s.setCtl a x).coh.dir = s.coh.dir := rfl
@[simp] theorem setCtl_coh_ents (s : State) (a : Nat) (x : CacheCtl) : (s.setCtl a x).coh.ents = s.coh.ents := rfl
@[simp] theorem setCtl_coh_msgs (s : State) (a : Nat) (x : CacheCtl) : (s.setCtl a x).coh.msgs = s.coh.msgs := rfl
@[simp] theorem setCtl_coh_waiting (s : State) (a : Nat) (x : CacheCtl) : (s.setCtl a x).coh.waiting = s.coh.waiting := rfl
@[simp] theorem setCtl_coh_cancelled (s : State) (a : Nat) (x : CacheCtl) : (s.setCtl a x).coh.cancelled = s.coh.cancelled := rfl
@[simp] theorem setCtl_coh_ages (s : State) (a : Nat) (x : CacheCtl) : (s.setCtl a x).coh.ages = s.coh.ages := rfl
@[simp] theorem setCtl_coh_refused (s : State) (a : Nat) (x : CacheCtl) : (s.setCtl a x).coh.refused = s.coh.refused := rfl
@[simp] theorem setCtl_coh_partners (s : State) (a : Nat) (x : CacheCtl) : (s.setCtl a x).coh.partners = s.coh.partners := rfl
/-- The entry set reads as set, and every other entry as before. -/
theorem ctl_setCtl (s : State) (a : Nat) (x : CacheCtl) (j : Nat) : (s.setCtl a x).ctl j = if j = a then x else s.ctl j := by
  by_cases h : j = a
  · subst h; simp [State.ctl, State.setCtl]
  · simp [State.ctl, State.setCtl, tget_tset_ne, h]

/-! ### setCellErr -/

@[simp] theorem setCellErr_pending (s : State) (a : Nat) (x : Gran) : (s.setCellErr a x).pending = s.pending := rfl
@[simp] theorem setCellErr_now (s : State) (a : Nat) (x : Gran) : (s.setCellErr a x).now = s.now := rfl
@[simp] theorem setCellErr_free (s : State) (a : Nat) (x : Gran) : (s.setCellErr a x).free = s.free := rfl
@[simp] theorem setCellErr_fuse (s : State) (a : Nat) (x : Gran) : (s.setCellErr a x).fuse = s.fuse := rfl
@[simp] theorem setCellErr_flash (s : State) (a : Nat) (x : Gran) : (s.setCellErr a x).flash = s.flash := rfl
@[simp] theorem setCellErr_boot (s : State) (a : Nat) (x : Gran) : (s.setCellErr a x).boot = s.boot := rfl
@[simp] theorem setCellErr_power (s : State) (a : Nat) (x : Gran) : (s.setCellErr a x).power = s.power := rfl
@[simp] theorem setCellErr_islands (s : State) (a : Nat) (x : Gran) : (s.setCellErr a x).islands = s.islands := rfl
@[simp] theorem setCellErr_sites (s : State) (a : Nat) (x : Gran) : (s.setCellErr a x).sites = s.sites := rfl
@[simp] theorem setCellErr_tiles (s : State) (a : Nat) (x : Gran) : (s.setCellErr a x).tiles = s.tiles := rfl
@[simp] theorem setCellErr_dist (s : State) (a : Nat) (x : Gran) : (s.setCellErr a x).dist = s.dist := rfl
@[simp] theorem setCellErr_mem (s : State) (a : Nat) (x : Gran) : (s.setCellErr a x).mem = s.mem := rfl
@[simp] theorem setCellErr_grans (s : State) (a : Nat) (x : Gran) : (s.setCellErr a x).grans = s.grans := rfl
@[simp] theorem setCellErr_tcmErrs (s : State) (a : Nat) (x : Gran) : (s.setCellErr a x).tcmErrs = s.tcmErrs := rfl
@[simp] theorem setCellErr_cistern (s : State) (a : Nat) (x : Gran) : (s.setCellErr a x).cistern = s.cistern := rfl
@[simp] theorem setCellErr_chans (s : State) (a : Nat) (x : Gran) : (s.setCellErr a x).chans = s.chans := rfl
@[simp] theorem setCellErr_hbms (s : State) (a : Nat) (x : Gran) : (s.setCellErr a x).hbms = s.hbms := rfl
@[simp] theorem setCellErr_seals (s : State) (a : Nat) (x : Gran) : (s.setCellErr a x).seals = s.seals := rfl
@[simp] theorem setCellErr_cores (s : State) (a : Nat) (x : Gran) : (s.setCellErr a x).cores = s.cores := rfl
@[simp] theorem setCellErr_mcores (s : State) (a : Nat) (x : Gran) : (s.setCellErr a x).mcores = s.mcores := rfl
@[simp] theorem setCellErr_host (s : State) (a : Nat) (x : Gran) : (s.setCellErr a x).host = s.host := rfl
@[simp] theorem setCellErr_out (s : State) (a : Nat) (x : Gran) : (s.setCellErr a x).out = s.out := rfl
@[simp] theorem setCellErr_tasks (s : State) (a : Nat) (x : Gran) : (s.setCellErr a x).tasks = s.tasks := rfl
@[simp] theorem setCellErr_nextTask (s : State) (a : Nat) (x : Gran) : (s.setCellErr a x).nextTask = s.nextTask := rfl
@[simp] theorem setCellErr_parts (s : State) (a : Nat) (x : Gran) : (s.setCellErr a x).parts = s.parts := rfl
@[simp] theorem setCellErr_svc (s : State) (a : Nat) (x : Gran) : (s.setCellErr a x).svc = s.svc := rfl
@[simp] theorem setCellErr_mgmt (s : State) (a : Nat) (x : Gran) : (s.setCellErr a x).mgmt = s.mgmt := rfl
@[simp] theorem setCellErr_vane (s : State) (a : Nat) (x : Gran) : (s.setCellErr a x).vane = s.vane := rfl
@[simp] theorem setCellErr_mesh (s : State) (a : Nat) (x : Gran) : (s.setCellErr a x).mesh = s.mesh := rfl
@[simp] theorem setCellErr_coh (s : State) (a : Nat) (x : Gran) : (s.setCellErr a x).coh = s.coh := rfl
@[simp] theorem setCellErr_aq (s : State) (a : Nat) (x : Gran) : (s.setCellErr a x).aq = s.aq := rfl
@[simp] theorem setCellErr_qos (s : State) (a : Nat) (x : Gran) : (s.setCellErr a x).qos = s.qos := rfl
@[simp] theorem setCellErr_bonds (s : State) (a : Nat) (x : Gran) : (s.setCellErr a x).bonds = s.bonds := rfl
@[simp] theorem setCellErr_psites (s : State) (a : Nat) (x : Gran) : (s.setCellErr a x).psites = s.psites := rfl
@[simp] theorem setCellErr_sync_cells (s : State) (a : Nat) (x : Gran) : (s.setCellErr a x).sync.cells = s.sync.cells := rfl
@[simp] theorem setCellErr_sync_regions (s : State) (a : Nat) (x : Gran) : (s.setCellErr a x).sync.regions = s.sync.regions := rfl
@[simp] theorem setCellErr_sync_table (s : State) (a : Nat) (x : Gran) : (s.setCellErr a x).sync.table = s.sync.table := rfl
@[simp] theorem setCellErr_sync_queued (s : State) (a : Nat) (x : Gran) : (s.setCellErr a x).sync.queued = s.sync.queued := rfl
@[simp] theorem setCellErr_sync_wakes (s : State) (a : Nat) (x : Gran) : (s.setCellErr a x).sync.wakes = s.sync.wakes := rfl
/-- The entry set reads as set, and every other entry as before. -/
theorem cellErr_setCellErr (s : State) (a : Nat) (x : Gran) (j : Nat) : (s.setCellErr a x).cellErr j = if j = a then x else s.cellErr j := by
  by_cases h : j = a
  · subst h; simp [State.cellErr, State.setCellErr]
  · simp [State.cellErr, State.setCellErr, tget_tset_ne, h]

/-! ### setPort -/

@[simp] theorem setPort_pending (s : State) (a : Nat) (x : AqPort) : (s.setPort a x).pending = s.pending := rfl
@[simp] theorem setPort_now (s : State) (a : Nat) (x : AqPort) : (s.setPort a x).now = s.now := rfl
@[simp] theorem setPort_free (s : State) (a : Nat) (x : AqPort) : (s.setPort a x).free = s.free := rfl
@[simp] theorem setPort_fuse (s : State) (a : Nat) (x : AqPort) : (s.setPort a x).fuse = s.fuse := rfl
@[simp] theorem setPort_flash (s : State) (a : Nat) (x : AqPort) : (s.setPort a x).flash = s.flash := rfl
@[simp] theorem setPort_boot (s : State) (a : Nat) (x : AqPort) : (s.setPort a x).boot = s.boot := rfl
@[simp] theorem setPort_power (s : State) (a : Nat) (x : AqPort) : (s.setPort a x).power = s.power := rfl
@[simp] theorem setPort_islands (s : State) (a : Nat) (x : AqPort) : (s.setPort a x).islands = s.islands := rfl
@[simp] theorem setPort_sites (s : State) (a : Nat) (x : AqPort) : (s.setPort a x).sites = s.sites := rfl
@[simp] theorem setPort_tiles (s : State) (a : Nat) (x : AqPort) : (s.setPort a x).tiles = s.tiles := rfl
@[simp] theorem setPort_dist (s : State) (a : Nat) (x : AqPort) : (s.setPort a x).dist = s.dist := rfl
@[simp] theorem setPort_mem (s : State) (a : Nat) (x : AqPort) : (s.setPort a x).mem = s.mem := rfl
@[simp] theorem setPort_grans (s : State) (a : Nat) (x : AqPort) : (s.setPort a x).grans = s.grans := rfl
@[simp] theorem setPort_tcmErrs (s : State) (a : Nat) (x : AqPort) : (s.setPort a x).tcmErrs = s.tcmErrs := rfl
@[simp] theorem setPort_cistern (s : State) (a : Nat) (x : AqPort) : (s.setPort a x).cistern = s.cistern := rfl
@[simp] theorem setPort_chans (s : State) (a : Nat) (x : AqPort) : (s.setPort a x).chans = s.chans := rfl
@[simp] theorem setPort_hbms (s : State) (a : Nat) (x : AqPort) : (s.setPort a x).hbms = s.hbms := rfl
@[simp] theorem setPort_seals (s : State) (a : Nat) (x : AqPort) : (s.setPort a x).seals = s.seals := rfl
@[simp] theorem setPort_cores (s : State) (a : Nat) (x : AqPort) : (s.setPort a x).cores = s.cores := rfl
@[simp] theorem setPort_mcores (s : State) (a : Nat) (x : AqPort) : (s.setPort a x).mcores = s.mcores := rfl
@[simp] theorem setPort_host (s : State) (a : Nat) (x : AqPort) : (s.setPort a x).host = s.host := rfl
@[simp] theorem setPort_out (s : State) (a : Nat) (x : AqPort) : (s.setPort a x).out = s.out := rfl
@[simp] theorem setPort_tasks (s : State) (a : Nat) (x : AqPort) : (s.setPort a x).tasks = s.tasks := rfl
@[simp] theorem setPort_nextTask (s : State) (a : Nat) (x : AqPort) : (s.setPort a x).nextTask = s.nextTask := rfl
@[simp] theorem setPort_parts (s : State) (a : Nat) (x : AqPort) : (s.setPort a x).parts = s.parts := rfl
@[simp] theorem setPort_svc (s : State) (a : Nat) (x : AqPort) : (s.setPort a x).svc = s.svc := rfl
@[simp] theorem setPort_mgmt (s : State) (a : Nat) (x : AqPort) : (s.setPort a x).mgmt = s.mgmt := rfl
@[simp] theorem setPort_sync (s : State) (a : Nat) (x : AqPort) : (s.setPort a x).sync = s.sync := rfl
@[simp] theorem setPort_vane (s : State) (a : Nat) (x : AqPort) : (s.setPort a x).vane = s.vane := rfl
@[simp] theorem setPort_mesh (s : State) (a : Nat) (x : AqPort) : (s.setPort a x).mesh = s.mesh := rfl
@[simp] theorem setPort_coh (s : State) (a : Nat) (x : AqPort) : (s.setPort a x).coh = s.coh := rfl
@[simp] theorem setPort_qos (s : State) (a : Nat) (x : AqPort) : (s.setPort a x).qos = s.qos := rfl
@[simp] theorem setPort_bonds (s : State) (a : Nat) (x : AqPort) : (s.setPort a x).bonds = s.bonds := rfl
@[simp] theorem setPort_psites (s : State) (a : Nat) (x : AqPort) : (s.setPort a x).psites = s.psites := rfl
@[simp] theorem setPort_aq_modid (s : State) (a : Nat) (x : AqPort) : (s.setPort a x).aq.modid = s.aq.modid := rfl
@[simp] theorem setPort_aq_valid (s : State) (a : Nat) (x : AqPort) : (s.setPort a x).aq.valid = s.aq.valid := rfl
@[simp] theorem setPort_aq_reqs (s : State) (a : Nat) (x : AqPort) : (s.setPort a x).aq.reqs = s.aq.reqs := rfl
@[simp] theorem setPort_aq_nextTag (s : State) (a : Nat) (x : AqPort) : (s.setPort a x).aq.nextTag = s.aq.nextTag := rfl
@[simp] theorem setPort_aq_expiry (s : State) (a : Nat) (x : AqPort) : (s.setPort a x).aq.expiry = s.aq.expiry := rfl
@[simp] theorem setPort_aq_far (s : State) (a : Nat) (x : AqPort) : (s.setPort a x).aq.far = s.aq.far := rfl
@[simp] theorem setPort_aq_groups (s : State) (a : Nat) (x : AqPort) : (s.setPort a x).aq.groups = s.aq.groups := rfl
@[simp] theorem setPort_aq_slow (s : State) (a : Nat) (x : AqPort) : (s.setPort a x).aq.slow = s.aq.slow := rfl
/-- The entry set reads as set, and every other entry as before. -/
theorem port_setPort (s : State) (a : Nat) (x : AqPort) (j : Nat) : (s.setPort a x).port j = if j = a then x else s.port j := by
  by_cases h : j = a
  · subst h; simp [State.port, State.setPort]
  · simp [State.port, State.setPort, tget_tset_ne, h]

/-! ### setBond -/

@[simp] theorem setBond_pending (s : State) (n p d : Nat) (x : BondDir) : (s.setBond n p d x).pending = s.pending := rfl
@[simp] theorem setBond_now (s : State) (n p d : Nat) (x : BondDir) : (s.setBond n p d x).now = s.now := rfl
@[simp] theorem setBond_free (s : State) (n p d : Nat) (x : BondDir) : (s.setBond n p d x).free = s.free := rfl
@[simp] theorem setBond_fuse (s : State) (n p d : Nat) (x : BondDir) : (s.setBond n p d x).fuse = s.fuse := rfl
@[simp] theorem setBond_flash (s : State) (n p d : Nat) (x : BondDir) : (s.setBond n p d x).flash = s.flash := rfl
@[simp] theorem setBond_boot (s : State) (n p d : Nat) (x : BondDir) : (s.setBond n p d x).boot = s.boot := rfl
@[simp] theorem setBond_power (s : State) (n p d : Nat) (x : BondDir) : (s.setBond n p d x).power = s.power := rfl
@[simp] theorem setBond_islands (s : State) (n p d : Nat) (x : BondDir) : (s.setBond n p d x).islands = s.islands := rfl
@[simp] theorem setBond_sites (s : State) (n p d : Nat) (x : BondDir) : (s.setBond n p d x).sites = s.sites := rfl
@[simp] theorem setBond_tiles (s : State) (n p d : Nat) (x : BondDir) : (s.setBond n p d x).tiles = s.tiles := rfl
@[simp] theorem setBond_dist (s : State) (n p d : Nat) (x : BondDir) : (s.setBond n p d x).dist = s.dist := rfl
@[simp] theorem setBond_mem (s : State) (n p d : Nat) (x : BondDir) : (s.setBond n p d x).mem = s.mem := rfl
@[simp] theorem setBond_grans (s : State) (n p d : Nat) (x : BondDir) : (s.setBond n p d x).grans = s.grans := rfl
@[simp] theorem setBond_tcmErrs (s : State) (n p d : Nat) (x : BondDir) : (s.setBond n p d x).tcmErrs = s.tcmErrs := rfl
@[simp] theorem setBond_cistern (s : State) (n p d : Nat) (x : BondDir) : (s.setBond n p d x).cistern = s.cistern := rfl
@[simp] theorem setBond_chans (s : State) (n p d : Nat) (x : BondDir) : (s.setBond n p d x).chans = s.chans := rfl
@[simp] theorem setBond_hbms (s : State) (n p d : Nat) (x : BondDir) : (s.setBond n p d x).hbms = s.hbms := rfl
@[simp] theorem setBond_seals (s : State) (n p d : Nat) (x : BondDir) : (s.setBond n p d x).seals = s.seals := rfl
@[simp] theorem setBond_cores (s : State) (n p d : Nat) (x : BondDir) : (s.setBond n p d x).cores = s.cores := rfl
@[simp] theorem setBond_mcores (s : State) (n p d : Nat) (x : BondDir) : (s.setBond n p d x).mcores = s.mcores := rfl
@[simp] theorem setBond_host (s : State) (n p d : Nat) (x : BondDir) : (s.setBond n p d x).host = s.host := rfl
@[simp] theorem setBond_out (s : State) (n p d : Nat) (x : BondDir) : (s.setBond n p d x).out = s.out := rfl
@[simp] theorem setBond_tasks (s : State) (n p d : Nat) (x : BondDir) : (s.setBond n p d x).tasks = s.tasks := rfl
@[simp] theorem setBond_nextTask (s : State) (n p d : Nat) (x : BondDir) : (s.setBond n p d x).nextTask = s.nextTask := rfl
@[simp] theorem setBond_parts (s : State) (n p d : Nat) (x : BondDir) : (s.setBond n p d x).parts = s.parts := rfl
@[simp] theorem setBond_svc (s : State) (n p d : Nat) (x : BondDir) : (s.setBond n p d x).svc = s.svc := rfl
@[simp] theorem setBond_mgmt (s : State) (n p d : Nat) (x : BondDir) : (s.setBond n p d x).mgmt = s.mgmt := rfl
@[simp] theorem setBond_sync (s : State) (n p d : Nat) (x : BondDir) : (s.setBond n p d x).sync = s.sync := rfl
@[simp] theorem setBond_vane (s : State) (n p d : Nat) (x : BondDir) : (s.setBond n p d x).vane = s.vane := rfl
@[simp] theorem setBond_mesh (s : State) (n p d : Nat) (x : BondDir) : (s.setBond n p d x).mesh = s.mesh := rfl
@[simp] theorem setBond_coh (s : State) (n p d : Nat) (x : BondDir) : (s.setBond n p d x).coh = s.coh := rfl
@[simp] theorem setBond_aq (s : State) (n p d : Nat) (x : BondDir) : (s.setBond n p d x).aq = s.aq := rfl
@[simp] theorem setBond_qos (s : State) (n p d : Nat) (x : BondDir) : (s.setBond n p d x).qos = s.qos := rfl
@[simp] theorem setBond_psites (s : State) (n p d : Nat) (x : BondDir) : (s.setBond n p d x).psites = s.psites := rfl

/-! ### setCent -/

@[simp] theorem setCent_pending (s : State) (a e : Nat) (x : CacheEnt) : (s.setCent a e x).pending = s.pending := rfl
@[simp] theorem setCent_now (s : State) (a e : Nat) (x : CacheEnt) : (s.setCent a e x).now = s.now := rfl
@[simp] theorem setCent_free (s : State) (a e : Nat) (x : CacheEnt) : (s.setCent a e x).free = s.free := rfl
@[simp] theorem setCent_fuse (s : State) (a e : Nat) (x : CacheEnt) : (s.setCent a e x).fuse = s.fuse := rfl
@[simp] theorem setCent_flash (s : State) (a e : Nat) (x : CacheEnt) : (s.setCent a e x).flash = s.flash := rfl
@[simp] theorem setCent_boot (s : State) (a e : Nat) (x : CacheEnt) : (s.setCent a e x).boot = s.boot := rfl
@[simp] theorem setCent_power (s : State) (a e : Nat) (x : CacheEnt) : (s.setCent a e x).power = s.power := rfl
@[simp] theorem setCent_islands (s : State) (a e : Nat) (x : CacheEnt) : (s.setCent a e x).islands = s.islands := rfl
@[simp] theorem setCent_sites (s : State) (a e : Nat) (x : CacheEnt) : (s.setCent a e x).sites = s.sites := rfl
@[simp] theorem setCent_tiles (s : State) (a e : Nat) (x : CacheEnt) : (s.setCent a e x).tiles = s.tiles := rfl
@[simp] theorem setCent_dist (s : State) (a e : Nat) (x : CacheEnt) : (s.setCent a e x).dist = s.dist := rfl
@[simp] theorem setCent_mem (s : State) (a e : Nat) (x : CacheEnt) : (s.setCent a e x).mem = s.mem := rfl
@[simp] theorem setCent_grans (s : State) (a e : Nat) (x : CacheEnt) : (s.setCent a e x).grans = s.grans := rfl
@[simp] theorem setCent_tcmErrs (s : State) (a e : Nat) (x : CacheEnt) : (s.setCent a e x).tcmErrs = s.tcmErrs := rfl
@[simp] theorem setCent_cistern (s : State) (a e : Nat) (x : CacheEnt) : (s.setCent a e x).cistern = s.cistern := rfl
@[simp] theorem setCent_chans (s : State) (a e : Nat) (x : CacheEnt) : (s.setCent a e x).chans = s.chans := rfl
@[simp] theorem setCent_hbms (s : State) (a e : Nat) (x : CacheEnt) : (s.setCent a e x).hbms = s.hbms := rfl
@[simp] theorem setCent_seals (s : State) (a e : Nat) (x : CacheEnt) : (s.setCent a e x).seals = s.seals := rfl
@[simp] theorem setCent_cores (s : State) (a e : Nat) (x : CacheEnt) : (s.setCent a e x).cores = s.cores := rfl
@[simp] theorem setCent_mcores (s : State) (a e : Nat) (x : CacheEnt) : (s.setCent a e x).mcores = s.mcores := rfl
@[simp] theorem setCent_host (s : State) (a e : Nat) (x : CacheEnt) : (s.setCent a e x).host = s.host := rfl
@[simp] theorem setCent_out (s : State) (a e : Nat) (x : CacheEnt) : (s.setCent a e x).out = s.out := rfl
@[simp] theorem setCent_tasks (s : State) (a e : Nat) (x : CacheEnt) : (s.setCent a e x).tasks = s.tasks := rfl
@[simp] theorem setCent_nextTask (s : State) (a e : Nat) (x : CacheEnt) : (s.setCent a e x).nextTask = s.nextTask := rfl
@[simp] theorem setCent_parts (s : State) (a e : Nat) (x : CacheEnt) : (s.setCent a e x).parts = s.parts := rfl
@[simp] theorem setCent_svc (s : State) (a e : Nat) (x : CacheEnt) : (s.setCent a e x).svc = s.svc := rfl
@[simp] theorem setCent_mgmt (s : State) (a e : Nat) (x : CacheEnt) : (s.setCent a e x).mgmt = s.mgmt := rfl
@[simp] theorem setCent_sync (s : State) (a e : Nat) (x : CacheEnt) : (s.setCent a e x).sync = s.sync := rfl
@[simp] theorem setCent_vane (s : State) (a e : Nat) (x : CacheEnt) : (s.setCent a e x).vane = s.vane := rfl
@[simp] theorem setCent_mesh (s : State) (a e : Nat) (x : CacheEnt) : (s.setCent a e x).mesh = s.mesh := rfl
@[simp] theorem setCent_aq (s : State) (a e : Nat) (x : CacheEnt) : (s.setCent a e x).aq = s.aq := rfl
@[simp] theorem setCent_qos (s : State) (a e : Nat) (x : CacheEnt) : (s.setCent a e x).qos = s.qos := rfl
@[simp] theorem setCent_bonds (s : State) (a e : Nat) (x : CacheEnt) : (s.setCent a e x).bonds = s.bonds := rfl
@[simp] theorem setCent_psites (s : State) (a e : Nat) (x : CacheEnt) : (s.setCent a e x).psites = s.psites := rfl
@[simp] theorem setCent_coh_dir (s : State) (a e : Nat) (x : CacheEnt) : (s.setCent a e x).coh.dir = s.coh.dir := rfl
@[simp] theorem setCent_coh_ctls (s : State) (a e : Nat) (x : CacheEnt) : (s.setCent a e x).coh.ctls = s.coh.ctls := rfl
@[simp] theorem setCent_coh_msgs (s : State) (a e : Nat) (x : CacheEnt) : (s.setCent a e x).coh.msgs = s.coh.msgs := rfl
@[simp] theorem setCent_coh_waiting (s : State) (a e : Nat) (x : CacheEnt) : (s.setCent a e x).coh.waiting = s.coh.waiting := rfl
@[simp] theorem setCent_coh_cancelled (s : State) (a e : Nat) (x : CacheEnt) : (s.setCent a e x).coh.cancelled = s.coh.cancelled := rfl
@[simp] theorem setCent_coh_ages (s : State) (a e : Nat) (x : CacheEnt) : (s.setCent a e x).coh.ages = s.coh.ages := rfl
@[simp] theorem setCent_coh_refused (s : State) (a e : Nat) (x : CacheEnt) : (s.setCent a e x).coh.refused = s.coh.refused := rfl
@[simp] theorem setCent_coh_partners (s : State) (a e : Nat) (x : CacheEnt) : (s.setCent a e x).coh.partners = s.coh.partners := rfl

/-! ### setReg -/

@[simp] theorem setReg_pending (s : State) (b o v : Nat) : (s.setReg b o v).pending = s.pending := rfl
@[simp] theorem setReg_now (s : State) (b o v : Nat) : (s.setReg b o v).now = s.now := rfl
@[simp] theorem setReg_free (s : State) (b o v : Nat) : (s.setReg b o v).free = s.free := rfl
@[simp] theorem setReg_fuse (s : State) (b o v : Nat) : (s.setReg b o v).fuse = s.fuse := rfl
@[simp] theorem setReg_flash (s : State) (b o v : Nat) : (s.setReg b o v).flash = s.flash := rfl
@[simp] theorem setReg_boot (s : State) (b o v : Nat) : (s.setReg b o v).boot = s.boot := rfl
@[simp] theorem setReg_power (s : State) (b o v : Nat) : (s.setReg b o v).power = s.power := rfl
@[simp] theorem setReg_islands (s : State) (b o v : Nat) : (s.setReg b o v).islands = s.islands := rfl
@[simp] theorem setReg_sites (s : State) (b o v : Nat) : (s.setReg b o v).sites = s.sites := rfl
@[simp] theorem setReg_tiles (s : State) (b o v : Nat) : (s.setReg b o v).tiles = s.tiles := rfl
@[simp] theorem setReg_dist (s : State) (b o v : Nat) : (s.setReg b o v).dist = s.dist := rfl
@[simp] theorem setReg_mem (s : State) (b o v : Nat) : (s.setReg b o v).mem = s.mem := rfl
@[simp] theorem setReg_grans (s : State) (b o v : Nat) : (s.setReg b o v).grans = s.grans := rfl
@[simp] theorem setReg_tcmErrs (s : State) (b o v : Nat) : (s.setReg b o v).tcmErrs = s.tcmErrs := rfl
@[simp] theorem setReg_cistern (s : State) (b o v : Nat) : (s.setReg b o v).cistern = s.cistern := rfl
@[simp] theorem setReg_chans (s : State) (b o v : Nat) : (s.setReg b o v).chans = s.chans := rfl
@[simp] theorem setReg_hbms (s : State) (b o v : Nat) : (s.setReg b o v).hbms = s.hbms := rfl
@[simp] theorem setReg_seals (s : State) (b o v : Nat) : (s.setReg b o v).seals = s.seals := rfl
@[simp] theorem setReg_cores (s : State) (b o v : Nat) : (s.setReg b o v).cores = s.cores := rfl
@[simp] theorem setReg_mcores (s : State) (b o v : Nat) : (s.setReg b o v).mcores = s.mcores := rfl
@[simp] theorem setReg_out (s : State) (b o v : Nat) : (s.setReg b o v).out = s.out := rfl
@[simp] theorem setReg_tasks (s : State) (b o v : Nat) : (s.setReg b o v).tasks = s.tasks := rfl
@[simp] theorem setReg_nextTask (s : State) (b o v : Nat) : (s.setReg b o v).nextTask = s.nextTask := rfl
@[simp] theorem setReg_parts (s : State) (b o v : Nat) : (s.setReg b o v).parts = s.parts := rfl
@[simp] theorem setReg_svc (s : State) (b o v : Nat) : (s.setReg b o v).svc = s.svc := rfl
@[simp] theorem setReg_mgmt (s : State) (b o v : Nat) : (s.setReg b o v).mgmt = s.mgmt := rfl
@[simp] theorem setReg_sync (s : State) (b o v : Nat) : (s.setReg b o v).sync = s.sync := rfl
@[simp] theorem setReg_vane (s : State) (b o v : Nat) : (s.setReg b o v).vane = s.vane := rfl
@[simp] theorem setReg_mesh (s : State) (b o v : Nat) : (s.setReg b o v).mesh = s.mesh := rfl
@[simp] theorem setReg_coh (s : State) (b o v : Nat) : (s.setReg b o v).coh = s.coh := rfl
@[simp] theorem setReg_aq (s : State) (b o v : Nat) : (s.setReg b o v).aq = s.aq := rfl
@[simp] theorem setReg_qos (s : State) (b o v : Nat) : (s.setReg b o v).qos = s.qos := rfl
@[simp] theorem setReg_bonds (s : State) (b o v : Nat) : (s.setReg b o v).bonds = s.bonds := rfl
@[simp] theorem setReg_psites (s : State) (b o v : Nat) : (s.setReg b o v).psites = s.psites := rfl
@[simp] theorem setReg_host_stag (s : State) (b o v : Nat) : (s.setReg b o v).host.stag = s.host.stag := rfl
@[simp] theorem setReg_host_units (s : State) (b o v : Nat) : (s.setReg b o v).host.units = s.host.units := rfl
@[simp] theorem setReg_host_rings (s : State) (b o v : Nat) : (s.setReg b o v).host.rings = s.host.rings := rfl
@[simp] theorem setReg_host_cmds (s : State) (b o v : Nat) : (s.setReg b o v).host.cmds = s.host.cmds := rfl
@[simp] theorem setReg_host_nextId (s : State) (b o v : Nat) : (s.setReg b o v).host.nextId = s.host.nextId := rfl
@[simp] theorem setReg_host_evbuf (s : State) (b o v : Nat) : (s.setReg b o v).host.evbuf = s.host.evbuf := rfl
@[simp] theorem setReg_host_unmasked (s : State) (b o v : Nat) : (s.setReg b o v).host.unmasked = s.host.unmasked := rfl
@[simp] theorem setReg_host_pba (s : State) (b o v : Nat) : (s.setReg b o v).host.pba = s.host.pba := rfl
@[simp] theorem setReg_host_arms (s : State) (b o v : Nat) : (s.setReg b o v).host.arms = s.host.arms := rfl

/-! ### setStaged -/

@[simp] theorem setStaged_pending (s : State) (b o v : Nat) : (s.setStaged b o v).pending = s.pending := rfl
@[simp] theorem setStaged_now (s : State) (b o v : Nat) : (s.setStaged b o v).now = s.now := rfl
@[simp] theorem setStaged_free (s : State) (b o v : Nat) : (s.setStaged b o v).free = s.free := rfl
@[simp] theorem setStaged_fuse (s : State) (b o v : Nat) : (s.setStaged b o v).fuse = s.fuse := rfl
@[simp] theorem setStaged_flash (s : State) (b o v : Nat) : (s.setStaged b o v).flash = s.flash := rfl
@[simp] theorem setStaged_boot (s : State) (b o v : Nat) : (s.setStaged b o v).boot = s.boot := rfl
@[simp] theorem setStaged_power (s : State) (b o v : Nat) : (s.setStaged b o v).power = s.power := rfl
@[simp] theorem setStaged_islands (s : State) (b o v : Nat) : (s.setStaged b o v).islands = s.islands := rfl
@[simp] theorem setStaged_sites (s : State) (b o v : Nat) : (s.setStaged b o v).sites = s.sites := rfl
@[simp] theorem setStaged_tiles (s : State) (b o v : Nat) : (s.setStaged b o v).tiles = s.tiles := rfl
@[simp] theorem setStaged_dist (s : State) (b o v : Nat) : (s.setStaged b o v).dist = s.dist := rfl
@[simp] theorem setStaged_mem (s : State) (b o v : Nat) : (s.setStaged b o v).mem = s.mem := rfl
@[simp] theorem setStaged_grans (s : State) (b o v : Nat) : (s.setStaged b o v).grans = s.grans := rfl
@[simp] theorem setStaged_tcmErrs (s : State) (b o v : Nat) : (s.setStaged b o v).tcmErrs = s.tcmErrs := rfl
@[simp] theorem setStaged_cistern (s : State) (b o v : Nat) : (s.setStaged b o v).cistern = s.cistern := rfl
@[simp] theorem setStaged_chans (s : State) (b o v : Nat) : (s.setStaged b o v).chans = s.chans := rfl
@[simp] theorem setStaged_hbms (s : State) (b o v : Nat) : (s.setStaged b o v).hbms = s.hbms := rfl
@[simp] theorem setStaged_seals (s : State) (b o v : Nat) : (s.setStaged b o v).seals = s.seals := rfl
@[simp] theorem setStaged_cores (s : State) (b o v : Nat) : (s.setStaged b o v).cores = s.cores := rfl
@[simp] theorem setStaged_mcores (s : State) (b o v : Nat) : (s.setStaged b o v).mcores = s.mcores := rfl
@[simp] theorem setStaged_out (s : State) (b o v : Nat) : (s.setStaged b o v).out = s.out := rfl
@[simp] theorem setStaged_tasks (s : State) (b o v : Nat) : (s.setStaged b o v).tasks = s.tasks := rfl
@[simp] theorem setStaged_nextTask (s : State) (b o v : Nat) : (s.setStaged b o v).nextTask = s.nextTask := rfl
@[simp] theorem setStaged_parts (s : State) (b o v : Nat) : (s.setStaged b o v).parts = s.parts := rfl
@[simp] theorem setStaged_svc (s : State) (b o v : Nat) : (s.setStaged b o v).svc = s.svc := rfl
@[simp] theorem setStaged_mgmt (s : State) (b o v : Nat) : (s.setStaged b o v).mgmt = s.mgmt := rfl
@[simp] theorem setStaged_sync (s : State) (b o v : Nat) : (s.setStaged b o v).sync = s.sync := rfl
@[simp] theorem setStaged_vane (s : State) (b o v : Nat) : (s.setStaged b o v).vane = s.vane := rfl
@[simp] theorem setStaged_mesh (s : State) (b o v : Nat) : (s.setStaged b o v).mesh = s.mesh := rfl
@[simp] theorem setStaged_coh (s : State) (b o v : Nat) : (s.setStaged b o v).coh = s.coh := rfl
@[simp] theorem setStaged_aq (s : State) (b o v : Nat) : (s.setStaged b o v).aq = s.aq := rfl
@[simp] theorem setStaged_qos (s : State) (b o v : Nat) : (s.setStaged b o v).qos = s.qos := rfl
@[simp] theorem setStaged_bonds (s : State) (b o v : Nat) : (s.setStaged b o v).bonds = s.bonds := rfl
@[simp] theorem setStaged_psites (s : State) (b o v : Nat) : (s.setStaged b o v).psites = s.psites := rfl
@[simp] theorem setStaged_host_regs (s : State) (b o v : Nat) : (s.setStaged b o v).host.regs = s.host.regs := rfl
@[simp] theorem setStaged_host_units (s : State) (b o v : Nat) : (s.setStaged b o v).host.units = s.host.units := rfl
@[simp] theorem setStaged_host_rings (s : State) (b o v : Nat) : (s.setStaged b o v).host.rings = s.host.rings := rfl
@[simp] theorem setStaged_host_cmds (s : State) (b o v : Nat) : (s.setStaged b o v).host.cmds = s.host.cmds := rfl
@[simp] theorem setStaged_host_nextId (s : State) (b o v : Nat) : (s.setStaged b o v).host.nextId = s.host.nextId := rfl
@[simp] theorem setStaged_host_evbuf (s : State) (b o v : Nat) : (s.setStaged b o v).host.evbuf = s.host.evbuf := rfl
@[simp] theorem setStaged_host_unmasked (s : State) (b o v : Nat) : (s.setStaged b o v).host.unmasked = s.host.unmasked := rfl
@[simp] theorem setStaged_host_pba (s : State) (b o v : Nat) : (s.setStaged b o v).host.pba = s.host.pba := rfl
@[simp] theorem setStaged_host_arms (s : State) (b o v : Nat) : (s.setStaged b o v).host.arms = s.host.arms := rfl

/-! ### setGroup -/

@[simp] theorem setGroup_pending (s : State) (a : Nat) (x : Group) : (s.setGroup a x).pending = s.pending := rfl
@[simp] theorem setGroup_now (s : State) (a : Nat) (x : Group) : (s.setGroup a x).now = s.now := rfl
@[simp] theorem setGroup_free (s : State) (a : Nat) (x : Group) : (s.setGroup a x).free = s.free := rfl
@[simp] theorem setGroup_fuse (s : State) (a : Nat) (x : Group) : (s.setGroup a x).fuse = s.fuse := rfl
@[simp] theorem setGroup_flash (s : State) (a : Nat) (x : Group) : (s.setGroup a x).flash = s.flash := rfl
@[simp] theorem setGroup_boot (s : State) (a : Nat) (x : Group) : (s.setGroup a x).boot = s.boot := rfl
@[simp] theorem setGroup_power (s : State) (a : Nat) (x : Group) : (s.setGroup a x).power = s.power := rfl
@[simp] theorem setGroup_islands (s : State) (a : Nat) (x : Group) : (s.setGroup a x).islands = s.islands := rfl
@[simp] theorem setGroup_sites (s : State) (a : Nat) (x : Group) : (s.setGroup a x).sites = s.sites := rfl
@[simp] theorem setGroup_tiles (s : State) (a : Nat) (x : Group) : (s.setGroup a x).tiles = s.tiles := rfl
@[simp] theorem setGroup_dist (s : State) (a : Nat) (x : Group) : (s.setGroup a x).dist = s.dist := rfl
@[simp] theorem setGroup_mem (s : State) (a : Nat) (x : Group) : (s.setGroup a x).mem = s.mem := rfl
@[simp] theorem setGroup_grans (s : State) (a : Nat) (x : Group) : (s.setGroup a x).grans = s.grans := rfl
@[simp] theorem setGroup_tcmErrs (s : State) (a : Nat) (x : Group) : (s.setGroup a x).tcmErrs = s.tcmErrs := rfl
@[simp] theorem setGroup_cistern (s : State) (a : Nat) (x : Group) : (s.setGroup a x).cistern = s.cistern := rfl
@[simp] theorem setGroup_chans (s : State) (a : Nat) (x : Group) : (s.setGroup a x).chans = s.chans := rfl
@[simp] theorem setGroup_hbms (s : State) (a : Nat) (x : Group) : (s.setGroup a x).hbms = s.hbms := rfl
@[simp] theorem setGroup_seals (s : State) (a : Nat) (x : Group) : (s.setGroup a x).seals = s.seals := rfl
@[simp] theorem setGroup_cores (s : State) (a : Nat) (x : Group) : (s.setGroup a x).cores = s.cores := rfl
@[simp] theorem setGroup_mcores (s : State) (a : Nat) (x : Group) : (s.setGroup a x).mcores = s.mcores := rfl
@[simp] theorem setGroup_host (s : State) (a : Nat) (x : Group) : (s.setGroup a x).host = s.host := rfl
@[simp] theorem setGroup_out (s : State) (a : Nat) (x : Group) : (s.setGroup a x).out = s.out := rfl
@[simp] theorem setGroup_tasks (s : State) (a : Nat) (x : Group) : (s.setGroup a x).tasks = s.tasks := rfl
@[simp] theorem setGroup_nextTask (s : State) (a : Nat) (x : Group) : (s.setGroup a x).nextTask = s.nextTask := rfl
@[simp] theorem setGroup_parts (s : State) (a : Nat) (x : Group) : (s.setGroup a x).parts = s.parts := rfl
@[simp] theorem setGroup_svc (s : State) (a : Nat) (x : Group) : (s.setGroup a x).svc = s.svc := rfl
@[simp] theorem setGroup_mgmt (s : State) (a : Nat) (x : Group) : (s.setGroup a x).mgmt = s.mgmt := rfl
@[simp] theorem setGroup_sync (s : State) (a : Nat) (x : Group) : (s.setGroup a x).sync = s.sync := rfl
@[simp] theorem setGroup_vane (s : State) (a : Nat) (x : Group) : (s.setGroup a x).vane = s.vane := rfl
@[simp] theorem setGroup_mesh (s : State) (a : Nat) (x : Group) : (s.setGroup a x).mesh = s.mesh := rfl
@[simp] theorem setGroup_coh (s : State) (a : Nat) (x : Group) : (s.setGroup a x).coh = s.coh := rfl
@[simp] theorem setGroup_qos (s : State) (a : Nat) (x : Group) : (s.setGroup a x).qos = s.qos := rfl
@[simp] theorem setGroup_bonds (s : State) (a : Nat) (x : Group) : (s.setGroup a x).bonds = s.bonds := rfl
@[simp] theorem setGroup_psites (s : State) (a : Nat) (x : Group) : (s.setGroup a x).psites = s.psites := rfl
@[simp] theorem setGroup_aq_modid (s : State) (a : Nat) (x : Group) : (s.setGroup a x).aq.modid = s.aq.modid := rfl
@[simp] theorem setGroup_aq_valid (s : State) (a : Nat) (x : Group) : (s.setGroup a x).aq.valid = s.aq.valid := rfl
@[simp] theorem setGroup_aq_ports (s : State) (a : Nat) (x : Group) : (s.setGroup a x).aq.ports = s.aq.ports := rfl
@[simp] theorem setGroup_aq_reqs (s : State) (a : Nat) (x : Group) : (s.setGroup a x).aq.reqs = s.aq.reqs := rfl
@[simp] theorem setGroup_aq_nextTag (s : State) (a : Nat) (x : Group) : (s.setGroup a x).aq.nextTag = s.aq.nextTag := rfl
@[simp] theorem setGroup_aq_expiry (s : State) (a : Nat) (x : Group) : (s.setGroup a x).aq.expiry = s.aq.expiry := rfl
@[simp] theorem setGroup_aq_far (s : State) (a : Nat) (x : Group) : (s.setGroup a x).aq.far = s.aq.far := rfl
@[simp] theorem setGroup_aq_slow (s : State) (a : Nat) (x : Group) : (s.setGroup a x).aq.slow = s.aq.slow := rfl
/-- The entry set reads as set, and every other entry as before. -/
theorem group_setGroup (s : State) (a : Nat) (x : Group) (j : Nat) : (s.setGroup a x).group j = if j = a then x else s.group j := by
  by_cases h : j = a
  · subst h; simp [State.group, State.setGroup]
  · simp [State.group, State.setGroup, tget_tset_ne, h]

/-! ### setQos -/

@[simp] theorem setQos_pending (s : State) (a : Nat) (x : QosClass) : (s.setQos a x).pending = s.pending := rfl
@[simp] theorem setQos_now (s : State) (a : Nat) (x : QosClass) : (s.setQos a x).now = s.now := rfl
@[simp] theorem setQos_free (s : State) (a : Nat) (x : QosClass) : (s.setQos a x).free = s.free := rfl
@[simp] theorem setQos_fuse (s : State) (a : Nat) (x : QosClass) : (s.setQos a x).fuse = s.fuse := rfl
@[simp] theorem setQos_flash (s : State) (a : Nat) (x : QosClass) : (s.setQos a x).flash = s.flash := rfl
@[simp] theorem setQos_boot (s : State) (a : Nat) (x : QosClass) : (s.setQos a x).boot = s.boot := rfl
@[simp] theorem setQos_power (s : State) (a : Nat) (x : QosClass) : (s.setQos a x).power = s.power := rfl
@[simp] theorem setQos_islands (s : State) (a : Nat) (x : QosClass) : (s.setQos a x).islands = s.islands := rfl
@[simp] theorem setQos_sites (s : State) (a : Nat) (x : QosClass) : (s.setQos a x).sites = s.sites := rfl
@[simp] theorem setQos_tiles (s : State) (a : Nat) (x : QosClass) : (s.setQos a x).tiles = s.tiles := rfl
@[simp] theorem setQos_dist (s : State) (a : Nat) (x : QosClass) : (s.setQos a x).dist = s.dist := rfl
@[simp] theorem setQos_mem (s : State) (a : Nat) (x : QosClass) : (s.setQos a x).mem = s.mem := rfl
@[simp] theorem setQos_grans (s : State) (a : Nat) (x : QosClass) : (s.setQos a x).grans = s.grans := rfl
@[simp] theorem setQos_tcmErrs (s : State) (a : Nat) (x : QosClass) : (s.setQos a x).tcmErrs = s.tcmErrs := rfl
@[simp] theorem setQos_cistern (s : State) (a : Nat) (x : QosClass) : (s.setQos a x).cistern = s.cistern := rfl
@[simp] theorem setQos_chans (s : State) (a : Nat) (x : QosClass) : (s.setQos a x).chans = s.chans := rfl
@[simp] theorem setQos_hbms (s : State) (a : Nat) (x : QosClass) : (s.setQos a x).hbms = s.hbms := rfl
@[simp] theorem setQos_seals (s : State) (a : Nat) (x : QosClass) : (s.setQos a x).seals = s.seals := rfl
@[simp] theorem setQos_cores (s : State) (a : Nat) (x : QosClass) : (s.setQos a x).cores = s.cores := rfl
@[simp] theorem setQos_mcores (s : State) (a : Nat) (x : QosClass) : (s.setQos a x).mcores = s.mcores := rfl
@[simp] theorem setQos_host (s : State) (a : Nat) (x : QosClass) : (s.setQos a x).host = s.host := rfl
@[simp] theorem setQos_out (s : State) (a : Nat) (x : QosClass) : (s.setQos a x).out = s.out := rfl
@[simp] theorem setQos_tasks (s : State) (a : Nat) (x : QosClass) : (s.setQos a x).tasks = s.tasks := rfl
@[simp] theorem setQos_nextTask (s : State) (a : Nat) (x : QosClass) : (s.setQos a x).nextTask = s.nextTask := rfl
@[simp] theorem setQos_parts (s : State) (a : Nat) (x : QosClass) : (s.setQos a x).parts = s.parts := rfl
@[simp] theorem setQos_svc (s : State) (a : Nat) (x : QosClass) : (s.setQos a x).svc = s.svc := rfl
@[simp] theorem setQos_mgmt (s : State) (a : Nat) (x : QosClass) : (s.setQos a x).mgmt = s.mgmt := rfl
@[simp] theorem setQos_sync (s : State) (a : Nat) (x : QosClass) : (s.setQos a x).sync = s.sync := rfl
@[simp] theorem setQos_vane (s : State) (a : Nat) (x : QosClass) : (s.setQos a x).vane = s.vane := rfl
@[simp] theorem setQos_mesh (s : State) (a : Nat) (x : QosClass) : (s.setQos a x).mesh = s.mesh := rfl
@[simp] theorem setQos_coh (s : State) (a : Nat) (x : QosClass) : (s.setQos a x).coh = s.coh := rfl
@[simp] theorem setQos_aq (s : State) (a : Nat) (x : QosClass) : (s.setQos a x).aq = s.aq := rfl
@[simp] theorem setQos_bonds (s : State) (a : Nat) (x : QosClass) : (s.setQos a x).bonds = s.bonds := rfl
@[simp] theorem setQos_psites (s : State) (a : Nat) (x : QosClass) : (s.setQos a x).psites = s.psites := rfl
@[simp] theorem setQos_qos_allow (s : State) (a : Nat) (x : QosClass) : (s.setQos a x).qos.allow = s.qos.allow := rfl
@[simp] theorem setQos_qos_shown (s : State) (a : Nat) (x : QosClass) : (s.setQos a x).qos.shown = s.qos.shown := rfl
@[simp] theorem setQos_qos_held (s : State) (a : Nat) (x : QosClass) : (s.setQos a x).qos.held = s.qos.held := rfl
@[simp] theorem setQos_qos_throttled (s : State) (a : Nat) (x : QosClass) : (s.setQos a x).qos.throttled = s.qos.throttled := rfl
@[simp] theorem setQos_qos_before (s : State) (a : Nat) (x : QosClass) : (s.setQos a x).qos.before = s.qos.before := rfl
/-- The entry set reads as set, and every other entry as before. -/
theorem qos'_setQos (s : State) (a : Nat) (x : QosClass) (j : Nat) : (s.setQos a x).qos' j = if j = a then x else s.qos' j := by
  by_cases h : j = a
  · subst h; simp [State.qos', State.setQos]
  · simp [State.qos', State.setQos, tget_tset_ne, h]

/-! ### Core.setX -/

@[simp] theorem core_setX_fr (c : Core) (r : Nat) (v : Word) : (c.setX r v).fr = c.fr := by unfold Core.setX; split <;> rfl
@[simp] theorem core_setX_vr (c : Core) (r : Nat) (v : Word) : (c.setX r v).vr = c.vr := by unfold Core.setX; split <;> rfl
@[simp] theorem core_setX_pc (c : Core) (r : Nat) (v : Word) : (c.setX r v).pc = c.pc := by unfold Core.setX; split <;> rfl
@[simp] theorem core_setX_csr (c : Core) (r : Nat) (v : Word) : (c.setX r v).csr = c.csr := by unfold Core.setX; split <;> rfl
@[simp] theorem core_setX_umode (c : Core) (r : Nat) (v : Word) : (c.setX r v).umode = c.umode := by unfold Core.setX; split <;> rfl
@[simp] theorem core_setX_run (c : Core) (r : Nat) (v : Word) : (c.setX r v).run = c.run := by unfold Core.setX; split <;> rfl
@[simp] theorem core_setX_stopping (c : Core) (r : Nat) (v : Word) : (c.setX r v).stopping = c.stopping := by unfold Core.setX; split <;> rfl
@[simp] theorem core_setX_wait (c : Core) (r : Nat) (v : Word) : (c.setX r v).wait = c.wait := by unfold Core.setX; split <;> rfl
@[simp] theorem core_setX_exit (c : Core) (r : Nat) (v : Word) : (c.setX r v).exit = c.exit := by unfold Core.setX; split <;> rfl
@[simp] theorem core_setX_cls (c : Core) (r : Nat) (v : Word) : (c.setX r v).cls = c.cls := by unfold Core.setX; split <;> rfl
@[simp] theorem core_setX_stream (c : Core) (r : Nat) (v : Word) : (c.setX r v).stream = c.stream := by unfold Core.setX; split <;> rfl
@[simp] theorem core_setX_syncpend (c : Core) (r : Nat) (v : Word) : (c.setX r v).syncpend = c.syncpend := by unfold Core.setX; split <;> rfl
@[simp] theorem core_setX_slots (c : Core) (r : Nat) (v : Word) : (c.setX r v).slots = c.slots := by unfold Core.setX; split <;> rfl
@[simp] theorem core_setX_vsel (c : Core) (r : Nat) (v : Word) : (c.setX r v).vsel = c.vsel := by unfold Core.setX; split <;> rfl
@[simp] theorem core_setX_trapped (c : Core) (r : Nat) (v : Word) : (c.setX r v).trapped = c.trapped := by unfold Core.setX; split <;> rfl
@[simp] theorem core_setX_vcause (c : Core) (r : Nat) (v : Word) : (c.setX r v).vcause = c.vcause := by unfold Core.setX; split <;> rfl
@[simp] theorem core_setX_vepc (c : Core) (r : Nat) (v : Word) : (c.setX r v).vepc = c.vepc := by unfold Core.setX; split <;> rfl
@[simp] theorem core_setX_vtval (c : Core) (r : Nat) (v : Word) : (c.setX r v).vtval = c.vtval := by unfold Core.setX; split <;> rfl
@[simp] theorem core_setX_mtimecmp (c : Core) (r : Nat) (v : Word) : (c.setX r v).mtimecmp = c.mtimecmp := by unfold Core.setX; split <;> rfl
@[simp] theorem core_setX_mtip (c : Core) (r : Nat) (v : Word) : (c.setX r v).mtip = c.mtip := by unfold Core.setX; split <;> rfl
@[simp] theorem core_setX_tickets (c : Core) (r : Nat) (v : Word) : (c.setX r v).tickets = c.tickets := by unfold Core.setX; split <;> rfl
@[simp] theorem core_setX_outst (c : Core) (r : Nat) (v : Word) : (c.setX r v).outst = c.outst := by unfold Core.setX; split <;> rfl
@[simp] theorem core_setX_stat (c : Core) (r : Nat) (v : Word) : (c.setX r v).stat = c.stat := by unfold Core.setX; split <;> rfl
@[simp] theorem core_setX_kept (c : Core) (r : Nat) (v : Word) : (c.setX r v).kept = c.kept := by unfold Core.setX; split <;> rfl
@[simp] theorem core_setX_fetched (c : Core) (r : Nat) (v : Word) : (c.setX r v).fetched = c.fetched := by unfold Core.setX; split <;> rfl
@[simp] theorem core_setX_resv (c : Core) (r : Nat) (v : Word) : (c.setX r v).resv = c.resv := by unfold Core.setX; split <;> rfl
@[simp] theorem core_setX_hpm (c : Core) (r : Nat) (v : Word) : (c.setX r v).hpm = c.hpm := by unfold Core.setX; split <;> rfl
@[simp] theorem core_setX_tcmCe (c : Core) (r : Nat) (v : Word) : (c.setX r v).tcmCe = c.tcmCe := by unfold Core.setX; split <;> rfl

/-! ### Core.setCsr -/

@[simp] theorem core_setCsr_xr (c : Core) (n v : Nat) : (c.setCsr n v).xr = c.xr := rfl
@[simp] theorem core_setCsr_fr (c : Core) (n v : Nat) : (c.setCsr n v).fr = c.fr := rfl
@[simp] theorem core_setCsr_vr (c : Core) (n v : Nat) : (c.setCsr n v).vr = c.vr := rfl
@[simp] theorem core_setCsr_pc (c : Core) (n v : Nat) : (c.setCsr n v).pc = c.pc := rfl
@[simp] theorem core_setCsr_umode (c : Core) (n v : Nat) : (c.setCsr n v).umode = c.umode := rfl
@[simp] theorem core_setCsr_run (c : Core) (n v : Nat) : (c.setCsr n v).run = c.run := rfl
@[simp] theorem core_setCsr_stopping (c : Core) (n v : Nat) : (c.setCsr n v).stopping = c.stopping := rfl
@[simp] theorem core_setCsr_wait (c : Core) (n v : Nat) : (c.setCsr n v).wait = c.wait := rfl
@[simp] theorem core_setCsr_exit (c : Core) (n v : Nat) : (c.setCsr n v).exit = c.exit := rfl
@[simp] theorem core_setCsr_cls (c : Core) (n v : Nat) : (c.setCsr n v).cls = c.cls := rfl
@[simp] theorem core_setCsr_stream (c : Core) (n v : Nat) : (c.setCsr n v).stream = c.stream := rfl
@[simp] theorem core_setCsr_syncpend (c : Core) (n v : Nat) : (c.setCsr n v).syncpend = c.syncpend := rfl
@[simp] theorem core_setCsr_slots (c : Core) (n v : Nat) : (c.setCsr n v).slots = c.slots := rfl
@[simp] theorem core_setCsr_vsel (c : Core) (n v : Nat) : (c.setCsr n v).vsel = c.vsel := rfl
@[simp] theorem core_setCsr_trapped (c : Core) (n v : Nat) : (c.setCsr n v).trapped = c.trapped := rfl
@[simp] theorem core_setCsr_vcause (c : Core) (n v : Nat) : (c.setCsr n v).vcause = c.vcause := rfl
@[simp] theorem core_setCsr_vepc (c : Core) (n v : Nat) : (c.setCsr n v).vepc = c.vepc := rfl
@[simp] theorem core_setCsr_vtval (c : Core) (n v : Nat) : (c.setCsr n v).vtval = c.vtval := rfl
@[simp] theorem core_setCsr_mtimecmp (c : Core) (n v : Nat) : (c.setCsr n v).mtimecmp = c.mtimecmp := rfl
@[simp] theorem core_setCsr_mtip (c : Core) (n v : Nat) : (c.setCsr n v).mtip = c.mtip := rfl
@[simp] theorem core_setCsr_tickets (c : Core) (n v : Nat) : (c.setCsr n v).tickets = c.tickets := rfl
@[simp] theorem core_setCsr_outst (c : Core) (n v : Nat) : (c.setCsr n v).outst = c.outst := rfl
@[simp] theorem core_setCsr_stat (c : Core) (n v : Nat) : (c.setCsr n v).stat = c.stat := rfl
@[simp] theorem core_setCsr_kept (c : Core) (n v : Nat) : (c.setCsr n v).kept = c.kept := rfl
@[simp] theorem core_setCsr_fetched (c : Core) (n v : Nat) : (c.setCsr n v).fetched = c.fetched := rfl
@[simp] theorem core_setCsr_resv (c : Core) (n v : Nat) : (c.setCsr n v).resv = c.resv := rfl
@[simp] theorem core_setCsr_hpm (c : Core) (n v : Nat) : (c.setCsr n v).hpm = c.hpm := rfl
@[simp] theorem core_setCsr_tcmCe (c : Core) (n v : Nat) : (c.setCsr n v).tcmCe = c.tcmCe := rfl

end Sys2Proof.Machine
end

