-- ==== Sys2Proof/Laws/Ops.lean ====
section
/-!
SUPPORT. What the shared operations can do: how a meaning answers, a dispatched host command and its completion, an event and its
record in the log, and an error record.
-/

namespace Sys2Proof.Machine

/-! ### How a meaning answers -/

/-- `done` answers a next state: its second argument but for the queue, the fuses and the timebase. -/
theorem done_next {s t u : State} : done s t = .next u ↔ Leaves s t u := by
  simp only [done, Leaves]
  constructor
  · intro h; injection h with h; exact h.symm
  · intro h; rw [h]

/-- A meaning that ends in `done` leaves the queue, the fuses and the timebase as they are. -/
theorem done_keeps {s t u : State} (h : done s t = .next u) : u.pending = s.pending ∧ u.fuse = s.fuse ∧ u.now = s.now := by
  have := done_next.1 h
  subst this
  exact ⟨rfl, rfl, rfl⟩

/-- A command about a unit that exists answers what its meaning answers. -/
theorem within_of_lt {k : String} {n c : Nat} {r : Host.Outcome State Fault Refusal} (h : n < c) : within k n c r = r := by
  simp [within, h]

/-- A command about a unit answers a next state only when the unit exists. -/
theorem within_next {k : String} {n c : Nat} {r : Host.Outcome State Fault Refusal} {t : State} (h : within k n c r = .next t) :
    n < c ∧ r = .next t := by
  unfold within at h
  split at h
  · exact ⟨‹_›, h⟩
  · cases h

/-- An instruction of a core that is ready runs. -/
theorem onCore_of_ready {s : State} {a : Nat} {f : State → State} (h : Ready s a) : s.onCore a f = f s := by
  simp [State.onCore, h.2]

/-- A core that is not ready runs nothing. -/
theorem onCore_of_not_ready {s : State} {a : Nat} {f : State → State} (h : s.coreReady a = false) : s.onCore a f = s := by
  simp [State.onCore, h]

/-! ### Dispatched host commands -/

/-- A dispatched command of the opcode that waits for nothing runs. -/
theorem withCmd_of_runs {s : State} {id op : Nat} {c : HostCmd} {f : HostCmd → State} (h : Runs s id op c) :
    withCmd s id op f = f c := by
  obtain ⟨h1, h2, h3⟩ := h
  simp [withCmd, h1, h2, h3]

/-- Completing a command ends it: one record, at the end of its completion ring's backlog, and no other ring changes. -/
theorem complete_ended (s : State) (c : HostCmd) (st : Status) (detail result : Nat) :
    Ended s (s.complete c st detail result) c st detail result := by
  refine ⟨rfl, ?_, ?_⟩
  · change (State.ring (State.setRing _ (s.sqCq c.ring) _) (s.sqCq c.ring)).backlog = _
    rw [ring_setRing, if_pos rfl]
    rfl
  · intro r hr
    change State.ring (State.setRing _ (s.sqCq c.ring) _) r = _
    rw [ring_setRing, if_neg hr]
    rfl

/-- Completing a command changes the dispatched commands and the rings only. -/
theorem complete_frame (s : State) (c : HostCmd) (st : Status) (detail result : Nat) :
    s.complete c st detail result = { s with
      host.cmds := (s.complete c st detail result).host.cmds
      host.rings := (s.complete c st detail result).host.rings } := rfl

/-! ### Events and the log -/

/-- Posting an event changes the event buffers only. -/
theorem postTo_frame (s : State) (f code payload : Nat) :
    s.postTo f code payload = { s with host.evbuf := (s.postTo f code payload).host.evbuf } := by
  unfold State.postTo
  split <;> rfl

/-- A log record changes the log's buffer only. -/
theorem logRec_frame (s : State) (code src result : Nat) (data : Bytes) (inj : Bool) :
    s.logRec code src result data inj = { s with
      svc.logq := (s.logRec code src result data inj).svc.logq
      svc.logLost := (s.logRec code src result data inj).svc.logLost } := by
  unfold State.logRec
  split <;> rfl

/-- Posting an event to several functions changes the event buffers only. -/
theorem foldl_postTo_frame (fns : List Nat) (s : State) (code payload : Nat) :
    fns.foldl (fun t f => t.postTo f code payload) s =
      { s with host.evbuf := (fns.foldl (fun t f => t.postTo f code payload) s).host.evbuf } := by
  induction fns generalizing s with
  | nil => rfl
  | cons f fns ih =>
    rw [List.foldl_cons, ih, postTo_frame]

/-- Raising an event changes the event buffers and the log's buffer only. -/
theorem raise_frame (s : State) (code payload : Nat) (fns : List Nat) (src : Nat) (inj : Bool) :
    s.raise code payload fns src inj = { s with
      host.evbuf := (s.raise code payload fns src inj).host.evbuf
      svc.logq := (s.raise code payload fns src inj).svc.logq
      svc.logLost := (s.raise code payload fns src inj).svc.logLost } := by
  unfold State.raise
  split
  · rw [foldl_postTo_frame]
  · dsimp only
    rw [logRec_frame, foldl_postTo_frame]

/-- Raising an event for some functions changes the event buffers and the log's buffer only. -/
theorem raiseOnly_frame (s : State) (code payload : Nat) (fns : List Nat) (src : Nat) :
    s.raiseOnly code payload fns src = { s with
      host.evbuf := (s.raiseOnly code payload fns src).host.evbuf
      svc.logq := (s.raiseOnly code payload fns src).svc.logq
      svc.logLost := (s.raiseOnly code payload fns src).svc.logLost } := by
  unfold State.raiseOnly
  split
  · rw [foldl_postTo_frame]
  · dsimp only
    rw [logRec_frame, foldl_postTo_frame]

/-- Marking the distance table changes nothing else. -/
theorem markDist_frame (s : State) : s.markDist = { s with dist.dirty := s.markDist.dist.dirty } := rfl

/-- Keeping an error for the repair thresholds changes the errors kept only. -/
theorem seeCistern_frame (s : State) (g kind : Nat) (inj : Bool) :
    s.seeCistern g kind inj = { s with cistern.found := (s.seeCistern g kind inj).cistern.found } := by
  unfold State.seeCistern
  split <;> rfl

/-- Recording an error of a granule changes the error records of channels and slices, the errors kept for repair, the event buffers
and the log only. -/
theorem granError_frame (s : State) (g kind agent : Nat) (inj : Bool) :
    s.granError g kind agent inj = { s with
      chans := (s.granError g kind agent inj).chans
      cistern.errs := (s.granError g kind agent inj).cistern.errs
      cistern.found := (s.granError g kind agent inj).cistern.found
      host.evbuf := (s.granError g kind agent inj).host.evbuf
      svc.logq := (s.granError g kind agent inj).svc.logq
      svc.logLost := (s.granError g kind agent inj).svc.logLost } := by
  unfold State.granError
  dsimp only
  split
  · split
    · rfl
    · rw [raise_frame]; rfl
  · split
    · rw [seeCistern_frame]; rfl
    · rw [raise_frame, seeCistern_frame]; rfl

end Sys2Proof.Machine
end

