-- ==== Sys2Proof/Laws/Memory.lean ====
section
/-!
SUPPORT. Memory: every operation on it keeps its canonical form, and what a read gives after a write.
-/

namespace Sys2Proof.Machine

/-- A record of errors leaves memory as it is. -/
theorem mem_granError (s : State) (g kind agent : Nat) (inj : Bool) : (s.granError g kind agent inj).mem = s.mem := by
  rw [granError_frame]

/-- An event leaves memory as it is. -/
theorem mem_raise (s : State) (code payload : Nat) (fns : List Nat) (src : Nat) (inj : Bool) :
    (s.raise code payload fns src inj).mem = s.mem := by
  rw [raise_frame]

/-- A fold whose every step keeps memory keeps memory. -/
theorem mem_foldl {α : Type} (f : State → α → State) (h : ∀ t x, (f t x).mem = t.mem) (l : List α) (s : State) :
    (l.foldl f s).mem = s.mem := by
  induction l generalizing s with
  | nil => rfl
  | cons x l ih => rw [List.foldl_cons, ih, h]

/-- Reading a granule leaves memory's bytes as they are. -/
theorem mem_readGran (s : State) (g agent : Nat) : (s.readGran g agent).1.mem = s.mem := by
  unfold State.readGran
  dsimp only
  split
  · rfl
  · split
    · exact mem_granError _ _ _ _ _
    · split
      · split <;> rfl
      · exact mem_granError _ _ _ _ _
      · exact mem_granError _ _ _ _ _

/-- Reading granules leaves memory's bytes as they are. -/
theorem mem_readGrans (s : State) (agent : Nat) (gs : List Nat) : (s.readGrans agent gs).1.mem = s.mem := by
  unfold State.readGrans
  generalize false = b
  induction gs generalizing s b with
  | nil => rfl
  | cons g gs ih => rw [List.foldl_cons, ih, mem_readGran]

/-- Reading a granule leaves the place of every address as it is. -/
theorem aq_readGran (s : State) (g agent : Nat) : (s.readGran g agent).1.aq = s.aq := by
  unfold State.readGran
  dsimp only
  split
  · rfl
  · split
    · rw [granError_frame]
      rfl
    · split
      · split <;> rfl
      · rw [granError_frame]
      · rw [granError_frame]
        rfl

/-- Reading granules leaves the place of every address as it is. -/
theorem canon_readGrans (s : State) (agent : Nat) (gs : List Nat) : (s.readGrans agent gs).1.canon = s.canon := by
  have h : (s.readGrans agent gs).1.aq = s.aq := by
    unfold State.readGrans
    generalize false = b
    induction gs generalizing s b with
    | nil => rfl
    | cons g gs ih => rw [List.foldl_cons, ih, aq_readGran]
  funext a
  simp only [State.canon, State.place, State.localAddr, h]

/-- Correcting words of a tightly coupled memory leaves memory's bytes as they are. -/
theorem mem_fixWords (s : State) (ws : List Nat) : (s.fixWords ws).mem = s.mem := by
  unfold State.fixWords
  apply mem_foldl
  intro t w
  rfl

/-- A read leaves memory's bytes as they are. -/
theorem mem_readMem (s : State) (agent a n : Nat) : (s.readMem agent a n).1.mem = s.mem := by
  unfold State.readMem
  dsimp only
  split
  · split
    · rfl
    · exact mem_fixWords _ _
  · exact mem_readGrans _ _ _

/-- A fold whose every step keeps the canonical form keeps it. -/
theorem twf_foldl {α : Type} (f : Tab Byte → α → Tab Byte) (h : ∀ t x, twf memDefault t = true → twf memDefault (f t x) = true)
    (l : List α) (t : Tab Byte) (w : twf memDefault t = true) : twf memDefault (l.foldl f t) = true := by
  induction l generalizing t with
  | nil => exact w
  | cons x l ih => exact ih _ (h _ _ w)

/-- Putting bytes keeps memory's form. -/
theorem memWf_putMem (s : State) (skip : List Nat) (a : Nat) (bs : Bytes) (hole : List Nat) (w : s.memWf = true) :
    (s.putMem skip a bs hole).memWf = true := by
  refine twf_foldl _ ?_ _ _ w
  intro t x wt
  split
  · split
    · exact wt
    · exact twf_tset memDefault t _ _ wt
  · exact wt

/-- Consuming an armed flip leaves memory's bytes as they are. -/
theorem mem_takeFlip (s : State) (gs : List Nat) : (s.takeFlip gs).mem = s.mem := by
  unfold State.takeFlip
  split
  · rfl
  · split <;> rfl

/-- A write to the Cistern or HBM puts its bytes, but for the granules that refuse it. -/
theorem mem_writeGrans (s : State) (hw : Bool) (agent a : Nat) (bs : Bytes) (hole : List Nat) :
    ∃ skip, (s.writeGrans hw agent a bs hole).1.mem = (s.putMem skip a bs hole).mem := by
  let merged := (s.badGrans a bs.length).filter (fun g => !granWhole a bs.length g || holeMeets a hole g)
  refine ⟨merged.filter (fun g => ((s.readGrans agent merged).1.gran g).poison), ?_⟩
  have clear (l : List Nat) (t : State) : (l.foldl (fun t g => t.setGran g {}) t).mem = t.mem :=
    mem_foldl (fun t g => t.setGran g {}) (fun _ _ => rfl) l t
  have refuse (l : List Nat) (t : State) : (l.foldl (fun t g =>
      (t.setGran g { t.gran g with poison := true, flips := [] }).granError g 3 agent (t.gran g).injected) t).mem = t.mem :=
    mem_foldl _ (fun t g => by rw [mem_granError]; rfl) l t
  have put (t : State) (skip : List Nat) (h : t.mem = s.mem) (hc : t.canon = s.canon) :
      (t.putMem skip a bs hole).mem = (s.putMem skip a bs hole).mem := by
    simp only [State.putMem, h, hc]
  cases hw
  · exact (mem_takeFlip _ _).trans ((refuse _ _).trans ((clear _ _).trans (put _ _ (mem_readGrans _ _ _) (canon_readGrans _ _ _))))
  · exact (refuse _ _).trans ((clear _ _).trans (put _ _ (mem_readGrans _ _ _) (canon_readGrans _ _ _)))

/-- A write to the Cistern or HBM keeps memory's form. -/
theorem memWf_writeGrans (s : State) (hw : Bool) (agent a : Nat) (bs : Bytes) (hole : List Nat) (w : s.memWf = true) :
    (s.writeGrans hw agent a bs hole).1.memWf = true := by
  obtain ⟨skip, h⟩ := mem_writeGrans s hw agent a bs hole
  unfold State.memWf
  rw [h]
  exact memWf_putMem s skip a bs hole w

/-- A write to a tightly coupled memory puts its bytes or changes nothing. -/
theorem mem_writeTcm (s : State) (hw : Bool) (a : Nat) (bs : Bytes) :
    (s.writeTcm hw a bs).1.mem = s.mem ∨ (s.writeTcm hw a bs).1.mem = putBytes s.mem a bs := by
  unfold State.writeTcm
  dsimp only
  split
  · exact .inl rfl
  · have clear (l : List Nat) (t : State) : (l.foldl (fun t w => t.setTcmErr w {}) t).mem = t.mem :=
      mem_foldl (fun t w => t.setTcmErr w {}) (fun _ _ => rfl) l t
    have fixed (l : List Nat) : putBytes (s.fixWords l).mem a bs = putBytes s.mem a bs := by rw [mem_fixWords]
    refine .inr ?_
    split
    · exact (clear _ _).trans (fixed _)
    · exact (clear _ _).trans (fixed _)

/-- A write to a tightly coupled memory keeps memory's form. -/
theorem memWf_writeTcm (s : State) (hw : Bool) (a : Nat) (bs : Bytes) (w : s.memWf = true) :
    (s.writeTcm hw a bs).1.memWf = true := by
  unfold State.memWf
  rcases mem_writeTcm s hw a bs with h | h
  · rw [h]; exact w
  · rw [h]; exact twf_putBytes bs s.mem a w

/-- A write keeps memory's form. -/
theorem memWf_writeMem (s : State) (hw : Bool) (agent a : Nat) (bs : Bytes) (w : s.memWf = true) :
    (s.writeMem hw agent a bs).1.memWf = true := by
  unfold State.writeMem
  dsimp only
  split
  · exact memWf_writeTcm s hw _ bs w
  · exact memWf_writeGrans s hw agent _ bs [] w

/-- Zeroing a range keeps memory's form. -/
theorem memWf_zeroRange (s : State) (lo hi : Nat) (w : s.memWf = true) : (s.zeroRange lo hi).memWf = true :=
  memWf_zeroMem s lo hi w

/-- Zeroing a tightly coupled memory keeps memory's form. -/
theorem memWf_zeroTcm (s : State) (a : Nat) (w : s.memWf = true) : (s.zeroTcm a).memWf = true :=
  memWf_zeroMem s _ _ w

/-- Poisoning granules leaves memory's bytes as they are. -/
theorem mem_poisonRange (s : State) (a n : Nat) : (s.poisonRange a n).mem = s.mem :=
  mem_foldl (fun t g => t.setGran g { poison := true }) (fun _ _ => rfl) _ _

/-- Making bytes undefined keeps memory's form. -/
theorem memWf_freeRange (s : State) (a n : Nat) (w : s.memWf = true) : (s.freeRange a n).memWf = true := by
  unfold State.freeRange
  dsimp only
  generalize List.range n = l
  induction l generalizing s with
  | nil => exact w
  | cons i l ih =>
    rw [List.foldl_cons]
    apply ih
    split
    · exact memWf_setByte s _ _ w
    · exact w

/-- Zeroed bytes read zero, and every other byte as before. -/
theorem byte_zeroMem (s : State) (lo hi j : Nat) :
    (s.zeroMem lo hi).byte j = if lo ≤ j ∧ j < hi then 0 else s.byte j := by
  unfold State.byte State.zeroMem
  dsimp only
  generalize s.mem = m
  induction m with
  | nil => simp [tdrop, tget, memDefault]
  | cons e m ih =>
    obtain ⟨i, b⟩ := e
    simp only [tdrop, List.filter_cons] at ih ⊢
    by_cases hi' : lo ≤ i ∧ i < hi
    · have : (!(decide (lo ≤ i) && decide (i < hi))) = false := by simp [hi']
      simp only [this, Bool.false_eq_true, if_false, ih]
      by_cases hj : lo ≤ j ∧ j < hi
      · simp [hj]
      · have : ¬ j = i := fun h => hj (h ▸ hi')
        simp [tget, hj, this]
    · have : (!(decide (lo ≤ i) && decide (i < hi))) = true := by
        rcases not_and_or.1 hi' with h | h <;> simp [h]
      simp only [this, if_true, tget, ih]
      by_cases hj : j = i
      · subst hj; simp [hi']
      · simp [hj]

/-- Without errors a read of the Cistern or of HBM gives the stored bytes and changes nothing. -/
theorem readMem_clean (s : State) (agent a n : Nat) (h : s.grans = []) (ht : s.tcmErrs = []) :
    s.readMem agent a n = (s, some (s.rawBytes a n)) := by
  unfold State.readMem
  dsimp only
  split
  · simp [State.badWords, tkeys, ht, State.fixWords]
  · simp [State.badGrans, tkeys, h, State.readGrans]

end Sys2Proof.Machine
end

