-- ==== Sys2Proof/Tests/Base.lean ====
section
/-!
SUPPORT. The small state that the tests start from: a module in service with two tiles, one partition over the whole die, and two
rings of the physical function.
-/

namespace Sys2Proof.Tests

open Sys2Proof.Machine

/-- A tile over site `n` with every core at its own position. -/
def tileAt (n : Nat) : Tile :=
  { site := some n
    rows := [[some 0, some 1, some 2, some 3], [some 0, some 1, some 2, some 3], [some 0, some 1, some 2, some 3],
      [some 0, some 1, some 2, some 3], (List.range 8).map some, [some 0, some 1, some 2, some 3]]
    part := some 0 }

/-- Key of a register in the register file. -/
def key (blk o : Nat) : Nat := blk * 0x20000 + o

/-- The module in service. S-core 0 and V-core 4 of tile 0 run. Partition 0 covers the die and 384 GiB of HBM and belongs to
function 0. Rings 0 and 1 belong to function 0, have 64 entries, and complete to ring 0. -/
def up : State :=
  { State.reset with
    now := 1000000
    boot := { powered := true, perst := false, refclk := true, aqclk := true, stage := 9, ready := true, ticking := true, gen := 6, width := 16, limitW := 600, ceilMhz := 1250 }
    power := { vin := 48000, diodes := [] }
    sites := [(0, { powered := true }), (1, { powered := true })]
    tiles := [(0, tileAt 0), (1, tileAt 1)]
    hbms := (List.range 8).map (fun h => (h, { rate := 0 }))
    cores := [(0, { run := true, pc := 0x010080000000#64 }), (4, { run := true, pc := 0x010080000000#64 })]
    parts := [(0, { map := [⟨cisternBase, 64, 0xFF, 7⟩], tiles := [0, 1] })]
    mesh.cats := [(0, { service := true })]
    host.regs := [(key 0 0x28, 3#64), (key 8 0x48, 0xFFFF#64), (key 8 0x2000, 0xFF01005500#64), (key 8 0x2008, 0x01800000#64),
      (key 8 0x4000, 0x10000#64), (key 8 0x4008, 0x20000#64), (key 8 0x4010, 0x106#64), (key 8 0x4018, 0x106#64),
      (key 8 0x4050, 0x106#64), (key 8 0x4058, 0x106#64)] }

/-- `up` with more set in S-core 0. -/
def upCore (f : Core → Core) : State := up.setCore 0 (f (up.core 0))

/-- A 64-byte record with numbers written at byte offsets: (offset, bytes, value). -/
def rec64 (l : List (Nat × Nat × Nat)) : Bytes := l.foldl (fun b e => putAt b e.1 (toLe e.2.1 e.2.2)) (zeros 64)

/-- `up` with one dispatched host command of function 0 on ring 0, under identity 7. -/
def cmd7 (l : List (Nat × Nat × Nat)) : HostCmd := { id := 7, ring := 0, fn := 0, desc := rec64 l, tick := none }
def upCmd (l : List (Nat × Nat × Nat)) : State := { up with host.cmds := [cmd7 l] }

end Sys2Proof.Tests
end

