-- ==== Sys2Proof/Tests/CoreWitness.lean ====
section
/-!
SUPPORT. Witnesses: for the statements on cores, matrix cores, pumps, sync cells and coherence, states and operands that meet the hypotheses of
each clause. A clause whose hypotheses another clause includes has none of its own.
-/

namespace Sys2Proof.Tests

set_option maxRecDepth 40000
set_option Elab.async false

open Sys2Proof.Machine

/-! ### SyncCells -/

namespace SyncCells

/-- State or operand of the witnesses below. -/
def full : State := { up with sync.table := List.replicate 1024 ⟨9, 1, 3, .core 4 1⟩ }

/-- State or operand of the witnesses below. -/
def q1 : State := { up with sync.queued := [⟨5, 1, 3, .core 4 1⟩] }

/-- State or operand of the witnesses below. -/
def wk : State := { upCore (fun c => { c with wait := .cell 5 1 }) with sync.wakes := [⟨.core 0 1, 9#64, .ok, 0⟩] }

/-- State or operand of the witnesses below. -/
def vm (tries : Nat) : VMsg := ⟨0, 0, 1, 5, 2#64, tries, false, false, none⟩

/-- State or operand of the witnesses below. -/
def vs (tries : Nat) : State := { up with vane.held := [vm tries] }

/-- State or operand of the witnesses below. -/
def wk2 : State := { wk with vane.held := [vm 3] }

/-- The hypotheses of `SyncCellArithmetic` are met. -/
theorem witness_SyncCellArithmetic :
    (∃ (s : State) (c : Nat), SoundCell s c) :=
  ⟨up, 73727, by decide +kernel⟩

/-- The hypotheses of `SyncCellWakesWaiters` are met. -/
theorem witness_SyncCellWakesWaiters :
    (∃ (s : State) (c : Nat), SoundCell s c) :=
  ⟨full, 9, by decide +kernel⟩

/-- The hypotheses of `WaitersQueueWakeAndCancel` are met. -/
theorem witness_WaitersQueueWakeAndCancel :
    (∃ (s : State) (c : Nat) (b : Word), SoundCell s c ∧ (s.cell c == b) = false ∧ 1024 ≤ s.waitUsed (c / 2048)) ∧
    (∃ (s : State) (n : Nat) (e : WaitEnt), n < 36 ∧ s.sync.queued.find? (fun e => e.cell / 2048 == n) = some e ∧ s.waitUsed n < 1024 ∧
        SoundCell s e.cell ∧ waitHolds e.kind e.bound (s.cell e.cell) = false) ∧
    (∃ (s : State) (c a rd k : Nat) (v : Word), (s.core a).wait = .cell c rd ∧ (s.core a).stopping = false ∧
        s.sync.wakes.find? (fun x => x.w == .core a rd) = some ⟨.core a rd, v, .ok, k⟩) :=
  ⟨⟨full, 5, 4, by decide +kernel⟩,
   ⟨q1, 0, ⟨5, 1, 3, .core 4 1⟩, by decide +kernel⟩,
   ⟨wk, 5, 0, 1, 0, 9, by decide +kernel⟩⟩

/-- The hypotheses of `VaneMessagesResentAndPerformed` are met. -/
theorem witness_VaneMessagesResentAndPerformed :
    (∃ (s : State) (m : VMsg) (src dst seq : Nat), s.vaneFind src dst seq = some m ∧ m.tries < 4) ∧
    (∃ (s : State) (w : Waiter) (k : Wake), s.sync.wakes.find? (fun x => x.w == w) = some k ∧ k.tries < 4) ∧
    (∃ (s : State) (m : VMsg) (src dst seq : Nat), s.vane.held = [m] ∧ m.src = src ∧ m.dst = dst ∧ m.seq = seq ∧ m.arrived = false ∧
        m.performed = false ∧ m.tries < 5 ∧ SoundCell s m.cell) ∧
    (∃ (s : State) (m : VMsg) (src dst : Nat), s.vane.held = [m] ∧ m.src = src ∧ m.dst = dst ∧ m.performed = false ∧ m.tries = 5) :=
  ⟨⟨wk2, (vm 3), 0, 0, 1, by decide +kernel⟩,
   ⟨wk2, (.core 0 1), ⟨.core 0 1, 9#64, .ok, 0⟩, by decide +kernel⟩,
   ⟨wk2, (vm 3), 0, 0, 1, by decide +kernel⟩,
   ⟨(vs 5), (vm 5), 0, 0, by decide +kernel⟩⟩

end SyncCells

/-! ### Cores -/

namespace Cores

/-- State or operand of the witnesses below. -/
def w1 := upCore (fun c => (((c.setX 1 5).setX 2 7).setX 3 9))

/-- State or operand of the witnesses below. -/
def w2 : State := {w1 with sync.cells := [(5, 0xFF#64)]}

/-- State or operand of the witnesses below. -/
def slots8 : State := w1.setCore 0 { w1.core 0 with slots := (List.range 8).map (fun n => (n, some ⟨6, 1⟩)) }

/-- State or operand of the witnesses below. -/
def w3 : State := {w1 with sync.cells := [(5, 7#64)]}

/-- State or operand of the witnesses below. -/
def tk : Machine.Task := { id := 3, fn := 0, ring := 0, hostId := 7, part := 0, mask := 1, cls := 0, done := 0, xaddr := 0, released := true, exits := [], classMask := 2, notice := none, ranges := [] }

/-- State or operand of the witnesses below. -/
def tasked : State := { w1 with tasks := [tk], tiles := [(0, { tileAt 0 with task := some 3 })] }

/-- State or operand of the witnesses below. -/
def out1 : State := (upCore (fun c => { c.setX 1 8 with outst := [8] })).setCore 4 { up.core 4 with run := false }

/-- State or operand of the witnesses below. -/
def vrun : State := up.setCore 4 { up.core 4 with run := false, vepc := 64#64, trapped := true }

/-- State or operand of the witnesses below. -/
def irq : State := upCore (fun c => { c.setCsr 0x304 0x80 |>.setCsr 0x300 8 |>.setCsr 0x305 0x10080000100 with mtip := true })

/-- The hypotheses of `SyncInstructionsOnLocalCells` are met. -/
theorem witness_SyncInstructionsOnLocalCells :
    (∃ (s : State) (a i rd rs1 : Nat) (aq : Bool), OnCell s a rs1 i ∧ rd ≠ 0 ∨ aq = true) ∧
    (∃ (s : State) (a i rs1 rs2 : Nat), let x := (s.core a).x rs2; let v := s.cell i; let ge : Bool := decide ((v - x).toNat < 2 ^ 63);
        OnCell s a rs1 i ∧ ge = true) ∧
    (∃ (s : State) (a i rs1 rs2 : Nat), let x := (s.core a).x rs2; let v := s.cell i; let ge : Bool := decide ((v - x).toNat < 2 ^ 63);
        let room : Bool := decide (s.waitUsed (i / 2048) < 1024 ∧ s.sync.queued.any (fun e => e.cell / 2048 == i / 2048) = false);
        OnCell s a rs1 i ∧ ge = false ∧ room) ∧
    (∃ (s : State) (a i rs1 rs2 : Nat), let x := (s.core a).x rs2; let v := s.cell i; OnCell s a rs1 i ∧ v = x) ∧
    (∃ (s : State) (a i rs1 rs2 : Nat), let x := (s.core a).x rs2; let v := s.cell i;
        let room : Bool := decide (s.waitUsed (i / 2048) < 1024 ∧ s.sync.queued.any (fun e => e.cell / 2048 == i / 2048) = false);
        OnCell s a rs1 i ∧ v ≠ x ∧ room) :=
  ⟨⟨w3, 0, 5, 4, 1, true, by decide +kernel⟩,
   ⟨w3, 0, 5, 1, 2, by decide +kernel⟩,
   ⟨w1, 0, 5, 1, 2, by decide +kernel⟩,
   ⟨w3, 0, 5, 1, 2, by decide +kernel⟩,
   ⟨w2, 0, 5, 1, 2, by decide +kernel⟩⟩

/-- The hypotheses of `TriggerSlots` are met. -/
theorem witness_TriggerSlots :
    (∃ (s : State) (a i rd rs1 rs2 n : Nat), let x := (s.core a).x rs2; let ge : Bool := decide ((s.cell i - x).toNat < 2 ^ 63);
        rd ≠ 0 ∧ OnCell s a rs1 i ∧ isScore a = true ∧ s.freeSlot a = some n ∧ ge = true) ∧
    (∃ (s : State) (a i rd rs1 rs2 n : Nat), let x := (s.core a).x rs2; let ge : Bool := decide ((s.cell i - x).toNat < 2 ^ 63);
        rd ≠ 0 ∧ OnCell s a rs1 i ∧ isScore a = true ∧ s.freeSlot a = some n ∧ ge = false ∧ s.waitUsed (i / 2048) < 1024 ∧
        s.sync.queued.any (fun e => e.cell / 2048 == i / 2048) = false) ∧
    (∃ (s : State) (a i rd rs1 : Nat), rd ≠ 0 ∧ OnCell s a rs1 i ∧ isScore a = true ∧ s.freeSlot a = none) ∧
    (∃ (s : State) (a rd : Nat), rd ≠ 0 ∧ Ready s a ∧ isScore a = false) :=
  ⟨⟨w2, 0, 5, 4, 1, 2, 0, by decide +kernel⟩,
   ⟨w1, 0, 5, 4, 1, 2, 0, by decide +kernel⟩,
   ⟨slots8, 0, 5, 4, 1, by decide +kernel⟩,
   ⟨w1, 4, 4, by decide +kernel⟩⟩

/-- The hypotheses of `CoreControlInstructions` are met. -/
theorem witness_CoreControlInstructions :
    (∃ (s : State) (a rs1 : Nat), let x := (s.core a).x rs1; Ready s a ∧ x.toNat % 8 = 0 ∧ x.toNat < 2 ^ 15) ∧
    (∃ (s : State) (a rs1 : Nat), let x := (s.core a).x rs1; Ready s a ∧ (s.core a).outst.any (fenced x.toNat) = false ∧
        (s.core a).stat = []) ∧
    (∃ (s : State) (a rs1 : Nat), let x := (s.core a).x rs1; Ready s a ∧ (s.core a).outst.any (fenced x.toNat) = true) ∧
    (∃ (s : State) (a : Nat), Ready s a ∧ isScore a = true ∧ (s.core a).umode = false ∧ s.taskOf (tileOf a) = none ∧
        (s.core (supervised a false)).run = false ∧ (s.core (supervised a true)).run = false) ∧
    (∃ (s : State) (a : Nat) (v : Word), Ready s a ∧ ((s.taskOf (tileOf a)).all fun k => bit k.classMask (v.toNat % 16)) = true ∧
        v.toNat % 16 ≠ 15) ∧
    (∃ (s : State) (a : Nat) (v : Word), ∃ k, Ready s a ∧ s.taskOf (tileOf a) = some k ∧ bit k.classMask (v.toNat % 16) = false) :=
  ⟨⟨tasked, 4, 1, by decide +kernel⟩,
   ⟨tasked, 4, 1, by decide +kernel⟩,
   ⟨out1, 0, 1, by decide +kernel⟩,
   ⟨out1, 0, by decide +kernel⟩,
   ⟨out1, 0, 1, by decide +kernel⟩,
   ⟨tasked, 0, 2, tk, by decide +kernel⟩⟩

/-- The hypotheses of `VcoreSupervision` are met. -/
theorem witness_VcoreSupervision :
    (∃ (s : State) (a : Nat), let w := s.vsel a; Ready s a ∧ isScore a = true ∧ (s.core a).umode = false ∧ s.corePresent w = true ∧
        s.coreFenced w = false ∧ (s.core w).run = false) ∧
    (∃ (s : State) (a : Nat), let w := s.vsel a; Ready s a ∧ isScore a = true ∧ (s.core a).umode = false ∧ (s.core w).run = true ∧
        (s.core w).wait = .none) ∧
    (∃ (s : State) (b : Nat), Ready s b ∧ isScore b = false) :=
  ⟨⟨vrun, 0, by decide +kernel⟩,
   ⟨up, 0, by decide +kernel⟩,
   ⟨up, 4, by decide +kernel⟩⟩

/-- The hypotheses of `ScoreInterruptEntry` are met. -/
theorem witness_ScoreInterruptEntry :
    (∃ (a : Nat), a < 384 ∧ isScore a = true) ∧
    (∃ (s : State) (a : Nat), Ready s a ∧ isScore a = true ∧ (s.core a).umode = false ∧ s.irqOf a = none) ∧
    (∃ (s : State) (a n : Nat), Ready s a ∧ isScore a = true ∧ (s.core a).umode = false ∧ s.irqOf a = some n) ∧
    (∃ (s : State) (a n : Nat), Ready s a ∧ isScore a = true ∧ s.irqTaken a = true ∧ s.irqOf a = some n ∧ (s.core a).csrv 0x305 % 4 = 0) :=
  ⟨⟨0, by decide +kernel⟩,
   ⟨up, 0, by decide +kernel⟩,
   ⟨irq, 0, 7, by decide +kernel⟩,
   ⟨irq, 0, 7, by decide +kernel⟩⟩

end Cores

/-! ### Accesses -/

namespace Accesses

/-- State or operand of the witnesses below. -/
def CB : Nat := 0x008000000000

/-- State or operand of the witnesses below. -/
def line0 : Nat := CB / 128

/-- State or operand of the witnesses below. -/
def ent (st : CState) : CacheEnt := { line := line0, st := st, data := (List.range 128).map (BitVec.ofNat 8) }

/-- State or operand of the witnesses below. -/
def cached (st : CState) (resv : Option Nat) : State :=
  { upCore (fun c => { c with resv := resv }) with coh.ents := [(2, ent st)], coh.ctls := [(0, { enable := true, invdone := true })] }

/-- The hypotheses of `CoreLoadsStoresAndFetch` are met. -/
theorem witness_CoreLoadsStoresAndFetch :
    (∃ (s : State) (a addr size rd e : Nat), let c := s.cent a e;
        let held (k : AccKind) : Bool := decide (s.cacheable addr = true ∧ s.coreStatus a k addr size = .ok ∧ (s.ctl a).enable = true ∧ s.findEnt a (s.loc addr / 128) = some e ∧ c.flips = [] ∧ (s.ctl a).deferred = [] ∧ (s.ctl a).pfEn = false ∧ s.armedFlip 2 a = none ∧ addr % size = 0);
        Ready s a ∧ rd ≠ 0 ∧ held .load ∧ c.st ∈ [CState.m, .e, .f, .s]) ∧
    (∃ (s : State) (a addr size rd e : Nat), let c := s.cent a e;
        let held (k : AccKind) : Bool := decide (s.cacheable addr = true ∧ s.coreStatus a k addr size = .ok ∧ (s.ctl a).enable = true ∧ s.findEnt a (s.loc addr / 128) = some e ∧ c.flips = [] ∧ (s.ctl a).deferred = [] ∧ (s.ctl a).pfEn = false ∧ s.armedFlip 2 a = none ∧ addr % size = 0);
        Ready s a ∧ rd ≠ 0 ∧ held .load ∧ c.st ∈ [CState.m, .e]) ∧
    (∃ (s : State) (a addr size rd e : Nat), let c := s.cent a e;
        let held (k : AccKind) : Bool := decide (s.cacheable addr = true ∧ s.coreStatus a k addr size = .ok ∧ (s.ctl a).enable = true ∧ s.findEnt a (s.loc addr / 128) = some e ∧ c.flips = [] ∧ (s.ctl a).deferred = [] ∧ (s.ctl a).pfEn = false ∧ s.armedFlip 2 a = none ∧ addr % size = 0);
        Ready s a ∧ rd ≠ 0 ∧ held .store ∧ c.st ∈ [CState.m, .e] ∧ (s.core a).resv = some (s.loc addr / 128)) ∧
    (∃ (s : State) (a addr size rd e : Nat), let c := s.cent a e;
        let held (k : AccKind) : Bool := decide (s.cacheable addr = true ∧ s.coreStatus a k addr size = .ok ∧ (s.ctl a).enable = true ∧ s.findEnt a (s.loc addr / 128) = some e ∧ c.flips = [] ∧ (s.ctl a).deferred = [] ∧ (s.ctl a).pfEn = false ∧ s.armedFlip 2 a = none ∧ addr % size = 0);
        Ready s a ∧ rd ≠ 0 ∧ held .store ∧ (s.core a).resv ≠ some (s.loc addr / 128)) ∧
    (∃ (s : State) (a addr rd i : Nat), Ready s a ∧ rd ≠ 0 ∧ s.place addr = .cell i ∧ s.coreCheck a .load addr 8 = .ok ∧ SoundCell s i) ∧
    (∃ (s : State) (a addr rd i : Nat), Ready s a ∧ rd ≠ 0 ∧ s.place addr = .cell i ∧ s.coreCheck a .store addr 8 = .ok ∧ SoundCell s i) ∧
    (∃ (s : State) (a rd o : Nat), Ready s a ∧ rd ≠ 0 ∧ s.place (s.core a).pc.toNat = .priv o ∧
        s.coreCheck a .fetch (s.core a).pc.toNat 2 = .ok ∧ s.tcmErrs = [] ∧ ofLe (s.rawBytes (tcmBase + 0x20000 * a + o) 2) % 4 ≠ 3 ∧
        ofLe (s.rawBytes (tcmBase + 0x20000 * a + o) 2) ≠ 0x9002) :=
  ⟨⟨(cached .e none), 0, (CB + 120), 4, 3, 2, by decide +kernel⟩,
   ⟨(cached .e none), 0, (CB + 120), 4, 3, 2, by decide +kernel⟩,
   ⟨(cached .m (some line0)), 0, (CB + 120), 8, 3, 2, by decide +kernel⟩,
   ⟨(cached .e none), 0, (CB + 120), 4, 3, 2, by decide +kernel⟩,
   ⟨up, 0, 0x009000000028, 3, 5, by decide +kernel⟩,
   ⟨up, 0, 0x009000000028, 3, 5, by decide +kernel⟩,
   ⟨up, 0, 3, 0, by decide +kernel⟩⟩

/-- The hypotheses of `CacheControlWrites` are met. -/
theorem witness_CacheControlWrites :
    (∃ (s : State) (a e : Nat), let c := s.cent a e; Ready s a ∧ e < 48 ∧ s.pinned a e = false ∧ c.st = .m ∧ c.flips = []) ∧
    (∃ (s : State) (a e : Nat), let c := s.cent a e; Ready s a ∧ e < 48 ∧ s.pinned a e = false ∧ c.st = .s) ∧
    (∃ (s : State) (a e : Nat), let c := s.cent a e; Ready s a ∧ e < 48 ∧ s.pinned a e = false ∧ c.st = .e) ∧
    (∃ (s : State) (a e : Nat), let none' : Bool := decide (∀ k : Nat, k < 48 → (s.cent a k).st = .i); Ready s a ∧ e < 48 ∧
        s.pinned a e = false ∧ none' ∧ e < 32 ∧ (s.ctl a).pin = 0 ∧ (s.ctl a).off = 0) ∧
    (∃ (s : State) (a e : Nat), Ready s a ∧ e < 48 ∧ s.pinned a e = false ∧ (s.ctl a).invdone = true) ∧
    (∃ (s : State) (a e : Nat), Ready s a ∧ e < 48 ∧ s.pinned a e = false ∧ (s.ctl a).invdone = false) ∧
    (∃ (s : State) (a e : Nat), let none' : Bool := decide (∀ k : Nat, k < 48 → (s.cent a k).st = .i); Ready s a ∧ e < 48 ∧
        s.pinned a e = false ∧ none' ∧ (s.ctl a).enable = true) ∧
    (∃ (s : State) (a e : Nat), Ready s a ∧ e < 48 ∧ s.pinned a e = false ∧ (s.ctl a).deferred = []) :=
  ⟨⟨(cached .m none), 0, 2, by decide +kernel⟩,
   ⟨(cached .s none), 0, 2, by decide +kernel⟩,
   ⟨(cached .e none), 0, 2, by decide +kernel⟩,
   ⟨{up with coh.ctls := [(0, { enable := true, invdone := true })]}, 0, 31, by decide +kernel⟩,
   ⟨{up with coh.ctls := [(0, { enable := true, invdone := true })]}, 0, 31, by decide +kernel⟩,
   ⟨up, 0, 31, by decide +kernel⟩,
   ⟨{up with coh.ctls := [(0, { enable := true, invdone := true })]}, 0, 31, by decide +kernel⟩,
   ⟨{up with coh.ctls := [(0, { enable := true, invdone := true })]}, 0, 31, by decide +kernel⟩⟩

end Accesses

/-! ### Coherence -/

namespace Coherence

/-- State or operand of the witnesses below. -/
def CB : Nat := 0x008000000000

/-- State or operand of the witnesses below. -/
def line0 : Nat := CB / 128

/-- State or operand of the witnesses below. -/
def by0 : Bytes := (List.range 128).map (BitVec.ofNat 8)

/-- State or operand of the witnesses below. -/
def ent (st : CState) : CacheEnt := { line := line0, st := st, data := by0 }

/-- State or operand of the witnesses below. -/
def centry (st : CState) : State := { up with coh.ents := [(2, ent st)], coh.ctls := [(0, { enable := true, invdone := true })] }

/-- State or operand of the witnesses below. -/
def di : Nat := dirBase line0

/-- State or operand of the witnesses below. -/
def dirS (e : DirEnt) : State := { up with coh.dir := [(di, { e with line := line0 })] }

/-- State or operand of the witnesses below. -/
def own1 : State := dirS { st := 1, ptrs := [some 4, none, none, none] }

/-- State or operand of the witnesses below. -/
def busy (k : CohKind) : State := dirS { st := 4, prev := 1, ptrs := [some 4, none, none, none], wait := [4], req := some { kind := k, line := line0, agent := 0 } }

/-- The hypotheses of `HomeServesFreeLine` are met. -/
theorem witness_HomeServesFreeLine :
    (∃ (s : State) (m : CohMsg) (i : Nat), let goes (k : CohKind) : Bool := decide (s.partnerStops m k = none); m.agent < 509 ∧
        s.findWay m.line = none ∧ s.freeWay m.line = some i ∧ s.homeFull m.line = false ∧
        s.coh.waiting.any (fun w => dirBase w.line == dirBase m.line) = false ∧ s.badGrans (128 * m.line) 128 = [] ∧
        s.stackStatus (128 * m.line) 128 = .ok ∧ s.activeSlots = [] ∧ goes .rdS) ∧
    (∃ (s : State) (m : CohMsg) (i : Nat), let goes (k : CohKind) : Bool := decide (s.partnerStops m k = none); m.agent < 509 ∧
        s.findWay m.line = none ∧ s.freeWay m.line = some i ∧ s.homeFull m.line = false ∧
        s.coh.waiting.any (fun w => dirBase w.line == dirBase m.line) = false ∧ s.badGrans (128 * m.line) 128 = [] ∧
        s.stackStatus (128 * m.line) 128 = .ok ∧ s.activeSlots = [] ∧ goes .rdX) ∧
    (∃ (s : State) (m : CohMsg) (i : Nat), let goes (k : CohKind) : Bool := decide (s.partnerStops m k = none); m.agent < 509 ∧
        s.findWay m.line = none ∧ s.freeWay m.line = some i ∧ s.homeFull m.line = false ∧
        s.coh.waiting.any (fun w => dirBase w.line == dirBase m.line) = false ∧ s.badGrans (128 * m.line) 128 = [] ∧
        s.stackStatus (128 * m.line) 128 = .ok ∧ s.activeSlots = [] ∧ goes .upg) ∧
    (∃ (s : State) (m : CohMsg) (i : Nat), m.agent < 509 ∧ s.findWay m.line = none ∧ s.freeWay m.line = some i ∧
        s.homeFull m.line = false ∧ s.coh.waiting.any (fun w => dirBase w.line == dirBase m.line) = false ∧
        s.badGrans (128 * m.line) 128 = [] ∧ s.stackStatus (128 * m.line) 128 = .ok ∧ s.activeSlots = [] ∧ m.off + m.len ≤ 128) ∧
    (∃ (s : State) (m : CohMsg) (i : Nat), let goes (k : CohKind) : Bool := decide (s.partnerStops m k = none); m.agent < 509 ∧
        s.findWay m.line = none ∧ s.freeWay m.line = some i ∧ s.homeFull m.line = false ∧
        s.coh.waiting.any (fun w => dirBase w.line == dirBase m.line) = false ∧ s.badGrans (128 * m.line) 128 = [] ∧
        s.stackStatus (128 * m.line) 128 = .ok ∧ s.activeSlots = [] ∧ goes .wrU ∧ s.grans = [] ∧ m.hole = [] ∧ m.stash = none) :=
  ⟨⟨up, { line := line0, agent := 0, data := by0, off := 0, len := 128 }, di, by decide +kernel⟩,
   ⟨up, { line := line0, agent := 0, data := by0, off := 0, len := 128 }, di, by decide +kernel⟩,
   ⟨up, { line := line0, agent := 0, data := by0, off := 0, len := 128 }, di, by decide +kernel⟩,
   ⟨up, { line := line0, agent := 0, data := by0, off := 0, len := 128 }, di, by decide +kernel⟩,
   ⟨up, { line := line0, agent := 0, data := by0, off := 0, len := 128 }, di, by decide +kernel⟩⟩

/-- The hypotheses of `HomeSnoopsOwnerAndTakesAnswers` are met. -/
theorem witness_HomeSnoopsOwnerAndTakesAnswers :
    (∃ (s : State) (m : CohMsg) (i o : Nat), let e := s.dirEnt i; m.agent < 509 ∧ s.findWay m.line = some i ∧ s.coh.waiting = [] ∧
        s.homeFull m.line = false ∧ (∀ k ∈ [CohKind.rdS, .rdX, .rdU, .snpRsp, .putC, .putM], s.partnerStops m k = none) ∧ e.st = 1 ∧
        e.ptrs = [some o, none, none, none]) ∧
    (∃ (s : State) (m q : CohMsg) (i : Nat), let e := s.dirEnt i; m.agent < 509 ∧ s.findWay m.line = some i ∧ s.coh.waiting = [] ∧
        s.homeFull m.line = false ∧ (∀ k ∈ [CohKind.rdS, .rdX, .rdU, .snpRsp, .putC, .putM], s.partnerStops m k = none) ∧ e.st = 4 ∧
        e.prev = 1 ∧ e.ptrs = [some m.agent, none, none, none] ∧ e.wait = [m.agent] ∧ e.req = some q ∧ e.held = [] ∧ m.result = .fwd ∧
        m.hasData = false ∧ m.cancel = false ∧ m.poison = false ∧ q.agent ≠ m.agent ∧ q.cancel = false ∧ s.cxl q.agent = false) ∧
    (∃ (s : State) (m : CohMsg) (i : Nat), let e := s.dirEnt i; m.agent < 509 ∧ s.findWay m.line = some i ∧ s.coh.waiting = [] ∧
        s.homeFull m.line = false ∧ (∀ k ∈ [CohKind.rdS, .rdX, .rdU, .snpRsp, .putC, .putM], s.partnerStops m k = none) ∧ e.st = 1 ∧
        e.ptrs = [some m.agent, none, none, none] ∧ s.coh.cancelled = [] ∧ m.keep = false ∧ m.poison = false ∧ s.grans = [] ∧
        s.stackStatus (128 * m.line) 128 = .ok) :=
  ⟨⟨own1, { line := line0, agent := 4, data := by0, hasData := true }, di, 4, by decide +kernel⟩,
   ⟨(busy .rdX), { line := line0, agent := 4, result := .fwd }, { kind := .rdX, line := line0, agent := 0 }, di, by decide +kernel⟩,
   ⟨own1, { line := line0, agent := 4, data := by0, hasData := true }, di, by decide +kernel⟩⟩

/-- The hypotheses of `HomeStashAndReclaim` are met. -/
theorem witness_HomeStashAndReclaim :
    (∃ (s : State) (a x i : Nat), a < 384 ∧ s.findEnt a x = none ∧ s.findWay x = none ∧ s.freeWay x = some i ∧
        s.badGrans (128 * x) 128 = [] ∧ s.stackStatus (128 * x) 128 = .ok ∧ s.activeSlots = []) ∧
    (∃ (s : State) (m : CohMsg) (i : Nat), m.agent < 509 ∧ s.findWay m.line = some i ∧ (s.dirEnt i).st = 6 ∧ (s.dirEnt i).prev = 0 ∧
        (s.dirEnt i).wait = [m.agent] ∧ (s.dirEnt i).held = [] ∧ s.coh.waiting = [] ∧ s.partnerStops m .stashAcc = none ∧
        s.partnerStops m .stashDec = none) :=
  ⟨⟨up, 0, line0, di, by decide +kernel⟩,
   ⟨(dirS { st := 6, wait := [0] }), { line := line0, agent := 0 }, di, by decide +kernel⟩⟩

/-- The hypotheses of `CacheAnswersSnoops` are met. -/
theorem witness_CacheAnswersSnoops :
    (∃ (s : State) (m : CohMsg) (e : Nat), let a := m.agent; let c := s.cent a e; m.agent < 384 ∧ (s.ctl m.agent).lrHold = none ∧
        s.findEnt a m.line = some e ∧ c.st = .m ∧ c.flips = []) ∧
    (∃ (s : State) (m : CohMsg) (e : Nat), let a := m.agent; let c := s.cent a e; m.agent < 384 ∧ (s.ctl m.agent).lrHold = none ∧
        s.findEnt a m.line = some e ∧ c.st ∈ [CState.e, .f, .s] ∧ c.flips = []) ∧
    (∃ (s : State) (m : CohMsg), let a := m.agent; m.agent < 384 ∧ (s.ctl m.agent).lrHold = none ∧ s.findEnt a m.line = none) :=
  ⟨⟨(centry .m), { line := line0, agent := 0, req := 4, len := 128 }, 2, by decide +kernel⟩,
   ⟨(centry .f), { line := line0, agent := 0, req := 4, len := 128 }, 2, by decide +kernel⟩,
   ⟨up, { line := line0, agent := 383, req := 4, len := 128 }, by decide +kernel⟩⟩

/-- The hypotheses of `CacheTakesReplies` are met. -/
theorem witness_CacheTakesReplies :
    (∃ (s : State) (m : CohMsg) (e : Nat), let a := m.agent; let c := s.cent a e; m.agent < 384 ∧ (s.ctl m.agent).acc = none ∧
        (s.ctl m.agent).deferred = [] ∧ s.findEnt a m.line = some e ∧ c.st = .is ∧ c.oneUse = false ∧ m.st ≠ .i) ∧
    (∃ (s : State) (m : CohMsg) (e : Nat), let a := m.agent; let c := s.cent a e; m.agent < 384 ∧ (s.ctl m.agent).acc = none ∧
        (s.ctl m.agent).deferred = [] ∧ s.findEnt a m.line = some e ∧ c.st = .sm) ∧
    (∃ (s : State) (m : CohMsg) (e : Nat), let a := m.agent; let c := s.cent a e; m.agent < 384 ∧ (s.ctl m.agent).acc = none ∧
        (s.ctl m.agent).deferred = [] ∧ m.tag = e ∧ c.st = .wb ∧ c.keep = false ∧ (s.ctl a).fill = none ∧ (s.ctl a).maint = [] ∧
        (s.ctl a).after = 0) ∧
    (∃ (s : State) (m : CohMsg) (e : Nat), let a := m.agent; m.agent < 384 ∧ (s.ctl m.agent).acc = none ∧
        (s.ctl m.agent).deferred = [] ∧ (s.ctl a).enable = true ∧ (s.ctl a).stashEn = true ∧ s.findEnt a m.line = none ∧
        s.invalidEnt a = some e) ∧
    (∃ (s : State) (m : CohMsg), let a := m.agent; m.agent < 384 ∧ (s.ctl m.agent).acc = none ∧ (s.ctl m.agent).deferred = [] ∧
        (s.ctl a).stashEn = false) :=
  ⟨⟨(centry .is), { line := line0, agent := 0, data := by0, st := .e }, 2, by decide +kernel⟩,
   ⟨(centry .sm), { line := line0, agent := 0 }, 2, by decide +kernel⟩,
   ⟨(centry .wb), { line := line0, agent := 0, tag := 2 }, 2, by decide +kernel⟩,
   ⟨{ up with coh.ctls := [(0, { enable := true, stashEn := true })] }, { line := line0, agent := 0, data := by0, st := .e }, 0, by decide +kernel⟩,
   ⟨up, { line := line0, agent := 0, data := by0, st := .e }, by decide +kernel⟩⟩

end Coherence

/-! ### Matrix -/

namespace Matrix

/-- State or operand of the witnesses below. -/
def CB : Nat := 0x008000000000

/-- State or operand of the witnesses below. -/
def mcmd (l : List (Nat × Nat × Nat)) : MCmd := ⟨rec64 l, 2, 9⟩

/-- State or operand of the witnesses below. -/
def mcs (c : MCmd) (x : MCore) : State := { up with mcores := [(0, { x with queue := [c] })] }

/-- State or operand of the witnesses below. -/
def cNop := mcmd [(1,1,1),(2,1,0x81),(3,1,2),(4,4,77)]

/-- State or operand of the witnesses below. -/
def cSet := mcmd [(0,1,5),(12,4,77),(16,8,5)]

/-- State or operand of the witnesses below. -/
def cAdd := mcmd [(0,1,5),(8,1,1),(12,4,77),(16,8,5)]

/-- State or operand of the witnesses below. -/
def cGe := mcmd [(0,1,6),(12,4,77),(16,8,5)]

/-- State or operand of the witnesses below. -/
def cBad := mcmd [(0,1,7)]

/-- State or operand of the witnesses below. -/
def mfault : State := mcs cNop { faulted := true, sigs := [77, 8] }

/-- State or operand of the witnesses below. -/
def mx : MXfer := ⟨cNop, false, 1, 0, 64, 2, (List.range 32).map (BitVec.ofNat 8), false⟩

/-- State or operand of the witnesses below. -/
def cMma := mcmd [(0,1,1),(8,1,0),(10,2,1),(12,2,1),(14,2,32),(20,4,64),(28,4,64),(32,4,128),(36,4,4)]

/-- State or operand of the witnesses below. -/
def mmaS : State := mcs cMma { bufs := [(0, 0x80), (1, 0x3f), (4, 0x40), (5, 0x40), (262144, 0), (262145, 0x40), (262148, 0x40), (262149, 0x40)] }

/-- State or operand of the witnesses below. -/
def cLoad := mcmd [(0,1,2),(8,1,1),(10,2,1),(12,4,32),(16,8,CB),(28,4,64),(32,4,32)]

/-- State or operand of the witnesses below. -/
def cStore := mcmd [(0,1,3),(8,1,0),(10,2,1),(12,2,2),(20,4,8),(24,8,CB),(32,4,8)]

/-- State or operand of the witnesses below. -/
def cSend := mcmd [(0,1,4),(8,1,0),(9,1,0),(10,1,0),(11,1,2),(12,4,32),(20,4,64)]

/-- The hypotheses of `MatrixCommandsRetire` are met. -/
theorem witness_MatrixCommandsRetire :
    (∃ (s : State) (i : Nat) (c : MCmd) (rest : List MCmd), let d := c.desc; MHead s i c rest ∧ le d 0 1 = 0) ∧
    (∃ (s : State) (i : Nat) (c : MCmd) (rest : List MCmd), let d := c.desc; let cell := le d 12 4; MHead s i c rest ∧ le d 0 1 = 5 ∧
        le d 8 1 = 0 ∧ SoundCell s cell) ∧
    (∃ (s : State) (i : Nat) (c : MCmd) (rest : List MCmd), let d := c.desc; MHead s i c rest ∧ le d 0 1 = 5 ∧ le d 8 1 = 1) ∧
    (∃ (s : State) (i : Nat) (c : MCmd) (rest : List MCmd), let d := c.desc; let cell := le d 12 4;
        let v : Word := BitVec.ofNat 64 (le d 16 8); MHead s i c rest ∧ le d 0 1 = 6 ∧ le d 8 1 = 0 ∧ SoundCell s cell ∧
        (s.cell cell - v).toNat < 2 ^ 63) ∧
    (∃ (s : State) (i : Nat) (c : MCmd) (rest : List MCmd), let d := c.desc; let cell := le d 12 4;
        let v : Word := BitVec.ofNat 64 (le d 16 8); MHead s i c rest ∧ le d 0 1 = 6 ∧ le d 8 1 = 0 ∧ SoundCell s cell ∧
        2 ^ 63 ≤ (s.cell cell - v).toNat ∧ s.waitUsed (cell / 2048) < 1024 ∧
        s.sync.queued.any (fun q => q.cell / 2048 == cell / 2048) = false) ∧
    (∃ (s : State) (i : Nat) (c : MCmd) (rest : List MCmd), let d := c.desc; let x := s.mc i; i < 512 ∧ x.queue = c :: rest ∧
        s.mPresent i = true ∧ x.faulted = false ∧ x.waiting = false ∧ s.quiesced (i / 16) (i / 4 % 4) = false ∧ 7 ≤ le d 0 1) ∧
    (∃ (s : State) (i : Nat), ∃ k l, let x := s.mc i; i < 512 ∧ x.sigs = k :: l ∧ x.xfers = []) ∧
    (∃ (s : State) (i : Nat), let x := s.mc i; i < 512 ∧ x.faulted = true ∧ x.stale = false) ∧
    (∃ (s : State) (i : Nat), let x := s.mc i; i < 512 ∧ x.waiting = false ∧ x.stale = false) :=
  ⟨⟨(mcs cNop { lf := [0, 3, 0, 0] }), 0, cNop, [], by decide +kernel⟩,
   ⟨(mcs cSet {}), 0, cSet, [], by decide +kernel⟩,
   ⟨(mcs cAdd {}), 0, cAdd, [], by decide +kernel⟩,
   ⟨{ mcs cGe {} with sync.cells := [(77, 5#64)] }, 0, cGe, [], by decide +kernel⟩,
   ⟨(mcs cGe {}), 0, cGe, [], by decide +kernel⟩,
   ⟨(mcs cBad {}), 0, cBad, [], by decide +kernel⟩,
   ⟨mfault, 0, 77, [8], by decide +kernel⟩,
   ⟨mfault, 0, by decide +kernel⟩,
   ⟨mfault, 0, by decide +kernel⟩⟩

/-- The hypotheses of `MatrixDataCommands` are met. -/
theorem witness_MatrixDataCommands :
    (∃ (s : State) (i : Nat) (c : MCmd) (rest : List MCmd), let d := c.desc; let fa := bits (le d 8 1) 3 0;
        let fb := bits (le d 8 1) 7 4; let quiet : Bool := decide (unarmed s 4 = true); (s.mc i).errs = [] ∧ MHead s i c rest ∧
        le d 0 1 = 1 ∧ quiet ∧ bit (le d 9 1) 0 = false ∧ opClass fa fb ≠ 4 ∧ le d 10 2 = 1 ∧ le d 12 2 = 1) ∧
    (∃ (s : State) (i : Nat) (c : MCmd) (rest : List MCmd), let d := c.desc; let quiet : Bool := decide (unarmed s 4 = true);
        let far (p : Nat) : Bool := decide (inMem s p = true); (s.mc i).errs = [] ∧ MHead s i c rest ∧ le d 0 1 = 2 ∧ quiet ∧ Clean s ∧
        le d 10 2 = 1 ∧ s.mAccess i .load d = .ok ∧ far (le d 16 8)) ∧
    (∃ (s : State) (i : Nat) (c : MCmd) (rest : List MCmd), let d := c.desc; let far (p : Nat) : Bool := decide (inMem s p = true);
        (s.mc i).errs = [] ∧ MHead s i c rest ∧ le d 0 1 = 3 ∧ Clean s ∧ bit (le d 9 1) 4 = false ∧ le d 10 2 = 1 ∧
        s.mAccess i .store d = .ok ∧ far (le d 24 8)) ∧
    (∃ (s : State) (i : Nat) (c : MCmd) (rest : List MCmd), let d := c.desc; (s.mc i).errs = [] ∧ MHead s i c rest ∧ le d 0 1 = 4 ∧
        le d 9 1 < 4) ∧
    (∃ (s : State) (i : Nat) (x : MXfer) (xs : List MXfer), let quiet : Bool := decide (unarmed s 4 = true); (s.mc i).errs = [] ∧
        i < 512 ∧ quiet ∧ (s.mc i).xfers = x :: xs ∧ x.toV = false ∧ x.dst ≠ i ∧ x.lf < 4 ∧ (s.mc x.dst).lf.length = 4 ∧
        (s.mc x.dst).lf.getD x.lf 0 < 65535) ∧
    (∃ (s : State) (i t1 : Nat), (s.mc i).errs = [] ∧ t1 < 32) :=
  ⟨⟨mmaS, 0, cMma, [], by decide +kernel⟩,
   ⟨{ mcs cLoad {} with mem := [(CB + 3, 5#8)] }, 0, cLoad, [], by decide +kernel⟩,
   ⟨(mcs cStore { bufs := [(524288 + 3, 0x40)] }), 0, cStore, [], by decide +kernel⟩,
   ⟨(mcs cSend {}), 0, cSend, [], by decide +kernel⟩,
   ⟨(mcs cSend { xfers := [{ mx with landed := true }] }), 0, { mx with landed := true }, [], by decide +kernel⟩,
   ⟨(mcs cSend { xfers := [{ mx with landed := true }] }), 0, 31, by decide +kernel⟩⟩

end Matrix

/-! ### PumpRuns -/

namespace PumpRuns

/-- State or operand of the witnesses below. -/
def CB : Nat := 0x008000000000

/-- State or operand of the witnesses below. -/
def pcm (l : List (Nat × Nat × Nat)) : PCmd := { id := 1, desc := rec64 l, agent := 0, ticket := 8, cls := 2, started := true }

/-- State or operand of the witnesses below. -/
def pst (c : PCmd) : State := { up with mesh.pumps := [(0, [c])], sync.cells := [] }

/-- State or operand of the witnesses below. -/
def nc : Contrib := ⟨CB, 0, false, false, 0, 5, 1, false, false, none⟩

/-- State or operand of the witnesses below. -/
def core1 : State := { upCore (fun c => (c.setX 1 0x010080000040).setX 2 1) with mem := [(0x010040000040, 5#8)] }

/-- State or operand of the witnesses below. -/
def d5 : Bytes := rec64 [(0,1,5)]

/-- State or operand of the witnesses below. -/
def pfin : PCmd := { pcm [(0,1,4)] with fin := some (.ok, 0, 9) }

/-- State or operand of the witnesses below. -/
def sfin : State := (pst pfin).setCore 0 { up.core 0 with outst := [8] }

/-- State or operand of the witnesses below. -/
def pnew : PCmd := { pcm [(0,1,4),(16,8,CB),(24,8,64)] with started := false }

/-- State or operand of the witnesses below. -/
def pcopy := pcm [(0,1,1),(16,8,CB),(24,8,CB+100),(32,4,5),(36,2,1),(38,2,1)]

/-- State or operand of the witnesses below. -/
def pgath := pcm [(0,1,2),(16,8,CB),(24,8,CB+128),(32,8,CB+64),(40,4,1),(44,4,4)]

/-- State or operand of the witnesses below. -/
def pscat := pcm [(0,1,3),(16,8,CB),(24,8,CB+128),(32,8,CB+64),(40,4,1),(44,4,4)]

/-- State or operand of the witnesses below. -/
def pfill := pcm [(0,1,4),(16,8,CB+3),(24,8,21),(32,8,0x0102030405060708)]

/-- State or operand of the witnesses below. -/
def pmc := pcm [(0,1,5),(16,8,CB),(24,8,CB+0x2000),(32,4,32),(36,1,1)]

/-- State or operand of the witnesses below. -/
def pmc2 : PCmd := { pmc with dests := [CB+0x1000], live := [0], buf := (List.range 32).map (BitVec.ofNat 8) }

/-- State or operand of the witnesses below. -/
def pseal := pcm [(0,1,6),(16,8,0x1000),(24,4,1)]

/-- State or operand of the witnesses below. -/
def pver := pcm [(0,1,7),(16,8,0x1000),(24,4,1)]

/-- State or operand of the witnesses below. -/
def pcs := pcm [(0,1,8),(16,8,CB),(24,8,CB+0x100000),(32,4,3),(36,1,0),(37,1,0)]

/-- State or operand of the witnesses below. -/
def prel := pcm [(0,1,10),(16,8,CB+0x200)]

/-- State or operand of the witnesses below. -/
def slot : CatSlot := { state := 1, desc := rec64 [(0,1,9),(20,4,1),(24,4,2),(28,4,77),(32,8,CB+0x200),(40,8,CB),(48,8,CB+0x400)], written := [0, 1] }

/-- State or operand of the witnesses below. -/
def scat : State := { pst prel with mesh.cats := [(0, { service := true, slots := [(63, slot)], raised := some 1000000 })] }

/-- State or operand of the witnesses below. -/
def pci := pcm [(0,1,9),(16,1,0),(17,1,0),(20,4,2),(24,4,4),(28,4,77),(32,8,CB+0x10000),(40,8,CB+0x20000),(48,8,CB+0x30000)]

/-- The hypotheses of `PumpStartAndComplete` are met. -/
theorem witness_PumpStartAndComplete :
    (∃ (s : State) (a rs1 rs2 : Nat) (d : Bytes), let ad := ((s.core a).x rs1).toNat; let sel := ((s.core a).x rs2).toNat;
        let i := 16 * tileOf a + 4 * sel + a % 12; let u := (s.coreBytes a ad 64).1; Ready s a ∧ isScore a = true ∧ sel < 4 ∧
        ad % 64 = 0 ∧ s.mcqPlace ad = true ∧ (s.coreBytes a ad 64).2 = .ok d ∧ u.mPresent i = true ∧ (u.mc i).stale = false) ∧
    (∃ (s : State) (a rs1 rs2 p : Nat) (d : Bytes), let ad := ((s.core a).x rs1).toNat; let u := (s.coreBytes a ad 64).1;
        let k := u.core a; Ready s a ∧ ad % 64 = 0 ∧ (s.coreBytes a ad 64).2 = .ok d ∧ u.selectPump a (k.x rs2).toNat = some p ∧
        k.outst.length < 16 ∧ (u.pump p).length < 64) ∧
    (∃ (s : State) (p : Nat) (c : PCmd), p < 156 ∧ s.pumpNext p = some c ∧ s.coreFenced c.agent = false ∧ 0 < pPop c.desc ∧
        pPop c.desc ≤ 10) ∧
    (∃ (s : State) (p id : Nat) (c : PCmd) (st : Status) (detail res : Nat), p < 156 ∧ (s.pump p).find? (fun x => x.id == id) = some c ∧
        c.fin = some (st, detail, res) ∧ c.waits = [] ∧ s.aside c = false ∧ bit (pFlags c.desc) 4 = false ∧
        bit (pFlags c.desc) 0 = false ∧ (s.core c.agent).outst.contains c.ticket = true ∧ (s.core c.agent).wait = .none) :=
  ⟨⟨{ core1 with mcores := [(4, { queue := List.replicate 32 ⟨d5, 0, 0⟩ })] }, 0, 1, 2, d5, by decide +kernel⟩,
   ⟨{ core1 with mcores := [(4, { queue := List.replicate 32 ⟨d5, 0, 0⟩ })] }, 0, 1, 2, 1, d5, by decide +kernel⟩,
   ⟨(pst pnew), 0, pnew, by decide +kernel⟩,
   ⟨sfin, 0, 1, pfin, .ok, 0, 9, by decide +kernel⟩⟩

/-- The hypotheses of `PumpsMoveData` are met. -/
theorem witness_PumpsMoveData :
    (∃ (s : State) (p id : Nat) (c : PCmd), let d := c.desc; let src := le d 16 8; let dst := le d 24 8; Clean s ∧
        bit (pFlags c.desc) 1 = false ∧ bit (pFlags c.desc) 2 = false ∧ bit (pFlags c.desc) 3 = false ∧ Pumping s p id c ∧ pPop d = 1 ∧
        le d 36 2 = 1 ∧ le d 38 2 = 1 ∧ May s p c .load src (le d 32 4) ∧ May s p c .store dst (le d 32 4)) ∧
    (∃ (s : State) (p id : Nat) (c : PCmd), let d := c.desc; let src := le d 16 8; let dst := le d 24 8; let n := le d 44 4;
        let list := s.rawBytes (le d 32 8) (if bit (le d 48 1) 0 then 8 else 4); Clean s ∧ bit (pFlags c.desc) 1 = false ∧
        bit (pFlags c.desc) 2 = false ∧ bit (pFlags c.desc) 3 = false ∧ Pumping s p id c ∧ pPop d = 2 ∧ le d 40 4 = 1 ∧
        May s p c .load (le d 32 8) (if bit (le d 48 1) 0 then 8 else 4) ∧ May s p c .load (src + pIndex d list 0 * n) n ∧
        May s p c .store dst n) ∧
    (∃ (s : State) (p id : Nat) (c : PCmd), let d := c.desc; let src := le d 16 8; let dst := le d 24 8; let n := le d 44 4;
        let list := s.rawBytes (le d 32 8) (if bit (le d 48 1) 0 then 8 else 4); Clean s ∧ bit (pFlags c.desc) 1 = false ∧
        bit (pFlags c.desc) 2 = false ∧ bit (pFlags c.desc) 3 = false ∧ Pumping s p id c ∧ pPop d = 3 ∧ le d 40 4 = 1 ∧
        May s p c .load (le d 32 8) (if bit (le d 48 1) 0 then 8 else 4) ∧ May s p c .load src n ∧
        May s p c .store (dst + pIndex d list 0 * n) n) ∧
    (∃ (s : State) (p id : Nat) (c : PCmd), let d := c.desc; let src := le d 16 8; Clean s ∧ bit (pFlags c.desc) 1 = false ∧
        bit (pFlags c.desc) 2 = false ∧ bit (pFlags c.desc) 3 = false ∧ Pumping s p id c ∧ pPop d = 4 ∧
        May s p c .store src (le d 24 8)) ∧
    (∃ (s : State) (p id : Nat) (c : PCmd), let d := c.desc; let src := le d 16 8; let dst := le d 24 8;
        let one := ofLe (s.rawBytes (le d 24 8) 8); Clean s ∧ bit (pFlags c.desc) 1 = false ∧ bit (pFlags c.desc) 2 = false ∧
        bit (pFlags c.desc) 3 = false ∧ p < 156 ∧ (s.pump p).find? (fun x => x.id == id) = some c ∧ c.started = true ∧ c.fin = none ∧
        s.aside c = false ∧ c.live = [] ∧ pPop d = 5 ∧ le d 36 1 = 1 ∧ dst % 8 = 0 ∧ May s p c .load dst 8 ∧
        s.pCheck (pumpEnv p c) d [one] = none ∧ c.chunk = 0 ∧ c.failed = 0 ∧ 0 < le d 32 4 ∧ le d 32 4 ≤ 65536 ∧
        May s p c .load src (le d 32 4) ∧ s.mcGone one = false) ∧
    (∃ (s : State) (p id w : Nat) (c : PCmd), let d := c.desc; Clean s ∧ bit (pFlags c.desc) 1 = false ∧ bit (pFlags c.desc) 2 = false ∧
        bit (pFlags c.desc) 3 = false ∧ p < 156 ∧ (s.pump p).find? (fun x => x.id == id) = some c ∧ s.aside c = false ∧ c.live = [0] ∧
        c.dests = [w] ∧ c.chunk = 0 ∧ c.failed = 0 ∧ le d 32 4 ≤ 65536) :=
  ⟨⟨{ pst pcopy with mem := [(CB+1, 7#8)] }, 0, 1, pcopy, by decide +kernel⟩,
   ⟨{ pst pgath with mem := [(CB+9, 7#8), (CB+64, 2#8)] }, 0, 1, pgath, by decide +kernel⟩,
   ⟨{ pst pscat with mem := [(CB+1, 7#8), (CB+64, 2#8)] }, 0, 1, pscat, by decide +kernel⟩,
   ⟨(pst pfill), 0, 1, pfill, by decide +kernel⟩,
   ⟨{ pst pmc with mem := [(CB+1, 7#8), (CB+0x2001, 0x10#8), (CB+0x2004, 0x80#8)] }, 0, 1, pmc, by decide +kernel⟩,
   ⟨(pst pmc2), 0, 1, (CB+0x1000), pmc2, by decide +kernel⟩⟩

/-- The hypotheses of `SealsAndCatchments` are met. -/
theorem witness_SealsAndCatchments :
    (∃ (s : State) (p id : Nat) (c : PCmd), let d := c.desc; let a := le d 16 8; let k := sealEntry (s.loc a); Pumping s p id c ∧
        Clean s ∧ pPop d = 6 ∧ le d 24 4 = 1 ∧ May s p c .load a 4096 ∧ inMem s (tableBase + 4 * k.1) = true ∧
        s.stackStatus (tableBase + 4 * k.1) 4 = .ok) ∧
    (∃ (s : State) (p id : Nat) (c : PCmd), let d := c.desc; let a := le d 16 8; let k := sealEntry (s.loc a); Pumping s p id c ∧
        Clean s ∧ pPop d = 7 ∧ le d 24 4 = 1 ∧ May s p c .load a 4096 ∧ inMem s (tableBase + 4 * k.1) = true ∧
        s.stackStatus (tableBase + 4 * k.1) 4 = .ok) ∧
    (∃ (s : State) (p id : Nat) (c : PCmd), let d := c.desc; let a := le d 16 8; Pumping s p id c ∧ Clean s ∧ pPop d = 8 ∧
        s.isRemote (le d 24 8) = false ∧ May s p c .load a (le d 32 4 * sfmtBytes (bits (le d 36 1) 3 0))) ∧
    (∃ (s : State) (p id n slot : Nat) (c : PCmd), let d := c.desc; let a := le d 16 8; Pumping s p id c ∧ s.coh.dir = [] ∧
        s.coh.waiting = [] ∧ pPop d = 10 ∧ n = (cisPlace (s.loc a)).n ∧
        (List.range 64).find? (fun j => ((s.cat n).slot j).state != 0 && ((s.cat n).slot j).group.isNone && ((s.cat n).slot j).tgt == s.loc a) = some slot) ∧
    (∃ (s : State) (n : Nat) (g h : Contrib), n < 36 ∧ contribJoins g h = true ∧ s.passes n g = true ∧ s.passes n h = true ∧
        s.mesh.flights = [g, h]) ∧
    (∃ (s : State) (g : Contrib), let u := s.cat (cisPlace (s.loc g.addr)).n; cisternBase ≤ s.loc g.addr ∧ s.loc g.addr < cisternEnd ∧
        u.find (· == 1) (s.loc g.addr) = none ∧ u.raised = some s.now) ∧
    (∃ (s : State) (n slot : Nat), n < 36 ∧ slot < 64 ∧ ((s.cat n).slot slot).state = 1 ∧ ((s.cat n).slot slot).group = none ∧
        ((s.cat n).slot slot).written.length = rdCount ((s.cat n).slot slot).desc ∧ s.writesOpen (448 + n) = false ∧ s.coh.refused = []) ∧
    (∃ (s : State) (p id n : Nat) (c : PCmd), let d := c.desc; Pumping s p id c ∧ Clean s ∧ d.length = 64 ∧ pPop d = 9 ∧
        n = (cisPlace (rdTgt d)).n ∧ (s.cat n).service = true ∧ (List.range 64).all (fun j => ((s.cat n).slot j).state == 0) = true ∧
        s.loc (rdTgt d) = rdTgt d ∧ s.loc (rdAcc d) = rdAcc d ∧ rdTgt d + rdCount d * rdW d ≤ cisternBase + (n + 1) * blockBytes ∧
        cisternBase + n * blockBytes ≤ rdAcc d ∧ rdAcc d + 32 * rdCount d ≤ cisternBase + (n + 1) * blockBytes ∧
        overlap (rdTgt d) (rdCount d * rdW d) (rdAcc d) (32 * rdCount d) = false ∧
        overlap (rdTgt d) (rdCount d * rdW d) (s.loc (rdOut d)) (rdCount d * outBytes (rdCode d)) = false ∧
        overlap (rdAcc d) (32 * rdCount d) (s.loc (rdOut d)) (rdCount d * outBytes (rdCode d)) = false) :=
  ⟨⟨{ pst pseal with mem := [(0x1001, 7#8)] }, 0, 1, pseal, by decide +kernel⟩,
   ⟨{ pst pver with seals := [(1, 1)] }, 0, 1, pver, by decide +kernel⟩,
   ⟨(pst pcs), 0, 1, pcs, by decide +kernel⟩,
   ⟨scat, 0, 1, 0, 63, prel, by decide +kernel⟩,
   ⟨{ pst prel with mesh.flights := [nc, nc], mesh.cats := [(0, { service := true, raised := some 1000000 })] }, 0, nc, nc, by decide +kernel⟩,
   ⟨{ pst prel with mesh.flights := [nc, nc], mesh.cats := [(0, { service := true, raised := some 1000000 })] }, nc, by decide +kernel⟩,
   ⟨scat, 0, 63, by decide +kernel⟩,
   ⟨(pst pci), 0, 1, 0, pci, by decide +kernel⟩⟩

end PumpRuns

end Sys2Proof.Tests
end

