-- ==== Sys2Proof/Tests/HostWitness.lean ====
section
/-!
SUPPORT. Witnesses: for the statements on rings and host commands, states and operands that meet the hypotheses of
each clause. A clause whose hypotheses another clause includes has none of its own.
-/

namespace Sys2Proof.Tests

set_option maxRecDepth 40000
set_option Elab.async false

open Sys2Proof.Machine

/-! ### RingRuns -/

namespace RingRuns

/-- State or operand of the witnesses below. -/
def ringS (x : Ring) : State := { up with host.rings := [(1, x)] }

/-- State or operand of the witnesses below. -/
def dNop : Bytes := zeros 64

/-- State or operand of the witnesses below. -/
def dBad : Bytes := rec64 [(0,1,0x12)]

/-- State or operand of the witnesses below. -/
def rc : Rec := ⟨5, .ok, 0, false, 77, false, some (1, 7)⟩

/-- State or operand of the witnesses below. -/
def ring0 (x : Ring) : State := { up with host.rings := [(0, x)], host.evbuf := [(0, { waiting := [⟨0x19, 3⟩, ⟨0x1A, 4⟩] })], host.unmasked := [0] }

/-- State or operand of the witnesses below. -/
def coalS : State := { ring0 { coal := 1 } with host.regs := (up.host.regs.filter (fun e => e.1 != key 8 0x4018)) ++ [(key 8 0x4018, 0x500000306#64)] }

/-- State or operand of the witnesses below. -/
def cm (v w : Nat) : State := { up with host.units := [(11, { busy := true, running := 1, captured := [(0x10, v), (0x18, w)] })] }

/-- State or operand of the witnesses below. -/
def psS (ep : Nat) : State := { up with psites := [(1, { st := 3, desc := [1], epoch := ep })], cistern.errs := [(1151, { ce := 4, ue := 2, line := 9 })] }

/-- The hypotheses of `DoorbellsAndFetch` are met. -/
theorem witness_DoorbellsAndFetch :
    (∃ (s : State) (fn r : Nat) (idx : BitVec 32), let x := s.ring r; let held := (idx.toNat + 2 ^ 32 - x.ci) % 2 ^ 32; fn < 8 ∧
        r < 256 ∧ s.live fn = true ∧ s.ringOwner r = fn ∧ s.cmdEn fn = true ∧ s.sqEn r = true ∧ x.sqErr = 0 ∧ idx.toNat ≠ x.pi ∧
        held = 0) ∧
    (∃ (s : State) (fn r : Nat) (idx : BitVec 32), let x := s.ring r; let held := (idx.toNat + 2 ^ 32 - x.ci) % 2 ^ 32; fn < 8 ∧
        r < 256 ∧ s.live fn = true ∧ s.ringOwner r = fn ∧ s.cmdEn fn = true ∧ s.sqEn r = true ∧ x.sqErr = 0 ∧ idx.toNat ≠ x.pi ∧
        0 < held ∧ held ≤ 2 ^ s.sqLog r) ∧
    (∃ (s : State) (fn r : Nat) (idx : BitVec 32), let x := s.ring r; let held := (idx.toNat + 2 ^ 32 - x.ci) % 2 ^ 32; fn < 8 ∧
        r < 256 ∧ s.live fn = true ∧ s.ringOwner r = fn ∧ s.cmdEn fn = true ∧ s.sqEn r = true ∧ x.sqErr = 0 ∧ idx.toNat ≠ x.pi ∧
        2 ^ s.sqLog r < held) ∧
    (∃ (s : State) (fn r : Nat), fn < 8 ∧ r < 256 ∧ s.live fn = true ∧ s.ringOwner r = fn ∧ s.cmdEn fn = true ∧ s.sqEn r = false) ∧
    (∃ (s : State) (fn r : Nat) (idx : BitVec 32), let x := s.ring r; let freed := (idx.toNat + 2 ^ 32 - x.cqCi) % 2 ^ 32; fn < 8 ∧
        r < 256 ∧ s.live fn = true ∧ s.ringOwner r = fn ∧ s.cmdEn fn = true ∧ s.cqEn r = true ∧ x.cqErr = 0 ∧ idx.toNat ≠ x.cqCi ∧
        freed ≤ s.cqHeld r) ∧
    (∃ (s : State) (fn r : Nat) (idx : BitVec 32), let x := s.ring r; let freed := (idx.toNat + 2 ^ 32 - x.cqCi) % 2 ^ 32; fn < 8 ∧
        r < 256 ∧ s.live fn = true ∧ s.ringOwner r = fn ∧ s.cmdEn fn = true ∧ s.cqEn r = true ∧ x.cqErr = 0 ∧ idx.toNat ≠ x.cqCi ∧
        s.cqHeld r < freed) ∧
    (∃ (s : State) (fn r : Nat) (b : Bytes), let x := s.ring r; let n := min 16 (s.sqHeld r - x.fetched.length); fn < 8 ∧ r < 256 ∧
        s.live fn = true ∧ s.ringOwner r = fn ∧ s.cmdEn fn = true ∧ s.sqEn r = true ∧ x.sqErr = 0 ∧ 0 < n ∧ b.length = 64 * n) :=
  ⟨⟨(ringS { pi := 3, ci := 1, fetched := [zeros 64] }), 0, 1, 1, by decide +kernel⟩,
   ⟨(ringS { pi := 3, ci := 0, cqPi := 5, cqCi := 2 }), 0, 1, 6, by decide +kernel⟩,
   ⟨(ringS { pi := 3, ci := 0, cqPi := 5, cqCi := 2 }), 0, 1, 65, by decide +kernel⟩,
   ⟨up, 0, 2, by decide +kernel⟩,
   ⟨(ringS { pi := 3, ci := 0, cqPi := 5, cqCi := 2 }), 0, 1, 5, by decide +kernel⟩,
   ⟨(ringS { pi := 3, ci := 1, fetched := [zeros 64] }), 0, 1, 1, by decide +kernel⟩,
   ⟨(ringS { pi := 3, ci := 0, cqPi := 5, cqCi := 2 }), 0, 1, (zeros (64*3)), by decide +kernel⟩⟩

/-- The hypotheses of `HeadDispatchAndDeadline` are met. -/
theorem witness_HeadDispatchAndDeadline :
    (∃ (s : State) (r : Nat) (d : Bytes) (rest : List Bytes),
        let st := firstBad [commonCheck s (s.ringOwner r) d, gateCheck s (s.ringOwner r) d]; r < 256 ∧ (s.ring r).fetched = d :: rest ∧
        s.sqEn r = true ∧ s.live (s.ringOwner r) = true ∧ (s.ring (s.sqCq r)).backlog.length < 64 ∧ st = .ok ∧
        bit (dFlags d) 0 = false ∧ bits (dWait d) 18 17 = 0 ∧ (s.ring r).headTick = some none ∧ s.dispatchFull r d = false) ∧
    (∃ (s : State) (r : Nat) (d : Bytes) (rest : List Bytes),
        let st := firstBad [commonCheck s (s.ringOwner r) d, gateCheck s (s.ringOwner r) d]; r < 256 ∧ (s.ring r).fetched = d :: rest ∧
        s.sqEn r = true ∧ s.live (s.ringOwner r) = true ∧ (s.ring (s.sqCq r)).backlog.length < 64 ∧ st ≠ .ok) ∧
    (∃ (s : State) (r : Nat) (d : Bytes) (rest : List Bytes), ∃ k, r < 256 ∧ (s.ring r).fetched = d :: rest ∧ s.sqEn r = true ∧
        s.live (s.ringOwner r) = true ∧ (s.ring (s.sqCq r)).backlog.length < 64 ∧ (s.ring r).headTick = some (some k)) :=
  ⟨⟨(ringS { pi := 2, fetched := [dNop, dBad], headTick := some none }), 1, dNop, [dBad], by decide +kernel⟩,
   ⟨(ringS { pi := 2, fetched := [dBad, dNop], headTick := some none }), 1, dBad, [dNop], by decide +kernel⟩,
   ⟨(ringS { pi := 2, fetched := [dNop, dBad], headTick := some (some 400) }), 1, dNop, [dBad], 400, by decide +kernel⟩⟩

/-- The hypotheses of `RecordsEventsAndInterrupts` are met. -/
theorem witness_RecordsEventsAndInterrupts :
    (∃ (s : State) (r : Nat) (x : Rec) (rest : List Rec), let q := s.ring r; r < 256 ∧ q.backlog = x :: rest ∧ s.cqReady r = true ∧
        x.irq = false) ∧
    (∃ (s : State) (r fn : Nat) (e : Event) (es : List Event), r < 256 ∧ fn < 8 ∧ (s.evbuf fn).waiting = e :: es ∧ s.evtEn fn = true ∧
        s.evcq fn = r ∧ s.cqReady r = true) ∧
    (∃ (s : State) (r : Nat), let q := s.ring r; r < 256 ∧ bit (s.reg 8 (0x4018 + 64 * r)) 9 = true ∧
        bits (s.reg 8 (0x4018 + 64 * r)) 47 32 ≠ 0 ∧ 0 < q.coal ∧
        s.host.unmasked.contains (256 * s.ringOwner r + bits (s.reg 8 (0x4018 + 64 * r)) 23 16) = true) :=
  ⟨⟨(ring0 { cqPi := 63, backlog := [rc, rc] }), 0, rc, [rc], by decide +kernel⟩,
   ⟨coalS, 0, 0, ⟨0x19, 3⟩, [⟨0x1A, 4⟩], by decide +kernel⟩,
   ⟨coalS, 0, by decide +kernel⟩⟩

/-- The hypotheses of `CommitsAreValidatedThenApplied` are met. -/
theorem witness_CommitsAreValidatedThenApplied :
    (∃ (s : State) (fn g v w : Nat), g < 2 ^ 16 ∧ v < 2 ^ 16 ∧ w < 2 ^ 16 ∧ fn < 8 ∧ s.live fn = true) ∧
    (∃ (s : State) (g v w : Nat),
        let running : Bool := decide ((s.unit 11).busy = true ∧ (s.unit 11).running = 1 ∧ (s.unit 11).captured = [(0x10, v), (0x18, w)] ∧ (s.unit 11).cmd = none);
        g < 2 ^ 16 ∧ v < 2 ^ 16 ∧ w < 2 ^ 16 ∧ running ∧ (v = 0 ∨ (600 ≤ v ∧ v ≤ s.boot.limitW)) ∧ w % 256 ≤ 150 ∧ w / 256 ≤ 150) ∧
    (∃ (s : State) (g v w : Nat),
        let running : Bool := decide ((s.unit 11).busy = true ∧ (s.unit 11).running = 1 ∧ (s.unit 11).captured = [(0x10, v), (0x18, w)] ∧ (s.unit 11).cmd = none);
        g < 2 ^ 16 ∧ v < 2 ^ 16 ∧ w < 2 ^ 16 ∧ running ∧ v ≠ 0 ∧ (v < 600 ∨ s.boot.limitW < v)) :=
  ⟨⟨(cm 599 0x9696), 0, 1, 599, 0x9696, by decide +kernel⟩,
   ⟨(cm 600 0x9696), 1, 600, 0x9696, by decide +kernel⟩,
   ⟨(cm 599 0x9696), 1, 599, 0x9696, by decide +kernel⟩⟩

/-- The hypotheses of `RegisterReadsReadmitAndFlip` are met. -/
theorem witness_RegisterReadsReadmitAndFlip :
    (∃ (i k site : Nat), site < 2 ∧ k < 6 ∧ i < 1152) ∧
    (∃ (k site target a : Nat), site < 2 ∧ k < 6 ∧ target < (flipRange k).1 ∧ a < (flipRange k).2 ∧ target < 2 ^ 16 ∧ a < 2 ^ 9) ∧
    (∃ (k site target a : Nat), site < 2 ∧ k < 6 ∧ (flipRange k).1 ≤ target ∧ a < (flipRange k).2 ∧ target < 2 ^ 16 ∧ a < 2 ^ 9) ∧
    (∃ (s : State) (k site : Nat) (ep : BitVec 32), let x := s.psite site; site < 2 ∧ k < 6 ∧ x.st = 3 ∧ x.desc ≠ [] ∧
        x.epoch = ep.toNat) ∧
    (∃ (s : State) (k site : Nat) (ep : BitVec 32), let x := s.psite site; site < 2 ∧ k < 6 ∧ x.st = 3 ∧ x.desc ≠ [] ∧
        x.epoch ≠ ep.toNat) :=
  ⟨⟨1151, 0, 1, by decide +kernel⟩,
   ⟨0, 1, 1151, 0, by decide +kernel⟩,
   ⟨0, 1, 1152, 0, by decide +kernel⟩,
   ⟨(psS 7), 0, 1, 7, by decide +kernel⟩,
   ⟨(psS 8), 0, 1, 7, by decide +kernel⟩⟩

end RingRuns

/-! ### HostRuns -/

namespace HostRuns

/-- State or operand of the witnesses below. -/
def tf : TestFind := ⟨[], 0, []⟩

/-- State or operand of the witnesses below. -/
def dStage := [(0,1,9),(16,2,0x28),(18,1,1),(24,8,3)]

/-- State or operand of the witnesses below. -/
def dCommit := [(0,1,0xA),(16,2,1)]

/-- State or operand of the witnesses below. -/
def dQuery := [(0,1,0xB),(16,1,3),(24,8,2^62),(32,4,16)]

/-- State or operand of the witnesses below. -/
def dTest := [(0,1,0x10),(16,1,2),(18,2,0)]

/-- State or operand of the witnesses below. -/
def dAck := [(0,1,0x11),(16,2,0x1A)]

/-- State or operand of the witnesses below. -/
def sy (op : Nat) : List (Nat × Nat × Nat) := [(0,1,7),(16,1,op),(24,8,9),(32,8,5),(40,8,0)]

/-- State or operand of the witnesses below. -/
def CB : Nat := 0x008000000000

/-- State or operand of the witnesses below. -/
def hc : List (Nat × Nat × Nat) := [(0,1,1),(16,8,CB),(24,8,CB+0x100),(32,4,5),(36,2,1),(38,2,1)]

/-- State or operand of the witnesses below. -/
def hf : List (Nat × Nat × Nat) := [(0,1,2),(16,8,CB+3),(24,8,9),(32,8,8)]

/-- State or operand of the witnesses below. -/
def hs (op : Nat) : List (Nat × Nat × Nat) := [(0,1,op),(16,8,0x1000),(24,4,1)]

/-- State or operand of the witnesses below. -/
def b4 : State := { upCmd hc with host.regs := (key 8 0x30, 0x009000000000#64) :: up.host.regs }

/-- The hypotheses of `SimpleHostCommands` are met. -/
theorem witness_SimpleHostCommands :
    (∃ (s : State) (id : Nat) (c : HostCmd), let d := c.desc; Runs s id 0 c ∧ zeroAt d 16 48 = true) ∧
    (∃ (s : State) (id : Nat) (c : HostCmd), let d := c.desc; Runs s id 0 c ∧ zeroAt d 16 48 = false) ∧
    (∃ (s : State) (id : Nat) (c : HostCmd), let d := c.desc; Runs s id 0xE c ∧ zeroAt d 16 48 = true) ∧
    (∃ (s : State) (id : Nat) (c : HostCmd), let d := c.desc; Runs s id 0xF c ∧ zeroAt d 16 48 = true ∧ s.host.cmds = [c] ∧
        (∀ q ∈ s.host.rings, q.2.backlog = [])) ∧
    (∃ (s : State) (id : Nat) (c : HostCmd), let d := c.desc; Runs s id 9 c ∧ le d 16 2 = 0x28 ∧ le d 18 1 = 1 ∧ le d 19 1 = 0 ∧
        zeroAt d 20 4 = true ∧ c.fn = 0) ∧
    (∃ (s : State) (id : Nat) (c : HostCmd), let d := c.desc; Runs s id 0xA c ∧ le d 16 2 = 1 ∧ zeroAt d 18 46 = true ∧ c.fn = 0 ∧
        (s.unit 0).busy = false) ∧
    (∃ (s : State) (id : Nat) (c : HostCmd), let d := c.desc; Runs s id 0xB c ∧ le d 16 1 = 3 ∧ zeroAt d 17 3 = true ∧ le d 20 4 = 0 ∧
        le d 24 8 = 2 ^ 62 ∧ 16 ≤ le d 32 4 ∧ zeroAt d 36 28 = true) ∧
    (∃ (s : State) (id : Nat) (c : HostCmd) (r : TestFind), let d := c.desc; Runs s id 0x10 c ∧ c.fn = 0 ∧ testCheck s d = .ok ∧
        le d 16 1 = 2 ∧ r.cores = []) ∧
    (∃ (s : State) (id : Nat) (c : HostCmd), let d := c.desc; Runs s id 0x11 c ∧ c.fn = 0 ∧ zeroAt d 18 46 = true ∧ le d 16 2 = 0x01A ∧
        s.boot.computeOff = true ∧ s.flashOk = true) :=
  ⟨⟨(upCmd []), 7, (cmd7 []), by decide +kernel⟩,
   ⟨(upCmd [(20,1,1)]), 7, (cmd7 [(20,1,1)]), by decide +kernel⟩,
   ⟨(upCmd [(0,1,0xE)]), 7, (cmd7 [(0,1,0xE)]), by decide +kernel⟩,
   ⟨(upCmd [(0,1,0xF)]), 7, (cmd7 [(0,1,0xF)]), by decide +kernel⟩,
   ⟨(upCmd dStage), 7, (cmd7 dStage), by decide +kernel⟩,
   ⟨(upCmd dCommit), 7, (cmd7 dCommit), by decide +kernel⟩,
   ⟨(upCmd dQuery), 7, (cmd7 dQuery), by decide +kernel⟩,
   ⟨(upCmd dTest), 7, (cmd7 dTest), tf, by decide +kernel⟩,
   ⟨{ upCmd dAck with boot := { up.boot with computeOff := true, shutPending := true } }, 7, (cmd7 dAck), by decide +kernel⟩⟩

/-- The hypotheses of `HostSyncOperations` are met. -/
theorem witness_HostSyncOperations :
    (∃ (s : State) (id i : Nat) (c : HostCmd), let d := c.desc; Runs s id 7 c ∧ syncCheck s c.fn c.desc = .ok ∧
        s.soHere c.desc = some i ∧ SoundCell s i ∧ soOp d = 0) ∧
    (∃ (s : State) (id i : Nat) (c : HostCmd), let d := c.desc; Runs s id 7 c ∧ syncCheck s c.fn c.desc = .ok ∧
        s.soHere c.desc = some i ∧ SoundCell s i ∧ soOp d = 1) ∧
    (∃ (s : State) (id i : Nat) (c : HostCmd), let d := c.desc; Runs s id 7 c ∧ syncCheck s c.fn c.desc = .ok ∧
        s.soHere c.desc = some i ∧ SoundCell s i ∧ soOp d = 2) ∧
    (∃ (s : State) (id i : Nat) (c : HostCmd), let d := c.desc; let x := soVal d; let v := s.cell i;
        let ge : Bool := decide ((v - x).toNat < 2 ^ 63); Runs s id 7 c ∧ syncCheck s c.fn c.desc = .ok ∧ s.soHere c.desc = some i ∧
        SoundCell s i ∧ soOp d = 3 ∧ ge = true) ∧
    (∃ (s : State) (id i : Nat) (c : HostCmd), let d := c.desc; let x := soVal d; let v := s.cell i;
        let ge : Bool := decide ((v - x).toNat < 2 ^ 63);
        let room : Bool := decide (s.waitUsed (i / 2048) < 1024 ∧ s.sync.queued.any (fun q => q.cell / 2048 == i / 2048) = false);
        Runs s id 7 c ∧ syncCheck s c.fn c.desc = .ok ∧ s.soHere c.desc = some i ∧ SoundCell s i ∧ soOp d = 3 ∧ ge = false ∧ room) ∧
    (∃ (s : State) (id i : Nat) (c : HostCmd), let d := c.desc; let x := soVal d; let v := s.cell i; Runs s id 7 c ∧
        syncCheck s c.fn c.desc = .ok ∧ s.soHere c.desc = some i ∧ SoundCell s i ∧ soOp d = 4 ∧ v = x) ∧
    (∃ (s : State) (id i : Nat) (c : HostCmd), let d := c.desc; let x := soVal d; let v := s.cell i;
        let room : Bool := decide (s.waitUsed (i / 2048) < 1024 ∧ s.sync.queued.any (fun q => q.cell / 2048 == i / 2048) = false);
        Runs s id 7 c ∧ syncCheck s c.fn c.desc = .ok ∧ s.soHere c.desc = some i ∧ SoundCell s i ∧ soOp d = 4 ∧ v ≠ x ∧ room) ∧
    (∃ (s : State) (id i : Nat) (c : HostCmd), let d := c.desc; let x := soVal d; let v := s.cell i;
        let ge : Bool := decide ((v - x).toNat < 2 ^ 63);
        let room : Bool := decide (s.waitUsed (i / 2048) < 1024 ∧ s.sync.queued.any (fun q => q.cell / 2048 == i / 2048) = false);
        Runs s id 7 c ∧ syncCheck s c.fn c.desc = .ok ∧ s.soHere c.desc = some i ∧ SoundCell s i ∧ soOp d = 5 ∧ ge = false ∧ room) :=
  ⟨⟨(upCmd (sy 0)), 7, 9, (cmd7 (sy 0)), by decide +kernel⟩,
   ⟨(upCmd (sy 1)), 7, 9, (cmd7 (sy 1)), by decide +kernel⟩,
   ⟨(upCmd (sy 2)), 7, 9, (cmd7 (sy 2)), by decide +kernel⟩,
   ⟨{upCmd (sy 3) with sync.cells := [(9, 5#64)]}, 7, 9, (cmd7 (sy 3)), by decide +kernel⟩,
   ⟨(upCmd (sy 3)), 7, 9, (cmd7 (sy 3)), by decide +kernel⟩,
   ⟨{upCmd (sy 4) with sync.cells := [(9, 5#64)]}, 7, 9, (cmd7 (sy 4)), by decide +kernel⟩,
   ⟨(upCmd (sy 4)), 7, 9, (cmd7 (sy 4)), by decide +kernel⟩,
   ⟨(upCmd (sy 5)), 7, 9, (cmd7 (sy 5)), by decide +kernel⟩⟩

/-- The hypotheses of `HostDataCommands` are met. -/
theorem witness_HostDataCommands :
    (∃ (s : State) (pump id : Nat) (c : HostCmd) (reply : HostReply), let d (pop : Nat) : Bytes := hostDesc pop c.desc;
        let e := hostEnv pump c; let q (pop : Nat) : State × Bool := s.pSettle (s.pLines e (d pop) []); pump < 8 ∧
        s.sqPump c.ring = pump ∧ s.hostStarts pump c = true ∧ Runs s id 1 c ∧ s.pCheck e (d 1) [] = none ∧ (q 1).2 = true ∧
        replyFits reply (d 1) = true) ∧
    (∃ (s : State) (pump : Nat) (c : HostCmd), let d (pop : Nat) : Bytes := hostDesc pop c.desc; let e := hostEnv pump c; pump < 8 ∧
        s.sqPump c.ring = pump ∧ s.hostStarts pump c = true ∧ isHost e (le (d 1) 16 8) = false ∧ isHost e (le (d 1) 24 8) = false) ∧
    (∃ (s : State) (pump id : Nat) (c : HostCmd), let d (pop : Nat) : Bytes := hostDesc pop c.desc; let e := hostEnv pump c;
        let q (pop : Nat) : State × Bool := s.pSettle (s.pLines e (d pop) []); pump < 8 ∧ s.sqPump c.ring = pump ∧
        s.hostStarts pump c = true ∧ Runs s id 2 c ∧ s.pCheck e (d 4) [] = none ∧ (q 4).2 = true) ∧
    (∃ (s : State) (pump id : Nat) (c : HostCmd), let d (pop : Nat) : Bytes := hostDesc pop c.desc; let e := hostEnv pump c; pump < 8 ∧
        s.sqPump c.ring = pump ∧ s.hostStarts pump c = true ∧ Runs s id 2 c ∧ Clean s ∧ s.pCheck e (d 4) [] = none ∧
        s.memCheck e.who .store (le (d 4) 16 8) (le (d 4) 24 8) = .ok ∧ isHost e (le (d 4) 16 8) = false ∧
        inMem s (le (d 4) 16 8) = true) ∧
    (∃ (s : State) (pump id : Nat) (c : HostCmd), let d (pop : Nat) : Bytes := hostDesc pop c.desc; let e := hostEnv pump c;
        let q (pop : Nat) : State × Bool := s.pSettle (s.pLines e (d pop) []); pump < 8 ∧ s.sqPump c.ring = pump ∧
        s.hostStarts pump c = true ∧ Runs s id 3 c ∧ s.pCheck e (d 6) [] = none ∧ (q 6).2 = true) ∧
    (∃ (s : State) (pump id : Nat) (c : HostCmd), let d (pop : Nat) : Bytes := hostDesc pop c.desc; let e := hostEnv pump c;
        let q (pop : Nat) : State × Bool := s.pSettle (s.pLines e (d pop) []); pump < 8 ∧ s.sqPump c.ring = pump ∧
        s.hostStarts pump c = true ∧ Runs s id 4 c ∧ s.pCheck e (d 7) [] = none ∧ (q 7).2 = true) ∧
    (∃ (s : State) (pump i off : Nat) (c : HostCmd), pump < 8 ∧ s.sqPump c.ring = pump ∧ s.hostStarts pump c = true ∧ s.live 0 = true ∧
        off + 8 ≤ s.boot.bar4Gib * 2 ^ 30 ∧ s.bar4Addr off = cellBase + 8 * i ∧ SoundCell s i) :=
  ⟨⟨b4, 0, 7, (cmd7 hc), (.data (zeros 8)), by decide +kernel⟩,
   ⟨b4, 0, (cmd7 hc), by decide +kernel⟩,
   ⟨{ upCmd hf with cistern.retired := [] }, 0, 7, (cmd7 hf), by decide +kernel⟩,
   ⟨{ upCmd hf with cistern.retired := [] }, 0, 7, (cmd7 hf), by decide +kernel⟩,
   ⟨(upCmd (hs 3)), 0, 7, (cmd7 (hs 3)), by decide +kernel⟩,
   ⟨{ upCmd (hs 4) with seals := [(1, 1)] }, 0, 7, (cmd7 (hs 4)), by decide +kernel⟩,
   ⟨b4, 0, 9, 72, (cmd7 hc), by decide +kernel⟩⟩

end HostRuns

end Sys2Proof.Tests
end

