-- ==== Sys2Proof/Tests/LinkWitness.lean ====
section
/-!
SUPPORT. Witnesses: for the statements on bonds, ports, remote requests, collectives and tasks, states and operands that meet the hypotheses of
each clause. A clause whose hypotheses another clause includes has none of its own.
-/

namespace Sys2Proof.Tests

set_option maxRecDepth 40000
set_option Elab.async false

open Sys2Proof.Machine

/-! ### BondRuns -/

namespace BondRuns

/-- State or operand of the witnesses below. -/
def F (r p d : Nat) : PortFind := ⟨r, p, d, [], 0⟩

/-- State or operand of the witnesses below. -/
def trn (up : Bool) : PortTrain := ⟨up, 0, 0, none, 0⟩

/-- State or operand of the witnesses below. -/
def bs2 (p : AqPort) (b : BondDir) : State := { up with sites := (List.range 36).map (fun n => (n, { powered := true, bs := 2 })), bonds := (List.range 2304).map (fun n => (n, b)), aq.ports := [(11, p), (0, p)] }

/-- State or operand of the witnesses below. -/
def pUp : AqPort := { st := 2, width := 0, rate := 0, lanes := 0, rxSeq := 4095 }

/-- State or operand of the witnesses below. -/
def pad (b : Bytes) : Bytes := (b ++ zeros 240).take 240

/-- State or operand of the witnesses below. -/
def crcF (fseq ack : BitVec 16) (body : Bytes) : Word := BitVec.ofNat 64 (flitCrc (flitOf fseq ack 0 (pad body) 0))

/-- State or operand of the witnesses below. -/
def bt (h : Nat) : BitVec 48 := BitVec.ofNat 48 (h + 2 ^ 40 * beatCrc (zeros 64) (BitVec.ofNat 48 h))

/-- The hypotheses of `BondsAndPorts` are met. -/
theorem witness_BondsAndPorts :
    (∃ (n p d port lane : Nat) (data : Bytes) (frame : BitVec 48), n < 36 ∧ p < 32 ∧ d < 2 ∧ port < 12 ∧ lane < 8 ∧
        beatOk data frame = true) ∧
    (∃ (s : State) (n p d port lane : Nat) (data : Bytes) (frame : BitVec 48), let x := s.bond n p d; n < 36 ∧ p < 32 ∧ d < 2 ∧
        port < 12 ∧ lane < 8 ∧ beatOk data frame = false ∧ (s.site n).bs = 2 ∧ x.st ≠ 2 ∧ 3 ≤ s.recentCrc n p) ∧
    (∃ (s : State) (n p d port lane : Nat) (data : Bytes) (frame : BitVec 48), let x := s.bond n p d; n < 36 ∧ p < 32 ∧ d < 2 ∧
        port < 12 ∧ lane < 8 ∧ beatOk data frame = false ∧ (s.site n).bs = 2 ∧ x.st ≠ 2 ∧ s.recentCrc n p < 3) ∧
    (∃ (s : State) (n p d port lane : Nat) (f : PortFind), let x := s.bond n p d; n < 36 ∧ p < 32 ∧ d < 2 ∧ port < 12 ∧ lane < 8 ∧
        f.region = n ∧ f.port = p ∧ f.dir = d ∧ f.groups = [] ∧ f.frame = 0 ∧ x.retraining = true ∧ x.st = 0) ∧
    (∃ (s : State) (n p d port fec lane : Nat) (fseq ack : BitVec 16) (creds : BitVec 32) (body : Bytes) (crc : Word),
        let y := s.port port; let flit := flitOf fseq ack creds body crc;
        let inOrder : Bool := decide (bits (le flit 0 2) 11 0 = (y.rxSeq + 1) % 4096); n < 36 ∧ p < 32 ∧ d < 2 ∧ port < 12 ∧ lane < 8 ∧
        y.st = 2 ∧ fec < 2 ∧ flitOk flit = true ∧ inOrder ∧ bit (le flit 2 2) 12 = false ∧ y.txq = []) ∧
    (∃ (s : State) (n p d port fec lane : Nat) (fseq ack : BitVec 16) (creds : BitVec 32) (body : Bytes) (crc : Word),
        let y := s.port port; let flit := flitOf fseq ack creds body crc;
        let inOrder : Bool := decide (bits (le flit 0 2) 11 0 = (y.rxSeq + 1) % 4096); n < 36 ∧ p < 32 ∧ d < 2 ∧ port < 12 ∧ lane < 8 ∧
        y.st = 2 ∧ fec < 3 ∧ fec = 2 ∨ flitOk flit = false ∨ ¬ inOrder) ∧
    (∃ (s : State) (n p d port fec lane : Nat), let y := s.port port; n < 36 ∧ p < 32 ∧ d < 2 ∧ port < 12 ∧ lane < 8 ∧ y.st ≠ 2 ∧
        fec < 3) ∧
    (∃ (s : State) (n p d port lane : Nat), let y := s.port port; n < 36 ∧ p < 32 ∧ d < 2 ∧ port < 12 ∧ lane < 8 ∧
        y.st ≠ 2 ∨ bit y.lanes lane = true) ∧
    (∃ (s : State) (n p d port lane : Nat), let y := s.port port; n < 36 ∧ p < 32 ∧ d < 2 ∧ port < 12 ∧ lane < 8 ∧ y.st = 2 ∧
        bit y.lanes lane = false ∧ max y.width (widestGroup (y.lanes ||| 2 ^ lane)) < 3) ∧
    (∃ (n p d port lane : Nat) (tr : PortTrain), n < 36 ∧ p < 32 ∧ d < 2 ∧ port < 12 ∧ lane < 8 ∧ tr.up = false) ∧
    (∃ (s : State) (n p d port lane : Nat) (tr : PortTrain), let y := s.port port; n < 36 ∧ p < 32 ∧ d < 2 ∧ port < 12 ∧ lane < 8 ∧
        y.st = 0 ∧ s.boot.ready = true ∧ s.boot.shut = false ∧ tr.up = true ∧ s.portCode port tr ≠ 2) :=
  ⟨⟨0, 0, 0, 0, 0, (zeros 64), (bt 0xA), by decide +kernel⟩,
   ⟨(bs2 pUp { st := 1, crc := 7, recent := [999999, 1, 2] }), 0, 0, 0, 0, 0, [1,2], (bt 0xB), by decide +kernel⟩,
   ⟨(bs2 { pUp with lanes := 0, fecue := 0xFFFFFFFF } { retraining := true, retrains := 0xFFFE }), 0, 0, 0, 0, 7, (zeros 64), (bt 0xF), by decide +kernel⟩,
   ⟨(bs2 { pUp with lanes := 0, fecue := 0xFFFFFFFF } { retraining := true, retrains := 0xFFFE }), 0, 0, 0, 0, 7, (F 0 0 0), by decide +kernel⟩,
   ⟨(bs2 { pUp with lanes := 1 } { retraining := true, retrains := 0xFFFE }), 0, 0, 0, 0, 0, 0, 0, 0, 0, (zeros 240), 0, by decide +kernel⟩,
   ⟨(bs2 { pUp with lanes := 0, fecue := 0xFFFFFFFF } { retraining := true, retrains := 0xFFFE }), 0, 0, 0, 0, 2, 7, 0, 5, 0, (pad []), (crcF 0 5 []), by decide +kernel⟩,
   ⟨(bs2 { pUp with st := 0 } { crc := 0xFFFFFFFF, retraining := true, retrains := 0xFFFF }), 0, 0, 0, 0, 0, 0, by decide +kernel⟩,
   ⟨(bs2 { pUp with lanes := 1 } { retraining := true, retrains := 0xFFFE }), 0, 0, 0, 0, 0, by decide +kernel⟩,
   ⟨(bs2 { pUp with lanes := 0, fecue := 0xFFFFFFFF } { retraining := true, retrains := 0xFFFE }), 0, 0, 0, 0, 7, by decide +kernel⟩,
   ⟨35, 31, 1, 11, 7, (trn false), by decide +kernel⟩,
   ⟨(bs2 { pUp with st := 0 } { crc := 0xFFFFFFFF, retraining := true, retrains := 0xFFFF }), 0, 0, 0, 0, 0, ⟨true, 0, 0, some 5, 3⟩, by decide +kernel⟩⟩

end BondRuns

/-! ### Messages -/

namespace Messages

/-- State or operand of the witnesses below. -/
def CB : Nat := cisternBase

/-- State or operand of the witnesses below. -/
def aqUp : State := { up with aq.modid := 0x155, aq.valid := true, host.regs := (key 9 0x40, BitVec.ofNat 64 (0xF + 0x3FF * 2^32)) :: up.host.regs }

/-- State or operand of the witnesses below. -/
def msg (k : MKind) : AqMsg := { kind := k, dmod := 0x155, smod := 0x2AA, tag := 9 }

/-- State or operand of the witnesses below. -/
def h0 : HostCmd := cmd7 [(0,1,7)]

/-- State or operand of the witnesses below. -/
def rq (k : MKind) (u : RemUser) : RemReq := { tag := 9, dmod := 0x2AA, port := 0, kind := k, cls := 0, user := u, t0 := 0, timed := true }

/-- State or operand of the witnesses below. -/
def sy (op i v : Nat) : Bytes := toLe 8 op ++ toLe 8 i ++ toLe 8 v ++ zeros 8

/-- State or operand of the witnesses below. -/
def aw (k : MKind) (u : RemUser) (v : State) : State := { v with aq := { v.aq with reqs := [rq k u] } }.setCore 0 { v.core 0 with wait := .remote 9 7 }

/-- The hypotheses of `RemoteRequestsAndReplies` are met. -/
theorem witness_RemoteRequestsAndReplies :
    (∃ (s : State) (p : Nat) (m : AqMsg), let here : Bool := decide (m.dmod = s.aq.modid); p < 12 ∧ s.aq.valid = true ∧ here ∧ Clean s ∧
        s.remoteCheck p m .load m.len = .ok ∧ 0 < m.len) ∧
    (∃ (s : State) (p q : Nat) (m : AqMsg), p < 12 ∧ s.aq.valid = true ∧ m.dmod ≠ s.aq.modid ∧ s.route m.dmod = some q ∧ m.level < 3) ∧
    (∃ (s : State) (p : Nat) (m : AqMsg), let here : Bool := decide (m.dmod = s.aq.modid); p < 12 ∧ s.aq.valid = true ∧ here ∧ Clean s ∧
        s.remoteCheck p m .store m.data.length = .ok ∧ m.data ≠ []) ∧
    (∃ (s : State) (p i : Nat) (m : AqMsg), let here : Bool := decide (m.dmod = s.aq.modid); p < 12 ∧ s.aq.valid = true ∧ here ∧
        le m.data 0 8 = 1 ∧ le m.data 8 8 = i ∧ SoundCell s i ∧ s.cellOpen p m i = true) ∧
    (∃ (s : State) (p i : Nat) (m : AqMsg), let here : Bool := decide (m.dmod = s.aq.modid); p < 12 ∧ s.aq.valid = true ∧ here ∧
        le m.data 8 8 = i ∧ s.cellOpen p m i = false) ∧
    (∃ (s : State) (p q n : Nat) (m : AqMsg), let here : Bool := decide (m.dmod = s.aq.modid); p < 12 ∧ s.aq.valid = true ∧ here ∧
        placeLocal m.addr = .cistern n ∧ s.regionPart (cisPlace m.addr).n = some q ∧ bit (s.reg 9 (0x40 + 8 * q)) 3 = true ∧
        bits (s.reg 9 (0x40 + 8 * q)) 27 16 ≤ m.smod ∧ m.smod ≤ bits (s.reg 9 (0x40 + 8 * q)) 43 32 ∧
        s.placeResetting m.addr 1 = false ∧ s.catRange m.addr 1 = true) ∧
    (∃ (s : State) (p a rd ad n : Nat) (m : AqMsg) (r : RemReq), let here : Bool := decide (m.dmod = s.aq.modid);
        let waits (u : RemUser) : Bool := decide (here ∧ s.req m.tag = some r ∧ r.dmod = m.smod ∧ r.user = u ∧ r.far = none ∧ r.tag = m.tag ∧ m.status = .ok ∧ s.awaits a m.tag = true ∧ (s.core a).stopping = false);
        p < 12 ∧ s.aq.valid = true ∧ waits (.load a ad n rd false) ∧ r.kind = .rd) ∧
    (∃ (s : State) (p a : Nat) (m : AqMsg) (r : RemReq), let here : Bool := decide (m.dmod = s.aq.modid);
        let waits (u : RemUser) : Bool := decide (here ∧ s.req m.tag = some r ∧ r.dmod = m.smod ∧ r.user = u ∧ r.far = none ∧ r.tag = m.tag ∧ m.status = .ok ∧ s.awaits a m.tag = true ∧ (s.core a).stopping = false);
        p < 12 ∧ s.aq.valid = true ∧ waits (.store a) ∧ r.kind = .wr) ∧
    (∃ (s : State) (p a rd : Nat) (m : AqMsg) (r : RemReq), let here : Bool := decide (m.dmod = s.aq.modid);
        let waits (u : RemUser) : Bool := decide (here ∧ s.req m.tag = some r ∧ r.dmod = m.smod ∧ r.user = u ∧ r.far = none ∧ r.tag = m.tag ∧ m.status = .ok ∧ s.awaits a m.tag = true ∧ (s.core a).stopping = false);
        p < 12 ∧ s.aq.valid = true ∧ waits (.cell a rd) ∧ r.kind = .sync) ∧
    (∃ (s : State) (p tag id : Nat) (r : RemReq) (h : HostCmd), p < 12 ∧ s.aq.valid = true ∧ s.req tag = some r ∧ r.tag = tag ∧
        r.timed = true ∧ s.reqDeadline r ≤ s.now ∧ r.user = .host id ∧ r.far = none ∧ s.cmd id = some h) ∧
    (∃ (s : State) (p : Nat), p < 12 ∧ s.aq.valid = true ∧ s.aq.slow = false ∧ s.slowNow = false) ∧
    (∃ (s : State) (p : Nat), p < 12 ∧ s.aq.valid = true ∧ s.slowNow = true) ∧
    (∃ (s : State) (p : Nat), p < 12 ∧ s.aq.valid = true ∧ s.aq.slow = true ∧ s.slowNow = false) :=
  ⟨⟨{ aqUp with mem := [(CB+1, 5#8)] }, 0, { msg .rd with addr := CB, len := 32 }, by decide +kernel⟩,
   ⟨aqUp, 11, 0, { msg .rd with dmod := 0x156, len := 32, level := 2 }, by decide +kernel⟩,
   ⟨{ aqUp with qos.throttled := false, aq.slow := true }, 11, { msg .catc with data := sy 1 73728 5, addr := CB }, by decide +kernel⟩,
   ⟨{ aqUp with sync.cells := [(2047, BitVec.allOnes 64)] }, 11, 2047, { msg .sync with data := sy 1 2047 5 }, by decide +kernel⟩,
   ⟨aqUp, 11, 73728, { msg .catc with data := sy 1 73728 5, addr := CB }, by decide +kernel⟩,
   ⟨aqUp, 11, 0, CB, { msg .catc with data := sy 1 73728 5, addr := CB }, by decide +kernel⟩,
   ⟨(aw .rd (.load 0 CB 4 7 false) aqUp), 11, 0, 7, CB, 4, { msg .rdr with data := [1#8,2#8,3#8,0x84#8] }, (rq .rd (.load 0 CB 4 7 false)), by decide +kernel⟩,
   ⟨(aw .wr (.store 0) aqUp), 11, 0, { msg .wrack with data := [] }, (rq .wr (.store 0)), by decide +kernel⟩,
   ⟨(aw .sync (.cell 0 31) aqUp), 11, 0, 31, { msg .syncr with data := sy 5 0 0 }, (rq .sync (.cell 0 31)), by decide +kernel⟩,
   ⟨{ aw .rd (.host 7) aqUp with host.cmds := [h0], aq.slow := true }, 11, 9, 7, (rq .rd (.host 7)), h0, by decide +kernel⟩,
   ⟨aqUp, 11, by decide +kernel⟩,
   ⟨{ aqUp with qos.throttled := true, aq.slow := true }, 11, by decide +kernel⟩,
   ⟨{ aqUp with qos.throttled := false, aq.slow := true }, 11, by decide +kernel⟩⟩

end Messages

/-! ### Groups -/

namespace Groups

/-- State or operand of the witnesses below. -/
def CB : Nat := cisternBase

/-- State or operand of the witnesses below. -/
def gr (rank : Nat) (g : Group) (cmds : List HostCmd) : State := { up with
  host.regs := (key 9 0x2000, BitVec.ofNat 64 (rank * 2^16 + 2^32 + 100 * 2^48)) :: (key 9 0x2010, BitVec.ofNat 64 (CB + 2^48)) :: (key 9 0x40, BitVec.ofNat 64 (0xF + 0x3FF * 2^32)) :: up.host.regs
  host.cmds := cmds
  aq.modid := 0x155, aq.valid := true
  aq.groups := [(0, g)] }

/-- State or operand of the witnesses below. -/
def mem3 : List Nat := [0x150, 0x155, 0x15A]

/-- State or operand of the witnesses below. -/
def bar : HostCmd := cmd7 [(0,1,8),(16,1,0)]

/-- State or operand of the witnesses below. -/
def gm (n : Nat) : Group := { members := mem3.take n, seq := 2^14 - 1 }

/-- State or operand of the witnesses below. -/
def dm : AqMsg := { dmod := 0x155, smod := 0x150, data := zeros 8 }

/-- State or operand of the witnesses below. -/
def ru : GroupRun := { cmd := 7, seq := 5, start := 0 }

/-- State or operand of the witnesses below. -/
def bc (ty : Nat) : HostCmd := cmd7 [(0,1,8),(16,1,ty),(24,8,CB+131072),(32,8,CB+131072),(40,4,4)]

/-- State or operand of the witnesses below. -/
def gR (n : Nat) (r : GroupRun) : Group := { gm n with run := some r, seq := 6, digest := 77 }

/-- State or operand of the witnesses below. -/
def cdata : Bytes := putAt (zeros 32) 4 (toLe 4 1)

/-- State or operand of the witnesses below. -/
def live (k : Nat) : State := { gr 1 (gR 3 { ru with start := k }) [bc 1] with mesh.cats := [(0, { service := true, slots := [(0, { state := 1, group := some 0 })] })] }

/-- The hypotheses of `CollectivesRun` are met. -/
theorem witness_CollectivesRun :
    (∃ (s : State) (id g : Nat) (c : HostCmd), let d := c.desc; let x := s.group g; let n := x.members.length; let me := s.grRank g;
        let fresh : Bool := decide (Runs s id 8 c ∧ collCheck s c.fn d = .ok ∧ cGroup d = g ∧ x.run = none ∧ x.early = []); fresh ∧
        ctype d = 0 ∧ 2 ≤ n ∧ (peerSet n me 0).filter (· != me) ≠ []) ∧
    (∃ (s : State) (id g : Nat) (c : HostCmd), let d := c.desc; let x := s.group g; let me := s.grRank g;
        let fresh : Bool := decide (Runs s id 8 c ∧ collCheck s c.fn d = .ok ∧ cGroup d = g ∧ x.run = none ∧ x.early = []); fresh ∧
        ctype d = 2 ∧ me ≠ 0 ∧ 0 < cCount d) ∧
    (∃ (s : State) (id g : Nat) (c : HostCmd), let d := c.desc; let x := s.group g;
        let fresh : Bool := decide (Runs s id 8 c ∧ collCheck s c.fn d = .ok ∧ cGroup d = g ∧ x.run = none ∧ x.early = []); fresh ∧
        ctype d = 1) ∧
    (∃ (s : State) (id g : Nat) (c : HostCmd), let d := c.desc; let x := s.group g;
        let fresh : Bool := decide (Runs s id 8 c ∧ collCheck s c.fn d = .ok ∧ cGroup d = g ∧ x.run = none ∧ x.early = []); fresh ∧
        ctype d = 3) ∧
    (∃ (s : State) (g p q : Nat) (c : HostCmd) (m : AqMsg) (r : GroupRun) (step : CStep), let d := c.desc; let x := s.group g;
        let n := x.members.length; let me := s.grRank g;
        let member : Bool := decide (p < 12 ∧ m.dmod = s.aq.modid ∧ s.aq.valid = true ∧ s.armed g = true ∧ m.group = g ∧ x.members.findIdx? (· == m.smod) = some q ∧ x.run = some r ∧ m.seq = r.seq ∧ s.cmd r.cmd = some c);
        let more (e : Nat × Nat × Nat) : GroupRun := { r with got := r.got ++ [e] };
        let still (e : Nat × Nat × Nat) : Bool := decide ((stepsOf (ctype d) n)[r.step]? = some step ∧ unheard (more e) (stepNeeds n me (cCount d) step) ≠ []);
        member ∧ still (3, q, le m.data 0 8 + 1)) ∧
    (∃ (s : State) (g p q : Nat) (c : HostCmd) (m : AqMsg) (r : GroupRun) (step : CStep), let d := c.desc; let x := s.group g;
        let n := x.members.length; let me := s.grRank g;
        let member : Bool := decide (p < 12 ∧ m.dmod = s.aq.modid ∧ s.aq.valid = true ∧ s.armed g = true ∧ m.group = g ∧ x.members.findIdx? (· == m.smod) = some q ∧ x.run = some r ∧ m.seq = r.seq ∧ s.cmd r.cmd = some c);
        let more (e : Nat × Nat × Nat) : GroupRun := { r with got := r.got ++ [e] };
        let still (e : Nat × Nat × Nat) : Bool := decide ((stepsOf (ctype d) n)[r.step]? = some step ∧ unheard (more e) (stepNeeds n me (cCount d) step) ≠ []);
        member ∧ still (2, q, 1) ∧ le m.data 0 4 = x.digest ∧ le m.data 4 4 = r.digest) ∧
    (∃ (s : State) (g p q : Nat) (c : HostCmd) (m : AqMsg) (r : GroupRun) (step : CStep), let d := c.desc; let x := s.group g;
        let n := x.members.length; let me := s.grRank g;
        let member : Bool := decide (p < 12 ∧ m.dmod = s.aq.modid ∧ s.aq.valid = true ∧ s.armed g = true ∧ m.group = g ∧ x.members.findIdx? (· == m.smod) = some q ∧ x.run = some r ∧ m.seq = r.seq ∧ s.cmd r.cmd = some c);
        let more (e : Nat × Nat × Nat) : GroupRun := { r with got := r.got ++ [e] };
        let still (e : Nat × Nat × Nat) : Bool := decide ((stepsOf (ctype d) n)[r.step]? = some step ∧ unheard (more e) (stepNeeds n me (cCount d) step) ≠ []);
        member ∧ still (0, q, m.data.length / 32) ∧ s.collOpen m = true ∧ m.tag % 2 = 0 ∧
        (s.takeUp g d m.elem (m.data.length / 32) m.data).2 = true) ∧
    (∃ (s : State) (g p q : Nat) (c : HostCmd) (m : AqMsg) (r : GroupRun), let d := c.desc; let x := s.group g;
        let member : Bool := decide (p < 12 ∧ m.dmod = s.aq.modid ∧ s.aq.valid = true ∧ s.armed g = true ∧ m.group = g ∧ x.members.findIdx? (· == m.smod) = some q ∧ x.run = some r ∧ m.seq = r.seq ∧ s.cmd r.cmd = some c);
        member ∧ ctype d = 0) ∧
    (∃ (s : State) (g : Nat) (c : HostCmd) (r : GroupRun), let d := c.desc; let x := s.group g; g < 1024 ∧ x.run = some r ∧
        r.ready = true ∧ s.cmd r.cmd = some c ∧ ctype d = 0 ∧ bit (cDone d) 31 = false) ∧
    (∃ (s : State) (g : Nat) (c : HostCmd) (r : GroupRun) (step : CStep), let d := c.desc; let x := s.group g;
        let n := x.members.length; g < 1024 ∧ x.run = some r ∧ r.ready = false ∧ s.collDeadline g r ≤ s.now ∧ s.cmd r.cmd = some c ∧
        (stepsOf (ctype d) n)[r.step]? = some step) :=
  ⟨⟨(gr 1 (gm 2) [bar]), 7, 0, bar, by decide +kernel⟩,
   ⟨(gr 1 (gm 3) [bc 2]), 7, 0, (bc 2), by decide +kernel⟩,
   ⟨(gr 2 (gm 3) [bc 1]), 7, 0, (bc 1), by decide +kernel⟩,
   ⟨(gr 0 (gm 2) [bc 3]), 7, 0, (bc 3), by decide +kernel⟩,
   ⟨(gr 1 (gR 3 { ru with start := 900001 }) [bc 1]), 0, 11, 0, (bc 1), { dm with seq := 5, data := cdata ++ cdata, tag := 2 }, { ru with start := 900001 }, (.up 0), by decide +kernel⟩,
   ⟨(gr 1 (gR 3 { ru with digest := 0x1234 }) [bar]), 0, 11, 0, bar, { dm with seq := 5, data := toLe 4 77 ++ toLe 4 0x1234 }, { ru with digest := 0x1234 }, (.bar 0), by decide +kernel⟩,
   ⟨(live 900000), 0, 11, 0, (bc 1), { dm with seq := 5, data := cdata ++ cdata, tag := 2 }, { ru with start := 900000 }, (.up 0), by decide +kernel⟩,
   ⟨(gr 1 (gR 3 { ru with ready := true }) [bar]), 0, 11, 0, bar, { dm with seq := 5, data := toLe 4 77 ++ toLe 4 0x1234 }, { ru with ready := true }, by decide +kernel⟩,
   ⟨(gr 1 (gR 3 { ru with ready := true }) [bar]), 0, bar, { ru with ready := true }, by decide +kernel⟩,
   ⟨(live 900000), 0, (bc 1), { ru with start := 900000 }, (.up 0), by decide +kernel⟩⟩

end Groups

/-! ### TaskRuns -/

namespace TaskRuns

/-- State or operand of the witnesses below. -/
def CB : Nat := cisternBase

/-- State or operand of the witnesses below. -/
def putAll (b : Bytes) (l : List (Nat × Nat × Nat)) : Bytes := l.foldl (fun b e => putAt b e.1 (toLe e.2.1 e.2.2)) b

/-- State or operand of the witnesses below. -/
def elf : Bytes := putAll (zeros 128) [(0,4,0x464C457F),(4,1,2),(5,1,1),(6,1,1),(16,2,2),(18,2,243),(24,8,privBase),(32,8,64),(54,2,56),(56,2,1),
  (64,4,1),(68,4,5),(72,8,120),(88,8,privBase),(96,8,4),(104,8,4),(120,4,0x73)]

/-- State or operand of the witnesses below. -/
def cmap : Bytes := putAll (zeros 64) [(0,2,1),(16,6,CB),(24,4,4),(28,1,0xFF),(29,1,7)]

/-- State or operand of the witnesses below. -/
def hd0 : Bytes := putAll (zeros 192) [(0,4,0x4D494B54),(4,2,1),(6,2,128),(8,2,2),(10,2,32),(12,1,1),(14,2,1),(16,8,384),
  (128,2,1),(132,4,0xF500),(136,8,192),(144,8,128), (160,2,5),(164,4,0xFFFF),(168,8,320),(176,8,32)]

/-- State or operand of the witnesses below. -/
def img0 : Bytes := hd0 ++ elf ++ cmap

/-- State or operand of the witnesses below. -/
def img : Bytes := putAt img0 24 (toLe 4 (crc32c img0))

/-- State or operand of the witnesses below. -/
def IA : Nat := CB + 0x20000

/-- State or operand of the witnesses below. -/
def dL : List (Nat × Nat × Nat) := [(0,1,5),(16,8,IA),(24,4,1),(28,4,9)]

/-- State or operand of the witnesses below. -/
def lS : State := { upCmd dL with mem := ((List.range 384).map (fun i => (⟨IA + i, img.getD i 0⟩ : Host.Cell))).filter (fun c => c.2 != 0) }.setCore 0 {}

/-- State or operand of the witnesses below. -/
def lc : HostCmd := cmd7 dL

/-- State or operand of the witnesses below. -/
def tk : Task := ⟨7, 0, 0, 7, 0, 1, 0, 9, 0, false, [], 1, none, []⟩

/-- State or operand of the witnesses below. -/
def tkr : Task := { tk with released := true }

/-- State or operand of the witnesses below. -/
def done0 (k : Task) : State := { lS with tasks := [k, { tk with id := 3, mask := 2 }] , cores := ((List.range 4).map (fun i => (i, ({ exit := some 5 } : Core)))) ++ [(12, { exit := some 1 })], dist.gen := 5, host.cmds := [{ lc with waiting := true}] }

/-- State or operand of the witnesses below. -/
def dH : List (Nat × Nat × Nat) := [(0,1,6),(16,4,3)]

/-- State or operand of the witnesses below. -/
def hS : State := { done0 tkr with host.cmds := [cmd7 dH, { lc with id := 8, waiting := true }] }

/-- State or operand of the witnesses below. -/
def dP : List (Nat × Nat × Nat) := [(0,1,13),(16,1,0)]

/-- The hypotheses of `TasksAndPartitions` are met. -/
theorem witness_TasksAndPartitions :
    (∃ (s : State) (id : Nat) (c : HostCmd) (k : Task), s.tasks.find? (fun x => x.id == id && !x.released) = some k ∧
        s.mesh.scheds = [] ∧ s.writesOpen loader = false ∧ s.coh.refused = [] ∧ s.cmd k.hostId = some c) ∧
    (∃ (s : State) (id : Nat) (k : Task), s.tasks.find? (fun x => x.id == id && x.released) = some k ∧
        (∀ n ∈ k.tiles, ∀ p : Nat, p < 4 → s.corePresent (agentOf n p) = false ∨ (s.core (agentOf n p)).exit ≠ none) ∧
        (s.endTasks (fun x => x.id == id)).2 = true) ∧
    (∃ (s : State) (id : Nat) (c : HostCmd), let ts := maskTiles (le c.desc 16 4); let on (x : Task) : Bool := x.tiles.any ts.contains;
        Runs s id 6 c ∧ zeroAt c.desc 20 44 = true ∧ (∀ n ∈ ts, s.fnTile c.fn n = true ∧ (s.tile n).site ≠ none) ∧ s.svc.repairs = [] ∧
        (s.endTasks on).2 = true) ∧
    (∃ (s : State) (id i : Nat) (c : HostCmd), Runs s id 13 c ∧ i < 8 ∧ le c.desc 16 1 = i ∧ zeroAt c.desc 17 47 = true ∧
        s.partValid i = true ∧ c.fn = 0 ∧ s.svc.repairs = [] ∧ (s.beginReset i).2 = true) :=
  ⟨⟨(done0 tk), 7, { lc with waiting := true}, tk, by decide +kernel⟩,
   ⟨hS, 7, tkr, by decide +kernel⟩,
   ⟨hS, 7, (cmd7 dH), by decide +kernel⟩,
   ⟨(upCmd dP), 7, 0, (cmd7 dP), by decide +kernel⟩⟩

/-- The hypotheses of the LAUNCH clause of `TasksAndPartitions` are met: an image of one tile with one S-core program. -/
theorem witness_TasksAndPartitionsLaunch :
    (∃ (s : State) (id : Nat) (c : HostCmd), Runs s id 5 c ∧
      let a := le c.desc 16 8;
      firstBad [launchOperands s c.fn c.desc, firstFail [(a % 64 == 0, .align), (s.imagePlace a 128, .range)], s.stackStatus a 128] = .ok ∧
      let r1 := s.uRead loader a 128;
      let h := r1.2.2;
      let r2 := r1.1.uRead loader a (le h 16 8);
      let b := r2.2.2;
      r1.2.1 = none ∧ le h 16 8 ≤ 2 ^ 32 ∧ le h 16 8 ≠ 0 ∧ r1.1.imagePlace a (le h 16 8) = true ∧ headerOk h = true ∧
      r1.1.stackStatus a (le h 16 8) = .ok ∧ r2.2.1 = none ∧
      let tiles := maskTiles (le c.desc 24 4);
      let j : Job := ⟨b, tiles, ((tiles.head?).bind r2.1.tilePart).getD 0, dClass c.desc % 16, c.fn⟩;
      crc32c (putAt b 24 (zeros 4)) = le b 24 4 ∧ launchTiles r2.1 c.fn j.n tiles (le b 28 4) = .ok ∧ launchImage r2.1 j = .ok) :=
  ⟨lS, 7, lc, by decide +kernel⟩

end TaskRuns

end Sys2Proof.Tests
end

