-- ==== Sys2Proof/Tests/ModuleWitness.lean ====
section
/-!
SUPPORT. Witnesses: for the statements on start-up, resets, management, power and partner sites, states and operands that meet the hypotheses of
each clause. A clause whose hypotheses another clause includes has none of its own.
-/

namespace Sys2Proof.Tests

set_option maxRecDepth 40000
set_option Elab.async false

open Sys2Proof.Machine

/-! ### StartUp -/

namespace StartUp

/-- State or operand of the witnesses below. -/
def f0 : S0Find := ⟨true, false, true, 8000⟩

/-- State or operand of the witnesses below. -/
def f0b : S0Find := ⟨false, false, true, 8000⟩

/-- State or operand of the witnesses below. -/
def f1 : S1Find := ⟨true, 6, 16, 0, 12000⟩

/-- State or operand of the witnesses below. -/
def f1b : S1Find := ⟨true, 6, 16, 0, 12001⟩

/-- State or operand of the witnesses below. -/
def f2 : S2Find := ⟨false, [(3,4,5)], [], 1200000⟩

/-- State or operand of the witnesses below. -/
def f3 : S3Find := ⟨[⟨0,1,0,[1,0,0,0,0,0,0,0],0⟩], [5], 1500000⟩

/-- State or operand of the witnesses below. -/
def f4 : S4Find := ⟨[(1,0,2)], [9], 2000000⟩

/-- State or operand of the witnesses below. -/
def f5 : S5Find := ⟨[0,0,1,0,3,0,0,0], [], [], [], 4000000⟩

/-- State or operand of the witnesses below. -/
def f6 : S6Find := ⟨0, 0, 0, 300000⟩

/-- State or operand of the witnesses below. -/
def started (k : Nat) : State := { State.reset with boot := { powered := true, perst := false, refclk := true, aqclk := true, running := true, stage := k, ticking := true }, power := {vin := 40000}, now := 55 }

/-- State or operand of the witnesses below. -/
def s2 : State := started 2

/-- State or operand of the witnesses below. -/
def s9 : State := { started 9 with
  tiles := [(0, tileAt 0)], hbms := [(0, { rate := 0 })],
  boot := { (started 9).boot with topo := some ((toLe 4 0x4F504F54 ++ toLe 2 1 ++ toLe 2 5 ++ toLe 4 1 ++ toLe 4 1 ++ toLe 2 16 ++ toLe 2 8 ++ toLe 2 4 ++ zeros 2 ++ [48,0,0,0,0,0,0,0] ++ zeros 16 ++ (List.replicate 12 (toLe 4 (2^31))).flatten ++ zeros 160)) } }

/-- The hypotheses of `PowerAndEarlyStages` are met. -/
theorem witness_PowerAndEarlyStages :
    (∃ (s : State) (vin : Nat), s.boot.powered = false ∧ 33000 ≤ vin ∧ vin ≤ 52000) ∧
    (∃ (s : State) (r0 : S0Find),
        let runs (k : Nat) : Bool := decide (s.boot.powered = true ∧ s.boot.running = true ∧ s.boot.stage = k);
        let bankOk (b : Nat) : Bool := if b = 0 then r0.bank0Ok && s.flash.ok0 else r0.bank1Ok && s.flash.ok1; runs 0 ∧
        s.boot.cold = true ∧ r0.dur ≤ 8000 ∧ s.flash.active < 2 ∧ bankOk s.flash.active = true) ∧
    (∃ (s : State) (r0 : S0Find),
        let runs (k : Nat) : Bool := decide (s.boot.powered = true ∧ s.boot.running = true ∧ s.boot.stage = k);
        let bankOk (b : Nat) : Bool := if b = 0 then r0.bank0Ok && s.flash.ok0 else r0.bank1Ok && s.flash.ok1; runs 0 ∧
        s.boot.cold = true ∧ r0.dur ≤ 8000 ∧ bankOk s.flash.active = false ∧ bankOk (1 - s.flash.active) = false) ∧
    (∃ (s : State) (r1 : S1Find),
        let runs (k : Nat) : Bool := decide (s.boot.powered = true ∧ s.boot.running = true ∧ s.boot.stage = k); runs 1 ∧
        s.boot.perst = false ∧ r1.dur ≤ 12000 ∧ r1.trained = true ∧ 3 ≤ r1.gen ∧ r1.gen ≤ 6 ∧ r1.width = 16) ∧
    (∃ (s : State) (r1 : S1Find),
        let runs (k : Nat) : Bool := decide (s.boot.powered = true ∧ s.boot.running = true ∧ s.boot.stage = k); runs 1 ∧
        s.boot.perst = false ∧ 12000 < r1.dur) ∧
    (∃ (s : State), ∃ k, let runs (k : Nat) : Bool := decide (s.boot.powered = true ∧ s.boot.running = true ∧ s.boot.stage = k);
        runs k ∧ k < 10 ∧ (k = 1 → s.boot.perst = false)) :=
  ⟨⟨State.reset, 33000, by decide +kernel⟩,
   ⟨(started 0), f0, by decide +kernel⟩,
   ⟨(started 0), f0b, by decide +kernel⟩,
   ⟨(started 1), f1, by decide +kernel⟩,
   ⟨(started 1), f1b, by decide +kernel⟩,
   ⟨(started 9), 9, by decide +kernel⟩⟩

/-- The hypotheses of `MiddleStages` are met. -/
theorem witness_MiddleStages :
    (∃ (s : State) (r2 : S2Find),
        let runs (k : Nat) : Bool := decide (s.boot.powered = true ∧ s.boot.running = true ∧ s.boot.stage = k); runs 2 ∧
        r2.dur ≤ 1200000 ∧ r2.fatal = false) ∧
    (∃ (s : State) (r3 : S3Find),
        let runs (k : Nat) : Bool := decide (s.boot.powered = true ∧ s.boot.running = true ∧ s.boot.stage = k); runs 3 ∧
        r3.dur ≤ 1500000) ∧
    (∃ (s : State) (r4 : S4Find),
        let runs (k : Nat) : Bool := decide (s.boot.powered = true ∧ s.boot.running = true ∧ s.boot.stage = k); runs 4 ∧
        r4.dur ≤ 2000000) ∧
    (∃ (s : State) (r5 : S5Find),
        let runs (k : Nat) : Bool := decide (s.boot.powered = true ∧ s.boot.running = true ∧ s.boot.stage = k); runs 5 ∧
        r5.dur ≤ 4000000) ∧
    (∃ (s : State) (r6 : S6Find),
        let runs (k : Nat) : Bool := decide (s.boot.powered = true ∧ s.boot.running = true ∧ s.boot.stage = k); runs 6 ∧
        r6.dur ≤ 300000) :=
  ⟨⟨{ s2 with mem := [(0x008000000003, 5)] }, f2, by decide +kernel⟩,
   ⟨(started 3), f3, by decide +kernel⟩,
   ⟨(started 4), f4, by decide +kernel⟩,
   ⟨(started 5), f5, by decide +kernel⟩,
   ⟨(started 6), f6, by decide +kernel⟩⟩

/-- The hypotheses of `LateStages` are met. -/
theorem witness_LateStages :
    (∃ (s : State) (dur : Nat), let runs (k : Nat) : Bool := decide (s.boot.powered = true ∧ s.boot.running = true ∧ s.boot.stage = k);
        runs 7 ∧ dur ≤ 500000) ∧
    (∃ (s : State) (dur : Nat), let runs (k : Nat) : Bool := decide (s.boot.powered = true ∧ s.boot.running = true ∧ s.boot.stage = k);
        runs 8 ∧ dur ≤ 2000000) ∧
    (∃ (s : State) (dur : Nat), let runs (k : Nat) : Bool := decide (s.boot.powered = true ∧ s.boot.running = true ∧ s.boot.stage = k);
        runs 9 ∧ dur ≤ 200000 ∧ s.mismatch = 0) ∧
    (∃ (s : State) (dur : Nat), let runs (k : Nat) : Bool := decide (s.boot.powered = true ∧ s.boot.running = true ∧ s.boot.stage = k);
        runs 9 ∧ dur ≤ 200000 ∧ s.mismatch ≠ 0) :=
  ⟨⟨(started 7), 500000, by decide +kernel⟩,
   ⟨(started 8), 2000000, by decide +kernel⟩,
   ⟨s9, 200000, by decide +kernel⟩,
   ⟨{ started 9 with boot := { (started 9).boot with topo := some (zeros 256) } }, 200000, by decide +kernel⟩⟩

end StartUp

/-! ### ResetRuns -/

namespace ResetRuns

/-- State or operand of the witnesses below. -/
def memS : State := { up with mem := [(5, 7), (0x008000000003, 5)], grans := [(1, { poison := true })], mgmt := { level := 2, eidSmbus := some 9 } }

/-- State or operand of the witnesses below. -/
def dT (a : Nat) := [(0,1,0xC),(16,1,a)]

/-- State or operand of the witnesses below. -/
def heldS (a : Nat) : State := { upCmd (dT a) with boot := { up.boot with held := true } }

/-- State or operand of the witnesses below. -/
def tr0 : Bytes := toLe 4 0x4F504F54 ++ toLe 2 1 ++ toLe 2 5 ++ toLe 4 7 ++ toLe 4 1 ++ toLe 2 16 ++ toLe 2 8 ++ toLe 2 4 ++ zeros 2 ++ [48,0,0,0,0,0,0,0] ++ zeros 16 ++ (List.replicate 12 (toLe 4 (2^31))).flatten ++ zeros 156

/-- State or operand of the witnesses below. -/
def tr1 : Bytes := tr0 ++ toLe 4 (crc32c tr0)

/-- The hypotheses of `PowerLossAndModuleReset` are met. -/
theorem witness_PowerLossAndModuleReset :
    (∃ (s : State) (mv : Nat), s.boot.powered = true ∧ mv < 30000) ∧
    (∃ (s : State) (mv : Nat), s.boot.powered = true ∧ 54000 < mv) ∧
    (∃ (s : State), s.boot.powered = true ∧ s.boot.perst = false) ∧
    (∃ (s : State), s.boot.powered = true ∧ s.boot.perst = true ∧ s.boot.running = false ∧ s.boot.ready = false ∧
        s.boot.failed = false ∧ s.boot.shut = false) ∧
    (∃ (s : State) (pcie : Bool), s.boot.powered = true ∧ s.keeperUp = true ∧ s.bindingUp pcie = true ∧ s.activating = false) ∧
    (∃ (s : State), s.boot.powered = true ∧ s.keeperUp = true ∧ 2 ≤ s.mgmt.level) :=
  ⟨⟨memS, 29999, by decide +kernel⟩,
   ⟨memS, 54001, by decide +kernel⟩,
   ⟨memS, by decide +kernel⟩,
   ⟨{ memS with boot := { memS.boot with perst := true, ready := false } }, by decide +kernel⟩,
   ⟨{ memS with boot := { memS.boot with perst := true, ready := false } }, false, by decide +kernel⟩,
   ⟨{ memS with boot := { memS.boot with perst := true, ready := false } }, by decide +kernel⟩⟩

/-- The hypotheses of `FunctionResetsAndLink` are met. -/
theorem witness_FunctionResetsAndLink :
    (∃ (s : State) (fn gen width : Nat), s.boot.powered = true ∧ fn ≤ s.boot.numVf ∧ fn < 8 ∧ s.boot.width ≠ 0 ∧
        s.boot.running = false ∧ 3 ≤ gen ∧ gen ≤ 6 ∧ (width = 4 ∨ width = 8 ∨ width = 16)) :=
  ⟨{ up with boot := { up.boot with numVf := 7, d3 := [3] } }, 3, 6, 16, by decide +kernel⟩

/-- The hypotheses of `InputPower` are met. -/
theorem witness_InputPower :
    (∃ (s : State) (mv : Nat), s.boot.powered = true ∧ s.evtEn 0 = true ∧ (s.evbuf 0).waiting.length < 256 ∧ s.power.outBand = false ∧
        ((30000 ≤ mv ∧ mv < 33000) ∨ (52000 < mv ∧ mv ≤ 54000))) ∧
    (∃ (s : State) (mv : Nat), s.boot.powered = true ∧ s.evtEn 0 = true ∧ (s.evbuf 0).waiting.length < 256 ∧ s.power.outBand = true ∧
        33000 ≤ mv ∧ mv ≤ 52000) ∧
    (∃ (s : State) (ph : Nat), s.boot.powered = true ∧ s.evtEn 0 = true ∧ (s.evbuf 0).waiting.length < 256 ∧ ph < 24 ∧
        s.power.failed.contains ph = false ∧ s.power.failed.length ≤ 7) ∧
    (∃ (s : State), s.boot.powered = true ∧ s.evtEn 0 = true ∧ (s.evbuf 0).waiting.length < 256 ∧ s.power.droopAt = none) ∧
    (∃ (s : State), s.boot.powered = true ∧ s.evtEn 0 = true ∧ (s.evbuf 0).waiting.length < 256 ∧ s.power.droop = true) :=
  ⟨⟨up, 54000, by decide +kernel⟩,
   ⟨{ up with power := { up.power with outBand := true, droop := true, droopAt := some 5 } }, 52000, by decide +kernel⟩,
   ⟨{ up with power := { up.power with outBand := true, droop := true, droopAt := some 5 } }, 23, by decide +kernel⟩,
   ⟨up, by decide +kernel⟩,
   ⟨{ up with power := { up.power with outBand := true, droop := true, droopAt := some 5 } }, by decide +kernel⟩⟩

/-- The hypotheses of `TopologyAndEndpoints` are met. -/
theorem witness_TopologyAndEndpoints :
    (∃ (s : State) (id : Nat) (c : HostCmd), Runs s id 0xC c ∧ le c.desc 16 1 = 3 ∧ repairCheck s c.fn c.desc = .ok) ∧
    (∃ (s : State) (id : Nat) (c : HostCmd), Runs s id 0xC c ∧ le c.desc 16 1 = 4 ∧ repairCheck s c.fn c.desc = .ok) ∧
    (∃ (s : State) (b : Bytes), s.keeperUp = true ∧ s.bindingUp false = true ∧ s.topoCheck b = .ok) ∧
    (∃ (s : State) (b : Bytes), s.keeperUp = true ∧ s.bindingUp false = true ∧ topoForm b = false) ∧
    (∃ (s : State) (e : BitVec 8), s.keeperUp = true ∧ s.boot.width ≠ 0 ∧ e ≠ 0 ∧ e ≠ 0xFF) :=
  ⟨⟨(heldS 3), 7, (cmd7 (dT 3)), by decide +kernel⟩,
   ⟨(heldS 4), 7, (cmd7 (dT 4)), by decide +kernel⟩,
   ⟨{ memS with flash := { memS.flash with topo0 := some (tr1.set 8 3) } }, tr1, by decide +kernel⟩,
   ⟨memS, [], by decide +kernel⟩,
   ⟨memS, 9, by decide +kernel⟩⟩

end ResetRuns

/-! ### Manage -/

namespace Manage

/-- State or operand of the witnesses below. -/
def m (g : Mgmt) : State := { up with mgmt := { g with eidSmbus := some 9 } }

/-- State or operand of the witnesses below. -/
def u0 : Update := ⟨[1,2,3], false⟩

/-- State or operand of the witnesses below. -/
def u1 : Update := ⟨[1,2,3], true⟩

/-- State or operand of the witnesses below. -/
def crcU : BitVec 32 := BitVec.ofNat 32 (crc32c [1,2,3])

/-- State or operand of the witnesses below. -/
def m1 := m { level := 1 }

/-- State or operand of the witnesses below. -/
def m2 := m { level := 2 }

/-- State or operand of the witnesses below. -/
def mch := m { chal := some (7, 1, 1000000) }

/-- The hypotheses of `FirmwareUpdate` are met. -/
theorem witness_FirmwareUpdate :
    (∃ (s : State), s.updateUp = true ∧ s.recovery = false ∧ s.boot.bank < 2 ∧ s.flashOk = true ∧ s.mgmt.update = none) ∧
    (∃ (s : State) (u : Update) (crc : BitVec 32), s.updateUp = true ∧ s.recovery = false ∧ s.boot.bank < 2 ∧ s.flashOk = true ∧
        s.mgmt.update = some u ∧ u.verified = false ∧ crc32c u.data = crc.toNat) ∧
    (∃ (s : State) (u : Update) (crc : BitVec 32), s.updateUp = true ∧ s.recovery = false ∧ s.boot.bank < 2 ∧ s.flashOk = true ∧
        s.mgmt.update = some u ∧ u.verified = false ∧ crc32c u.data ≠ crc.toNat) ∧
    (∃ (s : State) (u : Update), s.updateUp = true ∧ s.recovery = false ∧ s.boot.bank < 2 ∧ s.flashOk = true ∧ s.mgmt.update = some u ∧
        u.verified = true ∧ s.boot.stage = 9) ∧
    (∃ (s : State), s.updateUp = true ∧ s.recovery = false ∧ s.boot.bank < 2 ∧ s.flashOk = true ∧ s.mgmt.trial ≠ none ∧
        s.boot.powered = true) :=
  ⟨⟨(m { trial := some 5 }), by decide +kernel⟩,
   ⟨(m { update := some u0 }), u0, crcU, by decide +kernel⟩,
   ⟨(m { update := some u0 }), u0, 1, by decide +kernel⟩,
   ⟨(m { update := some u1 }), u1, by decide +kernel⟩,
   ⟨(m { trial := some 5 }), by decide +kernel⟩⟩

/-- The hypotheses of `ManagementReads` are met. -/
theorem witness_ManagementReads :
    (∃ (s : State) (k : Nat), s.mctpUp = true ∧ 45 ≤ k ∧ k ≠ 73 ∧ k ≠ 74 ∧ k ≠ 75) ∧
    (∃ (s : State) (k : Nat), s.mctpUp = true ∧ k < 10) ∧
    (∃ (s : State) (k : Nat), s.mctpUp = true ∧ 10 ≤ k) ∧
    (∃ (s : State) (n : Nat), s.mctpUp = true ∧ 1 ≤ n ∧ n ≤ 16) ∧
    (∃ (s : State), s.mctpUp = true ∧ s.power.snapshot ≠ []) ∧
    (∃ (s : State) (k : Nat), s.mctpUp = true ∧ 208 < k) ∧
    (∃ (s : State) (w : BitVec 16), s.mctpUp = true ∧ (s.unit 11).busy = false ∧ (s.unit 11).cmd = none ∧ w ≠ 0 ∧ 600 ≤ w.toNat ∧
        w.toNat ≤ s.boot.limitW ∧ bits (s.reg 12 0x18) 7 0 ≤ 150 ∧ bits (s.reg 12 0x18) 15 8 ≤ 150 ∧ s.reg 12 0x18 < 2 ^ 16) :=
  ⟨⟨(m {}), 76, by decide +kernel⟩,
   ⟨{ m {} with power := { up.power with snapshot := List.replicate 4096 7 } }, 9, by decide +kernel⟩,
   ⟨(m {}), 76, by decide +kernel⟩,
   ⟨{ m {} with flash := { up.flash with log := [(0, List.replicate 64 3)], logSeq := 1 } }, 1, by decide +kernel⟩,
   ⟨{ m {} with power := { up.power with snapshot := List.replicate 4096 7 } }, by decide +kernel⟩,
   ⟨{ m {} with flash := { up.flash with log := [(0, List.replicate 64 3)], logSeq := 1 } }, 209, by decide +kernel⟩,
   ⟨(m {}), 600, by decide +kernel⟩⟩

/-- The hypotheses of `MonitorLevels` are met. -/
theorem witness_MonitorLevels :
    (∃ (s : State) (k : Nat), s.keeperUp = true ∧ 1 ≤ k ∧ k ≤ highestLevel s.fuse.lifecycle ∧ s.mgmt.lockUntil ≤ s.now) ∧
    (∃ (s : State) (k : Nat) (code : BitVec 32), s.keeperUp = true ∧ s.mgmt.lockUntil ≤ s.now ∧ s.unlocks k code = true) ∧
    (∃ (s : State) (k : Nat) (code : BitVec 32), s.keeperUp = true ∧ s.mgmt.lockUntil ≤ s.now ∧ s.unlocks k code = false ∧
        s.mgmt.fails = 2) ∧
    (∃ (s : State), s.keeperUp = true ∧ s.now < s.mgmt.lockUntil) ∧
    (∃ (s : State) (rate : Nat), s.keeperUp = true ∧ rate ∈ [230400, 460800, 921600, 1500000, 3000000]) ∧
    (∃ (s : State) (rate : Nat), s.keeperUp = true ∧ rate ∉ [230400, 460800, 921600, 1500000, 3000000]) :=
  ⟨⟨mch, 1, by decide +kernel⟩,
   ⟨mch, 1, Config.unlockResponse 7 mch.fuse.serial 1, by decide +kernel, by decide +kernel, by simp [State.unlocks, mch, m, up]⟩,
   ⟨(m { fails := 2, lockUntil := 1000000 }), 1, 7, by decide +kernel⟩,
   ⟨(m { lockUntil := 1000001 }), by decide +kernel⟩,
   ⟨mch, 230400, by decide +kernel⟩,
   ⟨(m { lockUntil := 1000001 }), 115200, by decide +kernel⟩⟩

/-- The hypotheses of `MonitorAccess` are met. -/
theorem witness_MonitorAccess :
    (∃ (s : State), s.keeperUp = true ∧ s.mgmt.level = 0) ∧
    (∃ (s : State), s.keeperUp = true ∧ s.mgmt.level < 2) ∧
    (∃ (s : State) (a : Nat) (t' : State) (w : Bytes), s.keeperUp = true ∧ 1 ≤ s.mgmt.level ∧ a % 8 = 0 ∧ s.peekWord a = (t', .ok w) ∧
        t'.pending = s.pending ∧ t'.fuse = s.fuse ∧ t'.now = s.now) ∧
    (∃ (s : State) (u : TestUnit), s.keeperUp = true ∧ 1 ≤ s.mgmt.level ∧ s.boot.ready = true ∧ s.segmentMay u = true ∧
        u ∉ s.svc.segments) ∧
    (∃ (s : State) (a : Nat), s.keeperUp = true ∧ 2 ≤ s.mgmt.level ∧ Clean s ∧ a % 8 = 0 ∧ inMem s a = true ∧
        s.memCheck .monitor .store a 8 = .ok) ∧
    (∃ (s : State) (u : TestUnit), s.keeperUp = true ∧ 1 ≤ s.mgmt.level ∧ s.segmentMay u = false) ∧
    (∃ (s : State) (k c : Nat) (seed : BitVec 32) (base len : Nat), let d := tgDesc k c 0 0 2 seed.toNat base len; s.keeperUp = true ∧
        1 ≤ s.mgmt.level ∧ k < 8 ∧ c < 32 ∧ base < 2 ^ 32 ∧ len < 2 ^ 32 ∧ testCheck s d = .ok) ∧
    (∃ (s : State) (i : Nat), s.keeperUp = true ∧ 2 ≤ s.mgmt.level ∧ i < nCells) ∧
    (∃ (s : State) (a : Nat), s.keeperUp = true ∧ 2 ≤ s.mgmt.level ∧ a % 8 ≠ 0) ∧
    (∃ (s : State) (i k : Nat), s.keeperUp = true ∧ 2 ≤ s.mgmt.level ∧ 1 ≤ i ∧ i ≤ 36 ∧ k ≤ 2 ∧ s.tileAt (i - 1) = none) :=
  ⟨⟨(m {}), by decide +kernel⟩,
   ⟨m1, by decide +kernel⟩,
   ⟨m1, 0x008000000008, m1, (zeros 8), by decide +kernel⟩,
   ⟨{ m2 with mem := up.mem }, (.core 0 0 3), by decide +kernel⟩,
   ⟨{ m2 with mem := up.mem }, 0x008000000008, by decide +kernel⟩,
   ⟨m1, (.spare 0), by decide +kernel⟩,
   ⟨{ m2 with mem := up.mem }, 2, 31, 1, 0, 1, by decide +kernel⟩,
   ⟨{ m2 with mem := up.mem }, 36, by decide +kernel⟩,
   ⟨m2, 0x008000000001, by decide +kernel⟩,
   ⟨{ m2 with mem := up.mem }, 36, 2, by decide +kernel⟩⟩

/-- The hypotheses of `TestAccessPort` are met. -/
theorem witness_TestAccessPort :
    (∃ (s : State), s.boot.powered = true ∧ s.jtagOpen = true ∧ s.boot.perst = true) ∧
    (∃ (s : State), s.boot.powered = true ∧ s.jtagOpen = false ∨ s.boot.perst = false) ∧
    (∃ (s : State) (i : Nat), s.boot.powered = true ∧ s.jtagOpen = true ∧ s.dieReached i = true) ∧
    (∃ (s : State), s.boot.powered = true ∧ s.jtagOpen = false) ∧
    (∃ (s : State) (i : Nat), s.boot.powered = true ∧ s.jtagOpen = true ∧ s.mgmt.die = some i ∧ s.wrapperHeld i = false) ∧
    (∃ (s : State) (i : Nat), s.boot.powered = true ∧ s.jtagOpen = true ∧ s.mgmt.die = some i ∧ s.wrapperHeld i = true) :=
  ⟨⟨{ m { level := 2 } with boot := { up.boot with perst := true } }, by decide +kernel⟩,
   ⟨(m { level := 1, die := some 3 }), by decide +kernel⟩,
   ⟨{ m { level := 2, die := some 1 } with svc.segments := [.core 0 0 0] }, 1, by decide +kernel⟩,
   ⟨(m { level := 1, die := some 3 }), by decide +kernel⟩,
   ⟨(m { level := 2, die := some 3 }), 3, by decide +kernel⟩,
   ⟨{ m { level := 2, die := some 1 } with svc.segments := [.core 0 0 0] }, 1, by decide +kernel⟩⟩

end Manage

/-! ### PowerRuns -/

namespace PowerRuns

/-- State or operand of the witnesses below. -/
def isl (l : List (Nat × Island)) : State := { up with islands := l }

/-- State or operand of the witnesses below. -/
def on4 : State := { isl [(0, { off := false, clk := 1600, point := 1600, ceil := 1800 }), (3, { off := false, stopped := true })] with cores := [] }

/-- State or operand of the witnesses below. -/
def lr0 : LogRec := ⟨0x1A, 3, false, 5, 1, 30, 77, [], false⟩

/-- State or operand of the witnesses below. -/
def hot : State := { isl [(191, { off := false, hot := 2, state := 2, temp := 101 })] with boot := { up.boot with shutLog := some lr0 } }

/-- State or operand of the witnesses below. -/
def pS (x : PSite) : State := { up with psites := [(1, x)] }

/-- State or operand of the witnesses below. -/
def pd0 : Bytes := rec64 [(0,4,0x54524150),(4,2,1),(12,2,0x3132),(14,1,1),(15,1,1)] ++ zeros 188

/-- State or operand of the witnesses below. -/
def pd1 : Bytes := pd0 ++ toLe 4 (crc32c pd0)

/-- State or operand of the witnesses below. -/
def pdS : State := { up with fuse.partB := 0x3132, psites := [(1, { st := 3, epoch := 2^32 - 1 })] }

/-- The hypotheses of `PowerGrants` are met. -/
theorem witness_PowerGrants :
    (∃ (s : State) (i n : Nat), i < 32 ∧ (s.tile i).site = some n ∧ n < 36 ∧ (s.tile i).off = false ∧ s.sidePorts n = []) ∧
    (∃ (s : State) (i n a : Nat), let x := s.tile i; i < 32 ∧ (s.tile i).site = some n ∧ n < 36 ∧ (s.tile i).off = false ∧
        x.ask = some a ∧ (∀ j ∈ List.range 32, j ≠ i → (s.tile j).ask = none)) ∧
    (∃ (s : State) (i n g : Nat), let x := s.tile i; i < 32 ∧ (s.tile i).site = some n ∧ n < 36 ∧ (s.tile i).off = false ∧
        x.sent = some g ∧ s.sidePorts n ≠ []) :=
  ⟨⟨{ (up.setTile 31 { tileAt 35 with sent := some 300, ask := some 50000 }) with bonds := [(64*35, {st := 2}), (64*35+2, {st := 2})] }, 31, 35, by decide +kernel⟩,
   ⟨{ (up.setTile 31 { tileAt 35 with sent := some 300, ask := some 50000 }) with bonds := [(64*35, {st := 2}), (64*35+2, {st := 2})] }, 31, 35, 50000, by decide +kernel⟩,
   ⟨(up.setTile 31 { tileAt 35 with sent := some 300, ask := some 50000 }), 31, 35, 300, by decide +kernel⟩⟩

/-- The hypotheses of `ClocksAndIdleTiles` are met. -/
theorem witness_ClocksAndIdleTiles :
    (∃ (s : State) (q mhz i n : Nat), i < 32 ∧ (s.tile i).site = some n ∧ n < 36 ∧ (s.tile i).off = false ∧ s.watching = true ∧ q < 4 ∧
        (s.island q).off = false ∧ 1200 ≤ mhz ∧ mhz ≤ 1800 ∧ mhz % 25 = 0) ∧
    (∃ (s : State) (i n : Nat), i < 32 ∧ (s.tile i).site = some n ∧ n < 36 ∧ (s.tile i).off = false ∧
        (∀ a ∈ tileAgents i, (s.core a).run = false)) ∧
    (∃ (s : State) (i n : Nat), i < 32 ∧ (s.tile i).site = some n ∧ n < 36 ∧ (s.tile i).off = false ∧
        (∀ j ∈ tileMcores i, s.msState j = 0 ∨ s.msState j = 3)) ∧
    (∃ (s : State) (i n k : Nat), i < 32 ∧ (s.tile i).site = some n ∧ n < 36 ∧ (s.tile i).off = false ∧ k < 192 ∧
        (s.island k).stopped = true ∧ (s.island k).off = false) ∧
    (∃ (s : State) (i n : Nat), i < 32 ∧ (s.tile i).site = some n ∧ n < 36 ∧ (s.tile i).off = false ∧ bit (s.reg 12 0x30) 0 = true ∧
        (s.tile i).task = none) ∧
    (∃ (s : State) (i n : Nat), i < 32 ∧ (s.tile i).site = some n ∧ n < 36 ∧ (s.tile i).off = false ∧ bit (s.reg 12 0x30) 0 = false) :=
  ⟨⟨{ on4 with host.regs := (key 12 0x30, 1#64) :: up.host.regs, mcores := [(0, { faulted := true })] }, 0, 1200, 0, 0, by decide +kernel⟩,
   ⟨{ on4 with host.regs := (key 12 0x30, 1#64) :: up.host.regs, mcores := [(0, { faulted := true })] }, 0, 0, by decide +kernel⟩,
   ⟨on4, 0, 0, by decide +kernel⟩,
   ⟨{ on4 with host.regs := (key 12 0x30, 1#64) :: up.host.regs, mcores := [(0, { faulted := true })] }, 0, 0, 3, by decide +kernel⟩,
   ⟨{ on4 with host.regs := (key 12 0x30, 1#64) :: up.host.regs, mcores := [(0, { faulted := true })] }, 0, 0, by decide +kernel⟩,
   ⟨on4, 0, 0, by decide +kernel⟩⟩

/-- The hypotheses of `HeatAndShutdown` are met. -/
theorem witness_HeatAndShutdown :
    (∃ (s : State), s.boot.powered = true ∧ s.boot.ticking = true) ∧
    (∃ (s : State) (k : Nat), s.watching = true ∧ k < 192 ∧ 2 ≤ (s.island k).hot) ∧
    (∃ (s : State) (x : LogRec), s.boot.shutLog = some x ∧ s.flashOk = true ∧ s.svc.logq = []) ∧
    (∃ (s : State) (k : Nat), 4 ≤ k ∧ k < 148 ∧ (s.island k).ceil = 0) :=
  ⟨⟨up, by decide +kernel⟩,
   ⟨hot, 191, by decide +kernel⟩,
   ⟨hot, lr0, by decide +kernel⟩,
   ⟨up, 147, by decide +kernel⟩⟩

/-- The hypotheses of `PartnerSites` are met. -/
theorem witness_PartnerSites :
    (∃ (s : State) (k m : Nat), let x := s.psite k; k < 2 ∧ x.st = 2 ∧ m < 4 ∧ (x.mods.getD m {}).role ≠ 7 ∧
        (x.mods.getD m {}).width = 0 ∧ m < x.mods.length ∧ s.slowPorts = [] ∧ s.slowTargets = []) ∧
    (∃ (s : State) (k : Nat) (f : PartnerFind), let x := s.psite k; k < 2 ∧ x.st = 3 ∧ x.desc = [] ∧ f.trained = true ∧
        s.descFails k f.desc = 0) :=
  ⟨⟨(pS { st := 2, pgrant := 5, mods := [{ role := 0 }, {}, {}, { role := 1 }] }), 1, 0, by decide +kernel⟩,
   ⟨pdS, 1, ⟨true, pd1⟩, by decide +kernel⟩⟩

end PowerRuns

end Sys2Proof.Tests
end

