-- ==== Sys2Proof/Tests/RepairWitness.lean ====
section
/-!
SUPPORT. Witnesses: for the statements on repair, the Cistern, HBM and regulation, states and operands that meet the hypotheses of
each clause. A clause whose hypotheses another clause includes has none of its own.
-/

namespace Sys2Proof.Tests

set_option maxRecDepth 40000
set_option Elab.async false

open Sys2Proof.Machine

/-! ### RepairRuns -/

namespace RepairRuns

/-- State or operand of the witnesses below. -/
def dR (act tile unit epo : Nat) : List (Nat × Nat × Nat) := [(0,1,12),(16,1,act),(17,1,unit),(20,4,tile),(24,4,epo)]

/-- State or operand of the witnesses below. -/
def noSp (s : State) : State := { s with host.regs := (key 11 0x20, 0#64) :: s.host.regs }

/-- State or operand of the witnesses below. -/
def fen : State := (upCmd (dR 1 0 0 (2^32-1))).setTile 0 { tileAt 0 with fenced := true, epoch := 2^32 - 1, fencedCores := [(1,1)] }

/-- State or operand of the witnesses below. -/
def clk : State := (noSp up).setTile 0 { tileAt 0 with fenced := true, clockLost := true, part := none }

/-- State or operand of the witnesses below. -/
def spr : State := { upCmd (dR 2 0 0 0) with dist.spares := [7,11,32,27] }.setTile 0 { tileAt 0 with fenced := true, fencedCores := [(1,1)] }

/-- State or operand of the witnesses below. -/
def sp2 : State := { spr with svc.repairs := [⟨0, none, true, true, none⟩] }

/-- State or operand of the witnesses below. -/
def sp3 : State := { spr with svc.repairs := [⟨0, none, true, false, none⟩, ⟨1, none, true, false, none⟩] }

/-- State or operand of the witnesses below. -/
def sp4 : State := { sp3 with svc.repairs := [⟨0, some (4,3), true, false, none⟩, ⟨1, none, true, false, none⟩] }

/-- State or operand of the witnesses below. -/
def lr (k : Nat) : LogRec := ⟨0x1A, 3, false, 5, 1, 30, k, [], false⟩

/-- State or operand of the witnesses below. -/
def dz : State := { up with host.regs := (key 11 0x18, 1#64) :: up.host.regs, dist.spares := [7,11,32,27], tiles := [(0, { tileAt 0 with task := none })] }

/-- State or operand of the witnesses below. -/
def marked : State := { dz with dist.dirty := true }

/-- State or operand of the witnesses below. -/
def fresh : State := { marked with dist.words := (List.range dtWords).foldl (fun m k =>
    if k = 0 then m else tset (fun _ => (0 : Word)) m k (marked.freshWord k)) marked.dist.words }

/-- State or operand of the witnesses below. -/
def sp5 : State := { sp3 with cores := [(agentOf 0 0, { run := true, wait := .mem 0 8 3 true })] }

/-- The hypotheses of `FencingAndReadmission` are met. -/
theorem witness_FencingAndReadmission :
    (∃ (s : State) (i n : Nat), let x := s.tile i; i < 32 ∧ (s.tile i).site = some n ∧ s.autospare = false ∧ x.fenced = false ∧
        x.off = false) ∧
    (∃ (s : State) (i n r p : Nat), let x := s.tile i; i < 32 ∧ (s.tile i).site = some n ∧ s.autospare = false ∧
        s.present i r p = true ∧ x.fencedCores.contains (r, p) = false) ∧
    (∃ (s : State) (i n id : Nat) (c : HostCmd), i < 32 ∧ (s.tile i).site = some n ∧ s.autospare = false ∧ Runs s id 0xC c ∧
        rpAction c.desc = 0 ∧ repairCheck s c.fn c.desc = .ok ∧ rpTile c.desc = i ∧ rpCore c.desc = none) ∧
    (∃ (s : State) (i n id : Nat) (c : HostCmd), let x := s.tile i; i < 32 ∧ (s.tile i).site = some n ∧ Runs s id 0xC c ∧
        rpAction c.desc = 1 ∧ repairCheck s c.fn c.desc = .ok ∧ rpTile c.desc = i ∧ rpCore c.desc = none ∧ x.off = false ∧
        s.svc.repairs = []) ∧
    (∃ (s : State) (i n : Nat), let x := s.tile i; i < 32 ∧ (s.tile i).site = some n ∧ x.fenced = false ∧ x.off = false ∧
        x.clockLost = false) ∧
    (∃ (s : State) (i n : Nat), let x := s.tile i; i < 32 ∧ (s.tile i).site = some n ∧ x.clockLost = true ∧ s.autospare = false ∧
        x.part = none ∧ s.svc.repairs = []) :=
  ⟨⟨(noSp (upCmd (dR 0 1 0 0))), 1, 1, by decide +kernel⟩,
   ⟨clk, 0, 0, 0, 0, by decide +kernel⟩,
   ⟨(noSp (upCmd (dR 0 1 0 0))), 1, 1, 7, (cmd7 (dR 0 1 0 0)), by decide +kernel⟩,
   ⟨fen, 0, 0, 7, (cmd7 (dR 1 0 0 (2^32-1))), by decide +kernel⟩,
   ⟨(up), 1, 1, by decide +kernel⟩,
   ⟨clk, 0, 0, by decide +kernel⟩⟩

/-- The hypotheses of `SparesTakeOver` are met. -/
theorem witness_SparesTakeOver :
    (∃ (s : State) (i n m id : Nat) (c : HostCmd), i < 32 ∧ (s.tile i).site = some n ∧ n < 36 ∧ m < 36 ∧ m ≠ n ∧ Runs s id 0xC c ∧
        rpAction c.desc = 2 ∧ repairCheck s c.fn c.desc = .ok ∧ rpTile c.desc = i ∧ rpCore c.desc = none ∧ (s.tile i).fenced = true ∧
        (s.tile i).task = none ∧ s.svc.repairs = []) ∧
    (∃ (s : State) (i n m : Nat) (e : Repair), i < 32 ∧ (s.tile i).site = some n ∧ n < 36 ∧ m < 36 ∧ m ≠ n ∧
        s.repairOf i (e.core.map (·.1)) = some e ∧ s.atBoundary e = false) ∧
    (∃ (s : State) (i n m : Nat) (e : Repair), i < 32 ∧ (s.tile i).site = some n ∧ n < 36 ∧ m < 36 ∧ m ≠ n ∧
        s.repairOf i (e.core.map (·.1)) = some e ∧ s.atBoundary e = true) ∧
    (∃ (s : State) (i n m : Nat) (e : Repair), i < 32 ∧ (s.tile i).site = some n ∧ n < 36 ∧ m < 36 ∧ m ≠ n ∧ s.svc.repairs = [e] ∧
        e = ⟨i, none, e.quiet, true, none⟩ ∧ (s.tile i).clockLost = false ∧ s.spareSite (i / 8) = some m) :=
  ⟨⟨spr, 0, 0, 7, 7, (cmd7 (dR 2 0 0 0)), by decide +kernel⟩,
   ⟨sp5, 0, 0, 7, ⟨0, none, true, false, none⟩, by decide +kernel⟩,
   ⟨sp4, 0, 0, 7, ⟨0, some (4,3), true, false, none⟩, by decide +kernel⟩,
   ⟨sp2, 0, 0, 7, ⟨0, none, true, true, none⟩, by decide +kernel⟩⟩

/-- The hypotheses of `DrizzleAndUpkeep` are met. -/
theorem witness_DrizzleAndUpkeep :
    (∃ (s : State) (u : TestUnit), (bit (s.reg 11 0x18) 0 = true ∧ s.boot.ready = true ∧ s.segmentMay u = true ∧ u ∉ s.svc.segments) ∧
        (∀ a b, u ≠ .march a b) ∧ (∀ n, u ≠ .spare n)) ∧
    (∃ (s : State) (k : Nat),
        let starts (v : TestUnit) : Bool := decide (bit (s.reg 11 0x18) 0 = true ∧ s.boot.ready = true ∧ s.segmentMay v = true ∧ v ∉ s.svc.segments);
        starts (.spare k) ∧ s.tileAt k = none) ∧
    (∃ (s : State) (k line : Nat),
        let starts (v : TestUnit) : Bool := decide (bit (s.reg 11 0x18) 0 = true ∧ s.boot.ready = true ∧ s.segmentMay v = true ∧ v ∉ s.svc.segments);
        starts (.march k line)) ∧
    (∃ (s : State) (k : Nat), .spare k ∈ s.svc.segments ∧ s.tileAt k = none) ∧
    (∃ (s : State) (u : TestUnit), u ∈ s.svc.segments ∧ (∀ n, u ≠ .spare n)) ∧
    (∃ (s : State) (u : TestUnit), u ∉ s.svc.overdue ∧ s.svc.logq.length < 1024) ∧
    (∃ (s : State) (x : LogRec) (rest : List LogRec), s.flashOk = true ∧ s.svc.logq = x :: rest) ∧
    (∃ (s : State), s.flashOk = false) ∧
    (∃ (s : State), s.dist.dirty = true ∧ s.stale = true ∧ s.tasks = []) ∧
    (∃ (s : State), s.dist.dirty = true ∧ s.stale = false) ∧
    (∃ (s : State), s.keeperUp = true ∧ s.svc.logq.length < 1024) :=
  ⟨⟨dz, .core 0 4 8, by decide +kernel, fun _ _ h => (by cases h), fun _ h => (by cases h)⟩,
   ⟨dz, 11, by decide +kernel⟩,
   ⟨dz, 1151, 24512, by decide +kernel⟩,
   ⟨{ dz with svc.segments := [.spare 7] }, 7, by decide +kernel⟩,
   ⟨{ dz with svc.segments := [.spare 7, .region 3, .spare 11] }, .region 3, by decide +kernel, fun _ h => by cases h⟩,
   ⟨{ dz with svc.segments := [.spare 7] }, (.spare 7), by decide +kernel⟩,
   ⟨{ dz with svc.heldRepairs := [⟨4,1,7⟩], svc.logq := [lr 1], flash.active := 1, boot.bank := 0 }, (lr 1), [], by decide +kernel⟩,
   ⟨{ dz with svc.segments := [.spare 7, .region 3, .spare 11], svc.logq := [lr 1, lr 2], dist.dirty := true, dist.gen := 2^32-1, power.flashT := -1, flash.lockstep := 2^32-1, svc.heldRepairs := [⟨4,1,7⟩] }, by decide +kernel⟩,
   ⟨{ dz with svc.segments := [.spare 7, .region 3, .spare 11], svc.logq := [lr 1, lr 2], dist.dirty := true, dist.gen := 2^32-1, power.flashT := -1, flash.lockstep := 2^32-1, svc.heldRepairs := [⟨4,1,7⟩] }, by decide +kernel⟩,
   ⟨fresh, rfl, stale_filled marked fresh rfl⟩,
   ⟨{ dz with svc.segments := [.spare 7] }, by decide +kernel⟩⟩

end RepairRuns

/-! ### MemoryRuns -/

namespace MemoryRuns

/-- State or operand of the witnesses below. -/
def cu (r c : List (Nat × Nat × Nat)) (ret : List Nat) : State := { up with cistern.rows := r, cistern.cols := c, cistern.retired := ret }

/-- State or operand of the witnesses below. -/
def r8 : List (Nat × Nat × Nat) := (List.range 8).map (fun k => (1151, 23, k))

/-- State or operand of the witnesses below. -/
def fnd (s : State) (l : List (Nat × Nat × Option Nat)) : State := { s with cistern.found := l, now := 5 }

/-- State or operand of the witnesses below. -/
def ro : List Nat := rowGrans 1151 23 127

/-- State or operand of the witnesses below. -/
def ro2 : List Nat := rowGrans 1151 23 126

/-- State or operand of the witnesses below. -/
def f1 : List (Nat × Nat × Option Nat) := [(ro.getD 3 0, 4, none), (ro.getD 31 0, 4, some 265), (ro2.getD 0 0, 5, some 265)]

/-- State or operand of the witnesses below. -/
def gx : State := { up with grans := [(9, { flips := [3] }), (10, { flips := [1,2] })], cistern.correct := [9, 10], cistern.groups := [⟨9, 3⟩, ⟨10, 1⟩], svc.scrubs := [(35, { next := blockBytes/32 - 1 })] }

/-- State or operand of the witnesses below. -/
def ms1 : MeshSched := ⟨3, 0, putAt (zeros 64) 2 [0x81#8], true, [0]⟩

/-- State or operand of the witnesses below. -/
def hb (l : List (Nat × Stack)) : State := { up with hbms := l }

/-- State or operand of the witnesses below. -/
def hz : State := { hb ((List.range 8).map (fun h => (h, if h = 1 then { rate := 2, retraining := true } else if h = 2 then { rate := 3 } else if h = 3 then { rate := 1, retraining := true } else { rate := 1 })))
   with chans := [(32*1+5, { held := true, seed := 9, base := 3145727, len := 1 }), (32*2+31, { busy := true, op := 2 }), (32*3, { held := true, base := 0, len := 5 }),(32*4,{busy := true, op := 1})] }

/-- State or operand of the witnesses below. -/
def uns : List Nat := [250]

/-- State or operand of the witnesses below. -/
def rowR : List Nat := dramRow 0 31 1 uns

/-- State or operand of the witnesses below. -/
def hr (r : TgRun) : State := { hz with chans := [(32*4, { busy := true, run := some r })] }

/-- State or operand of the witnesses below. -/
def tr : TgRun := ⟨0, 2, 0, 0, 0, 1, []⟩

/-- State or operand of the witnesses below. -/
def hrm : State := (tgSteps 4 0 tr).foldl (fun s e => s.putMem [] e.2.2.1 e.2.2.2) (hr tr)

/-- State or operand of the witnesses below. -/
def vr (cls addr len : Nat) : ValveReq := ⟨3, 0, 0, cls, addr, len, .ordinary, none⟩

/-- State or operand of the witnesses below. -/
def qe : QEnt := ⟨vr 15 0 64, 5, none⟩

/-- State or operand of the witnesses below. -/
def va (k : Nat) (q : Rat) : State := { up with qos.allow := [(k, q)] }

/-- The hypotheses of `CisternUpkeep` are met. -/
theorem witness_CisternUpkeep :
    (∃ (s : State) (i sub row b n u : Nat), let gs := rowGrans i sub row; i < 1152 ∧ sub < 24 ∧ row < 128 ∧ b < 266 ∧ n < 36 ∧
        u < 1536 ∧ s.flashOk = true ∧ s.flash.repair.length < 4092 ∧ s.cisRowDue gs = false) ∧
    (∃ (s : State) (i sub row b n u : Nat), i < 1152 ∧ sub < 24 ∧ row < 128 ∧ b < 266 ∧ n < 36 ∧ u < 1536 ∧ s.flashOk = true ∧
        s.flash.repair.length < 4092 ∧ s.cisColDue i sub b = false) ∧
    (∃ (s : State) (i sub row b n u : Nat),
        let used (l : List (Nat × Nat × Nat)) : Nat := (l.filter (fun r => r.1 == i && r.2.1 == sub)).length;
        let gs := rowGrans i sub row; i < 1152 ∧ sub < 24 ∧ row < 128 ∧ b < 266 ∧ n < 36 ∧ u < 1536 ∧ s.flashOk = true ∧
        s.flash.repair.length < 4092 ∧ s.cisRowDue gs = true ∧ used s.cistern.rows < 8) ∧
    (∃ (s : State) (i sub row b n u : Nat),
        let used (l : List (Nat × Nat × Nat)) : Nat := (l.filter (fun r => r.1 == i && r.2.1 == sub)).length;
        let gs := rowGrans i sub row; let v := 1536 * (i / 32) + (1024 * sub + 8 * row) / 16; i < 1152 ∧ sub < 24 ∧ row < 128 ∧
        b < 266 ∧ n < 36 ∧ u < 1536 ∧ s.flashOk = true ∧ s.flash.repair.length < 4092 ∧ s.cisRowDue gs = true ∧
        8 ≤ used s.cistern.rows ∧ s.cistern.retired.contains v = false ∧ s.covered (unitAddr v) 65536 = false) ∧
    (∃ (s : State) (i sub row b n u : Nat),
        let used (l : List (Nat × Nat × Nat)) : Nat := (l.filter (fun r => r.1 == i && r.2.1 == sub)).length; i < 1152 ∧ sub < 24 ∧
        row < 128 ∧ b < 266 ∧ n < 36 ∧ u < 1536 ∧ s.flashOk = true ∧ s.flash.repair.length < 4092 ∧ s.cisColDue i sub b = true ∧
        used s.cistern.cols < 2) ∧
    (∃ (s : State) (i sub row b n u : Nat), let id := 1536 * n + u; i < 1152 ∧ sub < 24 ∧ row < 128 ∧ b < 266 ∧ n < 36 ∧ u < 1536 ∧
        s.flashOk = true ∧ s.flash.repair.length < 4092 ∧ s.cistern.retired.contains id = false ∧ s.covered (unitAddr id) 65536 = false) ∧
    (∃ (s : State) (i sub row b n u : Nat), i < 1152 ∧ sub < 24 ∧ row < 128 ∧ b < 266 ∧ n < 36 ∧ u < 1536 ∧ s.flashOk = true ∧
        s.flash.repair.length < 4092 ∧ s.grans = []) ∧
    (∃ (s : State) (i sub row b n u g : Nat), i < 1152 ∧ sub < 24 ∧ row < 128 ∧ b < 266 ∧ n < 36 ∧ u < 1536 ∧ s.flashOk = true ∧
        s.flash.repair.length < 4092 ∧ s.cistern.correct.contains g = true ∧ (s.gran g).flips.length = 1) ∧
    (∃ (s : State) (i sub row b n u : Nat), i < 1152 ∧ sub < 24 ∧ row < 128 ∧ b < 266 ∧ n < 36 ∧ u < 1536 ∧ s.flashOk = true ∧
        s.flash.repair.length < 4092 ∧ tget (fun _ => none) s.mesh.scheds n = none) ∧
    (∃ (s : State) (i sub row b n u k : Nat) (m : MeshSched), i < 1152 ∧ sub < 24 ∧ row < 128 ∧ b < 266 ∧ n < 36 ∧ u < 1536 ∧
        s.flashOk = true ∧ s.flash.repair.length < 4092 ∧ tget (fun _ => none) s.mesh.scheds n = some m ∧ m.active = true ∧
        (msPorts m.sect).contains k = true ∧ m.credited.contains k = false ∧ s.tasks = []) :=
  ⟨⟨{ up with mesh.scheds := [(35, some { ms1 with credited := [] })] }, 1151, 22, 127, 265, 35, 1535, by decide +kernel⟩,
   ⟨{ up with mesh.scheds := [(35, some { ms1 with credited := [] })] }, 1151, 22, 127, 265, 35, 1535, by decide +kernel⟩,
   ⟨(fnd (cu [] [] []) f1), 1151, 23, 127, 265, 35, 1535, by decide +kernel⟩,
   ⟨(fnd (cu r8 [(1151,23,1),(1151,23,2)] []) f1), 1151, 23, 127, 265, 35, 1535, by decide +kernel⟩,
   ⟨(fnd (cu r8 [(1151,23,1)] [1536*35 + 1535]) f1), 1151, 23, 126, 265, 35, 1535, by decide +kernel⟩,
   ⟨{ up with mesh.scheds := [(35, some { ms1 with credited := [] })] }, 1151, 22, 127, 265, 35, 1535, by decide +kernel⟩,
   ⟨{ up with mesh.scheds := [(35, some { ms1 with credited := [] })] }, 1151, 22, 127, 265, 35, 1535, by decide +kernel⟩,
   ⟨gx, 1151, 22, 127, 265, 35, 1535, 9, by decide +kernel⟩,
   ⟨{ gx with grans := [] }, 1151, 22, 127, 265, 35, 1535, by decide +kernel⟩,
   ⟨{ up with mesh.scheds := [(35, some { ms1 with credited := [] })] }, 1151, 22, 127, 265, 35, 1535, 0, { ms1 with credited := [] }, by decide +kernel⟩⟩

/-- The hypotheses of `HbmRates` are met. -/
theorem witness_HbmRates :
    (∃ (s : State) (h c : Nat), let x := s.stack h; h < 8 ∧ c < 32 ∧ x.rate < 2 ∧ s.slowPorts = [] ∧ s.slowTargets = []) ∧
    (∃ (s : State) (h c : Nat), let x := s.stack h; h < 8 ∧ c < 32 ∧ x.rate = 2) ∧
    (∃ (s : State) (h c : Nat), let x := s.stack h; h < 8 ∧ c < 32 ∧ x.rate = 3) ∧
    (∃ (s : State) (h c : Nat), let x := s.stack h; h < 8 ∧ c < 32 ∧ x.retraining = true ∧ s.rateCap h ≤ x.rate) ∧
    (∃ (s : State) (h c ch pc : Nat) (units : List Nat), let gs := dramRow h (ch % 32) (pc % 2) units; h < 8 ∧ c < 32 ∧
        s.rowDue (32 * h + ch % 32) gs = false) ∧
    (∃ (s : State) (h c k ch pc : Nat) (units : List Nat), let gs := dramRow h (ch % 32) (pc % 2) units; h < 8 ∧ c < 32 ∧
        s.rowDue (32 * h + ch % 32) gs = true ∧ (List.range 1024).find? (fun i => (s.remapEnt h i).isNone) = some k) ∧
    (∃ (s : State) (h c : Nat), h < 8 ∧ c < 32 ∧ s.chanHeld (32 * h + c) = false) ∧
    (∃ (s : State) (h c mode seed : Nat), let y := s.chan (32 * h + c); h < 8 ∧ c < 32 ∧ s.chanHeld (32 * h + c) = true ∧ mode < 4 ∧
        (mode = 1 → seed ≠ 0) ∧ y.seed = seed ∧ y.len ≠ 0 ∧ y.base + y.len ≤ 3145728) ∧
    (∃ (s : State) (h c : Nat) (r : TgRun), let y := s.chan (32 * h + c); let steps := tgSteps h c r; h < 8 ∧ c < 32 ∧ y.run = some r ∧
        r.op = 2 ∧ s.grans = [] ∧ r.wrong = [] ∧ (∀ e ∈ steps, s.rawBytes e.2.2.1 256 = e.2.2.2)) ∧
    (∃ (s : State) (h c : Nat) (r : TgRun), let y := s.chan (32 * h + c); let steps := tgSteps h c r; h < 8 ∧ c < 32 ∧ y.run = some r ∧
        r.op = 2 ∧ s.grans = [] ∧ (∃ e ∈ steps, ∃ i ∈ List.range 8, s.rawBytes (e.2.2.1 + 32 * i) 32 ≠ (e.2.2.2.drop (32 * i)).take 32)) :=
  ⟨⟨hrm, 4, 0, by decide +kernel⟩,
   ⟨hz, 1, 5, by decide +kernel⟩,
   ⟨hz, 2, 31, by decide +kernel⟩,
   ⟨hz, 3, 0, by decide +kernel⟩,
   ⟨hrm, 4, 0, 0, 0, [], by decide +kernel⟩,
   ⟨{ hz with hbms := (0, { rate := 0, remap := [(0, some 3)] }) :: hz.hbms, chans := (31, { found := [(rowR.headD 0, 0, true)] }) :: hz.chans }, 0, 0, 1, 31, 1, uns, by decide +kernel⟩,
   ⟨hrm, 4, 0, by decide +kernel⟩,
   ⟨hz, 3, 0, 0, 0, by decide +kernel⟩,
   ⟨hrm, 4, 0, tr, by decide +kernel⟩,
   ⟨(hr ⟨2, 2, 1, 9, 3145727, 1, [(1,0,7#64)]⟩), 4, 0, ⟨2, 2, 1, 9, 3145727, 1, [(1,0,7#64)]⟩, by decide +kernel⟩⟩

/-- The hypotheses of `MemoryRegulation` are met. -/
theorem witness_MemoryRegulation :
    (∃ (s : State) (r : ValveReq) (c h : Nat), r.valve < valveCount ∧ r.cls < 16 ∧ c < 16 ∧ h < 8 ∧ s.charges r = []) ∧
    (∃ (s : State) (r : ValveReq) (c h n : Nat), let key := valveKey r.valve r.cls h; r.valve < valveCount ∧ r.cls < 16 ∧ c < 16 ∧
        h < 8 ∧ s.charges r = [(h, n)] ∧ (s.stack h).halt = false ∧ (s.stack h).rate ≠ 3 ∧ r.kind = .ordinary ∧ r.cls ≠ 15 ∧
        s.qos.held = [] ∧ 0 < s.allowance key ∧ s.qRoom (s.stack h).queue r.cls = true) ∧
    (∃ (s : State) (r : ValveReq) (c h n : Nat), let key := valveKey r.valve r.cls h; r.valve < valveCount ∧ r.cls < 16 ∧ c < 16 ∧
        h < 8 ∧ s.charges r = [(h, n)] ∧ (s.stack h).halt = false ∧ r.kind = .ordinary ∧ r.cls ≠ 15 ∧ s.allowance key ≤ 0) ∧
    (∃ (s : State) (r : ValveReq) (c h : Nat), r.valve < valveCount ∧ r.cls < 16 ∧ c < 16 ∧ h < 8 ∧ s.qos.held = [] ∧ s.slowPorts = [] ∧
        s.slowTargets = []) ∧
    (∃ (s : State) (r : ValveReq) (c h : Nat), let q := s.qos' c; r.valve < valveCount ∧ r.cls < 16 ∧ c < 16 ∧ h < 8 ∧
        q.wanted < s.guar c * s.window c * 1000) ∧
    (∃ (s : State) (r : ValveReq) (c h : Nat) (e : QEnt), r.valve < valveCount ∧ r.cls < 16 ∧ c < 16 ∧ h < 8 ∧
        (s.stack h).retraining = false ∧ (s.stack h).rate ≠ 3 ∧ (s.stack h).queue = [e] ∧ (s.stack h).input = [] ∧ e.r.cls = 15 ∧
        e.dl = none) ∧
    (∃ (r : ValveReq) (c h g : Nat), r.valve < valveCount ∧ r.cls < 16 ∧ c < 16 ∧ h < 8 ∧ 32 * g < hbmEnd ∧ (dramOf (32 * g)).h = h) :=
  ⟨⟨up, (vr 2 cisternBase 64), 3, 0, by decide +kernel⟩,
   ⟨{ (va (valveKey 0 2 0) (-500)) with qos.shown := [(valveKey 0 2 0, 64), (valveKey 0 2 1, 9)], qos.allow := [(valveKey 0 2 0, 5), (valveKey 0 2 1, 9), (valveKey 0 3 1, 9), (valveKey 15 15 7, 9)] }, (vr 2 0 64), 0, 0, 64, by decide +kernel⟩,
   ⟨(va (valveKey 0 2 0) (-500)), (vr 2 0 64), 0, 0, 64, by decide +kernel⟩,
   ⟨{ up with hbms := [(7, { rate := 2, queue := [qe] })], qos.classes := [(0, { released := 10^9, wanted := 0 })], host.regs := (qosCfg 0 + 0x20000*8, BitVec.ofNat 64 (5 * 2^48)) :: up.host.regs }, (vr 2 0 64), 0, 7, by decide +kernel⟩,
   ⟨{ up with hbms := [(7, { rate := 2, queue := [qe] })], qos.classes := [(15, { released := 10^9, wanted := 5*10^6 })] }, (vr 2 0 64), 15, 7, by decide +kernel⟩,
   ⟨{ up with hbms := [(7, { rate := 2, queue := [qe] })], qos.classes := [(0, { released := 10^9, wanted := 0 })], host.regs := (qosCfg 0 + 0x20000*8, BitVec.ofNat 64 (5 * 2^48)) :: up.host.regs }, (vr 2 0 64), 0, 7, qe, by decide +kernel⟩,
   ⟨(vr 2 0 64), 0, 0, 1, by decide +kernel⟩⟩

end MemoryRuns

end Sys2Proof.Tests
end

