-- ==== Sys2Proof/Tests/Slice0.lean ====
section
/-!
SUPPORT. Tests: ill-formed commands that the check refuses, the worked examples of the manual, and a few single steps. Every expected
value is the manual's or worked out by hand from it.
-/

namespace Sys2Proof.Tests

set_option maxRecDepth 20000
set_option Elab.async false

open Sys2Proof.Machine

/-! ### Ill-formed commands, one for each kind of check -/

theorem test_wf_refuses_host_units : ([.phaseFail 24, .functionLevelReset 8, .commitApply 12, .psReadmit 2 0, .diagFlipWrite 6 0,
    .sqDoorbell 8 0 0, .sqDoorbell 0 256 0, .sqFetch 256 .unsupported, .hostFill 8 ⟨7, true⟩, .collectiveComplete 1024, .eventPost ⟨8, true⟩,
    .powerStateChange 8 false] : List Instr).all (! wellFormed ·) = true := by decide

theorem test_wf_refuses_core_numbers : ([.tlkSset 384 0 0, .tlkSset 0 32 0, .tlkScas 0 0 0 0 32, .tlkTime 0 32, .coreFetch 384,
    .cacheLoad 0 0 3 0 ⟨false, none⟩, .cacheLoad 0 0 16 0 ⟨false, none⟩, .rdS { agent := 512 }, .agentReclaim 448,
    .ccPin 384 0] : List Instr).all (! wellFormed ·) = true := by decide

theorem test_wf_refuses_unit_numbers : ([.mnop 512, .int8ClockRestore 32, .pumpStart 156, .slotComplete 36 0, .slotComplete 0 64,
    .slipTimeout 0 8 false, .cellSet 73728 0, .waiterQueuedEnter 36, .qosWindowEnd 16, .hbmDerate 8, .hbmRemap 0 32 0 0 0 0 [] [],
    .tgDone 0 32, .cisternRemap 1152 0 0, .unitRetire 0 1536, .bondNakRetry 0 32 ⟨0, [], 0⟩, .bondNakRetry 0 0 ⟨2, [], 0⟩] : List Instr).all
    (! wellFormed ·) = true := by decide

theorem test_wf_refuses_link_numbers : ([.aqLaneFail 12 0, .aqLaneFail 0 8, .rd 14 {}, .pwrAsk 2 0, .grantTimeout 32,
    .thermalShutdown 192, .regionClockChange 4 0, .scrubRead false 36 false] : List Instr).all (! wellFormed ·) = true := by decide

theorem test_wf_refuses_monitor_level : wellFormed (.unlockChallenge 3) = false ∧ wellFormed (.unlockChallenge 0) = false ∧
    wellFormed (.unlockChallenge 2) = true := by decide

theorem test_wf_accepts_last_numbers : wellFormed (.tlkScas 383 31 31 31 31) = true ∧ wellFormed (.cellSet 73727 0) = true ∧
    wellFormed (.rd 13 {}) = true ∧ wellFormed (.unitRetire 35 1535) = true := by decide

theorem test_no_word_spells_a_command (nbits w : Nat) : decodeTableWord nbits w = none := rfl

/-! ### Addresses (the examples of 00_scope, 04_cistern, 06_coherence and 07_hbm_memory) -/

/-- 35 GiB into the window of H0, and 3 GiB into that of H1. -/
theorem test_stack_local_example : placeLocal 0x00A8C0000000 = .hbm (globalOf (dramLocal 0 (35 * 2 ^ 30))) ∧
    placeLocal 0x00ACC0000000 = .hbm (globalOf (dramLocal 1 (3 * 2 ^ 30))) := by decide +kernel

/-- Slice 323, line 291, granule 0, unit 18 of region (4,1), and the next slice 4 KiB higher. -/
theorem test_cistern_placement_example : cisPlace 0x00803C123480 = ⟨10, 291, 3, 0, 18⟩ ∧ (cisPlace 0x00803C124480).slice = 4 := by
  decide +kernel

theorem test_directory_home_example : homeOf (0x001234567880 / 128) = 1 ∧ dirSet (0x001234567880 / 128) = 40 ∧
    dirBase (0x001234567880 / 128) + 3 = 2691 := by decide +kernel

theorem test_dram_mapping_example : dramOf 0x001234567880 = ⟨4, 27, 0, 596523, 0x80⟩ ∧
    dramLocal 4 0x2468ACB80 = ⟨4, 27, 0, 596523, 0x80⟩ ∧ globalOf ⟨4, 27, 0, 596523, 0x80⟩ = 0x001234567880 := by decide +kernel

/-! ### Arithmetic (the examples of 03_matrix_arithmetic) -/

/-- The MXFP4 block whose value is −1.5. -/
theorem test_mxfp4_block_example : toFp32 (blockValue ([0x7, 0xB].map (e2m1.decode ·)) ([0x1, 0x6].map (e2m1.decode ·)) 0x7C 0x81) =
    0xBFC00000 := by decide +kernel

/-- 2^24 + 1 rounds to 2^24 in FP32. -/
theorem test_fp32_order_example : accFp32 (accFp32 0x4B800000 (fp32.decode 0x3F800000)) (fp32.decode 0xCB800000) = 0 ∧
    accFp32 (accFp32 0x4B800000 (fp32.decode 0xCB800000)) (fp32.decode 0x3F800000) = 0x3F800000 := by decide +kernel

/-- 1/3 at S = −20, and 2^24 at S = −39 clamps. -/
theorem test_convert_in_example : convIn 64 (-20) (fp32.decode 0x3EAAAAAB) = (some 0x55555, false) ∧
    convIn 64 (-39) (fp32.decode 0x4B800000) = (some (2 ^ 63 - 1), true) := by decide +kernel

/-- BF16 with stochastic rounding of 1 + 2^−10 and 1 + 2^−8. -/
theorem test_stochastic_rounding_example : outOfFp32 1 (.sr 0x80200003) false 0x3F802000 = (0x3F80, {}) ∧
    outOfFp32 1 (.sr 0xC0300002) false 0x3F808000 = (0x3F81, {}) ∧ lfsr32 1 = 0x80200003 ∧ lfsr32 0x80200003 = 0xC0300002 := by
  decide +kernel

/-- CRC-32C of "123456789" is its well-known check value. -/
theorem test_crc32c_check_value : crc32c (ascii "123456789") = 0xE3069283 := by decide +kernel

theorem test_catchment_scale_example : cscale 0x1E2 = -30 := by decide +kernel

/-! ### The distance table (the example of 01_geography) -/

/-- All quadrants at 1.6 GHz, every stack at 9.6 Gb/s, NE with its spare at (5,1). -/
def geo : State :=
  { State.reset with
    islands := (List.range 4).map (fun q => (q, { clk := 1600, off := false }))
    sites := (List.range 36).map (fun n => (n, { powered := true, bs := 2 }))
    tiles := [(10, { tileAt 5 with part := none })]
    hbms := (List.range 8).map (fun h => (h, { rate := 0 })) }

/-- Tile 10 at (5,0) to stack H5. -/
theorem test_distance_word_example : geo.targetWord 5 41 = 0x0000000666017C01 := by decide +kernel

/-! ### Regulation (the example of 09_sync_and_regulation) -/

/-- The grants of one stack in the example: GUAR 6,000 for classes 1 and 2, weights 16, demands 750, 1,250 and 500. -/
def grantsOf (cap : Rat) : List Rat :=
  let d : List Rat := [0, 750, 1250, 500] ++ List.replicate 12 0
  ((allocStack (fun c => if c = 1 ∨ c = 2 then 6000 else if c = 15 then 32 else 0) (fun _ => 0) (fun _ => 16) cap d (d.map (8 * ·))).grant.drop 1).take 3

theorem test_grants_example : grantsOf 2334 = [750, 1167, 417] ∧ grantsOf 1658 = [750, 829, 79] ∧ grantsOf 1382 = [691, 691, 0] := by
  decide +kernel

theorem test_stack_capacity_example : ({ rate := 0 } : Stack).cap = 2334 ∧ ({ rate := 0, refx2 := true, hot := true } : Stack).cap = 1658 ∧
    ({ rate := 1, refx2 := true, hot := true } : Stack).cap = 1382 := by decide +kernel

/-! ### Links, power and management -/

/-- Port 3 of module 0x02D joins port 3 of module 0x029 (R333). -/
theorem test_board_neighbour_example : neighbourOk 0x02D 3 ⟨true, 0, 0, some 0x029, 3⟩ = true ∧
    neighbourOk 0x029 3 ⟨true, 0, 0, some 0x02D, 3⟩ = true ∧ neighbourOk 0x02D 3 ⟨true, 0, 0, some 0x02E, 3⟩ = false := by decide +kernel

/-- The 1,382.5 W of the example: tiles 0 to 15 ask 60 W and get 56.4 W, tiles 16 to 31 get the 30 W they ask. -/
theorem test_budget_example : (budgetLoop 33 13825 ((List.range 32).map (fun t => (t, if t < 16 then 600 else 300))) []).all
    (fun g => g.2 == if g.1 < 16 then 564 else 300) = true := by decide +kernel

/-- PLIM of the example at 40 V and at 31 V. -/
theorem test_plim_example : ({ up with boot := { up.boot with limitW := 2000 }, power := { up.power with vin := 40000 } } : State).plim = 2000 ∧
    ({ up with boot := { up.boot with limitW := 2000 }, power := { up.power with vin := 31000 } } : State).plim = 1984 := by decide +kernel

/-- The spare bytes of the S4 report's example: NW (1,1) used, NE (5,1), SW (2,5), SE (3,4). -/
theorem test_spare_bytes_example : ({ State.reset with dist := { spares := [7, 11, 32, 27], spareUsed := [0] } } : State).tableWord 1 = 0x232A0D89 := by
  decide +kernel

/-! ### Single steps -/

/-- What a step of a state with one command in front leaves, seen through a function. -/
def after {α : Type} (c : Instr) (s : State) (f : State → α) : Option α :=
  match step { s with pending := [c] } with
  | .next t => some (f t)
  | _ => none

/-- TLK.SADD with acquire adds to the cell and keeps the old value (R42). -/
theorem test_sadd_step : after (.tlkSadd 0 10 11 12 true false)
    ({ upCore (fun c => (c.setX 11 5#64).setX 12 3#64) with sync.cells := [(5, 4#64)] })
    (fun t => (t.cell 5, (t.core 0).x 10)) = some (7#64, 4#64) := by decide +kernel

/-- A store-conditional cell swap that does not match leaves the cell (R52). -/
theorem test_scas_step : after (.tlkScas 0 10 11 12 13)
    ({ upCore (fun c => ((c.setX 11 5#64).setX 12 9#64).setX 13 1#64) with sync.cells := [(5, 4#64)] })
    (fun t => (t.cell 5, (t.core 0).x 10)) = some (4#64, 4#64) := by decide +kernel

/-- A command for a unit that does not exist faults by name. -/
theorem test_no_such_unit : step { up with pending := [.hbmDerate 8] } = .fault (.noSuchUnit "stack" 8) := rfl

/-- An empty queue counts a nanosecond while the timebase runs (log entry 10). -/
theorem test_idle_step : (match step up with | .next t => t == { up with now := 1000001 } | _ => false) = true ∧
    (match step State.reset with | .next t => t == State.reset | _ => false) = true := by decide +kernel

/-- The hypothesis of StepRunsFrontCommand is met, and those of EveryStepKeepsFusesQueueAndTime. -/
theorem witness_StepRunsFrontCommand : (∃ (c : Instr) (rest : List Instr) (s : State), s.pending = c :: rest) ∧
    (∃ (F : Fuse) (s : State) (t : State), s.fuse = F ∧ step s = .next t ∧ s.pending = []) ∧
    (∃ (F : Fuse) (s : State) (t : State) (c : Instr) (rest : List Instr), s.fuse = F ∧ step s = .next t ∧ s.pending = c :: rest) :=
  ⟨⟨.slowRenew, [], { up with pending := [.slowRenew] }, rfl⟩,
   ⟨{}, State.reset, State.reset, rfl, rfl, rfl⟩,
   ⟨up.fuse, { up with pending := [.mergeWindowEnd 0] }, up, .mergeWindowEnd 0, [], rfl, rfl, rfl⟩⟩

end Sys2Proof.Tests
end

/-!
PROOF. O31: a read that clears what it returns (R9), the flip masks of the diagnostic block (R394) and the readmission of a
partner site (R373).
-/

namespace Sys2Proof.Machine

/-! ### How a command completes -/

/-- A command whose meaning works out `t`, with the queue, the fuses and the timebase of `s`, leaves `t`. -/
theorem does_of_done {c : Instr} {s t : State} {P : State → Prop} (hexec : exec c s = done s t) (hleaves : Leaves s t t)
    (h : P t) : Does c s P :=
  ⟨t, hexec.trans (done_next.2 hleaves), h⟩

/-- READ_CLEAR in the diagnostic space reads by its path. -/
theorem exec_readClear_diag (who : Master) (addr : Nat) (s : State) :
    exec (.readClear (.diag who addr)) s = done s (s.pathRead (.diag who addr)) :=
  within_of_lt (k := "space") Nat.one_pos

/-- DIAG_FLIP_WRITE of an array type that exists writes its mask. -/
theorem exec_diagFlipWrite {k : Nat} (hk : k < 6) (v : Word) (s : State) :
    exec (.diagFlipWrite k v) s = done s (s.writeFlip k v.toNat) :=
  within_of_lt hk

/-- PS_READMIT of a site that exists readmits it. -/
theorem exec_psReadmit {site : Nat} (hsite : site < 2) (ep : BitVec 32) (s : State) :
    exec (.psReadmit site ep) s = done s (s.readmitSite site ep.toNat) :=
  within_of_lt hsite

/-! ### Reads of the diagnostic space (R9) -/

/-- An address without a module number is the module's own. -/
theorem loc_of_lt (s : State) {a : Nat} (h : a < 2 ^ 48) : s.loc a = a := by
  rw [State.loc, State.localAddr, if_pos h, Option.getD_some]

/-- The Wellkeeper may read every register of the diagnostic space. -/
theorem diagReadable_wellkeeper (s : State) (o : Nat) : s.diagReadable .wellkeeper o = diagKnown o := by
  simp [State.diagReadable]

/-- An aligned read by the Wellkeeper answers the word of a register and clears what the read clears. -/
theorem pathRead_wellkeeper (s : State) {o : Nat} (haligned : o % 8 = 0) (hspace : o < 0x100000000) (hknown : diagKnown o = true) :
    s.pathRead (.diag .wellkeeper (diagBase + o)) = (s.diagClear o).answer (BitVec.ofNat 64 (s.diagWord o)) .ok := by
  have hbase : diagBase = 0x010000000000 := rfl
  have hloc : s.loc (diagBase + o) = diagBase + o := loc_of_lt s (by omega)
  have hin : (diagBase + o) % 8 = 0 ∧ diagBase ≤ diagBase + o ∧ diagBase + o < diagBase + 0x100000000 := by omega
  have hread : s.diagRead .wellkeeper o = some (s.diagClear o, BitVec.ofNat 64 (s.diagWord o)) := by
    simp [State.diagRead, haligned, diagReadable_wellkeeper, hknown]
  simp only [State.pathRead, hloc, hin, and_self, if_true, Nat.add_sub_cancel_left, hread]

section SliceRecord
variable {i : Nat} (hi : i < 1152)
include hi

/-- Word 0 of slice `i`'s error record lies in the block of slice records. -/
theorem sliceOffset_block : (0x61000000 + 16 * i) / 0x1000000 = 0x61 := by omega

/-- Word 0 of slice `i`'s error record stands `16 i` bytes into its block. -/
theorem sliceOffset_mod : (0x61000000 + 16 * i) % 0x1000000 = 16 * i := by omega

/-- The error record of a slice is a register. -/
theorem diagKnown_slice : diagKnown (0x61000000 + 16 * i) = true := by
  have hrec : 16 * i < 1152 * 16 := by omega
  simp only [diagKnown, sliceOffset_block hi, sliceOffset_mod hi, hrec, decide_true]

/-- The word read at slice `i`'s error record is word 0 of it (Table 4.6). -/
theorem diagWord_slice (s : State) : s.diagWord (0x61000000 + 16 * i) = s.csWord i 0 := by
  have hrec : 16 * i < 1152 * 16 := by omega
  simp [State.diagWord, sliceOffset_block hi, sliceOffset_mod hi, hrec]

/-- A read of word 0 of a slice's error record clears its two counts. -/
theorem diagClear_slice (s : State) :
    s.diagClear (0x61000000 + 16 * i) = s.setSlice i { s.slice i with ce := 0, ue := 0 } := by
  have hrec : 16 * i < 1152 * 16 := by omega
  simp [State.diagClear, sliceOffset_block hi, sliceOffset_mod hi, hrec]

/-- READ_CLEAR of word 0 of a slice's error record answers the word and clears its two counts. -/
theorem exec_readClear_slice (s : State) : exec (.readClear (.diag .wellkeeper (diagBase + 0x61000000 + 16 * i))) s =
    done s ((s.setSlice i { s.slice i with ce := 0, ue := 0 }).answer (BitVec.ofNat 64 (s.csWord i 0)) .ok) := by
  rw [exec_readClear_diag, Nat.add_assoc, pathRead_wellkeeper s (by omega) (by omega) (diagKnown_slice hi),
    diagClear_slice hi, diagWord_slice hi]

end SliceRecord

/-- An answer leaves the slice error records. -/
@[simp] theorem slice_answer (s : State) (v : Word) (st : Status) (j : Nat) : (s.answer v st).slice j = s.slice j := rfl

/-! ### Flip masks (R394) -/

/-- The state with `x` in DIAG_FLIPk. -/
def State.setFlip (s : State) (k x : Nat) : State :=
  { s with svc.flips := tset (fun _ => (0 : Word)) s.svc.flips k (BitVec.ofNat 64 x) }

/-- The mask set reads as its low 64 bits, and every other mask as before. -/
theorem flip_setFlip (s : State) (k x j : Nat) : (s.setFlip k x).flip j = if j = k then x % 2 ^ 64 else s.flip j := by
  by_cases h : j = k
  · subst h; simp [State.flip, State.setFlip]
  · simp [State.flip, State.setFlip, tget_tset_ne, h]

/-- A write that arms one bit (ARM set, TWO clear) stores its mask when the target and the bit exist; otherwise it stores
the mask with ERR in place of ARM. -/
theorem writeFlip_single (s : State) (k : Nat) {v : Nat} (hfields : v &&& fields [(1, 0), (24, 16), (40, 32), (63, 48)] = v)
    (harm : bit v 0 = true) (htwo : bit v 1 = false) : s.writeFlip k v =
    s.setFlip k (if bits v 63 48 < (flipRange k).1 ∧ bits v 24 16 < (flipRange k).2 then v else setBits v 0 0 0 + 4) := by
  simp [State.writeFlip, State.setFlip, hfields, harm, htwo]

/-- AND works on the low `n` bits and on the others apart. -/
theorem add_two_pow_mul_and {n x m : Nat} (hx : x < 2 ^ n) (hm : m < 2 ^ n) (y l : Nat) :
    (x + 2 ^ n * y) &&& (m + 2 ^ n * l) = (x &&& m) + 2 ^ n * (y &&& l) := by
  have hlow : ((x + 2 ^ n * y) &&& (m + 2 ^ n * l)) % 2 ^ n = x &&& m := by
    rw [Nat.and_mod_two_pow, Nat.add_mul_mod_self_left, Nat.add_mul_mod_self_left, Nat.mod_eq_of_lt hx, Nat.mod_eq_of_lt hm]
  have hhigh : ((x + 2 ^ n * y) &&& (m + 2 ^ n * l)) / 2 ^ n = y &&& l := by
    rw [Nat.and_div_two_pow, Nat.add_mul_div_left _ _ (Nat.two_pow_pos n), Nat.add_mul_div_left _ _ (Nat.two_pow_pos n),
      Nat.div_eq_of_lt hx, Nat.div_eq_of_lt hm, Nat.zero_add, Nat.zero_add]
  rw [← Nat.mod_add_div (_ &&& _) (2 ^ n), hlow, hhigh]

/-- The value written to DIAG_FLIPk that arms bit `a` of unit `target`: ARM, bit number and unit (R394). -/
abbrev armValue (target a : Nat) : Nat := 1 + 2 ^ 16 * a + 2 ^ 48 * target

section ArmValue
variable {target a : Nat} (htarget : target < 2 ^ 16) (ha : a < 2 ^ 9)
include htarget ha

/-- The value that arms a bit is a word. -/
theorem armValue_mod : armValue target a % 2 ^ 64 = armValue target a :=
  Nat.mod_eq_of_lt (by unfold armValue; omega)

/-- The value that arms a bit lies in the written fields of DIAG_FLIPk. -/
theorem armValue_and_fields : armValue target a &&& fields [(1, 0), (24, 16), (40, 32), (63, 48)] = armValue target a := by
  have hvalue : armValue target a = 1 + 2 ^ 16 * (a + 2 ^ 16 * (0 + 2 ^ 16 * target)) := by unfold armValue; ring
  have hmask : fields [(1, 0), (24, 16), (40, 32), (63, 48)] = 3 + 2 ^ 16 * (511 + 2 ^ 16 * (511 + 2 ^ 16 * 65535)) := rfl
  have hbitNo : a &&& 511 = a := (Nat.and_two_pow_sub_one_eq_mod a 9).trans (Nat.mod_eq_of_lt ha)
  have hunit : target &&& 65535 = target := (Nat.and_two_pow_sub_one_eq_mod target 16).trans (Nat.mod_eq_of_lt htarget)
  rw [hvalue, hmask, add_two_pow_mul_and (by decide) (by decide), add_two_pow_mul_and (by omega) (by decide),
    add_two_pow_mul_and (by decide) (by decide), hbitNo, hunit]
  rfl

/-- DIAG_FLIP_WRITE of the value that arms bit `a` of unit `target` stores it armed when both exist, and otherwise disarmed
with ERR set. -/
theorem exec_diagFlipWrite_armValue {k : Nat} (hk : k < 6) (s : State) :
    exec (.diagFlipWrite k (BitVec.ofNat 64 (armValue target a))) s =
      done s (s.setFlip k
        (if target < (flipRange k).1 ∧ a < (flipRange k).2 then armValue target a else 4 + 2 ^ 16 * a + 2 ^ 48 * target)) := by
  have harm : bit (armValue target a) 0 = true := by simp only [bit, armValue, Nat.testBit_zero, decide_eq_true_eq]; omega
  have htwo : bit (armValue target a) 1 = false := by
    simp only [bit, armValue, Nat.testBit_eq_decide_div_mod_eq, decide_eq_false_iff_not]; omega
  have hunit : bits (armValue target a) 63 48 = target := by norm_num [bits, armValue]; omega
  have hbitNo : bits (armValue target a) 24 16 = a := by simp only [bits, armValue]; omega
  have hdisarmed : setBits (armValue target a) 0 0 0 + 4 = 4 + 2 ^ 16 * a + 2 ^ 48 * target := by
    simp only [setBits, bits, armValue]; omega
  rw [exec_diagFlipWrite hk, BitVec.toNat_ofNat, armValue_mod htarget ha,
    writeFlip_single s k (armValue_and_fields htarget ha) harm htwo, hunit, hbitNo, hdisarmed]

end ArmValue

/-! ### Readmission of a partner site (R373) -/

/-- Marking the distance table leaves the partner sites. -/
@[simp] theorem psite_markDist (s : State) (j : Nat) : s.markDist.psite j = s.psite j := rfl
/-- Marking the distance table leaves the commit units. -/
@[simp] theorem unit_markDist (s : State) (j : Nat) : s.markDist.unit j = s.unit j := rfl

/-- Setting a partner site leaves the commit units. -/
@[simp] theorem unit_setPsite (s : State) (site : Nat) (y : PSite) (j : Nat) : (s.setPsite site y).unit j = s.unit j := rfl
/-- Setting a commit unit leaves the partner sites. -/
@[simp] theorem psite_setUnit (s : State) (u : Nat) (y : CommitUnit) (j : Nat) : (s.setUnit u y).psite j = s.psite j := rfl

section Readmit
variable {s : State} {site epoch : Nat} (hfenced : (s.psite site).st = 3) (hback : (s.psite site).desc ≠ [])
include hfenced hback

/-- A fenced site whose partner is back is readmitted by its epoch. -/
theorem readmitSite_of_epoch (hepoch : (s.psite site).epoch = epoch) : s.readmitSite site epoch =
    ((s.setUnit 9 { s.unit 9 with code := stCode .ok, field := 0xFFFF }).setPsite site { s.psite site with st := 2 }).markDist := by
  simp [State.readmitSite, hfenced, hback, hepoch]

/-- With another epoch it stays as it is, and PS_STATUS reads ST_STALE_EPOCH. -/
theorem readmitSite_of_stale (hepoch : (s.psite site).epoch ≠ epoch) : s.readmitSite site epoch =
    s.setUnit 9 { s.unit 9 with code := stCode .staleEpoch, field := 0xFFFF } := by
  simp [State.readmitSite, hfenced, hback, hepoch.symm]

end Readmit

/-! ### The statement -/

/-- Settles O31, clause by clause: the slice's record, the mask for a unit that exists and for one that does not, and the
readmission with the site's epoch and with another. -/
theorem registerReadsReadmitAndFlip : Obligations.RegisterReadsReadmitAndFlip := by
  unfold Obligations.RegisterReadsReadmitAndFlip
  intro s i k site target a ep hsite hk x
  refine ⟨fun hi => ?readClear, fun hunit hbit htarget ha => ?armed, fun hunit _ htarget ha => ?disarmed,
    fun hst hdesc hep => ?readmitted, fun hst hdesc hep => ?stale⟩
  case readClear =>
    refine does_of_done (exec_readClear_slice hi s) rfl ⟨rfl, ?_, ?_, ?_, fun j hj => ?_, rfl⟩
    · simp [slice_setSlice]
    · simp [slice_setSlice]
    · simp [slice_setSlice]
    · simp [slice_setSlice, hj]
  case armed =>
    have hexec := exec_diagFlipWrite_armValue htarget ha hk s
    rw [if_pos ⟨hunit, hbit⟩] at hexec
    refine does_of_done hexec rfl ⟨?_, fun j hj => ?_, rfl⟩
    · rw [flip_setFlip, if_pos rfl, armValue_mod htarget ha]
    · rw [flip_setFlip, if_neg hj]
  case disarmed =>
    have hexec := exec_diagFlipWrite_armValue htarget ha hk s
    rw [if_neg fun h => hunit.not_gt h.1] at hexec
    refine does_of_done hexec rfl ⟨?_, rfl⟩
    rw [flip_setFlip, if_pos rfl, Nat.mod_eq_of_lt (by omega)]
  case readmitted =>
    have hexec := exec_psReadmit hsite ep s
    rw [readmitSite_of_epoch hst hdesc hep] at hexec
    refine does_of_done hexec rfl ⟨?_, ?_, fun j hj => ?_, rfl⟩
    · simp [psite_setPsite, x]
    · simp [unit_setUnit, stCode]
    · simp [psite_setPsite, hj]
  case stale =>
    have hexec := exec_psReadmit hsite ep s
    rw [readmitSite_of_stale hst hdesc hep] at hexec
    exact does_of_done hexec rfl ⟨rfl, by simp [unit_setUnit, stCode], rfl⟩

end Sys2Proof.Machine

/-!
PROOF. Rules of the operations that the statements of chapter 1 share: islands set together (R21), the power of a site (R22), the
clocks of a tile and of a quadrant (R38, R427), events and notices. A rule `…_frame` says which fields an operation may change.
-/

namespace Sys2Proof.Machine

/-! ### How a command completes -/

/-- A command whose meaning works out `t` leaves `t` with the queue, the fuses and the timebase of `s`. -/
theorem does_done {c : Instr} {s t : State} {P : State → Prop} (hexec : exec c s = done s t)
    (h : P { t with pending := s.pending, fuse := s.fuse, now := s.now }) : Does c s P :=
  ⟨_, hexec, h⟩

/-! ### Frames of folds -/

/-- A fold whose steps only put a value in place, only puts a value in place. -/
theorem foldl_frame {α β : Type} (get : State → β) (put : State → β → State) {f : State → α → State}
    (hstep : ∀ t a, ∃ x, f t a = put t x) (l : List α) (s : State) (hself : ∀ t, put t (get t) = t := by intros; rfl)
    (hput : ∀ t x y, put (put t x) y = put t y := by intros; rfl) : ∃ x, l.foldl f s = put s x := by
  induction l generalizing s with
  | nil => exact ⟨get s, (hself s).symm⟩
  | cons a l ih =>
    obtain ⟨x, hx⟩ := hstep s a
    obtain ⟨y, hy⟩ := ih (f s a)
    exact ⟨y, by rw [List.foldl_cons, hy, hx, hput]⟩

/-- What every step of a fold keeps, the fold keeps. -/
theorem foldl_keeps {α β : Type} (g : State → β) {f : State → α → State} (h : ∀ t a, g (f t a) = g t) (l : List α)
    (s : State) : g (l.foldl f s) = g s := by
  induction l generalizing s with
  | nil => rfl
  | cons a l ih => rw [List.foldl_cons, ih, h]

/-! ### Islands set together (R21) -/

/-- The islands of a list change as `φ` says. -/
def State.onIslands (s : State) (φ : Island → Island) (l : List Nat) : State :=
  l.foldl (fun u i => u.setIsland i (φ (u.island i))) s

/-- Setting islands changes the islands only. -/
theorem onIslands_frame (s : State) (φ : Island → Island) (l : List Nat) : ∃ x, s.onIslands φ l = { s with islands := x } :=
  foldl_frame (·.islands) (fun t x => { t with islands := x }) (fun _ _ => ⟨_, rfl⟩) l s

/-- Islands of the list read as `φ` leaves them, and every other island as before. -/
theorem island_onIslands (s : State) {φ : Island → Island} (hφ : ∀ x, φ (φ x) = φ x) (l : List Nat) (j : Nat) :
    (s.onIslands φ l).island j = if j ∈ l then φ (s.island j) else s.island j := by
  induction l generalizing s with
  | nil => rfl
  | cons i l ih =>
    change ((s.setIsland i (φ (s.island i))).onIslands φ l).island j = _
    rw [ih, island_setIsland]
    by_cases hj : j = i
    · subst hj
      simp [hφ]
    · simp [hj]

/-! ### The power of a site (R22, R440) -/

/-- What switching a site does to each of its islands. -/
def Island.switch (on : Bool) (x : Island) : Island :=
  { x with off := !on, stopped := false, clk := if on then x.clk else 0 }

/-- Switching a site sets its power and its islands. -/
theorem powerSite_eq (s : State) (n : Nat) (on : Bool) :
    s.powerSite n on = (s.setSite n { s.site n with powered := on }).onIslands (Island.switch on) (siteIslands n) := rfl

/-- Switching a site changes the sites and the islands only. -/
theorem powerSite_frame (s : State) (n : Nat) (on : Bool) :
    ∃ x y, s.powerSite n on = { s with sites := x, islands := y } := by
  obtain ⟨y, hy⟩ := onIslands_frame (s.setSite n { s.site n with powered := on }) (Island.switch on) (siteIslands n)
  exact ⟨_, y, hy⟩

/-- The site switched reads its power, and every other site reads as before. -/
theorem site_powerSite (s : State) (n : Nat) (on : Bool) (j : Nat) :
    (s.powerSite n on).site j = if j = n then { s.site n with powered := on } else s.site j := by
  obtain ⟨y, hy⟩ := onIslands_frame (s.setSite n { s.site n with powered := on }) (Island.switch on) (siteIslands n)
  rw [powerSite_eq, hy]
  exact site_setSite s n _ j

/-- The five islands of the site are switched, and every other island reads as before. -/
theorem island_powerSite (s : State) (n : Nat) (on : Bool) (j : Nat) :
    (s.powerSite n on).island j = if j ∈ siteIslands n then (s.island j).switch on else s.island j :=
  island_onIslands (s.setSite n { s.site n with powered := on }) (φ := Island.switch on) (fun x => by cases on <;> rfl) _ j

/-- The M-row islands of a site are its islands. -/
theorem mIsland_mem_siteIslands (n : Nat) {r : Nat} (hr : r < 4) : mIsland n r ∈ siteIslands n :=
  List.mem_append_left _ (List.mem_map.2 ⟨r, List.mem_range.2 hr, rfl⟩)

/-- The V/S island of a site is one of its islands. -/
theorem vsIsland_mem_siteIslands (n : Nat) : vsIsland n ∈ siteIslands n :=
  List.mem_append_right _ (List.mem_singleton.2 rfl)

/-! ### The clocks of a tile (R38, R427) -/

/-- What retiming does to an M-row island. -/
def Island.retime (clk : Nat) (halved : Bool) (x : Island) : Island := { x with clk := clk, halved := halved }

/-- Retiming a tile with a site sets the clocks of its M-row islands and of its V/S island, or changes nothing. -/
theorem retimeTile_cases (s : State) (t : Nat) : s.retimeTile t = s ∨ ∃ n clk halved vclk,
    s.retimeTile t = let u := s.onIslands (Island.retime clk halved) ((List.range 4).map (mIsland n))
      u.setIsland (vsIsland n) { u.island (vsIsland n) with clk := vclk } := by
  unfold State.retimeTile
  split
  · exact .inl rfl
  · dsimp only
    split
    · exact .inl rfl
    · exact .inr ⟨_, _, _, _, rfl⟩

/-- Retiming a tile changes the islands only. -/
theorem retimeTile_frame (s : State) (t : Nat) : ∃ x, s.retimeTile t = { s with islands := x } := by
  obtain h | ⟨n, clk, halved, vclk, h⟩ := retimeTile_cases s t
  · exact ⟨s.islands, h⟩
  · obtain ⟨x, hx⟩ := onIslands_frame s (Island.retime clk halved) ((List.range 4).map (mIsland n))
    rw [h, hx]
    exact ⟨_, rfl⟩

/-- Retiming a tile changes no more of an island than its clock. -/
theorem island_retimeTile (s : State) (t j : Nat) :
    ∃ clk halved, (s.retimeTile t).island j = (s.island j).retime clk halved := by
  obtain h | ⟨n, clk, halved, vclk, h⟩ := retimeTile_cases s t
  · exact ⟨(s.island j).clk, (s.island j).halved, by rw [h]; rfl⟩
  · have hrows (i : Nat) : ∃ c d, (s.onIslands (Island.retime clk halved) ((List.range 4).map (mIsland n))).island i =
        (s.island i).retime c d := by
      rw [island_onIslands s (φ := Island.retime clk halved) (fun _ => rfl)]
      split
      · exact ⟨clk, halved, rfl⟩
      · exact ⟨(s.island i).clk, (s.island i).halved, rfl⟩
    rw [h, island_setIsland]
    split
    · next hj =>
      obtain ⟨c, d, hc⟩ := hrows (vsIsland n)
      exact ⟨vclk, d, by rw [hj, hc]; rfl⟩
    · exact hrows j

/-! ### Events and notices -/

/-- What raising an event may change. -/
theorem raise_changes (s : State) (code payload : Nat) (fns : List Nat) (src : Nat) (inj : Bool) :
    ∃ ev q l, s.raise code payload fns src inj = { s with host.evbuf := ev, svc.logq := q, svc.logLost := l } :=
  ⟨_, _, _, raise_frame s code payload fns src inj⟩

/-- Notices are posted additions: they change the vane network only. -/
theorem notice_frame (s : State) (k : Nat) (p : Task → Bool) : ∃ x, s.notice k p = { s with vane := x } :=
  foldl_frame (·.vane) (fun t x => { t with vane := x }) (fun _ _ => ⟨_, rfl⟩) _ s

/-! ### The clock of a quadrant (R150, R158, R427) -/

/-- A port that turns to credited mode changes its schedule, and tells of it. -/
theorem slip_frame (s : State) (n p cause : Nat) : ∃ m h v w, s.slip n p cause =
    { s with mesh.scheds := m, host.evbuf := h, svc := v, vane := w } := by
  unfold State.slip
  split
  · exact ⟨_, _, _, _, rfl⟩
  · split
    · exact ⟨_, _, _, _, rfl⟩
    · dsimp only
      obtain ⟨ev, q, l, hr⟩ := raise_changes _ _ _ _ _ _
      rw [hr]
      obtain ⟨w, hw⟩ := notice_frame _ _ _
      rw [hw]
      exact ⟨_, _, _, _, rfl⟩

/-- Slipping the seams changes schedules, and tells of it. -/
theorem slipSeams_frame (s : State) : ∃ m h v w, s.slipSeams =
    { s with mesh.scheds := m, host.evbuf := h, svc := v, vane := w } := by
  let put (t : State) (x : Tab (Option MeshSched) × Tab EvBuf × Service × Vane) : State :=
    { t with mesh.scheds := x.1, host.evbuf := x.2.1, svc := x.2.2.1, vane := x.2.2.2 }
  have step (t : State) (n p : Nat) : ∃ x, (if t.unequalSeam n p then t.slip n p 2 else t) = put t x := by
    split
    · obtain ⟨m, h, v, w, hs⟩ := slip_frame t n p 2
      exact ⟨(m, h, v, w), hs⟩
    · exact ⟨(_, _, _, _), rfl⟩
  obtain ⟨⟨m, h, v, w⟩, hs⟩ := foldl_frame (fun t => (t.mesh.scheds, t.host.evbuf, t.svc, t.vane)) put
    (fun t n => foldl_frame (fun t => (t.mesh.scheds, t.host.evbuf, t.svc, t.vane)) put
      (fun t p => step t n p) (List.range 4) t) (List.range 36) s
  exact ⟨m, h, v, w, hs⟩

/-- Relocking a quadrant's slot counters changes them only. -/
theorem relock_frame (s : State) (q : Nat) : ∃ x, s.relock q = { s with mesh.phases := x } := by
  unfold State.relock
  split <;> exact ⟨_, rfl⟩

/-- A region clock that takes another value changes its island, and beside it no more than the slot counters, the schedules, the
mark of the distance table, and what tells of a slip. -/
theorem setRegionClk_of_ne (s : State) {q mhz : Nat} (hclk : (s.island q).clk ≠ mhz) : ∃ m h v w d, s.setRegionClk q mhz =
    { s.setIsland q { s.island q with clk := mhz } with mesh := m, host.evbuf := h, svc := v, vane := w, dist.dirty := d } := by
  obtain ⟨x, hx⟩ := relock_frame (s.setIsland q { s.island q with clk := mhz }) q
  obtain ⟨m, h, v, w, hs⟩ := slipSeams_frame { s.setIsland q { s.island q with clk := mhz } with mesh.phases := x }
  simp only [State.setRegionClk, if_neg hclk, hx, hs]
  exact ⟨_, _, _, _, _, rfl⟩

/-- A region clock that has its value already takes it without effect. -/
theorem setRegionClk_of_eq (s : State) {q mhz : Nat} (hclk : (s.island q).clk = mhz) : s.setRegionClk q mhz = s := by
  simp only [State.setRegionClk, if_pos hclk]

/-- What setting a region clock may change. -/
theorem setRegionClk_frame (s : State) (q mhz : Nat) : ∃ i m h v w d, s.setRegionClk q mhz =
    { s with islands := i, mesh := m, host.evbuf := h, svc := v, vane := w, dist.dirty := d } := by
  by_cases hclk : (s.island q).clk = mhz
  · exact ⟨_, _, _, _, _, _, setRegionClk_of_eq s hclk⟩
  · obtain ⟨m, h, v, w, d, hs⟩ := setRegionClk_of_ne s hclk
    exact ⟨_, _, _, _, _, _, hs⟩

/-- The quadrant's island takes the clock, and every other island reads as before. -/
theorem island_setRegionClk (s : State) (q mhz j : Nat) :
    (s.setRegionClk q mhz).island j = if j = q then { s.island q with clk := mhz } else s.island j := by
  by_cases hclk : (s.island q).clk = mhz
  · rw [setRegionClk_of_eq s hclk]
    split
    · next hj => rw [hj, ← hclk]
    · rfl
  · obtain ⟨m, h, v, w, d, hs⟩ := setRegionClk_of_ne s hclk
    rw [hs]
    exact island_setIsland s q _ j

end Sys2Proof.Machine

/-!
PROOF. Rules of the operations on flash: entries of the field-repair record (R399, R400) and records of the event log (R415, R416).
-/

namespace Sys2Proof.Machine

/-! ### The field-repair record (R399, R400) -/

/-- An entry written to flash changes flash only. -/
theorem flashRepair_frame (s : State) (e : RepairEntry) : ∃ f, s.flashRepair e = { s with flash := f } := by
  unfold State.flashRepair
  split <;> exact ⟨_, rfl⟩

/-- A repair that is entered changes flash or the entries held for it only. -/
theorem addRepair_frame (s : State) (kind payload : Nat) :
    ∃ f h, s.addRepair kind payload = { s with flash := f, svc.heldRepairs := h } := by
  unfold State.addRepair
  dsimp only
  split
  · obtain ⟨f, hf⟩ := flashRepair_frame s ⟨kind, s.flash.boots, payload⟩
    exact ⟨f, s.svc.heldRepairs, hf⟩
  · exact ⟨_, _, rfl⟩

/-! ### The event log (R415, R416) -/

/-- A record written to the log changes flash and the counts of its rate only. -/
theorem putLog_frame (s : State) (r : LogRec) :
    ∃ f a b, s.putLog r = { s with flash := f, svc.suppressed := a, svc.rateNow := b } := by
  unfold State.putLog
  dsimp only
  split <;> exact ⟨_, _, _, rfl⟩

/-- Writing the oldest record takes it from the queue. -/
theorem writeOldest_cons {s : State} {r : LogRec} {rest : List LogRec} (hq : s.svc.logq = r :: rest) :
    s.writeOldest = { s with svc.logq := rest }.putLog r := by
  unfold State.writeOldest
  rw [hq]

/-- A record that finds room in the queue is added to it. -/
theorem logRec_room (s : State) (code src result : Nat) (data : Bytes) (inj : Bool) (hroom : s.svc.logq.length < 1024) :
    ∃ r, s.logRec code src result data inj = { s with svc.logq := s.svc.logq ++ [r] } := by
  unfold State.logRec
  rw [if_pos hroom]
  exact ⟨_, rfl⟩

end Sys2Proof.Machine

/-!
PROOF. What an access to memory leaves as it is: a read or a write of granules changes bytes, errors and their records, and tells of
them, and nothing else.
-/

namespace Sys2Proof.Machine

/-- `g` does not look at what an access to memory may change: bytes, granules, error records, armed flips, events and the log. -/
def IgnoresStore {β : Type} (g : State → β) : Prop :=
  ∀ (t : State) (m : List Host.Cell) (gr : Tab Gran) (c : Cistern) (ch : Tab Chan) (ev : Tab EvBuf) (v : Service),
    g { t with mem := m, grans := gr, cistern := c, chans := ch, host.evbuf := ev, svc := v } = g t

section Store
variable {β : Type} {g : State → β} (hg : IgnoresStore g)
include hg

/-- Setting a granule's errors. -/
theorem setGran_keeps (s : State) (k : Nat) (x : Gran) : g (s.setGran k x) = g s :=
  hg s s.mem _ s.cistern s.chans s.host.evbuf s.svc

/-- Recording an error. -/
theorem granError_keeps (s : State) (k kind agent : Nat) (inj : Bool) : g (s.granError k kind agent inj) = g s := by
  rw [granError_frame]
  exact hg s s.mem s.grans _ _ _ _

/-- Reading a granule. -/
theorem readGran_keeps (s : State) (k agent : Nat) : g (s.readGran k agent).1 = g s := by
  unfold State.readGran
  dsimp only
  split
  · rfl
  · split
    · exact (granError_keeps hg _ _ _ _ _).trans (setGran_keeps hg _ _ _)
    · split
      · split
        · exact hg s s.mem s.grans s.cistern _ s.host.evbuf s.svc
        · rfl
      · exact (granError_keeps hg _ _ _ _ _).trans (hg s s.mem s.grans _ s.chans s.host.evbuf s.svc)
      · exact (granError_keeps hg _ _ _ _ _).trans (setGran_keeps hg _ _ _)

/-- Reading granules. -/
theorem readGrans_keeps (s : State) (agent : Nat) (ks : List Nat) : g (s.readGrans agent ks).1 = g s := by
  unfold State.readGrans
  generalize false = bad
  induction ks generalizing s bad with
  | nil => rfl
  | cons k ks ih => rw [List.foldl_cons, ih, readGran_keeps hg]

/-- Consuming an armed flip. -/
theorem takeFlip_keeps (s : State) (ks : List Nat) : g (s.takeFlip ks) = g s := by
  unfold State.takeFlip
  split
  · rfl
  · split
    · rfl
    · exact hg s s.mem _ s.cistern s.chans s.host.evbuf _

/-- Writing granules. -/
theorem writeGrans_keeps (s : State) (hw : Bool) (agent a : Nat) (bs : Bytes) (hole : List Nat) :
    g (s.writeGrans hw agent a bs hole).1 = g s := by
  have clear (l : List Nat) (t : State) : g (l.foldl (fun t k => t.setGran k {}) t) = g t :=
    foldl_keeps g (fun t k => setGran_keeps hg t k {}) l t
  have refuse (l : List Nat) (t : State) : g (l.foldl (fun t k =>
      (t.setGran k { t.gran k with poison := true, flips := [] }).granError k 3 agent (t.gran k).injected) t) = g t :=
    foldl_keeps g (fun t k => (granError_keeps hg _ _ _ _ _).trans (setGran_keeps hg t k _)) l t
  have put (t : State) (skip : List Nat) : g (t.putMem skip a bs hole) = g t :=
    hg t _ t.grans t.cistern t.chans t.host.evbuf t.svc
  have groups (t : State) (c : Cistern) : g { t with cistern := c } = g t := hg t t.mem t.grans c t.chans t.host.evbuf t.svc
  unfold State.writeGrans
  cases hw
  · exact (takeFlip_keeps hg _ _).trans <| (groups _ _).trans <| (refuse _ _).trans <| (clear _ _).trans <| (put _ _).trans <|
      readGrans_keeps hg _ _ _
  · exact (groups _ _).trans <| (refuse _ _).trans <| (clear _ _).trans <| (put _ _).trans <| readGrans_keeps hg _ _ _

/-- Poisoning granules. -/
theorem poisonRange_keeps (s : State) (a n : Nat) : g (s.poisonRange a n) = g s :=
  (foldl_keeps g (fun t k => setGran_keeps hg t k _) _ _).trans (hg s s.mem s.grans _ s.chans s.host.evbuf s.svc)

end Store

end Sys2Proof.Machine

/-!
PROOF. O48: clocks that change, stop and wake (R427, R440, R442), the end of the class-I limit (R78) and an idle tile that powers
down (R440).
-/

namespace Sys2Proof.Machine

/-! ### The meanings -/

/-- REGION_CLOCK_CHANGE within its range sets the point of a running quadrant, and its clock within the other limits. -/
theorem exec_regionClockChange {s : State} {q mhz : Nat} (hwatch : s.watching = true) (hq : q < 4) (hon : (s.island q).off = false)
    (hlo : 1200 ≤ mhz) (hhi : mhz ≤ 1800) (hstep : mhz % 25 = 0) :
    exec (.regionClockChange q mhz) s = done s ((s.setIsland q { s.island q with point := mhz }).setRegionClk q
      (min mhz ((s.setIsland q { s.island q with point := mhz }).islandLimit q))) := by
  have hrun : (!s.watching || (s.island q).off || decide (mhz < 1200) || decide (1800 < mhz) || mhz % 25 != 0) = false := by
    simp [hwatch, hon, hstep, hlo.not_gt, hhi.not_gt]
  refine (within_of_lt hq).trans ?_
  rw [if_neg (by rw [hrun]; exact Bool.false_ne_true)]

/-- The limit of an island is that of its cap and its ceiling, not of its point. -/
theorem islandLimit_setPoint (s : State) (q mhz : Nat) :
    (s.setIsland q { s.island q with point := mhz }).islandLimit q = s.islandLimit q := by
  simp only [State.islandLimit, island_setIsland, if_pos]
  rfl

/-- What a stop does to an island. -/
def Island.stop (x : Island) : Island := { x with stopped := true }

section Tile
variable {s : State} {i n : Nat} (hi : i < 32) (hsite : (s.tile i).site = some n)
include hi hsite

/-- ISLAND_CLOCK_STOP of a tile whose cores are all stopped stops its V/S island. -/
theorem exec_islandClockStop_vs (hon : (s.tile i).off = false) (hidle : ∀ a ∈ tileAgents i, (s.core a).run = false) :
    exec (.islandClockStop i true) s = done s (s.onIslands Island.stop [vsIsland n]) := by
  have hall : (tileAgents i).all (fun a => !(s.core a).run) = true := List.all_eq_true.2 fun a ha => by rw [hidle a ha]; rfl
  refine (within_of_lt hi).trans ?_
  simp only [hsite, if_true, hall, hon]
  rfl

/-- ISLAND_CLOCK_STOP of a tile whose M-cores are all idle or absent stops its M-row islands. -/
theorem exec_islandClockStop_rows (hon : (s.tile i).off = false)
    (hidle : ∀ j ∈ tileMcores i, s.msState j = 0 ∨ s.msState j = 3) :
    exec (.islandClockStop i false) s =
      done s (s.onIslands Island.stop [mIsland n 0, mIsland n 1, mIsland n 2, mIsland n 3]) := by
  have hall : (tileMcores i).all (fun j => s.msState j == 0 || s.msState j == 3) = true :=
    List.all_eq_true.2 fun j hj => by simpa using hidle j hj
  refine (within_of_lt hi).trans ?_
  simp only [hsite, hall, hon]
  rfl

/-- TILE_POWER_DOWN of an idle tile that is on powers it down when PWR_GATE.EN is set, and does nothing otherwise. -/
theorem exec_tilePowerDown (hon : (s.tile i).off = false) (htask : bit (s.reg 12 0x30) 0 = true → (s.tile i).task = none) :
    exec (.tilePowerDown i) s = done s (if bit (s.reg 12 0x30) 0 = true then
      ((s.setTile i { s.tile i with off := true, ask := none, grant := none, sent := none }).powerSite n false).markDist else s) := by
  refine (within_of_lt hi).trans ?_
  cases hgate : bit (s.reg 12 0x30) 0
  · simp [hsite]
  · simp [hsite, htask hgate, hon]

end Tile

/-- ISLAND_WAKE ends the stop of an island that is on. -/
theorem exec_islandWake {s : State} {k : Nat} (hk : k < 192) (hstop : (s.island k).stopped = true) (hon : (s.island k).off = false) :
    exec (.islandWake k) s = done s (s.setIsland k { s.island k with stopped := false }) := by
  refine (within_of_lt hk).trans ?_
  simp only [hstop, hon]
  rfl

/-- INT8_CLOCK_RESTORE ends the tile's class-I limit and retimes it. -/
theorem exec_int8ClockRestore {i : Nat} (hi : i < 32) (s : State) :
    exec (.int8ClockRestore i) s = done s ((s.setTile i { s.tile i with classI := false }).retimeTile i) :=
  within_of_lt hi

/-! ### The statement -/

/-- Settles O48, clause by clause: a quadrant's clock, the two stops, the wake, the end of the class-I limit, and the two answers to
a power-down. -/
theorem clocksAndIdleTiles : Obligations.ClocksAndIdleTiles := by
  unfold Obligations.ClocksAndIdleTiles
  intro s q mhz i n k hi hsite hn hon stopped down
  have stops (l : List Nat) :
      Leaves s (s.onIslands Island.stop l) (s.onIslands Island.stop l) ∧ stopped l (s.onIslands Island.stop l) := by
    have hread := island_onIslands s (φ := Island.stop) (fun _ => rfl) l
    obtain ⟨x, hx⟩ := onIslands_frame s Island.stop l
    rw [hx] at hread ⊢
    exact ⟨rfl, hread, rfl⟩
  refine ⟨fun hwatch hq hisle hlo hhi hstep => ?clock, fun hidle => ?vs, fun hidle => ?rows, fun hk hstop hisle => ?wake, ?restore,
    fun hgate htask => ?powerDown, fun hgate => ?refused⟩
  case clock =>
    have hexec := exec_regionClockChange hwatch hq hisle hlo hhi hstep
    have hpoint := island_setIsland s q { s.island q with point := mhz }
    let u := s.setIsland q { s.island q with point := mhz }
    have hread := island_setRegionClk u q (min mhz (s.islandLimit q))
    rw [islandLimit_setPoint] at hexec
    obtain ⟨isl, m, h, v, w, d, hframe⟩ := setRegionClk_frame u q (min mhz (s.islandLimit q))
    rw [hframe] at hexec hread
    refine does_of_done hexec rfl ⟨?_, ?_, fun j hj => ?_, rfl, rfl⟩
    · rw [hread, if_pos rfl, hpoint, if_pos rfl]
    · rw [hread, if_pos rfl]
    · rw [hread, if_neg hj, hpoint, if_neg hj]
  case vs => exact does_of_done (exec_islandClockStop_vs hi hsite hon hidle) (stops _).1 (stops _).2
  case rows => exact does_of_done (exec_islandClockStop_rows hi hsite hon hidle) (stops _).1 (stops _).2
  case wake =>
    refine does_of_done (exec_islandWake hk hstop hisle) rfl ⟨?_, fun j hj => ?_, rfl⟩
    · rw [island_setIsland, if_pos rfl]
    · rw [island_setIsland, if_neg hj]
  case restore =>
    have hexec := exec_int8ClockRestore hi s
    obtain ⟨x, hx⟩ := retimeTile_frame (s.setTile i { s.tile i with classI := false }) i
    rw [hx] at hexec
    have hread := tile_setTile s i { s.tile i with classI := false }
    refine does_of_done hexec rfl ⟨?_, fun j hj => ?_, rfl⟩
    · exact congrArg Tile.classI ((hread i).trans (if_pos rfl))
    · exact (hread j).trans (if_neg hj)
  case powerDown =>
    have hexec := exec_tilePowerDown hi hsite hon (fun _ => htask)
    rw [if_pos hgate] at hexec
    let u := s.setTile i { s.tile i with off := true, ask := none, grant := none, sent := none }
    obtain ⟨x, y, hx⟩ := powerSite_frame u n false
    have hsites := site_powerSite u n false
    have hislands := island_powerSite u n false
    have htiles := tile_setTile s i { s.tile i with off := true, ask := none, grant := none, sent := none }
    rw [hx] at hexec hsites hislands
    refine does_of_done hexec rfl ⟨?_, ?_, ?_, ?_, rfl, ?_, fun r hr => ?_, ?_, fun j hj => (htiles j).trans (if_neg hj), rfl⟩
    · exact congrArg Tile.off ((htiles i).trans (if_pos rfl))
    · exact congrArg Tile.ask ((htiles i).trans (if_pos rfl))
    · exact congrArg Tile.grant ((htiles i).trans (if_pos rfl))
    · exact congrArg Tile.sent ((htiles i).trans (if_pos rfl))
    · exact congrArg Site.powered ((hsites n).trans (if_pos rfl))
    · exact congrArg Island.off ((hislands _).trans (if_pos (mIsland_mem_siteIslands n hr)))
    · exact congrArg Island.off ((hislands _).trans (if_pos (vsIsland_mem_siteIslands n)))
  case refused =>
    have hexec := exec_tilePowerDown hi hsite hon (fun h => absurd h (by rw [hgate]; exact Bool.false_ne_true))
    rw [if_neg (by rw [hgate]; exact Bool.false_ne_true)] at hexec
    exact does_of_done hexec rfl rfl

end Sys2Proof.Machine

/-!
PROOF. O52: the recovery that REPAIR_SPARE starts (R287, R405), its quiesce that drains (R403), and the spare site that takes the
tile over (R20, R404).
-/

namespace Sys2Proof.Machine

/-! ### REPAIR_SPARE (R287, R405) -/

/-- Ordered checks that end in ST_OK all hold, when none of them gives ST_OK for its failure. -/
theorem all_of_firstFail_ok {l : List (Bool × Status)} (hne : ∀ x ∈ l, x.2 ≠ .ok) (hok : firstFail l = .ok) :
    ∀ x ∈ l, x.1 = true := by
  induction l with
  | nil => simp
  | cons x l ih =>
    obtain ⟨holds, st⟩ := x
    cases holds
    · exact absurd hok (hne _ List.mem_cons_self)
    · exact List.forall_mem_cons.2 ⟨rfl, ih (fun y hy => hne y (List.mem_cons_of_mem _ hy)) hok⟩

/-- A REPAIR SPARE that passes its checks has a spare. -/
theorem hasSpare_of_repairCheck {s : State} {fn : Nat} {d : Bytes} (hact : rpAction d = 2) (hok : repairCheck s fn d = .ok) :
    s.hasSpare (rpTile d) (rpCore d) = true := by
  have hall := all_of_firstFail_ok (by simp) hok
  simp only [List.forall_mem_cons, hact] at hall
  obtain ⟨-, -, -, hpresent, -⟩ := hall
  have hunit : s.unitPresent (rpTile d) (rpCore d) = true ∧ s.hasSpare (rpTile d) (rpCore d) = true := by simpa using hpresent
  exact hunit.2

/-- A unit has its spare whether or not a command waits. -/
theorem hasSpare_cmdWaits (s : State) (id t : Nat) (core : Option (Nat × Nat)) :
    (s.cmdWaits id).hasSpare t core = s.hasSpare t core := rfl

/-- The recovery of a unit with a spare, on an idle tile, that a command asks for begins drained. -/
theorem startRecovery_idle {s : State} {t id : Nat} {core : Option (Nat × Nat)} (hspare : s.hasSpare t core = true)
    (hidle : (s.tile t).task = none) :
    s.startRecovery t core (some id) = { s with svc.repairs := s.svc.repairs ++ [⟨t, core, false, true, some id⟩] } := by
  simp [State.startRecovery, hspare, hidle]

/-- REPAIR_SPARE of a fenced unit that is not under recovery starts its recovery and keeps the command waiting. -/
theorem exec_repairSpare {s : State} {id : Nat} {c : HostCmd} (hrun : Runs s id 0xC c) (hact : rpAction c.desc = 2)
    (hok : repairCheck s c.fn c.desc = .ok) (hfenced : s.unitFenced (rpTile c.desc) (rpCore c.desc) = true)
    (hfree : s.svc.repairs = []) :
    exec (.repairSpare id) s = done s ((s.cmdWaits id).startRecovery (rpTile c.desc) (rpCore c.desc) (some id)) := by
  change done s (s.repairCmd id 2 _) = _
  rw [State.repairCmd, withCmd_of_runs hrun]
  simp [hok, hact, hfree, hfenced]

/-! ### QUIESCE_DRAINED (R403) -/

/-- QUIESCE_DRAINED marks the recovery drained once its cores stand at an instruction boundary. -/
theorem exec_quiesceDrained {s : State} {i : Nat} (hi : i < 32) {row : Option Nat} {e : Repair} (he : s.repairOf i row = some e) :
    exec (.quiesceDrained i row) s = done s (if s.atBoundary e then
      { s with svc.repairs := s.svc.repairs.map (fun x => if x = e then { x with drained := true } else x) } else s) := by
  refine (within_of_lt hi).trans ?_
  rw [he]

/-! ### The takeover of a site (R20, R404) -/

/-- The spare site `n` is switched on in place of the site `old`, which is bad. -/
def State.moveSite (s : State) (old n : Nat) : State :=
  let t := ((s.setSite old { s.site old with good := false }).powerSite old false).powerSite n true
  t.setSite n { t.site n with bs := 2 }

/-- Moving to another site changes the sites and the islands only. -/
theorem moveSite_frame (s : State) (old n : Nat) : ∃ x y, s.moveSite old n = { s with sites := x, islands := y } := by
  unfold State.moveSite
  obtain ⟨x, y, h⟩ := powerSite_frame (s.setSite old { s.site old with good := false }) old false
  obtain ⟨u, v, h'⟩ := powerSite_frame { s.setSite old { s.site old with good := false } with sites := x, islands := y } n true
  rw [h, h']
  exact ⟨_, _, rfl⟩

/-- The site taken over is bad. -/
theorem moveSite_old {s : State} {old n : Nat} (hne : n ≠ old) : ((s.moveSite old n).site old).good = false := by
  simp [State.moveSite, site_setSite, site_powerSite, hne.symm]

/-- The site that takes over is bonded. -/
theorem moveSite_new (s : State) (old n : Nat) : ((s.moveSite old n).site n).bs = 2 := by
  simp [State.moveSite, site_setSite]

/-- Wiping a unit changes memories, caches and M-cores only. -/
theorem wipeUnit_frame (s : State) (t : Nat) (core : Option (Nat × Nat)) :
    ∃ m w c k, s.wipeUnit t core = { s with mem := m, tcmErrs := w, coh.ctls := c, mcores := k } := by
  let put (t : State) (x : Tab Byte × Tab Gran × Tab CacheCtl × Tab MCore) : State :=
    { t with mem := x.1, tcmErrs := x.2.1, coh.ctls := x.2.2.1, mcores := x.2.2.2 }
  have fold {α : Type} {f : State → α → State} (hstep : ∀ t a, ∃ x, f t a = put t x) (l : List α) (s : State) :
      ∃ x, l.foldl f s = put s x :=
    foldl_frame (fun t => (t.mem, t.tcmErrs, t.coh.ctls, t.mcores)) put hstep l s
  obtain ⟨x, hx⟩ := fold (fun t a => ⟨(_, _, _, _), rfl⟩ : ∀ t a, ∃ x, (t.zeroTcm a).setCtl a {} = put t x)
    (unitAgents t core) s
  obtain ⟨y, hy⟩ := fold (fun t i => ⟨(_, _, _, _), rfl⟩ : ∀ t i, ∃ x, t.clearMcore i = put t x) (unitMcores t core) (put s x)
  refine ⟨y.1, y.2.1, y.2.2.1, y.2.2.2, ?_⟩
  unfold State.wipeUnit
  rw [hx, hy]

/-- A quiesce that ends changes the catchment units only. -/
theorem leaveQuiesce_frame (s : State) (t : Nat) (core : Option (Nat × Nat)) :
    ∃ x, s.leaveQuiesce t core = { s with mesh.cats := x } := by
  unfold State.leaveQuiesce
  split
  · split
    · exact foldl_frame (·.mesh.cats) (fun t x => { t with mesh.cats := x }) (fun _ _ => ⟨_, rfl⟩) _ s
    · exact ⟨_, rfl⟩
  · exact ⟨_, rfl⟩

/-- What follows once the tile holds its new site: its units are wiped, the old site is entered in the field-repair record, the
clocks are set, and the takeover is told. -/
def State.settleTile (s : State) (tile old payload : Nat) : State :=
  ((((s.wipeUnit tile none).addRepair 1 old).retimeTile tile).markDist).raise 0x015 payload

/-- Settling a tile marks the distance table and leaves tiles and sites as they are. -/
theorem settleTile_frame (s : State) (tile old payload : Nat) : ∃ isl m w c k f h ev q l, s.settleTile tile old payload =
    { s with
      islands := isl, dist.dirty := true, mem := m, tcmErrs := w, coh.ctls := c, mcores := k, flash := f, svc.heldRepairs := h
      host.evbuf := ev, svc.logq := q, svc.logLost := l } := by
  obtain ⟨m, w, c, k, hwipe⟩ := wipeUnit_frame s tile none
  rw [State.settleTile, hwipe]
  obtain ⟨f, h, hrepair⟩ := addRepair_frame { s with mem := m, tcmErrs := w, coh.ctls := c, mcores := k } 1 old
  rw [hrepair]
  obtain ⟨isl, hclock⟩ := retimeTile_frame
    { s with mem := m, tcmErrs := w, coh.ctls := c, mcores := k, flash := f, svc.heldRepairs := h } tile
  rw [hclock]
  obtain ⟨ev, q, l, hraise⟩ := raise_changes _ _ _ _ _ _
  exact ⟨_, _, _, _, _, _, _, _, _, _, hraise⟩

/-- A takeover gives the tile the spare site and the positions of that site. -/
theorem takeTile_eq (s : State) (e : Repair) (old n : Nat) : s.takeTile e old n =
    let u := s.moveSite old n
    let v := u.setTile e.tile
      { u.tile e.tile with site := some n, rows := (List.range 6).map (u.site n).rowMap, shifted := [], clockLost := false }
    { v with dist.spareUsed := v.dist.spareUsed ++ [e.tile / 8] }.settleTile e.tile old (unitPayload e.tile none + 2 ^ 24 * siteXy n) :=
  rfl

/-- The recovery of a tile that is the only one is found. -/
theorem repairOf_only {s : State} {e : Repair} (honly : s.svc.repairs = [e]) : s.repairOf e.tile (e.core.map (·.1)) = some e := by
  simp [State.repairOf, honly]

/-- A recovery is over. -/
def State.endRepair (s : State) (e : Repair) : State := { s with svc.repairs := s.svc.repairs.erase e }

/-- SPARE_TAKEOVER of a drained recovery of a tile, which no command asked for and which has a spare site, takes the tile over and
ends the recovery. -/
theorem exec_spareTakeover {s : State} {e : Repair} {old n : Nat} (htile : e.tile < 32) (honly : s.svc.repairs = [e])
    (hcore : e.core = none) (hdrained : e.drained = true) (hcmd : e.cmd = none) (hsite : (s.tile e.tile).site = some old)
    (hclock : (s.tile e.tile).clockLost = false) (hspare : s.spareSite (e.tile / 8) = some n) :
    exec (.spareTakeover e.tile none true) s = done s (((s.takeTile e old n).endRepair e).leaveQuiesce e.tile none) := by
  have hfound : s.repairOf e.tile none = some e := by simpa [hcore] using repairOf_only honly
  have htake : s.takeover e true = ((s.takeTile e old n).endRepair e).leaveQuiesce e.tile none := by
    simp [State.takeover, State.hasSpare, State.answerRepair, State.endRepair, hsite, hcore, hspare, hcmd]
  refine (within_of_lt htile).trans ?_
  simp only [hfound, hdrained, hclock, htake]
  rfl

/-! ### The statement -/

/-- Settles O52, clause by clause: the recovery begins, draining is awaited, draining is marked, and the spare site takes over. -/
theorem sparesTakeOver : Obligations.SparesTakeOver := by
  unfold Obligations.SparesTakeOver
  intro s i n m id c e hi hsite _ _ hne
  refine ⟨fun hrun hact hok htile hcore hfenced htask hfree => ?begins, fun he hwait => ?waits, fun he hbound => ?drains,
    fun honly he hclock hspare => ?takes⟩
  case begins =>
    have hexec := exec_repairSpare hrun hact hok (by simp [State.unitFenced, htile, hcore, hfenced]) hfree
    have hhas := hasSpare_of_repairCheck hact hok
    rw [htile, hcore] at hexec hhas
    rw [startRecovery_idle ((hasSpare_cmdWaits s id i none).trans hhas) htask] at hexec
    exact does_of_done hexec rfl ⟨congrArg (· ++ _) hfree, rfl, rfl⟩
  case waits =>
    have hexec := exec_quiesceDrained hi he
    rw [hwait] at hexec
    exact does_of_done hexec rfl rfl
  case drains =>
    have hexec := exec_quiesceDrained hi he
    rw [hbound] at hexec
    exact does_of_done hexec rfl ⟨rfl, rfl⟩
  case takes =>
    have htile : e.tile = i := congrArg Repair.tile he
    have hcore : e.core = none := congrArg Repair.core he
    rw [← htile] at hi hsite hclock hspare ⊢
    have hexec := exec_spareTakeover hi honly hcore (congrArg Repair.drained he) (congrArg Repair.cmd he) hsite hclock hspare
    have hold := moveSite_old (s := s) hne
    have hnew := moveSite_new s n m
    obtain ⟨x, y, hmove⟩ := moveSite_frame s n m
    rw [hmove] at hold hnew
    simp only [takeTile_eq, hmove] at hexec
    obtain ⟨isl, mem, w, ct, k, f, h, ev, q, l, hsettle⟩ := settleTile_frame _ e.tile n _
    rw [hsettle] at hexec
    obtain ⟨cats, hleave⟩ := leaveQuiesce_frame _ e.tile none
    rw [hleave] at hexec
    have htiles := tile_setTile { s with sites := x, islands := y } e.tile
    refine does_of_done hexec rfl ⟨?_, ?_, hold, hnew, rfl, ?_, fun j hj => ?_, rfl⟩
    · exact congrArg Tile.site ((htiles _ e.tile).trans (if_pos rfl))
    · exact congrArg Tile.shifted ((htiles _ e.tile).trans (if_pos rfl))
    · simp [State.endRepair, honly]
    · exact (htiles _ j).trans (if_neg hj)

end Sys2Proof.Machine

/-!
PROOF. O53: Drizzle's segments (R22, R410 to R412), the event log and the held repairs (R400, R415, R416), the distance table (R30)
and lockstep errors (R446).
-/

namespace Sys2Proof.Machine

/-! ### Lines under march (R410, R411) -/

/-- An address of the Cistern is its own place. -/
theorem canon_cistern (s : State) {a : Nat} (hlo : cisternBase ≤ a) (hhi : a < cisternEnd) : s.canon a = some a := by
  have hbase : cisternBase = 0x008000000000 := rfl
  have hend : cisternEnd = 0x0080D8000000 := rfl
  have hhbm : hbmEnd = 0x006000000000 := rfl
  have hlocal : s.localAddr a = some a := if_pos (by omega)
  have hplace : placeLocal a = .cistern a := by rw [placeLocal, if_neg (by omega), if_pos ⟨hlo, hhi⟩]
  simp [State.canon, State.place, hlocal, hplace]

/-- A line of a slice lies in the Cistern. -/
theorem cisAddr_line_bounds {n k l : Nat} (hn : n < 36) (hk : k < 32) (hl : l < 24576) :
    cisternBase ≤ cisAddr n k l 0 ∧ cisAddr n k l 0 + 128 ≤ cisternEnd := by
  have hx : k ^^^ (l % 32) ^^^ (l / 32 % 32) < 2 ^ 5 :=
    Nat.xor_lt_two_pow (Nat.xor_lt_two_pow hk (Nat.mod_lt _ (by omega))) (Nat.mod_lt _ (by omega))
  unfold cisAddr cisternEnd blockBytes
  omega

/-- The lines of a march that may run lie in the Cistern. -/
theorem marchLines_bounds {sl line a : Nat} (hsl : sl < 1152) (hline : line + 64 ≤ 24576) (ha : a ∈ marchLines sl line) :
    cisternBase ≤ a ∧ a + 128 ≤ cisternEnd := by
  obtain ⟨i, hi, rfl⟩ := List.mem_map.1 ha
  rw [List.mem_range] at hi
  exact cisAddr_line_bounds (by omega) (Nat.mod_lt _ (by omega)) (by omega)

/-- The byte that an address leads to, if any, takes an open value. -/
def State.freeAt (s : State) (a : Nat) : State :=
  match s.canon a with
  | some c => { s.setByte c (Config.freeByte s.free) with free := s.free + 1 }
  | none => s

/-- Making bytes undefined opens them one by one. -/
theorem freeRange_eq (s : State) (a n : Nat) : s.freeRange a n = (List.range n).foldl (fun t i => t.freeAt (a + i)) s := rfl

/-- Opening a byte changes memory and the count of open values only. -/
theorem freeAt_frame (s : State) (a : Nat) : ∃ x : Tab Byte × Nat, s.freeAt a = { s with mem := x.1, free := x.2 } := by
  unfold State.freeAt
  split <;> exact ⟨(_, _), rfl⟩

/-- Making bytes undefined changes memory and the count of open values only. -/
theorem freeRange_frame (s : State) (a n : Nat) : ∃ x : Tab Byte × Nat, s.freeRange a n = { s with mem := x.1, free := x.2 } :=
  foldl_frame (fun t => (t.mem, t.free)) (fun t x => { t with mem := x.1, free := x.2 }) (fun t i => freeAt_frame t (a + i)) _ s

/-- Making bytes undefined leaves the place of every address. -/
theorem canon_freeRange (s : State) (a n : Nat) : (s.freeRange a n).canon = s.canon := by
  obtain ⟨x, hx⟩ := freeRange_frame s a n
  rw [hx]
  rfl

/-- A byte that the address does not lead to reads as before. -/
theorem byte_freeAt {s : State} {a b : Nat} (h : s.canon a ≠ some b) : (s.freeAt a).byte b = s.byte b := by
  unfold State.freeAt
  split
  · next c hc => exact (byte_setByte s c b _).trans (if_neg (by rintro rfl; exact h hc))
  · rfl

/-- A byte that none of the addresses leads to reads as before. -/
theorem byte_freeRange {s : State} {a n b : Nat} (h : ∀ i < n, s.canon (a + i) ≠ some b) : (s.freeRange a n).byte b = s.byte b := by
  induction n with
  | zero => rfl
  | succ n ih =>
    have hlast : s.freeRange a (n + 1) = (s.freeRange a n).freeAt (a + n) := by
      rw [freeRange_eq, List.range_succ, List.foldl_append, ← freeRange_eq]
      rfl
    rw [hlast, byte_freeAt (by rw [canon_freeRange]; exact h n (by omega)), ih fun i hi => h i (by omega)]

/-- Making the lines of a march undefined leaves every byte outside them. -/
theorem byte_foldl_freeRange {s : State} {l : List Nat} {b : Nat} (hcis : ∀ a ∈ l, cisternBase ≤ a ∧ a + 128 ≤ cisternEnd)
    (hout : ∀ a ∈ l, b < a ∨ a + 128 ≤ b) : (l.foldl (fun t a => t.freeRange a 128) s).byte b = s.byte b := by
  induction l generalizing s with
  | nil => rfl
  | cons a l ih =>
    obtain ⟨⟨hlo, hhi⟩, hcis⟩ := List.forall_mem_cons.1 hcis
    obtain ⟨ha, hout⟩ := List.forall_mem_cons.1 hout
    have hfirst : (s.freeRange a 128).byte b = s.byte b := byte_freeRange fun i hi => by
      rw [canon_cistern s (by omega) (by omega), ne_eq, Option.some.injEq]
      omega
    rw [List.foldl_cons, ih hcis hout, hfirst]

/-! ### Segments (R22, R410 to R412) -/

/-- A site's power after it is switched on or off: what becomes of it, of its islands, and of the others. -/
theorem powerSite_reads (s : State) (k : Nat) (on : Bool) :
    ((s.powerSite k on).site k).powered = on ∧ (∀ i ∈ siteIslands k, ((s.powerSite k on).island i).off = !on) ∧
    (∀ j, j ≠ k → (s.powerSite k on).site j = s.site j) ∧
    (∀ i, i ∉ siteIslands k → (s.powerSite k on).island i = s.island i) := by
  refine ⟨?_, fun i hi => ?_, fun j hj => ?_, fun i hi => ?_⟩
  · rw [site_powerSite, if_pos rfl]
  · rw [island_powerSite, if_pos hi]
    rfl
  · rw [site_powerSite, if_neg hj]
  · rw [island_powerSite, if_neg hi]

/-- DRIZZLE_SEGMENT of a unit that may be tested starts its segment. -/
theorem exec_drizzleSegment {s : State} {u : TestUnit} (hen : bit (s.reg 11 0x18) 0 = true) (hready : s.boot.ready = true)
    (hmay : s.segmentMay u = true) (hnew : u ∉ s.svc.segments) : exec (.drizzleSegment u) s = done s (s.startSegment u) := by
  have hstart : (bit (s.reg 11 0x18) 0 && s.boot.ready && s.segmentMay u && !s.svc.segments.contains u) = true := by
    simp [hen, hready, hmay, hnew]
  exact congrArg (done s) (if_pos hstart)

/-- DRIZZLE_ABORT of a segment that runs gives its unit back. -/
theorem exec_drizzleAbort {s : State} {u : TestUnit} (hruns : u ∈ s.svc.segments) :
    exec (.drizzleAbort u) s = done s (s.leaveSegment u) :=
  congrArg (done s) (if_pos (List.contains_iff_mem.2 hruns))

/-- DRIZZLE_SEGMENT_END of a segment that runs ends it. -/
theorem exec_drizzleSegmentEnd {s : State} {u : TestUnit} (hruns : u ∈ s.svc.segments) (pass : Bool) :
    exec (.drizzleSegmentEnd u pass) s = done s (s.segmentEnd u pass) :=
  congrArg (done s) (if_pos (List.contains_iff_mem.2 hruns))

/-- The state that has taken a unit for a segment. -/
def State.takeUnit (s : State) (u : TestUnit) : State := { s with svc.segments := s.svc.segments ++ [u] }

/-- The state that has given a unit back. -/
def State.giveUnit (s : State) (u : TestUnit) : State := { s with svc.segments := s.svc.segments.filter (· != u) }

/-- A segment on a unit that is neither a march nor a spare site takes the unit. -/
theorem startSegment_plain (s : State) {u : TestUnit} (hmarch : ∀ a b, u ≠ .march a b) (hspare : ∀ n, u ≠ .spare n) :
    s.startSegment u = s.takeUnit u := by
  cases u with
  | core t r p => rfl
  | spare n => exact absurd rfl (hspare n)
  | march sl line => exact absurd rfl (hmarch sl line)
  | region n => rfl

/-- A segment on a spare site powers it. -/
theorem startSegment_spare {s : State} {k : Nat} (hfree : s.tileAt k = none) :
    s.startSegment (.spare k) = (s.takeUnit (.spare k)).powerSite k true :=
  if_pos (congrArg Option.isNone hfree)

/-- A march opens the bytes of its lines. -/
theorem startSegment_march (s : State) (sl line : Nat) :
    s.startSegment (.march sl line) = (marchLines sl line).foldl (fun t a => t.freeRange a 128) (s.takeUnit (.march sl line)) := rfl

/-- The end of a segment on a unit that is no spare site gives the unit back. -/
theorem leaveSegment_plain (s : State) {u : TestUnit} (hspare : ∀ n, u ≠ .spare n) : s.leaveSegment u = s.giveUnit u := by
  cases u with
  | core t r p => rfl
  | spare n => exact absurd rfl (hspare n)
  | march sl line => rfl
  | region n => rfl

/-- The end of a segment on a spare site powers the site down. -/
theorem leaveSegment_spare {s : State} {k : Nat} (hfree : s.tileAt k = none) :
    s.leaveSegment (.spare k) = (s.giveUnit (.spare k)).powerSite k false :=
  if_pos (congrArg Option.isNone hfree)

/-- Of the units that were taken, all but the one given back remain. -/
theorem mem_giveUnit (s : State) (u w : TestUnit) : w ∈ (s.giveUnit u).svc.segments ↔ w ∈ s.svc.segments ∧ w ≠ u := by
  simp [State.giveUnit]

/-- A passing segment on a spare site covers it and ends. -/
theorem segmentEnd_spare {s : State} {k : Nat} (hfree : s.tileAt k = none) : s.segmentEnd (.spare k) true =
    let t := (s.giveUnit (.spare k)).powerSite k false
    { t with svc.overdue := t.svc.overdue.filter (· != TestUnit.spare k) }.setSite k { t.site k with cover := t.now } := by
  change (s.leaveSegment (.spare k)).covers (.spare k) = _
  rw [leaveSegment_spare hfree]
  rfl

/-- DRIZZLE_OVERDUE of a unit not yet listed lists it and logs it. -/
theorem exec_drizzleOverdue {s : State} {u : TestUnit} (hnew : u ∉ s.svc.overdue) (hroom : s.svc.logq.length < 1024) :
    ∃ r, exec (.drizzleOverdue u) s = done s { s with svc.overdue := s.svc.overdue ++ [u], svc.logq := s.svc.logq ++ [r] } := by
  have hlist : s.svc.overdue.contains u = false := by simpa using hnew
  obtain ⟨r, hr⟩ := logRec_room { s with svc.overdue := s.svc.overdue ++ [u] } 0x1004 0xFF _ [] false hroom
  refine ⟨r, ?_⟩
  change done s (if s.svc.overdue.contains u then s else _) = _
  rw [hlist]
  exact congrArg (done s) hr

/-- Opening the bytes of lines changes memory and the count of open values only. -/
theorem foldl_freeRange_frame (l : List Nat) (s : State) : ∃ x : Tab Byte × Nat,
    l.foldl (fun t a => t.freeRange a 128) s = { s with mem := x.1, free := x.2 } :=
  foldl_frame (fun t => (t.mem, t.free)) (fun t x => { t with mem := x.1, free := x.2 })
    (fun t a => freeRange_frame t a 128) l s

/-! ### What is written to flash (R400, R415, R416) -/

/-- EVENT_LOG_WRITE with writable flash writes the oldest record. -/
theorem exec_eventLogWrite_ok {s : State} (hok : s.flashOk = true) : exec .eventLogWrite s = done s s.writeOldest :=
  congrArg (done s) (if_pos hok)

/-- EVENT_LOG_WRITE while flash writes are refused marks the records as held. -/
theorem exec_eventLogWrite_held {s : State} (hno : s.flashOk = false) : exec .eventLogWrite s =
    done s { s with svc.logq := s.svc.logq.map (fun r => { r with delayed := true }) } :=
  congrArg (done s) (if_neg (by simp [hno]))

/-- Writing the oldest record changes flash and the log's queue and counts only. -/
theorem writeOldest_frame (s : State) : ∃ f q a b, s.writeOldest =
    { s with flash := f, svc.logq := q, svc.suppressed := a, svc.rateNow := b } := by
  unfold State.writeOldest
  split
  · exact ⟨_, _, _, _, rfl⟩
  · next r rest _ =>
    obtain ⟨f, a, b, hput⟩ := putLog_frame { s with svc.logq := rest } r
    exact ⟨f, rest, a, b, hput⟩

/-- Writing the held records changes flash and the log's queue and counts only. -/
theorem flushLog_frame (s : State) (k : Nat) : ∃ f q a b, s.flushLog k =
    { s with flash := f, svc.logq := q, svc.suppressed := a, svc.rateNow := b } := by
  induction k generalizing s with
  | zero => exact ⟨_, _, _, _, rfl⟩
  | succ k ih =>
    unfold State.flushLog
    split
    · obtain ⟨f, q, a, b, hw⟩ := writeOldest_frame s
      obtain ⟨f', q', a', b', hk⟩ := ih s.writeOldest
      rw [hk, hw]
      exact ⟨f', q', a', b', rfl⟩
    · exact ⟨_, _, _, _, rfl⟩

/-- FLASH_HOLD_FLUSH with writable flash leaves no held repair entry, and changes flash and the log's queue and counts beside. -/
theorem exec_flashHoldFlush {s : State} (hok : s.flashOk = true) : ∃ f q a b, exec .flashHoldFlush s = done s
    { s with flash := f, svc.heldRepairs := [], svc.logq := q, svc.suppressed := a, svc.rateNow := b } := by
  obtain ⟨f, hf⟩ := foldl_frame (·.flash) (fun t x => { t with flash := x }) flashRepair_frame
    s.svc.heldRepairs { s with svc.heldRepairs := [] }
  obtain ⟨f', q, a, b, hlog⟩ := flushLog_frame { s with svc.heldRepairs := [], flash := f } s.svc.logq.length
  refine ⟨f', q, a, b, (congrArg (done s) (if_pos hok)).trans ?_⟩
  simp only [hf]
  exact congrArg (done s) hlog

/-! ### The distance table (R30) -/

/-- The words of the table as an update leaves them. -/
def State.freshWords (s : State) : Tab Word :=
  (List.range dtWords).foldl (fun m k => if k = 0 then m else tset (fun _ => (0 : Word)) m k (s.freshWord k)) s.dist.words

/-- Every word but the first is fresh after an update. -/
theorem freshWords_get (s : State) {j : Nat} (hpos : 0 < j) (hj : j < dtWords) :
    tget (fun _ => (0 : Word)) s.freshWords j = s.freshWord j :=
  (tget_fill _ _ _ _ j).trans (if_pos ⟨List.mem_range.2 hj, hpos.ne'⟩)

/-- With no task to notify, an update brings the words up to date, advances the generation, clears the mark and tells of it. -/
theorem updateTable_frame {s : State} (htasks : s.tasks = []) : ∃ ev q l, s.updateTable = { s with
    dist.words := s.freshWords, dist.gen := (s.dist.gen + 2) % 2 ^ 32, dist.dirty := false
    host.evbuf := ev, svc.logq := q, svc.logLost := l } := by
  have heq : s.updateTable = ({ s with dist.words := s.freshWords, dist.gen := (s.dist.gen + 2) % 2 ^ 32, dist.dirty := false }.raise 0x001
      ((s.dist.gen + 2) % 2 ^ 32 + 2 ^ 32 * s.staleTiles) (s.maskOwners s.staleTiles)).notice 0 (fun _ => true) := rfl
  obtain ⟨ev, q, l, hraise⟩ := raise_changes _ _ _ _ _ _
  refine ⟨ev, q, l, ?_⟩
  rw [heq, hraise, State.notice, htasks]
  rfl

/-! ### The statement -/

/-- Settles O53, clause by clause: segments begin, end and are aborted, an overdue unit is listed, records and held repairs are
written, the distance table is brought up to date, and a lockstep error is counted. -/
theorem drizzleAndUpkeep : Obligations.DrizzleAndUpkeep := by
  unfold Obligations.DrizzleAndUpkeep
  intro s u k line x rest starts took gave power
  refine ⟨fun ⟨hen, hready, hmay, hnew⟩ hmarch hspare => ?plain, fun ⟨hen, hready, hmay, hnew⟩ hfree => ?spare,
    fun ⟨hen, hready, hmay, hnew⟩ => ?march, fun hruns hfree => ?ends, fun hruns hspare => ?aborts, fun hruns hfree => ?abortsSpare,
    fun hnew hroom => ?overdue, fun hok hq => ?logWrite, fun hno => ?logHold, fun hok => ?flush,
    fun hdirty hstale htasks => ?update, fun hdirty hfresh => ?unchanged, fun hup hroom => ?lockstep⟩
  case plain =>
    have hexec := exec_drizzleSegment hen hready hmay hnew
    rw [startSegment_plain s hmarch hspare] at hexec
    exact does_of_done hexec rfl ⟨rfl, rfl⟩
  case spare =>
    have hexec := exec_drizzleSegment hen hready hmay hnew
    have hreads := powerSite_reads (s.takeUnit (.spare k)) k true
    obtain ⟨a, b, hpower⟩ := powerSite_frame (s.takeUnit (.spare k)) k true
    rw [startSegment_spare hfree, hpower] at hexec
    rw [hpower] at hreads
    exact does_of_done hexec rfl ⟨rfl, hreads, rfl⟩
  case march =>
    have hexec := exec_drizzleSegment hen hready hmay hnew
    simp only [State.segmentMay, Bool.and_eq_true, decide_eq_true_eq] at hmay
    obtain ⟨⟨hsl, hline⟩, -⟩ := hmay
    have hbytes (b : Nat) := byte_foldl_freeRange (s := s.takeUnit (.march k line)) (b := b)
      (fun a => marchLines_bounds hsl hline)
    obtain ⟨y, hopen⟩ := foldl_freeRange_frame (marchLines k line) (s.takeUnit (.march k line))
    rw [startSegment_march, hopen] at hexec
    rw [hopen] at hbytes
    exact does_of_done hexec rfl ⟨rfl, hbytes, rfl⟩
  case ends =>
    have hexec := exec_drizzleSegmentEnd hruns true
    obtain ⟨hoff, hislands, hsites, hothers⟩ := powerSite_reads (s.giveUnit (.spare k)) k false
    obtain ⟨a, b, hpower⟩ := powerSite_frame (s.giveUnit (.spare k)) k false
    simp only [segmentEnd_spare hfree, hpower] at hexec
    rw [hpower] at hoff hislands hsites hothers
    have hread := site_setSite { s.giveUnit (.spare k) with sites := a, islands := b } k
    refine does_of_done hexec rfl ⟨mem_giveUnit s _, ?_, ⟨?_, hislands, fun j hj => ?_, hothers⟩, rfl⟩
    · exact congrArg Site.cover ((hread _ k).trans (if_pos rfl))
    · exact (congrArg Site.powered ((hread _ k).trans (if_pos rfl))).trans hoff
    · exact ((hread _ j).trans (if_neg hj)).trans (hsites j hj)
  case aborts =>
    have hexec := exec_drizzleAbort hruns
    rw [leaveSegment_plain s hspare] at hexec
    exact does_of_done hexec rfl ⟨mem_giveUnit s u, rfl⟩
  case abortsSpare =>
    have hexec := exec_drizzleAbort hruns
    have hreads := powerSite_reads (s.giveUnit (.spare k)) k false
    obtain ⟨a, b, hpower⟩ := powerSite_frame (s.giveUnit (.spare k)) k false
    rw [leaveSegment_spare hfree, hpower] at hexec
    rw [hpower] at hreads
    exact does_of_done hexec rfl ⟨mem_giveUnit s _, hreads, rfl⟩
  case overdue =>
    obtain ⟨r, hexec⟩ := exec_drizzleOverdue hnew hroom
    exact does_of_done hexec rfl ⟨rfl, List.length_append, rfl⟩
  case logWrite =>
    have hexec := exec_eventLogWrite_ok hok
    obtain ⟨f, a, b, hput⟩ := putLog_frame { s with svc.logq := rest } x
    rw [writeOldest_cons hq, hput] at hexec
    exact does_of_done hexec rfl ⟨rfl, rfl⟩
  case logHold => exact does_of_done (exec_eventLogWrite_held hno) rfl ⟨rfl, rfl⟩
  case flush =>
    obtain ⟨f, q, a, b, hexec⟩ := exec_flashHoldFlush hok
    exact does_of_done hexec rfl ⟨rfl, rfl⟩
  case update =>
    have hexec : exec .distanceTableUpdate s = done s s.updateTable := congrArg (done s) (if_pos (by simp [hdirty, hstale]))
    obtain ⟨ev, q, l, hupdate⟩ := updateTable_frame htasks
    rw [hupdate] at hexec
    refine does_of_done hexec rfl ⟨rfl, rfl, fun j hpos hj => ?_, rfl⟩
    rw [State.dtWord, if_neg hpos.ne', if_pos hj]
    dsimp only
    exact freshWords_get s hpos hj
  case unchanged =>
    have hexec : exec .distanceTableUpdate s = done s { s with dist.dirty := false } :=
      congrArg (done s) (if_neg (by simp [hfresh]))
    exact does_of_done hexec rfl rfl
  case lockstep =>
    obtain ⟨r, hr⟩ := logRec_room { s.handover s.flash.active with flash.lockstep := (s.flash.lockstep + 1) % 2 ^ 32 } 0x1086 0xFF
      ((s.flash.lockstep + 1) % 2 ^ 32) [] false hroom
    have hexec : exec .lockstepError s = done s _ := congrArg (done s) ((if_neg (by simp [hup])).trans hr)
    exact does_of_done hexec rfl ⟨rfl, rfl, rfl, List.length_append, rfl⟩

end Sys2Proof.Machine

/-!
PROOF. O49: the housekeeping round (R430, R431), the evaluation of temperatures (R428, R432), the shutdown (R434) and its record
(R435), and the plan for an island whose sensors have been read (R413, R414).
-/

namespace Sys2Proof.Machine

/-! ### The housekeeping round (R247, R430, R431) -/

/-- What a round leaves once it has taken its readings: the cores, start-up, and the readings of the supply. -/
def State.readings (s : State) : Tab Core × Boot × Nat × Nat × Nat × Int × Nat :=
  (s.cores, s.boot, s.power.vin, s.power.iin, s.power.pin, s.power.flashT, s.power.rounds)

/-- An access to memory leaves the readings. -/
theorem readings_ignores : IgnoresStore State.readings := fun _ _ _ _ _ _ _ => rfl

/-- Raising an event leaves the readings. -/
theorem readings_raise (s : State) (code payload : Nat) (fns : List Nat) (src : Nat) (inj : Bool) :
    (s.raise code payload fns src inj).readings = s.readings := by
  rw [raise_frame]
  rfl

/-- Writing a line leaves the readings. -/
theorem readings_lineWrite (s : State) (agent x : Nat) (data : Bytes) (mask : Nat) :
    (s.lineWrite agent x data mask).readings = s.readings := by
  have taint : (s.taintAcc (128 * x) 128).readings = s.readings :=
    foldl_keeps State.readings (fun t e => by dsimp only; split <;> rfl) _ s
  refine (foldl_keeps State.readings (fun t i => ?_) _ _).trans taint
  split
  · exact poisonRange_keeps readings_ignores _ _ _
  · exact writeGrans_keeps readings_ignores _ _ _ _ _ _

/-- A write-back that reaches memory leaves the readings. -/
theorem readings_putMemory (s : State) (m : CohMsg) : (s.putMemory m).readings = s.readings := by
  unfold State.putMemory
  dsimp only
  split
  · split <;> rfl
  · split <;> rfl
  · exact readings_lineWrite s _ _ _ _

/-- Telling of a diode leaves the readings. -/
theorem readings_diodeEvent (s : State) (d kind : Nat) (v : Option Int) : (s.diodeEvent d kind v).readings = s.readings := by
  refine (readings_raise _ _ _ _ _ _).trans ?_
  cases v <;> rfl

/-- A diode's round leaves the readings. -/
theorem readings_diodeRound (s : State) (r : Readings) (d : Nat) : (s.diodeRound r d).readings = s.readings := by
  unfold State.diodeRound
  dsimp only
  split
  · exact readings_diodeEvent _ _ _ _
  · rfl
  · split
    · exact readings_diodeEvent _ _ _ _
    · rfl
  · rfl

/-- The cold-plate estimate leaves the readings. -/
theorem readings_coldPlate (s : State) : s.coldPlate.readings = s.readings := by
  unfold State.coldPlate
  dsimp only
  split <;> rfl

/-- A correction leaves the readings. -/
theorem readings_correctDiode (s : State) (d : Nat) : (s.correctDiode d).readings = s.readings := by
  unfold State.correctDiode
  dsimp only
  split <;> rfl

/-- A stack's round leaves the readings. -/
theorem readings_stackRound (s : State) (h : Nat) (v : Option Nat) : (s.stackRound h v).readings = s.readings := by
  have when {b : Prop} [Decidable b] {t u : State} (ht : t.readings = u.readings) : (if b then t else u).readings = u.readings := by
    split
    · exact ht
    · rfl
  cases v with
  | none =>
    unfold State.stackRound
    dsimp only
    split
    · exact readings_raise _ _ _ _ _ _
    · rfl
  | some temp =>
    unfold State.stackRound
    dsimp only
    have htold (t : State) (b : Prop) [Decidable b] (code payload src : Nat) :
        (if b then t.raise code payload [] src else t).readings = t.readings := when (readings_raise _ _ _ _ _ _)
    have hmarked (t : State) (b : Prop) [Decidable b] : (if b then t.markDist else t).readings = t.readings := when rfl
    refine (when ?_).trans ((hmarked _ _).trans (htold _ _ _ _ _))
    exact (readings_raise _ _ _ _ _ _).trans ((foldl_keeps State.readings readings_putMemory _ _).trans rfl)

/-! ### The snapshot (Table 14.3) -/

/-- A number in `n` bytes takes `n` bytes. -/
@[simp] theorem length_toLe (n v : Nat) : (toLe n v).length = n := by
  induction n generalizing v with
  | zero => rfl
  | succ n ih => simp [toLe, ih]

/-- So many zero bytes. -/
@[simp] theorem length_zeros (n : Nat) : (zeros n).length = n := List.length_replicate

/-- Records of one length, one after another. -/
theorem length_flatMap_range (n k : Nat) (f : Nat → Bytes) (hf : ∀ i, (f i).length = k) :
    ((List.range n).flatMap f).length = n * k := by
  simp [List.length_flatMap, hf]

/-- A snapshot has 4,096 bytes. -/
theorem length_snap (s : State) : s.snap.length = 4096 := by
  have hhead : s.snapHead.length = 64 := by simp [State.snapHead]
  have hislands := length_flatMap_range 192 16 s.snapIsland fun i => by simp [State.snapIsland]
  have hstacks := length_flatMap_range 8 16 s.snapStack fun h => by simp [State.snapStack]
  have hphases := length_flatMap_range 24 8 s.snapPhase fun j => by simp [State.snapPhase]
  have hsites := length_flatMap_range 2 16 s.snapSite fun k => by simp [State.snapSite]
  have hdiodes := length_flatMap_range 216 2 s.snapDiode fun d => by simp [State.snapDiode]
  simp only [State.snap, List.length_append, hhead, hislands, hstacks, hphases, hsites, hdiodes, length_zeros]

/-- The readings of the supply that a round takes. -/
def State.takeReadings (s : State) (r : Readings) : State :=
  { s with power := { s.power with
      vin := r.vin, iin := r.iin, pin := r.pin, phases := r.phases, flashT := r.flash, stackPower := r.stackPower
      rounds := s.power.rounds + 1 } }

/-- HOUSEKEEPING_ROUND of a module that runs keeps the readings it takes, and ends with a snapshot. -/
theorem exec_housekeepingRound {s : State} (hpower : s.boot.powered = true) (htick : s.boot.ticking = true) (r : Readings) :
    ∃ t : State, t.readings = (s.takeReadings r).readings ∧
      exec (.housekeepingRound r) s = done s { t with power.snapshot := t.snap } := by
  have hruns : ¬ (!s.boot.powered || !s.boot.ticking) = true := by simp [hpower, htick]
  refine ⟨_, ?_, congrArg (done s) (if_neg hruns)⟩
  have islands (u : State) : ((List.range 192).foldl (fun t i =>
      t.setIsland i { t.island i with power := r.islandPower.getD i 0 }) u).readings = u.readings :=
    foldl_keeps State.readings (fun t i => (rfl : (t.setIsland i _).readings = t.readings)) _ u
  have diodes (u : State) : ((List.range 216).foldl (fun t d => t.diodeRound r d) u).readings = u.readings :=
    foldl_keeps State.readings (fun t d => readings_diodeRound t r d) _ u
  have corrections (u : State) : ((List.range 216).foldl State.correctDiode u).readings = u.readings :=
    foldl_keeps State.readings readings_correctDiode _ u
  have hbms (u : State) : ((List.range 8).foldl (fun t h => t.stackRound h (r.hbms.getD h none)) u).readings = u.readings :=
    foldl_keeps State.readings (fun t h => readings_stackRound t h _) _ u
  have chips := (corrections _).trans ((readings_coldPlate _).trans ((diodes _).trans (islands (s.takeReadings r))))
  split
  · exact chips
  · exact (hbms _).trans chips

end Sys2Proof.Machine

/-!
PROOF. O49, continued: the evaluation of temperatures (R428, R432), the shutdown (R434) and its record (R435), and the plan for an
island whose sensors have been read (R413, R414).
-/

namespace Sys2Proof.Machine

/-! ### The evaluation (R428, R432) -/

/-- What an evaluation of temperatures leaves: memory, the cores and the registers. -/
def State.settings (s : State) : List Host.Cell × Tab Core × Tab Word := (s.mem, s.cores, s.host.regs)

/-- A region clock leaves the settings. -/
theorem settings_setRegionClk (s : State) (q mhz : Nat) : (s.setRegionClk q mhz).settings = s.settings := by
  obtain ⟨i, m, h, v, w, d, hs⟩ := setRegionClk_frame s q mhz
  rw [hs]
  rfl

/-- Retiming a tile leaves the settings. -/
theorem settings_retimeTile (s : State) (t : Nat) : (s.retimeTile t).settings = s.settings := by
  obtain ⟨x, hx⟩ := retimeTile_frame s t
  rw [hx]
  rfl

/-- Forcing a clock down leaves the settings. -/
theorem settings_forceClk (s : State) (i : Nat) : (s.forceClk i).settings = s.settings := by
  unfold State.forceClk
  split
  · exact settings_setRegionClk _ _ _
  · dsimp only
    split
    · exact settings_retimeTile _ _
    · rfl

/-- Telling of an island leaves the settings. -/
theorem settings_thermEvent (s : State) (code i : Nat) (entry : Bool) (cause : Nat) :
    (s.thermEvent code i entry cause).settings = s.settings := by
  rw [State.thermEvent, raise_frame]
  rfl

/-- A partner's grant leaves the settings. -/
theorem settings_grantSite (s : State) (site w : Nat) : (s.grantSite site w).settings = s.settings := by
  unfold State.grantSite
  dsimp only
  split <;> rfl

/-- An island that enters THROTTLE leaves the settings. -/
theorem settings_enterThrottle (s : State) (i : Nat) : (s.enterThrottle i).settings = s.settings := by
  unfold State.enterThrottle
  dsimp only
  split
  · exact settings_setRegionClk _ _ _
  · split
    · exact settings_forceClk _ _
    · split
      · exact foldl_keeps State.settings (fun t h => (rfl : (t.setStack h _).settings = t.settings)) _ _
      · split
        · split
          · exact settings_grantSite _ _ _
          · rfl
        · rfl

/-- An island that leaves THROTTLE leaves the settings. -/
theorem settings_leaveThrottle (s : State) (i : Nat) : (s.leaveThrottle i).settings = s.settings := by
  unfold State.leaveThrottle
  dsimp only
  split
  · exact settings_setRegionClk _ _ _
  · split
    · exact settings_forceClk _ _
    · exact foldl_keeps State.settings (fun t h => (rfl : (t.setStack h _).settings = t.settings)) _ _

/-- A cap that moves leaves the settings. -/
theorem settings_moveCap (s : State) (i : Nat) : (s.moveCap i).settings = s.settings := by
  unfold State.moveCap
  dsimp only
  split
  · exact settings_forceClk _ _
  · rfl

/-- The evaluation of an island leaves the settings. -/
theorem settings_evalIsland (s : State) (i : Nat) : (s.evalIsland i).settings = s.settings := by
  have tell (t : State) (b : Prop) [Decidable b] (code : Nat) (entry : Bool) (cause : Nat) :
      (if b then t.thermEvent code i entry cause else t).settings = t.settings := by
    split
    · exact settings_thermEvent _ _ _ _ _
    · rfl
  have act (t : State) (b c d : Prop) [Decidable b] [Decidable c] [Decidable d] (cause : Nat) :
      (if b then (t.enterThrottle i).thermEvent 0x019 i true cause
        else if c then (t.leaveThrottle i).thermEvent 0x019 i false cause
        else if d then t.moveCap i else t).settings = t.settings := by
    split
    · exact (settings_thermEvent _ _ _ _ _).trans (settings_enterThrottle _ _)
    · split
      · exact (settings_thermEvent _ _ _ _ _).trans (settings_leaveThrottle _ _)
      · split
        · exact settings_moveCap _ _
        · rfl
  exact (tell _ _ _ _ _).trans ((act _ _ _ _ _).trans ((tell _ _ _ _ _).trans rfl))

/-- THERMAL_EVAL of a watched module leaves the settings, and sets the alert to whether an island is at WARNING or above. -/
theorem exec_thermalEval {s : State} (hwatch : s.watching = true) : ∃ t : State, t.settings = s.settings ∧
    exec .thermalEval s = done s { t with power.alert := (List.range 192).any (fun i => decide (1 ≤ (t.island i).state)) } := by
  have hruns : ¬ (!s.watching) = true := by simp [hwatch]
  refine ⟨_, ?_, congrArg (done s) (if_neg hruns)⟩
  have heat : ((List.range 224).foldl State.heatNode s).settings = s.settings :=
    foldl_keeps State.settings (f := State.heatNode) (fun _ _ => rfl) _ _
  exact (foldl_keeps State.settings settings_evalIsland _ _).trans heat

/-! ### The record of a shutdown (R435) -/

/-- SHUTDOWN_RECORD_WRITE with writable flash and an empty queue enters the record in the log and in its own sector. -/
theorem exec_shutdownRecordWrite {s : State} {r : LogRec} (hwaits : s.boot.shutLog = some r) (hok : s.flashOk = true)
    (hq : s.svc.logq = []) : exec .shutdownRecordWrite s = done s { s.putLog r with
      boot.shutLog := none
      flash := { (s.putLog r).flash with shutRec := some (logBytes s.flash.logSeq (s.suppCount r.code r.src) r), shutAck := none } } := by
  change done s _ = _
  simp only [hwaits, hok, hq, List.foldl_nil]
  rfl

/-! ### The plan of an island (R413, R414) -/

/-- The island has its plan for a loss, under the ceiling of the module. -/
def State.setPlan (s : State) (k loss : Nat) : State :=
  let plan := baroPlan k (s.island k).offset s.boot.ceilMhz loss
  s.setIsland k { s.island k with
    offset := plan.1
    ceil := plan.2
    capped := (s.island k).capped || decide (plan.2 < s.boot.ceilMhz)
    loss := min loss 255
    replan := ((s.island k).replan + 1) % 2 ^ 16 }

/-- The island reads as planned. -/
theorem setPlan_reads (s : State) (k loss : Nat) :
    ((s.setPlan k loss).island k).offset = (baroPlan k (s.island k).offset s.boot.ceilMhz loss).1 ∧
    ((s.setPlan k loss).island k).ceil = (baroPlan k (s.island k).offset s.boot.ceilMhz loss).2 ∧
    ((s.setPlan k loss).island k).loss = min loss 255 := by
  rw [State.setPlan, island_setIsland, if_pos rfl]
  exact ⟨rfl, rfl, rfl⟩

/-- A plan is entered in the field-repair record and logged, and the clock that it limits is forced down. -/
def State.enterPlan (s : State) (k payload result : Nat) : State :=
  ((s.addRepair 9 payload).logRec 0x1005 0xFF result).forceClk k

/-- The clock of an island of a tile is forced by retiming the tile on its site, if there is one. -/
theorem forceClk_tile (s : State) {k : Nat} (hlo : 4 ≤ k) : s.forceClk k = s ∨ ∃ t, s.forceClk k = s.retimeTile t := by
  rw [State.forceClk, if_neg (by omega)]
  dsimp only
  split
  · exact .inr ⟨_, rfl⟩
  · exact .inl rfl

/-- Entering a plan changes flash, the queues for it, and clocks. -/
theorem enterPlan_frame (s : State) {k : Nat} (hlo : 4 ≤ k) (payload result : Nat) :
    ∃ isl f h q l, s.enterPlan k payload result =
        { s with islands := isl, flash := f, svc.heldRepairs := h, svc.logq := q, svc.logLost := l } ∧
      ∃ clk halved, (s.enterPlan k payload result).island k = (s.island k).retime clk halved := by
  obtain ⟨f, h, hrepair⟩ := addRepair_frame s 9 payload
  have hlogged : ∃ q l, (s.addRepair 9 payload).logRec 0x1005 0xFF result =
      { s with flash := f, svc.heldRepairs := h, svc.logq := q, svc.logLost := l } := by
    rw [hrepair, logRec_frame]
    exact ⟨_, _, rfl⟩
  obtain ⟨q, l, hlogged⟩ := hlogged
  rw [State.enterPlan, hlogged]
  obtain hsame | ⟨t, hretime⟩ := forceClk_tile { s with flash := f, svc.heldRepairs := h, svc.logq := q, svc.logLost := l } hlo
  · rw [hsame]
    exact ⟨_, _, _, _, _, rfl, (s.island k).clk, (s.island k).halved, rfl⟩
  · obtain ⟨isl, hisl⟩ := retimeTile_frame { s with flash := f, svc.heldRepairs := h, svc.logq := q, svc.logLost := l } t
    have hread := island_retimeTile { s with flash := f, svc.heldRepairs := h, svc.logq := q, svc.logLost := l } t k
    rw [hretime]
    exact ⟨isl, _, _, _, _, hisl, hread⟩

/-- BAROMETER_REPLAN of an M-row island without a plan takes the readings in, plans for the loss they show, and enters the plan. -/
theorem exec_barometerReplan {s : State} {k : Nat} (hlo : 4 ≤ k) (hhi : k < 148) (hplan : (s.island k).ceil = 0)
    (slacks : List (Nat × Int)) {v : State} (hv : v = s.sense (slacks.filter (fun e => decide (e.1 < 1584) && sensorOn e.1 == k))) :
    ∃ payload result, exec (.barometerReplan k slacks) s = done s ((v.setPlan k (v.islandLoss k)).enterPlan k payload result) := by
  have hceil : (v.island k).ceil = 0 := by rw [hv]; exact hplan
  have htop : islandTop v k = v.boot.ceilMhz := by rw [islandTop, if_neg (by omega), if_pos hhi]
  let plan := baroPlan k (v.island k).offset v.boot.ceilMhz (v.islandLoss k)
  refine ⟨k + 2 ^ 8 * plan.1 + 2 ^ 16 * plan.2, k + 2 ^ 8 * plan.1 + 2 ^ 16 * plan.2 + 2 ^ 32 * min (v.islandLoss k) 255, ?_⟩
  refine (within_of_lt (by omega)).trans ?_
  rw [if_neg (by omega)]
  simp only [← hv, hceil, if_pos, htop]
  rfl

/-! ### The statement -/

/-- Settles O49, clause by clause: the round, the evaluation, the shutdown, its record, and the plan. -/
theorem heatAndShutdown : Obligations.HeatAndShutdown := by
  unfold Obligations.HeatAndShutdown
  intro s r k slacks x
  refine ⟨fun hpower htick => ?round, fun hwatch => ?eval, fun hwatch hk hhot => ?shutdown, fun hlog hok hq => ?record,
    fun hlo hhi hplan => ?plan⟩
  case round =>
    obtain ⟨t, hreadings, hexec⟩ := exec_housekeepingRound hpower htick r
    simp only [State.readings, Prod.mk.injEq] at hreadings
    obtain ⟨hcores, hboot, hvin, hiin, hpin, hflash, hrounds⟩ := hreadings
    exact does_done hexec ⟨hvin, hiin, hpin, hflash, hrounds, length_snap t, hcores, hboot⟩
  case eval =>
    obtain ⟨t, hsettings, hexec⟩ := exec_thermalEval hwatch
    simp only [State.settings, Prod.mk.injEq] at hsettings
    obtain ⟨hmem, hcores, hregs⟩ := hsettings
    have halert : (List.range 192).any (fun i => decide (1 ≤ (t.island i).state)) = true ↔
        ∃ i, i < 192 ∧ 1 ≤ (t.island i).state := by
      simp
    exact does_done hexec ⟨halert, hmem, hcores, hregs⟩
  case shutdown =>
    have hexec : exec (.thermalShutdown k) s = done s (s.shutdown k 0) :=
      (within_of_lt hk).trans (congrArg (done s) (if_pos (by simp [hwatch, hhot])))
    exact does_done hexec ⟨rfl, rfl, rfl, rfl, _, rfl, rfl, rfl⟩
  case record =>
    have hexec := exec_shutdownRecordWrite hlog hok hq
    obtain ⟨f, a, b, hput⟩ := putLog_frame s x
    rw [hput] at hexec
    exact does_of_done hexec rfl ⟨rfl, rfl, rfl, rfl⟩
  case plan =>
    intro v loss
    obtain ⟨payload, result, hexec⟩ := exec_barometerReplan hlo hhi hplan slacks (v := v) rfl
    obtain ⟨isl, f, h, q, l, hframe, clk, halved, hisland⟩ := enterPlan_frame (v.setPlan k loss) hlo payload result
    obtain ⟨hoffset, hceil, hloss⟩ := setPlan_reads v k loss
    rw [hframe] at hexec hisland
    refine does_of_done hexec rfl ⟨rfl, ?_, ?_, ?_, rfl⟩
    · exact (congrArg Island.offset hisland).trans hoffset
    · exact (congrArg Island.ceil hisland).trans hceil
    · exact (congrArg Island.loss hisland).trans hloss

end Sys2Proof.Machine

/-!
PROOF. O3: what every step keeps (R47, R376, R377). A command answers through `done` after the test of the units that it names, and so
leaves the queue, the fuses and the timebase; the four commands that start the timebase, or end it with the power, leave the queue and
the fuses.
-/

namespace Sys2Proof.Machine

/-- An answer that keeps the queue and the fuses. -/
def KeepsQueue (s : State) (r : Host.Outcome State Fault Refusal) : Prop :=
  ∀ t, r = .next t → t.pending = s.pending ∧ t.fuse = s.fuse

/-- An answer that keeps the queue, the fuses and the timebase. -/
def KeepsTime (s : State) (r : Host.Outcome State Fault Refusal) : Prop :=
  ∀ t, r = .next t → t.pending = s.pending ∧ t.fuse = s.fuse ∧ t.now = s.now

theorem KeepsTime.keepsQueue {s : State} {r : Host.Outcome State Fault Refusal} (h : KeepsTime s r) : KeepsQueue s r := by
  intro t ht
  obtain ⟨hq, hf, -⟩ := h t ht
  exact ⟨hq, hf⟩

theorem keepsTime_done (s t : State) : KeepsTime s (done s t) := fun _ h => done_keeps h

theorem keepsQueue_doneAt (s t : State) (ns : Nat) : KeepsQueue s (doneAt s t ns) := by
  rintro u ⟨⟩
  exact ⟨rfl, rfl⟩

/-- A command about a unit keeps what it keeps when the unit exists. -/
theorem keepsTime_within {s : State} {k : String} {n c : Nat} {r : Host.Outcome State Fault Refusal} (h : KeepsTime s r) :
    KeepsTime s (within k n c r) := fun t ht => h t (within_next ht).2

/-- The commands that start the timebase or end it with the power (R47, R375, R376): POWER_ON, STAGE_S0, UNDERVOLTAGE_STOP and
OVERVOLTAGE_STOP. -/
def setsTime : Instr → Bool
  | .powerOn _ _ | .stageS0 _ | .undervoltageStop _ | .overvoltageStop _ => true
  | _ => false

/-- Every command that does not set the timebase answers through `done`, after the test of the units that it names. -/
theorem exec_keepsTime (c : Instr) (s : State) (h : setsTime c = false) : KeepsTime s (exec c s) := by
  cases c
  case powerOn | stageS0 | undervoltageStop | overvoltageStop => cases h
  all_goals
    repeat apply keepsTime_within
    exact keepsTime_done _ _

theorem execPowerOn_keepsQueue (vin : Nat) (refclk : Bool) (s : State) : KeepsQueue s (execPowerOn vin refclk s) := by
  unfold execPowerOn
  split
  · exact (keepsTime_done _ _).keepsQueue
  · exact keepsQueue_doneAt _ _ _

theorem execUndervoltageStop_keepsQueue (mv : Nat) (s : State) : KeepsQueue s (execUndervoltageStop mv s) := by
  unfold execUndervoltageStop
  split
  · exact keepsQueue_doneAt _ _ _
  · exact (keepsTime_done _ _).keepsQueue

theorem execOvervoltageStop_keepsQueue (mv : Nat) (s : State) : KeepsQueue s (execOvervoltageStop mv s) := by
  unfold execOvervoltageStop
  split
  · exact keepsQueue_doneAt _ _ _
  · exact (keepsTime_done _ _).keepsQueue

/-- No command changes the queue or the fuses. -/
theorem exec_keepsQueue (c : Instr) (s : State) : KeepsQueue s (exec c s) := by
  cases h : setsTime c with
  | false => exact (exec_keepsTime c s h).keepsQueue
  | true =>
    unfold setsTime at h
    split at h
    · exact execPowerOn_keepsQueue _ _ s
    · exact keepsQueue_doneAt _ _ _
    · exact execUndervoltageStop_keepsQueue _ s
    · exact execOvervoltageStop_keepsQueue _ s
    · cases h

theorem step_idle {s : State} (h : s.pending = []) : step s = .next (idle s) := by
  unfold step
  rw [h]

theorem step_command {s : State} {c : Instr} {rest : List Instr} (h : s.pending = c :: rest) :
    step s = exec c { s with pending := rest } := by
  unfold step
  rw [h]

theorem idle_keepsQueue (s : State) : (idle s).pending = s.pending ∧ (idle s).fuse = s.fuse := by
  unfold idle
  split <;> exact ⟨rfl, rfl⟩

/-- A step keeps the fuses and takes the front command. -/
theorem step_queue {s t : State} (h : step s = .next t) : t.fuse = s.fuse ∧ t.pending = s.pending.tail := by
  cases hp : s.pending with
  | nil =>
    rw [step_idle hp] at h
    cases h
    obtain ⟨hq, hf⟩ := idle_keepsQueue s
    exact ⟨hf, hq.trans hp⟩
  | cons c rest =>
    rw [step_command hp] at h
    obtain ⟨hq, hf⟩ := exec_keepsQueue c _ t h
    exact ⟨hf, hq⟩

/-- Settles O3, from what every command keeps. -/
theorem everyStepKeepsFusesQueueAndTime : Obligations.EveryStepKeepsFusesQueueAndTime := by
  unfold Obligations.EveryStepKeepsFusesQueueAndTime
  rintro F s t rfl hstep
  refine ⟨step_queue hstep, fun hp => ?_, fun c rest hp hpower hs0 hunder hover => ?_⟩
  · rw [step_idle hp] at hstep
    cases hstep
    rfl
  · rw [step_command hp] at hstep
    have hsets : setsTime c = false := by
      unfold setsTime
      split
      · exact absurd rfl (hpower _ _)
      · exact absurd rfl (hs0 _)
      · exact absurd rfl (hunder _)
      · exact absurd rfl (hover _)
      · rfl
    obtain ⟨-, -, hnow⟩ := exec_keepsTime c _ hsets t hstep
    exact hnow

end Sys2Proof.Machine

/-!
PROOF. O4 and O9: the state after reset (R47, R376, R377), and the registers of a core (R43).
-/

namespace Sys2Proof.Machine

/-- A register reads what was written to it last; register 0 reads zero. -/
theorem core_x_setX (c : Core) (r q : Nat) (v : Word) :
    (c.setX r v).x q = if q = r then (if r = 0 then 0 else v) else c.x q := by
  unfold Core.setX Core.x
  by_cases hr : r = 0
  · subst hr
    by_cases hq : q = 0 <;> simp [hq]
  · by_cases hq : q = r
    · subst hq
      simp [hr]
    · simp [hr, hq, tget_tset_ne]

/-- The register written. -/
@[simp] theorem core_x_setX_self (c : Core) (r : Nat) (v : Word) : (c.setX r v).x r = if r = 0 then 0 else v := by
  rw [core_x_setX, if_pos rfl]

/-- The other registers. -/
theorem core_x_setX_ne (c : Core) {r q : Nat} (v : Word) (h : q ≠ r) : (c.setX r v).x q = c.x q := by
  rw [core_x_setX, if_neg h]

/-- Register 0 reads zero. -/
@[simp] theorem core_x_zero (c : Core) : c.x 0 = 0 := if_pos rfl

/-- Settles O9: the register written, register 0, another register, and what is no register. -/
theorem registerZeroReadsZero : Obligations.RegisterZeroReadsZero := by
  unfold Obligations.RegisterZeroReadsZero
  intro c r q v
  exact ⟨core_x_setX_self c r v, core_x_zero _, core_x_setX_ne c v, core_setX_pc c r v, core_setX_csr c r v⟩

/-- Every byte, cell and register reads its default in the state after reset, whose tables list nothing. -/
theorem reset_reads : (∀ a, State.reset.byte a = 0) ∧ (∀ i, State.reset.cell i = 0) ∧
    ∀ blk o, State.reset.reg blk o = (regReset (rkey blk o)).toNat :=
  ⟨fun _ => rfl, fun _ => rfl, fun _ _ => rfl⟩

/-- Settles O4. -/
theorem resetState : Obligations.ResetState := by
  unfold Obligations.ResetState
  obtain ⟨hbyte, hcell, hreg⟩ := reset_reads
  have hstep : step State.reset = .next State.reset := step_idle rfl
  exact ⟨rfl, rfl, rfl, rfl, rfl, rfl, reset_memWf, hbyte, hcell, hreg, hstep⟩

end Sys2Proof.Machine

/-!
PROOF. Rules of a core's instruction (R43, R44, R467): what retiring, writing a register, counting an event and taking an exception
do to the core, and that nothing outside the core changes.
-/

namespace Sys2Proof.Machine

/-! ### Steps that change the cores only -/

/-- From `s` to `t` core `a` changes, and nothing else. -/
def OnlyCore (a : Nat) (s t : State) : Prop :=
  (∀ b, b ≠ a → t.core b = s.core b) ∧ t = { s with cores := t.cores }

/-- A command that changes nothing but the cores leaves what its meaning works out. -/
theorem leaves_of_cores {s t : State} (h : t = { s with cores := t.cores }) : Leaves s t t := by
  unfold Leaves
  rw [h]

theorem OnlyCore.refl (a : Nat) (s : State) : OnlyCore a s s := ⟨fun _ _ => rfl, rfl⟩

theorem OnlyCore.trans {a : Nat} {s t u : State} (h1 : OnlyCore a s t) (h2 : OnlyCore a t u) : OnlyCore a s u := by
  obtain ⟨hcore1, hframe1⟩ := h1
  obtain ⟨hcore2, hframe2⟩ := h2
  refine ⟨fun b hb => (hcore2 b hb).trans (hcore1 b hb), ?_⟩
  rw [hframe1] at hframe2
  exact hframe2

theorem onlyCore_setCore (s : State) (a : Nat) (x : Core) : OnlyCore a s (s.setCore a x) :=
  ⟨fun b hb => by rw [core_setCore, if_neg hb], rfl⟩

@[simp] theorem core_setCore_self (s : State) (a : Nat) (x : Core) : (s.setCore a x).core a = x := by
  rw [core_setCore, if_pos rfl]

/-- A command that changes one core completes. -/
theorem does_of_onlyCore {c : Instr} {s t : State} {a : Nat} {P : State → Prop} (hexec : exec c s = done s t)
    (h : OnlyCore a s t) (hp : P t) : Does c s P :=
  does_of_done hexec (leaves_of_cores h.2) hp

/-! ### Counting, retiring and writing a register -/

/-- Counting an event changes the counters of the core. -/
theorem count_cases (s : State) (a ev : Nat) :
    s.count a ev = s ∨ ∃ h, s.count a ev = s.setCore a { s.core a with hpm := h } := by
  unfold State.count
  dsimp only
  split
  · exact .inl rfl
  · exact .inr ⟨_, rfl⟩

theorem onlyCore_count (s : State) (a ev : Nat) : OnlyCore a s (s.count a ev) := by
  obtain h | ⟨_, h⟩ := count_cases s a ev
  · rw [h]
    exact .refl a s
  · rw [h]
    exact onlyCore_setCore s a _

theorem core_count (s : State) (a ev : Nat) : ∃ h, (s.count a ev).core a = { s.core a with hpm := h } := by
  obtain h | ⟨x, h⟩ := count_cases s a ev
  · exact ⟨(s.core a).hpm, by rw [h]⟩
  · exact ⟨x, by rw [h, core_setCore_self]⟩

theorem onlyCore_ret (s : State) (a rd : Nat) (v : Word) : OnlyCore a s (s.ret a rd v) := onlyCore_setCore s a _

theorem onlyCore_retire (s : State) (a : Nat) : OnlyCore a s (s.retire a) := onlyCore_setCore s a _

/-- A core that waits for nothing and is not stopping moves its pc by 4. -/
theorem retire_running {c : Core} (hwait : c.wait = .none) (hstop : c.stopping = false) : c.retire = { c with pc := c.pc + 4 } := by
  unfold Core.retire Core.step
  rw [hstop, ← hwait]
  rfl

@[simp] theorem retire_pc (c : Core) : c.retire.pc = c.pc + 4 := by
  unfold Core.retire Core.step
  split <;> rfl

@[simp] theorem retire_wait (c : Core) : c.retire.wait = .none := by
  unfold Core.retire Core.step
  split <;> rfl

@[simp] theorem retire_xr (c : Core) : c.retire.xr = c.xr := by
  unfold Core.retire Core.step
  split <;> rfl

@[simp] theorem retire_csr (c : Core) : c.retire.csr = c.csr := by
  unfold Core.retire Core.step
  split <;> rfl

@[simp] theorem retire_slots (c : Core) : c.retire.slots = c.slots := by
  unfold Core.retire Core.step
  split <;> rfl

@[simp] theorem retire_syncpend (c : Core) : c.retire.syncpend = c.syncpend := by
  unfold Core.retire Core.step
  split <;> rfl

@[simp] theorem retire_x (c : Core) (r : Nat) : c.retire.x r = c.x r := by
  unfold Core.x
  rw [retire_xr]

@[simp] theorem retire_resv (c : Core) : c.retire.resv = c.resv := by
  unfold Core.retire Core.step
  split <;> rfl

/-- Core `c` has retired as `d` with `w` in register `rd`. -/
def Retired (c d : Core) (rd : Nat) (w : Word) : Prop :=
  d.pc = c.pc + 4 ∧ d.wait = .none ∧ d.x rd = (if rd = 0 then 0 else w) ∧ (∀ r, r ≠ rd → d.x r = c.x r) ∧ d.csr = c.csr

/-- Only the registers, the pc and the CSRs of the core before count. -/
theorem Retired.of_regs {c c' d : Core} {rd : Nat} {w : Word} (h : Retired c' d rd w) (hpc : c'.pc = c.pc) (hx : c'.xr = c.xr)
    (hcsr : c'.csr = c.csr) : Retired c d rd w := by
  unfold Retired Core.x at *
  rw [hpc, hx, hcsr] at h
  exact h

theorem retired_setX (c : Core) (rd : Nat) (w : Word) : Retired c (c.setX rd w).retire rd w :=
  ⟨by simp, retire_wait _, by simp, fun r hr => by rw [retire_x, core_x_setX_ne c w hr], by simp⟩

theorem retired_ret (s : State) (a rd : Nat) (v : Word) : Retired (s.core a) ((s.ret a rd v).core a) rd v := by
  unfold State.ret
  rw [core_setCore_self]
  exact retired_setX _ rd v

/-! ### A core that executes (R43) -/

section Ready
variable {s : State} {a : Nat} (h : Ready s a)
include h

theorem ready_wait : (s.core a).wait = .none := by
  have hr := h.2
  simp only [State.coreReady, Bool.and_eq_true, decide_eq_true_eq] at hr
  tauto

theorem ready_stopping : (s.core a).stopping = false := by
  have hr := h.2
  simp only [State.coreReady, Bool.and_eq_true, Bool.not_eq_true'] at hr
  tauto

theorem ready_runs : s.corePresent a = true ∧ (s.core a).run = true ∧ s.coreFenced a = false := by
  have hr := h.2
  simp only [State.coreReady, Bool.and_eq_true, Bool.not_eq_true'] at hr
  tauto

theorem ready_retire : s.retire a = s.setCore a { s.core a with pc := (s.core a).pc + 4 } := by
  rw [State.retire, retire_running (ready_wait h) (ready_stopping h)]

theorem ready_ret (rd : Nat) (v : Word) :
    s.ret a rd v = s.setCore a { (s.core a).setX rd v with pc := (s.core a).pc + 4 } := by
  rw [State.ret, retire_running (by rw [core_setX_wait, ready_wait h]) (by rw [core_setX_stopping, ready_stopping h]), core_setX_pc]

/-- A core that executes waits for nothing that has to end first, and gives up no wait. -/
theorem ready_midway : s.midway a = false := by
  unfold State.midway
  rw [ready_wait h]

theorem ready_endWait : s.endWait a = s := by
  unfold State.endWait
  rw [ready_wait h]

end Ready

/-! ### Exceptions (R43) -/

/-- A stored CSR reads as set, cut to 64 bits, and every other one as before. -/
theorem csrv_setCsr (c : Core) (n v m : Nat) : (c.setCsr n v).csrv m = if m = n then v % 2 ^ 64 else c.csrv m := by
  unfold Core.csrv Core.setCsr
  by_cases h : m = n
  · subst h
    simp
  · simp [tget_tset_ne, h]

/-- The handler of an S-core is entered with the pc, the cause and the value of the trap kept. -/
theorem trap_csrs (c : Core) (cause tval : Word) (vec : Nat) :
    (c.trap cause tval vec).csrv 0x341 = c.pc.toNat ∧ (c.trap cause tval vec).csrv 0x342 = cause.toNat ∧
    (c.trap cause tval vec).csrv 0x343 = tval.toNat := by
  have hkept : ∃ ms, ∀ m, (c.trap cause tval vec).csrv m =
      ((((c.setCsr 0x300 ms).setCsr 0x341 c.pc.toNat).setCsr 0x342 cause.toNat).setCsr 0x343 tval.toNat).csrv m :=
    ⟨_, fun _ => rfl⟩
  obtain ⟨ms, hkept⟩ := hkept
  simp [hkept, csrv_setCsr, Nat.mod_eq_of_lt (BitVec.isLt _)]

/-- In direct mode, and for an exception in any mode, the pc takes the base of mtvec. -/
theorem trap_pc (c : Core) (cause tval : Word) {vec : Nat} (h : vec = 0 ∨ c.csrv 0x305 % 4 = 0) :
    (c.trap cause tval vec).pc = BitVec.ofNat 64 (c.csrv 0x305 / 4 * 4) := by
  unfold Core.trap
  obtain h | h := h <;> simp [h]

theorem onlyCore_exc (s : State) (a code : Nat) (tval : Word) : OnlyCore a s (s.exc a code tval) :=
  (onlyCore_count s a 14).trans (onlyCore_setCore _ a _)

/-- An S-core enters its handler. -/
theorem core_exc_score {s : State} {a : Nat} (ha : isScore a = true) (code : Nat) (tval : Word) :
    ∃ h, (s.exc a code tval).core a = Core.trap { s.core a with hpm := h } (BitVec.ofNat 64 code) tval 0 := by
  obtain ⟨h, hcount⟩ := core_count s a 14
  refine ⟨h, ?_⟩
  unfold State.exc
  rw [core_setCore_self, if_pos ha, hcount]

/-- A V-core stops. -/
theorem core_exc_vcore {s : State} {a : Nat} (ha : isScore a = false) (code : Nat) (tval : Word) :
    ∃ h, (s.exc a code tval).core a = Core.stopTrapped { s.core a with hpm := h } code tval := by
  obtain ⟨h, hcount⟩ := core_count s a 14
  refine ⟨h, ?_⟩
  unfold State.exc
  rw [core_setCore_self, if_neg (by simp [ha]), hcount]

/-- An illegal instruction is exception 2 with an open value. -/
theorem illegal_eq (s : State) (a : Nat) : s.illegal a = { s.exc a 2 (Config.freeWord s.free) with free := s.free + 1 } := rfl

theorem core_illegal (s : State) (a b : Nat) : (s.illegal a).core b = (s.exc a 2 (Config.freeWord s.free)).core b := rfl

theorem illegal_frame (s : State) (a : Nat) :
    s.illegal a = { s with cores := (s.illegal a).cores, free := (s.illegal a).free } := by
  obtain ⟨-, hframe⟩ := onlyCore_exc s a 2 (Config.freeWord s.free)
  rw [illegal_eq, hframe]

theorem core_illegal_ne (s : State) {a b : Nat} (hb : b ≠ a) : (s.illegal a).core b = s.core b := by
  obtain ⟨hothers, -⟩ := onlyCore_exc s a 2 (Config.freeWord s.free)
  exact hothers b hb

/-- On an S-core an illegal instruction enters the handler. -/
theorem illegal_score {s : State} {a : Nat} (ha : isScore a = true) :
    ((s.illegal a).core a).csrv 0x341 = (s.core a).pc.toNat ∧ ((s.illegal a).core a).csrv 0x342 = 2 ∧
    ((s.illegal a).core a).pc = BitVec.ofNat 64 ((s.core a).csrv 0x305 / 4 * 4) := by
  obtain ⟨x, hcore⟩ := core_exc_score ha 2 (Config.freeWord s.free) (s := s)
  obtain ⟨hepc, hcause, -⟩ := trap_csrs { s.core a with hpm := x } (BitVec.ofNat 64 2) (Config.freeWord s.free) 0
  have hpc := trap_pc { s.core a with hpm := x } (BitVec.ofNat 64 2) (Config.freeWord s.free) (.inl rfl) (vec := 0)
  rw [core_illegal, hcore]
  exact ⟨hepc, hcause, hpc⟩

/-- On a V-core an illegal instruction stops the core. -/
theorem illegal_vcore {s : State} {a : Nat} (ha : isScore a = false) :
    ((s.illegal a).core a).run = false ∧ ((s.illegal a).core a).trapped = true ∧ ((s.illegal a).core a).vcause = 2 ∧
    ((s.illegal a).core a).vepc = (s.core a).pc := by
  obtain ⟨x, hcore⟩ := core_exc_vcore ha 2 (Config.freeWord s.free) (s := s)
  rw [core_illegal, hcore]
  exact ⟨rfl, rfl, rfl, rfl⟩

/-- An illegal instruction leaves tlk_class. -/
theorem illegal_cls (s : State) (a : Nat) : ((s.illegal a).core a).cls = (s.core a).cls := by
  rw [core_illegal]
  cases ha : isScore a with
  | true =>
    obtain ⟨x, hcore⟩ := core_exc_score ha 2 (Config.freeWord s.free) (s := s)
    rw [hcore]
    rfl
  | false =>
    obtain ⟨x, hcore⟩ := core_exc_vcore ha 2 (Config.freeWord s.free) (s := s)
    rw [hcore]
    rfl

/-- A command that ends in an illegal instruction completes. -/
theorem does_illegal {c : Instr} {s : State} {a : Nat} {P : State → Prop} (hexec : exec c s = done s (s.illegal a))
    (hp : P (s.illegal a)) : Does c s P := by
  refine does_of_done hexec ?_ hp
  unfold Leaves
  rw [illegal_frame]

end Sys2Proof.Machine

/-!
PROOF. O14: the machine timer, WFI and the entry of an interrupt of an S-core (R43, R49, R466).
-/

namespace Sys2Proof.Machine

section Score
variable {s : State} {a : Nat}

theorem exec_machineTimer (ha : a < 384) (hscore : isScore a = true) : exec (.machineTimer a) s =
    done s (s.setCore a { s.core a with mtip := decide ((s.core a).mtimecmp.toNat ≤ s.now / 64) }) :=
  (within_of_lt ha).trans (congrArg (done s) (if_pos hscore))

theorem exec_wfi (h : Ready s a) (hscore : isScore a = true) (hmode : (s.core a).umode = false) : exec (.wfi a) s =
    done s (if (s.irqOf a).isSome then s.retire a else s.setCore a { s.core a with wait := .wfi }) := by
  refine (within_of_lt h.1).trans (congrArg (done s) ((onCore_of_ready h).trans (if_neg ?_)))
  simp [hscore, hmode]

theorem exec_scoreInterrupt {n : Nat} (h : Ready s a) (hscore : isScore a = true) (htaken : s.irqTaken a = true)
    (hirq : s.irqOf a = some n) : exec (.scoreInterrupt a) s =
    done s (s.setCore a ((s.core a).trap (BitVec.ofNat 64 (2 ^ 63 + n)) 0 n)) := by
  obtain ⟨hpresent, hrun, hfence⟩ := ready_runs h
  refine (within_of_lt h.1).trans (congrArg (done s) ?_)
  simp [hscore, hpresent, hrun, hfence, htaken, hirq, ready_midway h, ready_endWait h]

end Score

/-- Settles O14, clause by clause: the timer, WFI without and with an interrupt, and the entry. -/
theorem scoreInterruptEntry : Obligations.ScoreInterruptEntry := by
  unfold Obligations.ScoreInterruptEntry
  intro s a n
  refine ⟨fun ha hscore => ?timer, fun h hscore hmode hirq => ?waits, fun h hscore hmode hirq => ?retires,
    fun h hscore htaken hirq hdirect => ?entry⟩
  case timer =>
    refine does_of_onlyCore (exec_machineTimer ha hscore) (onlyCore_setCore s a _) ⟨core_setCore_self s a _, ?_⟩
    exact onlyCore_setCore s a _
  case waits =>
    have hexec := exec_wfi h hscore hmode
    rw [hirq] at hexec
    exact does_of_onlyCore hexec (onlyCore_setCore s a _) ⟨core_setCore_self s a _, rfl⟩
  case retires =>
    have hexec := exec_wfi h hscore hmode
    rw [hirq, if_pos Option.isSome_some, ready_retire h] at hexec
    exact does_of_onlyCore hexec (onlyCore_setCore s a _) ⟨core_setCore_self s a _, rfl⟩
  case entry =>
    obtain ⟨hepc, hcause, htval⟩ := trap_csrs (s.core a) (BitVec.ofNat 64 (2 ^ 63 + n)) 0 n
    have hpc := trap_pc (s.core a) (BitVec.ofNat 64 (2 ^ 63 + n)) 0 (.inr hdirect) (vec := n)
    rw [Nat.div_mul_cancel (Nat.dvd_of_mod_eq_zero hdirect)] at hpc
    refine does_of_onlyCore (exec_scoreInterrupt h hscore htaken hirq) (onlyCore_setCore s a _) ?_
    rw [core_setCore_self]
    rw [BitVec.toNat_ofNat] at hcause
    exact ⟨hepc, hcause, htval, hpc, rfl, rfl, onlyCore_setCore s a _⟩

end Sys2Proof.Machine

/-!
PROOF. O13: an S-core runs and stops its V-cores, and an exception stops a V-core (R43, R44).
-/

namespace Sys2Proof.Machine

/-- A V-core is none of the S-cores. -/
theorem supervised_ne {a : Nat} (ha : isScore a = true) (sel : Bool) : supervised a sel ≠ a := by
  have hlt : a % 12 < 4 := of_decide_eq_true ha
  unfold supervised b2n
  split <;> omega

/-- A machine-mode CSR write of an S-core takes effect, and the core retires. -/
theorem mWriteCsr_of_ready {s : State} {a : Nat} (h : Ready s a) (hscore : isScore a = true) (hmode : (s.core a).umode = false)
    (f : State → State) : s.mWriteCsr a f = (f s).retire a :=
  (onCore_of_ready h).trans (if_neg (by simp [hscore, hmode]))

section Supervision
variable {s : State} {a : Nat}

/-- Setting a V-core and retiring the S-core changes these two cores only. -/
theorem setCore_retire {w : Nat} (h : Ready s a) (hne : w ≠ a) (x : Core) :
    let t := (s.setCore w x).retire a
    t.core w = x ∧ t.core a = { s.core a with pc := (s.core a).pc + 4 } ∧ (∀ j, j ≠ a → j ≠ w → t.core j = s.core j) ∧
      t = { s with cores := t.cores } := by
  have hcore : (s.setCore w x).core a = s.core a := by rw [core_setCore, if_neg hne.symm]
  have hretire : (s.setCore w x).retire a = (s.setCore w x).setCore a { s.core a with pc := (s.core a).pc + 4 } := by
    rw [State.retire, hcore, retire_running (ready_wait h) (ready_stopping h)]
  rw [hretire]
  refine ⟨?_, core_setCore_self _ a _, fun j hja hjw => ?_, rfl⟩
  · rw [core_setCore, if_neg hne, core_setCore_self]
  · rw [core_setCore, if_neg hja, core_setCore, if_neg hjw]

theorem exec_vcoreRun (h : Ready s a) (hscore : isScore a = true) (hmode : (s.core a).umode = false) :
    exec (.vcoreRun a) s = done s ((s.vRun (s.vsel a)).retire a) :=
  (within_of_lt h.1).trans (congrArg (done s) (mWriteCsr_of_ready h hscore hmode _))

theorem exec_vcoreStop (h : Ready s a) (hscore : isScore a = true) (hmode : (s.core a).umode = false) :
    exec (.vcoreStop a) s = done s ((s.vStop (s.vsel a)).retire a) :=
  (within_of_lt h.1).trans (congrArg (done s) (mWriteCsr_of_ready h hscore hmode _))

theorem exec_vcoreTrap (h : Ready s a) (hv : isScore a = false) (code : Nat) (tval : Word) :
    exec (.vcoreTrap a code tval) s = done s (s.exc a code tval) :=
  (within_of_lt h.1).trans (congrArg (done s) ((if_neg (by simp [hv])).trans (onCore_of_ready h)))

/-- A stopped V-core starts at tlk_vepc. -/
theorem vRun_stopped {w : Nat} (hpresent : s.corePresent w = true) (hfence : s.coreFenced w = false) (hrun : (s.core w).run = false) :
    s.vRun w = s.setCore w { s.core w with run := true, trapped := false, pc := (s.core w).vepc } := by
  simp [State.vRun, hpresent, hfence, hrun]

/-- A V-core that is stopped already stays as it is. -/
theorem vHalt_stopped {w : Nat} (hrun : (s.core w).run = false) : s.vHalt w = s := by
  simp [State.vHalt, hrun]

/-- A running V-core that waits for nothing stops at its pc. -/
theorem vStop_running {w : Nat} (hrun : (s.core w).run = true) (hwait : (s.core w).wait = .none) :
    s.vStop w = s.setCore w { s.core w with run := false, stopping := false, vepc := (s.core w).pc } := by
  simp [State.vStop, State.vHalt, State.midway, State.endWait, hrun, hwait]

end Supervision

/-- Settles O13, clause by clause. -/
theorem vcoreSupervision : Obligations.VcoreSupervision := by
  unfold Obligations.VcoreSupervision
  intro s a b code tval w
  refine ⟨fun h hscore hmode hpresent hfence hrun => ?run, fun h hscore hmode hrun hwait => ?stop, fun h hv => ?trap⟩
  case run =>
    have hexec := exec_vcoreRun h hscore hmode
    rw [vRun_stopped hpresent hfence hrun] at hexec
    have hkept := setCore_retire (w := w) h (supervised_ne hscore _) { s.core w with run := true, trapped := false, pc := (s.core w).vepc }
    exact does_of_done hexec rfl hkept
  case stop =>
    have hexec := exec_vcoreStop h hscore hmode
    rw [vStop_running hrun hwait] at hexec
    have hkept := setCore_retire (w := w) h (supervised_ne hscore _) { s.core w with run := false, stopping := false, vepc := (s.core w).pc }
    exact does_of_done hexec rfl hkept
  case trap =>
    obtain ⟨x, hcore⟩ := core_exc_vcore hv code tval (s := s)
    refine does_of_onlyCore (exec_vcoreTrap h hv code tval) (onlyCore_exc s b code tval) ?_
    rw [hcore]
    exact ⟨rfl, rfl, rfl, rfl, rfl, rfl, onlyCore_exc s b code tval⟩

end Sys2Proof.Machine

/-!
PROOF. O12: the timebase, the distance table, the fence of pump commands, the exit of a task and tlk_class (R57, R58, R59, R60, R307).
-/

namespace Sys2Proof.Machine

section Control
variable {s : State} {a : Nat}

theorem exec_tlkTime (h : Ready s a) (rd : Nat) : exec (.tlkTime a rd) s = done s (s.ret a rd (BitVec.ofNat 64 s.now)) :=
  (within_of_lt h.1).trans (congrArg (done s) (onCore_of_ready h))

theorem exec_tlkDtr {rs1 : Nat} (h : Ready s a) (rd : Nat) (halign : ((s.core a).x rs1).toNat % 8 = 0)
    (hrange : ((s.core a).x rs1).toNat < 2 ^ 15) :
    exec (.tlkDtr a rd rs1) s = done s (s.ret a rd (s.dtWord (((s.core a).x rs1).toNat / 8))) :=
  (within_of_lt h.1).trans (congrArg (done s) ((onCore_of_ready h).trans (if_neg (by omega))))

theorem exec_tlkPfence (h : Ready s a) (rd rs1 : Nat) :
    exec (.tlkPfence a rd rs1) s = done s (s.pfence a ((s.core a).x rs1).toNat rd) :=
  (within_of_lt h.1).trans (congrArg (done s) (onCore_of_ready h))

/-- Without an outstanding command or a status kept, a fence answers 0. -/
theorem pfence_idle (h : Ready s a) {v : Nat} (rd : Nat) (hout : (s.core a).outst.any (fenced v) = false)
    (hstat : (s.core a).stat = []) : s.pfence a v rd = (s.setCore a (s.core a)).ret a rd 0 := by
  have hcore : ({ s.core a with stat := [], wait := .none } : Core) = s.core a := by
    rw [← hstat, ← ready_wait h]
  unfold State.pfence
  simp [hout, hstat, hcore]

/-- With a fenced command outstanding the core waits. -/
theorem pfence_waits {v : Nat} (rd : Nat) (hout : (s.core a).outst.any (fenced v) = true) :
    s.pfence a v rd = s.setCore a { s.core a with wait := .pfence v rd } := by
  unfold State.pfence
  simp only [hout, if_true]

/-- The exit of an S-core that runs no task and whose V-cores are stopped. -/
theorem exec_tlkExit {rs1 : Nat} (h : Ready s a) (hscore : isScore a = true) (hmode : (s.core a).umode = false)
    (htask : s.taskOf (tileOf a) = none) (hv0 : (s.core (supervised a false)).run = false)
    (hv1 : (s.core (supervised a true)).run = false) : exec (.tlkExit a rs1) s = done s (s.setCore a
      { s.core a with pc := (s.core a).pc + 4, run := false, exit := some (((s.core a).x rs1).toNat % 2 ^ 32) }) := by
  have hnone (x : Core) : (s.setCore a x).taskOf (tileOf a) = none := htask
  refine (within_of_lt h.1).trans (congrArg (done s) ((onCore_of_ready h).trans ?_))
  simp [hscore, hmode, vHalt_stopped hv0, vHalt_stopped hv1, hnone, retire_running (ready_wait h) (ready_stopping h)]

theorem exec_tlkClassWrite (h : Ready s a) (v : Word) : exec (.tlkClassWrite a v) s = done s (s.writeClass a v.toNat) :=
  (within_of_lt h.1).trans (congrArg (done s) (onCore_of_ready h))

/-- A class that the task of the tile has, or any but 15 outside a task, is taken. -/
theorem writeClass_allowed {v : Nat} (h : Ready s a) (hmask : ((s.taskOf (tileOf a)).all fun k => bit k.classMask (v % 16)) = true)
    (hclass : v % 16 ≠ 15) :
    s.writeClass a v = (s.setCore a { s.core a with cls := v % 16 }).setCore a
      { s.core a with cls := v % 16, pc := (s.core a).pc + 4 } := by
  have hretire : Core.retire { s.core a with cls := v % 16 } = { s.core a with cls := v % 16, pc := (s.core a).pc + 4 } :=
    retire_running (c := { s.core a with cls := v % 16 }) (ready_wait h) (ready_stopping h)
  unfold State.writeClass State.retire
  cases htask : s.taskOf (tileOf a) with
  | none => simp [hclass, hretire]
  | some k =>
    rw [htask] at hmask
    simp [hclass, hretire, show bit k.classMask (v % 16) = true from hmask]

/-- A class that the task of the tile has not is illegal. -/
theorem writeClass_refused {v : Nat} {k : Task} (htask : s.taskOf (tileOf a) = some k) (hmask : bit k.classMask (v % 16) = false) :
    s.writeClass a v = s.illegal a := by
  unfold State.writeClass
  simp [htask, hmask]

end Control

/-- Settles O12, clause by clause: TIME, DTR, PFENCE without and with an outstanding command, EXIT, and a class that may and may not be
set. -/
theorem coreControlInstructions : Obligations.CoreControlInstructions := by
  unfold Obligations.CoreControlInstructions
  intro s a rd rs1 v h x wrote
  have hwrote (w : Word) : wrote w (s.ret a rd w) := by
    rw [ready_ret h]
    exact ⟨core_setCore_self s a _, onlyCore_setCore s a _⟩
  refine ⟨?time, fun halign hrange => ?dtr, fun hout hstat => ?fence, fun hout => ?fenceWaits,
    fun hscore hmode htask hv0 hv1 => ?exit, fun hmask hclass => ?allowed, fun k htask hmask => ?illegal⟩
  case time => exact does_of_onlyCore (exec_tlkTime h rd) (onlyCore_ret s a rd _) (hwrote _)
  case dtr => exact does_of_onlyCore (exec_tlkDtr h rd halign hrange) (onlyCore_ret s a rd _) (hwrote _)
  case fence =>
    have hexec := exec_tlkPfence h rd rs1
    rw [pfence_idle h rd hout hstat] at hexec
    have honly := (onlyCore_setCore s a (s.core a)).trans (onlyCore_ret _ a rd 0)
    refine does_of_onlyCore hexec honly ⟨?_, honly⟩
    have hreads : ((s.setCore a (s.core a)).ret a rd 0).core a = (s.ret a rd 0).core a := by
      simp only [State.ret, core_setCore_self]
    obtain ⟨hcore, -⟩ := hwrote 0
    exact hreads.trans hcore
  case fenceWaits =>
    have hexec := exec_tlkPfence h rd rs1
    rw [pfence_waits rd hout] at hexec
    exact does_of_onlyCore hexec (onlyCore_setCore s a _) ⟨core_setCore_self s a _, rfl⟩
  case exit =>
    exact does_of_onlyCore (exec_tlkExit h hscore hmode htask hv0 hv1) (onlyCore_setCore s a _)
      ⟨core_setCore_self s a _, onlyCore_setCore s a _⟩
  case allowed =>
    have hexec := exec_tlkClassWrite h v
    rw [writeClass_allowed h hmask hclass] at hexec
    have honly := (onlyCore_setCore s a { s.core a with cls := v.toNat % 16 }).trans (onlyCore_setCore _ a
      { s.core a with cls := v.toNat % 16, pc := (s.core a).pc + 4 })
    exact does_of_onlyCore hexec honly ⟨core_setCore_self _ a _, honly⟩
  case illegal =>
    have hexec := exec_tlkClassWrite h v
    rw [writeClass_refused htask hmask] at hexec
    exact does_illegal hexec ⟨illegal_cls s a, fun b hb => core_illegal_ne s hb, illegal_score, illegal_vcore, illegal_frame s a⟩

end Sys2Proof.Machine

/-!
PROOF. O10 and O11: the sync-cell instructions on a local cell (R52, R53, R295, R298) and the trigger slots of an S-core (R54).
-/

namespace Sys2Proof.Machine

/-! ### The operations of a cell without errors (R294, R295, R298) -/

/-- From `s` to `t` the sync units, the armed flips, the cores and the vane network may change, and nothing else. -/
abbrev CellFrame (s t : State) : Prop :=
  t = { s with sync := t.sync, svc := t.svc, cores := t.cores, vane := t.vane }

theorem CellFrame.trans {s t u : State} (h1 : CellFrame s t) (h2 : CellFrame t u) : CellFrame s u := by
  unfold CellFrame at *
  rw [h1] at h2
  exact h2

theorem CellFrame.leaves {s t : State} (h : CellFrame s t) : Leaves s t t := by
  unfold Leaves
  rw [h]

theorem OnlyCore.cellFrame {a : Nat} {s t : State} (h : OnlyCore a s t) : CellFrame s t := by
  unfold CellFrame
  rw [h.2]

/-- A wait compares with the bound that it was registered with. -/
theorem waitHolds_ge (v b : Word) : waitHolds 0 b.toNat v = decide ((v - b).toNat < 2 ^ 63) := by
  simp [waitHolds, ge64]

theorem waitHolds_arm (v b : Word) : waitHolds 4 b.toNat v = decide ((v - b).toNat < 2 ^ 63) := by
  simp [waitHolds, ge64]

theorem waitHolds_eq (v b : Word) : waitHolds 1 b.toNat v = (v == b) := by
  simp [waitHolds]

/-- Evaluating the waiters of a cell changes the waiters only. -/
theorem evalCell_frame (s : State) (i : Nat) (v : Word) : ∃ x y, s.evalCell i v = { s with sync.table := x, sync.wakes := y } :=
  ⟨_, _, rfl⟩

@[simp] theorem cell_evalCell (s : State) (i j : Nat) (v : Word) : (s.evalCell i v).cell j = s.cell j := rfl

/-- Storing a value changes the cell, its errors, the waiters and an armed flip. -/
theorem putCell_frame (s : State) (i : Nat) (v : Word) : ∃ x y z w, s.putCell i v =
    { s with
      sync := { s.sync with cells := tset (fun _ => (0 : Word)) s.sync.cells i v, errs := x, table := y, wakes := z }
      svc.flips := w } := by
  unfold State.putCell
  dsimp only
  split <;> exact ⟨_, _, _, _, rfl⟩

theorem cell_putCell (s : State) (i j : Nat) (v : Word) : (s.putCell i v).cell j = if j = i then v else s.cell j := by
  obtain ⟨x, y, z, w, hput⟩ := putCell_frame s i v
  unfold State.cell
  rw [hput]
  by_cases h : j = i
  · subst h
    simp
  · simp [tget_tset_ne, h]

theorem core_putCell (s : State) (i b : Nat) (v : Word) : (s.putCell i v).core b = s.core b := by
  obtain ⟨x, y, z, w, hput⟩ := putCell_frame s i v
  rw [hput]
  rfl

theorem cellFrame_putCell (s : State) (i : Nat) (v : Word) : CellFrame s (s.putCell i v) := by
  obtain ⟨x, y, z, w, hput⟩ := putCell_frame s i v
  rw [hput]

/-- Entering a waiter changes the table of waiters and the record of its greatest length. -/
theorem tableWait_frame (s : State) (e : WaitEnt) : ∃ x, s.tableWait e =
    { s with sync.table := s.sync.table ++ [e], sync.regions := x } :=
  ⟨_, rfl⟩

/-- A cell without errors is read as it stands. -/
theorem readCell_noError {s : State} {i : Nat} (src : Nat) (h : s.cellErr i = {}) : s.readCell i src = (s, some (s.cell i)) := by
  simp [State.readCell, h]

section Sound
variable {s : State} {i : Nat} (h : SoundCell s i)
include h

theorem cellAdd_sound (x : Word) (src : Nat) : s.cellAdd i x src = (s.putCell i (s.cell i + x), some (s.cell i)) := by
  simp [State.cellAdd, readCell_noError _ h.2.1]

theorem cellCas_sound (e n : Word) (src : Nat) : s.cellCas i e n src =
    (if s.cell i = e then s.putCell i n else s.evalCell i (s.cell i), some (s.cell i)) := by
  simp [State.cellCas, readCell_noError _ h.2.1]

/-- A wait whose condition holds ends at once. -/
theorem register_holds {e : WaitEnt} (src : Nat) (he : e.cell = i) (hholds : waitHolds e.kind e.bound (s.cell i) = true) :
    s.register e src = (s, .now (s.cell i)) := by
  subst he
  simp [State.register, readCell_noError _ h.2.1, hholds]

/-- Another enters the table when it has room and none queues before it. -/
theorem register_waits {e : WaitEnt} (src : Nat) (he : e.cell = i) (hholds : waitHolds e.kind e.bound (s.cell i) = false)
    (hroom : s.waitUsed (i / 2048) < 1024) (hqueue : s.sync.queued.any (fun x => x.cell / 2048 == i / 2048) = false) :
    s.register e src = (s.tableWait e, .waits) := by
  subst he
  simp [State.register, State.enterWait, readCell_noError _ h.2.1, hholds, hroom, hqueue]

end Sound

/-! ### The end of a sync-cell instruction (R52, R53) -/

theorem onlyCore_cellRet (s : State) (a rd : Nat) (v : Word) : OnlyCore a s (s.cellRet a rd v) :=
  (onlyCore_count s a 9).trans (onlyCore_ret _ a rd v)

/-- The core after a sync-cell instruction: it has retired, and one of its counters may have moved. -/
theorem core_cellRet (s : State) (a rd : Nat) (v : Word) :
    ∃ x, (s.cellRet a rd v).core a = (Core.setX { s.core a with hpm := x } rd v).retire := by
  obtain ⟨x, hcount⟩ := core_count s a 9
  refine ⟨x, ?_⟩
  unfold State.cellRet State.ret
  rw [core_setCore_self, hcount]

theorem retired_cellRet (s : State) (a rd : Nat) (v : Word) : Retired (s.core a) ((s.cellRet a rd v).core a) rd v := by
  obtain ⟨x, hcount⟩ := core_count s a 9
  have hretired := retired_ret (s.count a 9) a rd v
  exact hretired.of_regs (by rw [hcount]) (by rw [hcount]) (by rw [hcount])

/-- The cell operation worked out `u` from `s` and touched no core: with the instruction retired, its cells are those of `u` and the
other cores those of `s`. -/
theorem cellRet_after {s u : State} (hcores : ∀ b, u.core b = s.core b) (hframe : CellFrame s u) (a rd : Nat) (v : Word) :
    (∀ j, (u.cellRet a rd v).cell j = u.cell j) ∧ (u.cellRet a rd v).sync = u.sync ∧ (u.cellRet a rd v).vane = u.vane ∧
    Retired (s.core a) ((u.cellRet a rd v).core a) rd v ∧ (∀ b, b ≠ a → (u.cellRet a rd v).core b = s.core b) ∧
    CellFrame s (u.cellRet a rd v) := by
  have honly := onlyCore_cellRet u a rd v
  have hsync : (u.cellRet a rd v).sync = u.sync := by rw [honly.2]
  have hvane : (u.cellRet a rd v).vane = u.vane := by rw [honly.2]
  have hretired := retired_cellRet u a rd v
  rw [hcores a] at hretired
  refine ⟨fun j => ?_, hsync, hvane, hretired, fun b hb => (honly.1 b hb).trans (hcores b), hframe.trans honly.cellFrame⟩
  unfold State.cell
  rw [hsync]

/-! ### The instructions -/

section OnCell
variable {s : State} {a rs1 i : Nat} (h : OnCell s a rs1 i)
include h

/-- An instruction that names a sound cell of its own partition performs its operation on it. -/
theorem cellInstr_onCell (f : Nat → State → State) (g : Nat → Nat → State → State) : s.cellInstr a rs1 f g = f i s := by
  obtain ⟨hready, href, hmine, -, -, hreset⟩ := h
  refine (onCore_of_ready hready).trans ?_
  simp [href, hmine, hreset]

theorem exec_tlkSset (rs2 : Nat) : exec (.tlkSset a rs1 rs2) s =
    done s ((s.putCell i ((s.core a).x rs2)).cellRet a 0 0) :=
  (within_of_lt h.1.1).trans (congrArg (done s) (cellInstr_onCell h _ _))

theorem exec_tlkSadd {rd : Nat} {aq : Bool} (hrd : rd ≠ 0 ∨ aq = true) (rs2 : Nat) (rl : Bool) :
    exec (.tlkSadd a rd rs1 rs2 aq rl) s = done s ((s.putCell i (s.cell i + (s.core a).x rs2)).cellRet a rd (s.cell i)) := by
  refine (within_of_lt h.1.1).trans (congrArg (done s) ((cellInstr_onCell h _ _).trans ((if_neg ?_).trans ?_)))
  · rintro ⟨rfl, haq⟩
    simp_all
  · simp only [cellAdd_sound h.2.2.2]

theorem exec_tlkSadd_posted (rs2 : Nat) (rl : Bool) : exec (.tlkSadd a 0 rs1 rs2 false rl) s =
    done s ((s.postAdd (s.coreNode a) i ((s.core a).x rs2) (some a)).cellRet a 0 0) :=
  (within_of_lt h.1.1).trans (congrArg (done s) ((cellInstr_onCell h _ _).trans (if_pos ⟨rfl, rfl⟩)))

theorem exec_tlkScas (rd rs2 rs3 : Nat) : exec (.tlkScas a rd rs1 rs2 rs3) s =
    done s ((if s.cell i = (s.core a).x rs2 then s.putCell i ((s.core a).x rs3) else s.evalCell i (s.cell i)).cellRet a rd
      (s.cell i)) := by
  refine (within_of_lt h.1.1).trans (congrArg (done s) ((cellInstr_onCell h _ _).trans ?_))
  simp only [cellCas_sound h.2.2.2]

/-- The wait of a core on the cell ends at once when its condition holds, and otherwise the core waits. -/
theorem coreWait_holds {rs2 kind : Nat} (rd : Nat) (hholds : waitHolds kind ((s.core a).x rs2).toNat (s.cell i) = true) :
    s.coreWait a rd rs1 rs2 kind i = s.cellRet a rd (s.cell i) := by
  unfold State.coreWait
  rw [register_holds h.2.2.2 _ rfl hholds]

theorem coreWait_waits {rs2 kind : Nat} (rd : Nat) (hholds : waitHolds kind ((s.core a).x rs2).toNat (s.cell i) = false)
    (hroom : s.waitUsed (i / 2048) < 1024) (hqueue : s.sync.queued.any (fun x => x.cell / 2048 == i / 2048) = false) :
    s.coreWait a rd rs1 rs2 kind i = (s.tableWait ⟨i, kind, ((s.core a).x rs2).toNat, .core a rd⟩).setCore a
      { s.core a with wait := .cell i rd } := by
  unfold State.coreWait
  rw [register_waits h.2.2.2 _ rfl hholds hroom hqueue]
  rfl

theorem exec_tlkSwge (rd rs2 : Nat) : exec (.tlkSwge a rd rs1 rs2) s = done s (s.coreWait a rd rs1 rs2 0 i) :=
  (within_of_lt h.1.1).trans (congrArg (done s) (cellInstr_onCell h _ _))

theorem exec_tlkSweq (rd rs2 : Nat) : exec (.tlkSweq a rd rs1 rs2) s = done s (s.coreWait a rd rs1 rs2 1 i) :=
  (within_of_lt h.1.1).trans (congrArg (done s) (cellInstr_onCell h _ _))

end OnCell

/-- Settles O10: the instructions that end with the cell's operation, and the two that wait. -/
theorem syncInstructionsOnLocalCells : Obligations.SyncInstructionsOnLocalCells := by
  unfold Obligations.SyncInstructionsOnLocalCells
  intro s a i rd rs1 rs2 rs3 aq rl h x y v retired only waits ge room
  have put (w u : Word) (rd : Nat) (c : Instr) (hexec : exec c s = done s ((s.putCell i w).cellRet a rd u)) :
      Does c s fun t => t.cell i = w ∧ retired rd u t ∧ only t := by
    obtain ⟨hcell, -, -, hretired, hcores, hframe⟩ := cellRet_after (core_putCell s i · w) (cellFrame_putCell s i w) a rd u
    refine does_of_done hexec hframe.leaves ⟨?_, hretired, fun j hj => ?_, hcores, hframe⟩
    · rw [hcell, cell_putCell, if_pos rfl]
    · rw [hcell, cell_putCell, if_neg hj]
  have met (kind : Nat) (c : Instr) (hexec : exec c s = done s (s.coreWait a rd rs1 rs2 kind i))
      (hholds : waitHolds kind x.toNat v = true) : Does c s fun t => t.sync = s.sync ∧ retired rd v t ∧ only t := by
    rw [coreWait_holds h rd hholds] at hexec
    obtain ⟨hcell, hsync, -, hretired, hcores, hframe⟩ := cellRet_after (s := s) (fun _ => rfl) rfl a rd v
    exact does_of_done hexec hframe.leaves ⟨hsync, hretired, fun j _ => hcell j, hcores, hframe⟩
  have unmet (kind : Nat) (c : Instr) (hexec : exec c s = done s (s.coreWait a rd rs1 rs2 kind i))
      (hholds : waitHolds kind x.toNat v = false) (hroom : room) : Does c s (waits kind) := by
    rw [coreWait_waits h rd hholds hroom.1 hroom.2] at hexec
    refine does_of_done hexec rfl ⟨?_, ?_, rfl, rfl, fun j _ => rfl, fun b hb => ?_, rfl⟩
    · rw [core_setCore_self]
    · rw [core_setCore_self]
    · rw [core_setCore, if_neg hb]
      rfl
  refine ⟨?sset, fun hrd => ?sadd, ?posted, ?scas, fun hge => ?swge, fun hge hroom => ?swgeWaits, fun heq => ?sweq,
    fun hne hroom => ?sweqWaits⟩
  case sset => exact put x 0 0 _ (exec_tlkSset h rs2)
  case sadd => exact put (v + x) v rd _ (exec_tlkSadd h hrd rs2 rl)
  case posted =>
    obtain ⟨hcell, hsync, hvane, hretired, hcores, hframe⟩ := cellRet_after (s := s)
      (u := s.postAdd (s.coreNode a) i x (some a)) (fun _ => rfl) rfl a 0 0
    refine does_of_done (exec_tlkSadd_posted h rs2 rl) hframe.leaves
      ⟨hsync, hretired, ⟨fun j _ => hcell j, hcores, hframe⟩, _, congrArg Vane.held hvane⟩
  case scas =>
    have hexec := exec_tlkScas h rd rs2 rs3
    by_cases hv : v = x
    · rw [if_pos hv] at hexec
      rw [if_pos hv]
      exact put y v rd _ hexec
    · rw [if_neg hv] at hexec
      rw [if_neg hv]
      obtain ⟨hcell, -, -, hretired, hcores, hframe⟩ := cellRet_after (s := s) (u := s.evalCell i v) (fun _ => rfl) rfl a rd v
      exact does_of_done hexec hframe.leaves ⟨hcell i, hretired, fun j _ => hcell j, hcores, hframe⟩
  case swge => exact met 0 _ (exec_tlkSwge h rd rs2) ((waitHolds_ge v x).trans hge)
  case swgeWaits => exact unmet 0 _ (exec_tlkSwge h rd rs2) ((waitHolds_ge v x).trans hge) hroom
  case sweq => exact met 1 _ (exec_tlkSweq h rd rs2) ((waitHolds_eq v x).trans (beq_iff_eq.2 heq))
  case sweqWaits => exact unmet 1 _ (exec_tlkSweq h rd rs2) ((waitHolds_eq v x).trans (beq_eq_false_iff_ne.2 hne)) hroom

/-! ### Trigger slots (R54) -/

/-- A slot that fires is free, and its bit of tlk_syncpend is set. -/
theorem core_fireSlot (s : State) (a n : Nat) : (s.fireSlot a n).core a = { s.core a with
    slots := tset (fun _ => none) (s.core a).slots n none
    syncpend := (s.core a).syncpend ||| BitVec.ofNat 8 (2 ^ n) } := by
  unfold State.fireSlot State.setSlot
  simp only [core_setCore_self]

/-- A slot that is set. -/
theorem core_setSlot (s : State) (a n : Nat) (x : Option Slot) :
    (s.setSlot a n x).core a = { s.core a with slots := tset (fun _ => none) (s.core a).slots n x } :=
  core_setCore_self s a _

theorem onlyCore_setSlot (s : State) (a n : Nat) (x : Option Slot) : OnlyCore a s (s.setSlot a n x) :=
  onlyCore_setCore s a _

theorem onlyCore_fireSlot (s : State) (a n : Nat) : OnlyCore a s (s.fireSlot a n) :=
  (onlyCore_setCore s a _).trans (onlyCore_setCore _ a _)

/-- What a sync-cell instruction that writes a register leaves of the slots. -/
theorem slots_cellRet (s : State) (a rd : Nat) (v : Word) :
    ((s.cellRet a rd v).core a).slots = (s.core a).slots ∧ ((s.cellRet a rd v).core a).syncpend = (s.core a).syncpend := by
  obtain ⟨x, hcore⟩ := core_cellRet s a rd v
  rw [hcore]
  simp

section Arm
variable {s : State} {a rs1 i : Nat} (h : OnCell s a rs1 i) (hscore : isScore a = true)
include h hscore

theorem exec_tlkSarm_full (rd rs2 : Nat) (hfree : s.freeSlot a = none) :
    exec (.tlkSarm a rd rs1 rs2) s = done s (s.cellRet a rd (BitVec.allOnes 64)) := by
  refine (within_of_lt h.1.1).trans (congrArg (done s) ((if_neg (by simp [hscore])).trans ((cellInstr_onCell h _ _).trans ?_)))
  simp only [hfree]

theorem exec_tlkSarm_fires {n rs2 : Nat} (rd : Nat) (hfree : s.freeSlot a = some n)
    (hholds : waitHolds 4 ((s.core a).x rs2).toNat (s.cell i) = true) :
    exec (.tlkSarm a rd rs1 rs2) s = done s ((s.fireSlot a n).cellRet a rd (BitVec.ofNat 64 n)) := by
  refine (within_of_lt h.1.1).trans (congrArg (done s) ((if_neg (by simp [hscore])).trans ((cellInstr_onCell h _ _).trans ?_)))
  simp only [hfree]
  rw [register_holds h.2.2.2 _ rfl hholds]

theorem exec_tlkSarm_arms {n rs2 : Nat} (rd : Nat) (hfree : s.freeSlot a = some n)
    (hholds : waitHolds 4 ((s.core a).x rs2).toNat (s.cell i) = false) (hroom : s.waitUsed (i / 2048) < 1024)
    (hqueue : s.sync.queued.any (fun x => x.cell / 2048 == i / 2048) = false) :
    exec (.tlkSarm a rd rs1 rs2) s =
      done s (((s.tableWait ⟨i, 4, ((s.core a).x rs2).toNat, .coreArm a n⟩).setSlot a n
        (some ⟨i, ((s.core a).x rs2).toNat⟩)).cellRet a rd (BitVec.ofNat 64 n)) := by
  refine (within_of_lt h.1.1).trans (congrArg (done s) ((if_neg (by simp [hscore])).trans ((cellInstr_onCell h _ _).trans ?_)))
  simp only [hfree]
  rw [register_waits h.2.2.2 _ rfl hholds hroom hqueue]

end Arm

theorem exec_tlkSarm_vcore {s : State} {a : Nat} (h : Ready s a) (hv : isScore a = false) (rd rs1 rs2 : Nat) :
    exec (.tlkSarm a rd rs1 rs2) s = done s (s.illegal a) :=
  (within_of_lt h.1).trans (congrArg (done s) ((if_pos (by simp [hv])).trans (onCore_of_ready h)))

/-- Settles O11: the slot that fires, the slot that is armed, no free slot, and a V-core. -/
theorem triggerSlots : Obligations.TriggerSlots := by
  unfold Obligations.TriggerSlots
  intro s a i rd rs1 rs2 n hrd x ge slot
  have harm : waitHolds 4 x.toNat (s.cell i) = ge := waitHolds_arm _ _
  refine ⟨fun h hscore hfree hge => ?fires, fun h hscore hfree hge hroom hqueue => ?arms, fun h hscore hfree => ?full,
    fun h hv => ?vcore⟩
  case fires =>
    have honly := (onlyCore_fireSlot s a n).trans (onlyCore_cellRet _ a rd (BitVec.ofNat 64 n))
    obtain ⟨hpc, -, hrdv, -⟩ := retired_cellRet (s.fireSlot a n) a rd (BitVec.ofNat 64 n)
    obtain ⟨hslots, hpend⟩ := slots_cellRet (s.fireSlot a n) a rd (BitVec.ofNat 64 n)
    rw [core_fireSlot] at hpc hslots hpend
    refine does_of_onlyCore (exec_tlkSarm_fires h hscore rd hfree (harm.trans hge)) honly
      ⟨hrdv.trans (if_neg hrd), hpc, hpend, ?_, honly.2⟩
    change tget _ _ n = none
    rw [hslots, tget_tset_self]
  case arms =>
    let u := s.tableWait ⟨i, 4, x.toNat, .coreArm a n⟩
    let w := u.setSlot a n (some ⟨i, x.toNat⟩)
    have honly : OnlyCore a u (w.cellRet a rd (BitVec.ofNat 64 n)) :=
      (onlyCore_setSlot u a n _).trans (onlyCore_cellRet w a rd _)
    have hsync : (w.cellRet a rd (BitVec.ofNat 64 n)).sync = u.sync := by rw [honly.2]
    have hframe : w.cellRet a rd (BitVec.ofNat 64 n) = { s with
        cores := (w.cellRet a rd (BitVec.ofNat 64 n)).cores
        sync := (w.cellRet a rd (BitVec.ofNat 64 n)).sync } := by
      rw [hsync]
      exact honly.2
    obtain ⟨hpc, -, hrdv, -⟩ := retired_cellRet w a rd (BitVec.ofNat 64 n)
    obtain ⟨hslots, hpend⟩ := slots_cellRet w a rd (BitVec.ofNat 64 n)
    rw [core_setSlot] at hpc hslots hpend
    refine does_of_done (exec_tlkSarm_arms h hscore rd hfree (harm.trans hge) hroom hqueue) ?_
      ⟨hrdv.trans (if_neg hrd), hpc, hpend, ?_, congrArg Sync.table hsync, hframe⟩
    · unfold Leaves
      rw [hframe]
    · change tget _ _ n = _
      rw [hslots, tget_tset_self]
  case full =>
    have honly := onlyCore_cellRet s a rd (BitVec.allOnes 64)
    obtain ⟨hpc, -, hrdv, -⟩ := retired_cellRet s a rd (BitVec.allOnes 64)
    exact does_of_onlyCore (exec_tlkSarm_full h hscore rd rs2 hfree) honly ⟨hrdv.trans (if_neg hrd), hpc, honly.2⟩
  case vcore =>
    obtain ⟨hrun, htrapped, hcause, hepc⟩ := illegal_vcore hv (s := s)
    exact does_illegal (exec_tlkSarm_vcore h hv rd rs1 rs2) ⟨hrun, htrapped, hcause, hepc, illegal_frame s a⟩

end Sys2Proof.Machine

/-!
PROOF. O15: a cache hit of a core (R41, R206, R207), its uncached access to a sync cell (R42, R52), and a fetch from its own memory
(R468).
-/

namespace Sys2Proof.Machine

/-! ### Numbers and their bytes -/

/-- The low bytes of a number, read back. -/
theorem ofLe_toLe (n v : Nat) : ofLe (toLe n v) = v % 2 ^ (8 * n) := by
  induction n generalizing v with
  | zero => simp [toLe, ofLe, Nat.mod_one]
  | succ n ih =>
    rw [toLe, ofLe, ih, BitVec.toNat_ofNat, show 8 * (n + 1) = 8 + 8 * n by ring, Nat.pow_add, Nat.mod_mul]

/-- A word of 64 bits, stored and loaded whole. -/
theorem ofLe_toLe_word (v : Word) : ofLe (toLe 8 v.toNat) = v.toNat := by
  rw [ofLe_toLe]
  exact Nat.mod_eq_of_lt v.isLt

/-- Loading the 8 bytes of a word gives the word, whatever the sign extension. -/
theorem loadVal_word (signed : Bool) (v : Word) : loadVal 8 signed (toLe 8 v.toNat) = v := by
  have htake : (toLe 8 v.toNat).take 8 = toLe 8 v.toNat := List.take_of_length_le (length_toLe 8 _).le
  unfold loadVal
  rw [htake, ofLe_toLe_word]
  cases signed with
  | false => simp
  | true =>
    have hlt : v.toNat % 2 ^ 64 = v.toNat := Nat.mod_eq_of_lt v.isLt
    have hint : toInt 64 v.toNat = v.toInt := by
      rw [toInt, BitVec.toInt_eq_toNat_cond, hlt]
      split <;> split <;> omega
    change BitVec.ofInt 64 (toInt 64 v.toNat) = v
    rw [hint, BitVec.ofInt_toInt]

/-! ### Entries without errors (R224) -/

section Entry
variable {c : CacheEnt} (h : c.flips = [])
include h

theorem flipsAt_clean (i : Nat) : c.flipsAt i = 0 := by simp [CacheEnt.flipsAt, h]

theorem bad_clean (off n : Nat) : c.bad off n = false := by simp [CacheEnt.bad, flipsAt_clean h]

theorem singles_clean (off n : Nat) : c.singles off n = [] := by simp [CacheEnt.singles, flipsAt_clean h]

theorem fixed_clean (off n : Nat) : c.fixed off n = c := by
  unfold CacheEnt.fixed
  rw [h, List.filter_nil, ← h]

end Entry

/-! ### What a cache hit touches -/

/-- From `s` to `t` the cores and the caches may change, and nothing else. -/
abbrev CacheFrame (s t : State) : Prop := t = { s with cores := t.cores, coh := t.coh }

theorem CacheFrame.trans {s t u : State} (h1 : CacheFrame s t) (h2 : CacheFrame t u) : CacheFrame s u := by
  unfold CacheFrame at *
  rw [h1] at h2
  exact h2

theorem CacheFrame.leaves {s t : State} (h : CacheFrame s t) : Leaves s t t := by
  unfold Leaves
  rw [h]

theorem OnlyCore.cacheFrame {a : Nat} {s t : State} (h : OnlyCore a s t) : CacheFrame s t := by
  unfold CacheFrame
  rw [h.2]

theorem OnlyCore.cent {a : Nat} {s t : State} (h : OnlyCore a s t) (g e : Nat) : t.cent g e = s.cent g e := by
  rw [h.2]
  rfl

theorem OnlyCore.ctl {a : Nat} {s t : State} (h : OnlyCore a s t) (g : Nat) : t.ctl g = s.ctl g := by
  rw [h.2]
  rfl

/-- The entry set reads as set. -/
theorem cent_setCent_self (s : State) (a e : Nat) (x : CacheEnt) : (s.setCent a e x).cent a e = x := by
  simp [State.cent, State.setCent]

/-- A cache that defers no snoop answers none. -/
theorem undefer_none {s : State} {a : Nat} (h : (s.ctl a).deferred = []) : s.undefer a = s.setCtl a { s.ctl a with deferred := [] } := by
  simp [State.undefer, h]

/-- A cache whose prefetcher is off prefetches nothing. -/
theorem prefetch_off {s : State} {a : Nat} (h : (s.ctl a).pfEn = false) (pc x : Nat) : s.prefetch a pc x = s := by
  simp [State.prefetch, h]

theorem tallyCe_zero (s : State) (a e : Nat) : s.tallyCe a e 0 = s := if_pos rfl

/-- Reservations of other cores on the line of a store are over. -/
theorem breakResv_frame (s : State) (x a : Nat) : ∃ y, s.breakResv x a = { s with cores := y } :=
  foldl_frame (·.cores) (fun t y => { t with cores := y }) (fun _ _ => ⟨_, rfl⟩) _ s

/-- The core that stores keeps its own. -/
theorem core_breakResv (s : State) (x a : Nat) : (s.breakResv x a).core a = s.core a := by
  have hfold (l : List Nat) (hl : ∀ g ∈ l, g ≠ a) (t : State) :
      (l.foldl (fun t g => t.setCore g { t.core g with resv := none }) t).core a = t.core a := by
    induction l generalizing t with
    | nil => rfl
    | cons g l ih =>
      rw [List.foldl_cons, ih (fun g hg => hl g (List.mem_cons_of_mem _ hg)), core_setCore,
        if_neg (hl g List.mem_cons_self).symm]
  refine hfold _ (fun g hg => ?_) s
  obtain ⟨-, hg⟩ := List.mem_filter.1 hg
  simp only [Bool.and_eq_true, bne_iff_ne] at hg
  exact hg.1

/-- The state in which a hit performs its access: no access is outstanding, and the hit is counted. -/
@[irreducible] def State.hitStart (s : State) (a e : Nat) : State :=
  let u := s.setCent a e (s.cent a e)
  (u.setCtl a { u.ctl a with acc := none }).count a 2

theorem hitStart_reads (s : State) (a e : Nat) :
    (∃ h, (s.hitStart a e).core a = { s.core a with hpm := h }) ∧ (s.hitStart a e).cent a e = s.cent a e ∧
    (s.hitStart a e).ctl a = { s.ctl a with acc := none } ∧ CacheFrame s (s.hitStart a e) := by
  let u := (s.setCent a e (s.cent a e)).setCtl a { s.ctl a with acc := none }
  have hu : CacheFrame s u := rfl
  have hstart : s.hitStart a e = u.count a 2 := by
    unfold State.hitStart
    rfl
  have honly := onlyCore_count u a 2
  rw [hstart]
  refine ⟨core_count u a 2, ?_, ?_, hu.trans honly.cacheFrame⟩
  · exact (honly.cent a e).trans (cent_setCent_self s a e _)
  · rw [honly.ctl, ctl_setCtl, if_pos rfl]

section Hit
variable {s t : State} {a e : Nat} {q : Acc} {c : CacheEnt} (hc : s.cent a e = c) (hflips : c.flips = [])
  (hacc : (s.ctl a).acc = none)
include hc hflips hacc

/-- An access that stores nothing. -/
theorem hit_reads (hfinish : (s.hitStart a e).finish a q ((c.data.drop (s.loc q.addr % 128)).take q.size) = (t, none)) :
    s.hit a e q = (if q.op.isSome then t.setCent a e { t.cent a e with st := .m } else t).undefer a := by
  subst hc
  have hidle : ((s.setCent a e (s.cent a e)).ctl a).acc.isNone = true := Option.isNone_iff_eq_none.2 hacc
  unfold State.hitStart at hfinish
  unfold State.hit
  simp only [singles_clean hflips, fixed_clean hflips, List.length_nil, ite_self, hidle, if_true, hfinish, tallyCe_zero]

/-- An access that stores bytes makes the entry M. -/
theorem hit_stores {b : Bytes} (hfinish : (s.hitStart a e).finish a q ((c.data.drop (s.loc q.addr % 128)).take q.size) = (t, some b))
    (hflip : (t.breakResv c.line a).armedFlip 2 a = none) :
    s.hit a e q = ((t.breakResv c.line a).setCent a e { c with st := .m, data := putAt c.data (s.loc q.addr % 128) b }).undefer a := by
  subst hc
  have hidle : ((s.setCent a e (s.cent a e)).ctl a).acc.isNone = true := Option.isNone_iff_eq_none.2 hacc
  unfold State.hitStart at hfinish
  unfold State.hit
  simp only [singles_clean hflips, fixed_clean hflips, List.length_nil, ite_self, hidle, if_true, hfinish, hflip, tallyCe_zero, hflips,
    List.filter_nil]

end Hit

/-! ### Hits of a core that executes (R206, R207) -/

section Access
variable {s : State} {a e addr size : Nat} {c : CacheEnt}

/-- The check of an access passes and the cache holds its line: entry `e` of core `a`, without error and without an armed flip, with no
snoop deferred and no prefetcher on. -/
structure Holds (s : State) (a e addr : Nat) (c : CacheEnt) : Prop where
  place : s.cacheable addr = true
  enable : (s.ctl a).enable = true
  ent : s.findEnt a (s.loc addr / 128) = some e
  cent : s.cent a e = c
  flips : c.flips = []
  deferred : (s.ctl a).deferred = []
  pfEn : (s.ctl a).pfEn = false
  armed : s.armedFlip 2 a = none

theorem ready_acc (h : Ready s a) : (s.ctl a).acc = none ∧ (s.ctl a).maint.isEmpty = true := by
  have hr := h.2
  simp only [State.coreReady, Bool.and_eq_true, Option.isNone_iff_eq_none] at hr
  tauto

/-- A held line in a state that suffices is hit. -/
theorem access_hit (h : Ready s a) (hold : Holds s a e addr c) {q : Acc} (hq : q.addr = addr)
    (hst : c.st = .m ∨ c.st = .e ∨ q.op = none ∧ (c.st = .f ∨ c.st = .s)) : s.access a q = s.hit a e q := by
  obtain ⟨-, hmaint⟩ := ready_acc h
  have hbad := bad_clean hold.flips (s.loc addr % 128) q.size
  unfold State.access
  simp only [hq, hmaint, hold.enable, hold.ent, hold.cent, hbad]
  obtain hst | hst | ⟨hop, hst | hst⟩ := hst
  · simp [hst]
  · simp [hst]
  · simp [hst, hop]
  · simp [hst, hop]

theorem hitStart_loc (s : State) (a e x : Nat) : (s.hitStart a e).loc x = s.loc x := by
  obtain ⟨-, -, -, hframe⟩ := hitStart_reads s a e
  rw [hframe]
  rfl

/-- The core in which a hit performs its access differs from the core before in its counters only. -/
theorem hitStart_retired {d : Core} {rd : Nat} {w : Word} (h : Retired ((s.hitStart a e).core a) d rd w) : Retired (s.core a) d rd w := by
  obtain ⟨⟨x, hcore⟩, -, -, -⟩ := hitStart_reads s a e
  exact h.of_regs (by rw [hcore]) (by rw [hcore]) (by rw [hcore])

/-- Answering the deferred snoops of a cache that has none. -/
theorem undefer_reads (hdef : (s.ctl a).deferred = []) : (∀ b, (s.undefer a).core b = s.core b) ∧
    (s.undefer a).cent a e = s.cent a e ∧ ((s.undefer a).ctl a).pfEn = (s.ctl a).pfEn ∧ CacheFrame s (s.undefer a) := by
  rw [undefer_none hdef]
  refine ⟨fun _ => rfl, rfl, ?_, rfl⟩
  rw [ctl_setCtl, if_pos rfl]

/-- The end of a hit that stores: the entry is M with the bytes in place, and the core is as the access left it. -/
theorem stored_reads (x : CacheEnt) (l : Nat) (hdef : (s.ctl a).deferred = []) :
    (((s.breakResv l a).setCent a e x).undefer a).core a = s.core a ∧
    (((s.breakResv l a).setCent a e x).undefer a).cent a e = x ∧
    CacheFrame s (((s.breakResv l a).setCent a e x).undefer a) := by
  obtain ⟨y, hbreak⟩ := breakResv_frame s l a
  have hcore := core_breakResv s l a
  have hdef' : (((s.breakResv l a).setCent a e x).ctl a).deferred = [] := by
    rw [hbreak]
    exact hdef
  obtain ⟨hcores, hent, -, hframe⟩ := undefer_reads (e := e) hdef'
  have hset : CacheFrame s ((s.breakResv l a).setCent a e x) := by
    rw [hbreak]
    rfl
  exact ⟨(hcores a).trans hcore, hent.trans (cent_setCent_self _ a e x), hset.trans hframe⟩

theorem armedFlip_of_svc {t : State} (h : t.svc = s.svc) (k target : Nat) : t.armedFlip k target = s.armedFlip k target := by
  unfold State.armedFlip
  rw [h]

section Held
variable (h : Ready s a) (hold : Holds s a e addr c)
include h hold

/-- A load hit: the register receives the bytes, and the entry stays. -/
theorem access_load (hst : c.st ∈ [CState.m, .e, .f, .s]) {q : Acc} (hq : q.addr = addr) (hop : q.op = none) (hfetch : q.fetch = 0)
    (hvec : q.vec = none) : let t := s.access a q
    Retired (s.core a) (t.core a) q.rd (loadVal q.size q.signed ((c.data.drop (s.loc addr % 128)).take q.size)) ∧ t.cent a e = c ∧
    (t.ctl a).pfEn = false ∧ CacheFrame s t := by
  subst hq
  obtain ⟨hacc, -⟩ := ready_acc h
  obtain ⟨-, hent, hctl, hstart⟩ := hitStart_reads s a e
  let v := loadVal q.size q.signed ((c.data.drop (s.loc q.addr % 128)).take q.size)
  let u := (s.hitStart a e).ret a q.rd v
  have honly : OnlyCore a (s.hitStart a e) u := onlyCore_ret _ a q.rd v
  have hfinish : (s.hitStart a e).finish a q ((c.data.drop (s.loc q.addr % 128)).take q.size) = (u, none) := by
    simp [State.finish, hop, hfetch, hvec, u, v]
  have haccess : s.access a q = u.undefer a := by
    refine (access_hit h hold rfl ?_).trans ((hit_reads hold.cent hold.flips hacc hfinish).trans ?_)
    · simp only [List.mem_cons, List.not_mem_nil, or_false] at hst
      simpa [hop, or_assoc] using hst
    · simp [hop]
  have huctl : u.ctl a = { s.ctl a with acc := none } := (honly.ctl a).trans hctl
  obtain ⟨hcores, hcent, hpf, hframe⟩ := undefer_reads (s := u) (a := a) (e := e) (by rw [huctl]; exact hold.deferred)
  rw [haccess]
  refine ⟨?_, ?_, ?_, hstart.trans (honly.cacheFrame.trans hframe)⟩
  · rw [hcores]
    exact hitStart_retired (retired_ret _ a q.rd v)
  · rw [hcent, honly.cent, hent, hold.cent]
  · rw [hpf, huctl]
    exact hold.pfEn

/-- An access to a line in E or M that leaves the core as in `u` and stores `b`. -/
theorem access_stores (hst : c.st ∈ [CState.m, .e]) {q : Acc} {u : State} {b : Bytes} (hq : q.addr = addr)
    (hfinish : (s.hitStart a e).finish a q ((c.data.drop (s.loc addr % 128)).take q.size) = (u, some b))
    (hframe : CacheFrame (s.hitStart a e) u) (hdef : (u.ctl a).deferred = ((s.hitStart a e).ctl a).deferred) :
    (s.access a q).core a = u.core a ∧
    (s.access a q).cent a e = { c with st := .m, data := putAt c.data (s.loc addr % 128) b } ∧ CacheFrame s (s.access a q) := by
  subst hq
  obtain ⟨hacc, -⟩ := ready_acc h
  obtain ⟨-, -, hctl, hstart⟩ := hitStart_reads s a e
  have hall : CacheFrame s u := hstart.trans hframe
  have harmed : (u.breakResv c.line a).armedFlip 2 a = none := by
    obtain ⟨y, hbreak⟩ := breakResv_frame u c.line a
    rw [armedFlip_of_svc (s := s) (by rw [hbreak, hall]), hold.armed]
  have hmem : c.st = .m ∨ c.st = .e ∨ q.op = none ∧ (c.st = .f ∨ c.st = .s) := by
    simp only [List.mem_cons, List.not_mem_nil, or_false] at hst
    tauto
  rw [access_hit h hold rfl hmem, hit_stores hold.cent hold.flips hacc hfinish harmed]
  obtain ⟨hcore, hcent, hlast⟩ := stored_reads (s := u) (a := a) (e := e)
    { c with st := .m, data := putAt c.data (s.loc q.addr % 128) b } c.line (by rw [hdef, hctl]; exact hold.deferred)
  exact ⟨hcore, hcent, hall.trans hlast⟩

/-- A store hit puts its bytes. -/
theorem access_write (hst : c.st ∈ [CState.m, .e]) {q : Acc} (hq : q.addr = addr) (hop : q.op = some .write) : let t := s.access a q
    (t.core a).pc = (s.core a).pc + 4 ∧
    t.cent a e = { c with st := .m, data := putAt c.data (s.loc addr % 128) (toLe q.size q.val.toNat) } ∧ CacheFrame s t := by
  have honly := onlyCore_retire (s.hitStart a e) a
  obtain ⟨⟨x, hstart⟩, -, -, -⟩ := hitStart_reads s a e
  obtain ⟨hcore, hcent, hframe⟩ := access_stores h hold hst hq (u := (s.hitStart a e).retire a) (b := toLe q.size q.val.toNat)
    (by simp [State.finish, hop]) honly.cacheFrame (by rw [honly.ctl])
  refine ⟨?_, hcent, hframe⟩
  rw [hcore, State.retire, core_setCore_self, retire_pc, hstart]

/-- A store-conditional with its reservation puts its bytes and answers 0. -/
theorem access_sc (hst : c.st ∈ [CState.m, .e]) {q : Acc} {rd : Nat} (hq : q.addr = addr) (hop : q.op = some (.sc rd))
    (hresv : (s.core a).resv = some (s.loc addr / 128)) : let t := s.access a q
    Retired (s.core a) (t.core a) rd 0 ∧ (t.core a).resv = none ∧
    t.cent a e = { c with st := .m, data := putAt c.data (s.loc addr % 128) (toLe q.size q.val.toNat) } ∧ CacheFrame s t := by
  obtain ⟨⟨x, hstart⟩, -, -, -⟩ := hitStart_reads s a e
  let k := s.hitStart a e
  let t := (k.setCore a { k.core a with resv := none }).setCtl a { k.ctl a with lrHold := none }
  have htcore : t.core a = { k.core a with resv := none } := core_setCore_self k a _
  have honly := onlyCore_ret t a rd 0
  have hframe : CacheFrame k (t.ret a rd 0) := CacheFrame.trans (t := t) rfl honly.cacheFrame
  have hfinish : k.finish a q ((c.data.drop (s.loc addr % 128)).take q.size) = (t.ret a rd 0, some (toLe q.size q.val.toNat)) := by
    have hkept : (k.core a).resv = some (k.loc q.addr / 128) := by
      rw [hitStart_loc, hstart, hq]
      exact hresv
    simp only [State.finish, hop, hkept, if_true]
    rfl
  obtain ⟨hcore, hcent, hall⟩ := access_stores h hold hst hq hfinish hframe (by rw [honly.ctl, ctl_setCtl, if_pos rfl])
  have hretired := retired_ret t a rd 0
  rw [htcore] at hretired
  refine ⟨?_, ?_, hcent, hall⟩
  · rw [hcore]
    exact hitStart_retired (hretired.of_regs rfl rfl rfl)
  · rw [hcore, State.ret, core_setCore_self, retire_resv, core_setX_resv, htcore]

/-- A load-reserved reserves the line, which becomes M with its bytes as they are. -/
theorem access_lr (hst : c.st ∈ [CState.m, .e]) {q : Acc} {rd : Nat} (hq : q.addr = addr) (hop : q.op = some (.lr rd)) :
    let t := s.access a q
    Retired (s.core a) (t.core a) rd (loadVal q.size true ((c.data.drop (s.loc addr % 128)).take q.size)) ∧
    (t.core a).resv = some (s.loc addr / 128) ∧ (t.cent a e).data = c.data ∧ CacheFrame s t := by
  subst hq
  obtain ⟨hacc, -⟩ := ready_acc h
  obtain ⟨-, hent, hctl, hbegin⟩ := hitStart_reads s a e
  let k := s.hitStart a e
  let v := loadVal q.size true ((c.data.drop (s.loc q.addr % 128)).take q.size)
  let t := (k.setCore a { k.core a with resv := some (s.loc q.addr / 128) }).setCtl a { k.ctl a with lrHold := some (s.loc q.addr / 128) }
  let w := (t.ret a rd v).setCent a e { (t.ret a rd v).cent a e with st := .m }
  have htcore : t.core a = { k.core a with resv := some (s.loc q.addr / 128) } := core_setCore_self k a _
  have honly := onlyCore_ret t a rd v
  have hfinish : k.finish a q ((c.data.drop (s.loc q.addr % 128)).take q.size) = (t.ret a rd v, none) := by
    simp only [State.finish, hop, k, hitStart_loc]
    rfl
  have haccess : s.access a q = w.undefer a := by
    refine (access_hit h hold rfl ?_).trans ((hit_reads hold.cent hold.flips hacc hfinish).trans ?_)
    · simp only [List.mem_cons, List.not_mem_nil, or_false] at hst
      tauto
    · simp [hop, w]
  have hdef : (w.ctl a).deferred = [] := by
    change ((t.ret a rd v).ctl a).deferred = []
    rw [honly.ctl, ctl_setCtl, if_pos rfl]
    exact (congrArg CacheCtl.deferred hctl).trans hold.deferred
  obtain ⟨hcores, hcent, -, hend⟩ := undefer_reads (s := w) (a := a) (e := e) hdef
  have hframe : CacheFrame k w := CacheFrame.trans (t := t) rfl (CacheFrame.trans honly.cacheFrame rfl)
  have hretired := retired_ret t a rd v
  rw [htcore] at hretired
  rw [haccess]
  refine ⟨?_, ?_, ?_, hbegin.trans (hframe.trans hend)⟩
  · rw [hcores]
    exact hitStart_retired (hretired.of_regs rfl rfl rfl)
  · rw [hcores]
    change ((t.ret a rd v).core a).resv = _
    rw [State.ret, core_setCore_self, retire_resv, core_setX_resv, htcore]
  · rw [hcent, cent_setCent_self]
    change ((t.ret a rd v).cent a e).data = c.data
    rw [honly.cent]
    exact congrArg CacheEnt.data (hent.trans hold.cent)

/-! ### The instructions of a cache (R206) -/

theorem exec_cacheLoad (hcheck : s.coreStatus a .load addr size = .ok) (rd : Nat) (sg : Bool) (hst : c.st ∈ [CState.m, .e, .f, .s]) :
    exec (.cacheLoad a addr size rd ⟨sg, none⟩) s =
      done s (s.access a { addr := addr, size := size, op := none, rd := rd, signed := sg, val := 4 }) := by
  obtain ⟨-, -, hpf, -⟩ := access_load h hold hst (q := { addr := addr, size := size, op := none, rd := rd, signed := sg, val := 4 })
    rfl rfl rfl rfl
  refine (within_of_lt h.1).trans (congrArg (done s) ((if_neg (by simp [hold.place])).trans ((onCore_of_ready h).trans ?_)))
  simp only [hcheck, vecStep]
  exact prefetch_off hpf _ _

omit hold in
theorem exec_cacheStore_write (hplace : s.cacheable addr = true) (hcheck : s.coreStatus a .store addr size = .ok) (v : Word) :
    exec (.cacheStore a addr size .write v) s =
      done s (s.access a { addr := addr, size := size, op := some .write, rd := 0, signed := false, val := v }) := by
  refine (within_of_lt h.1).trans (congrArg (done s) ((if_neg (by simp [hplace])).trans ((onCore_of_ready h).trans ?_)))
  simp [hcheck, storeVec]

omit hold in
theorem exec_cacheStore_lr (hplace : s.cacheable addr = true) (hcheck : s.coreStatus a .load addr size = .ok)
    (halign : addr % size = 0) (rd : Nat) (v : Word) : exec (.cacheStore a addr size (.lr rd) v) s =
      done s (s.access a { addr := addr, size := size, op := some (.lr rd), rd := 0, signed := false, val := v }) := by
  refine (within_of_lt h.1).trans (congrArg (done s) ((if_neg (by simp [hplace])).trans ((onCore_of_ready h).trans ?_)))
  simp [hcheck, storeVec, halign]

omit hold in
theorem exec_cacheStore_sc (hplace : s.cacheable addr = true) (hcheck : s.coreStatus a .store addr size = .ok)
    (halign : addr % size = 0) (rd : Nat) (v : Word) : exec (.cacheStore a addr size (.sc rd) v) s =
      done s (if (s.core a).resv = some (s.loc addr / 128)
        then s.access a { addr := addr, size := size, op := some (.sc rd), rd := 0, signed := false, val := v }
        else (s.setCore a { s.core a with resv := none }).ret a rd 1) := by
  refine (within_of_lt h.1).trans (congrArg (done s) ((if_neg (by simp [hplace])).trans ((onCore_of_ready h).trans ?_)))
  simp [hcheck, storeVec, halign]

end Held

end Access

end Sys2Proof.Machine

/-!
PROOF. O15, continued: uncached accesses to a sync cell (R42, R52), fetches (R468) and the statement itself.
-/

namespace Sys2Proof.Machine

/-! ### Uncached accesses to a sync cell (R42, R52) -/

section Cell
variable {s : State} {a i addr : Nat} (h : Ready s a) (hplace : s.place addr = .cell i)
include h hplace

omit h in
theorem cacheable_cell : s.cacheable addr = false := by
  unfold State.cacheable
  rw [hplace]

theorem exec_uncachedAccess_load (hcheck : s.coreCheck a .load addr 8 = .ok) (hcell : SoundCell s i) (rd : Nat) (sg : Bool) (v : Word) :
    exec (.uncachedAccess a addr 8 .load rd ⟨sg, none⟩ v) s = done s ((s.count a 8).ret a rd (s.cell i)) := by
  have hread : (s.count a 8).readCell i ((s.count a 8).coreNode a) = (s.count a 8, some (s.cell i)) := by
    obtain ⟨-, hframe⟩ := onlyCore_count s a 8
    have hval : (s.count a 8).cell i = s.cell i := by
      rw [hframe]
      rfl
    rw [readCell_noError _ (by rw [hframe]; exact hcell.2.1), hval]
  refine (within_of_lt h.1).trans (congrArg (done s) ((onCore_of_ready h).trans ?_))
  simp [cacheable_cell hplace, hcheck, State.uncachedAt, hplace, hread, State.loadRet, loadVal_word]

theorem exec_uncachedAccess_store (hcheck : s.coreCheck a .store addr 8 = .ok) (rd : Nat) (sg : Bool) (v : Word) :
    exec (.uncachedAccess a addr 8 .store rd ⟨sg, none⟩ v) s = done s (((s.count a 8).putCell i v).retire a) := by
  refine (within_of_lt h.1).trans (congrArg (done s) ((onCore_of_ready h).trans ?_))
  simp [cacheable_cell hplace, hcheck, State.uncachedAt, hplace, ofLe_toLe_word, State.cellSet, State.storeRet, State.retire, Core.retire,
    vecStep]

end Cell

/-! ### Fetches from a core's own memory (R63, R468) -/

/-- A read of a tightly coupled memory without errors. -/
theorem readMem_tcm {s : State} (herrs : s.tcmErrs = []) {x n c : Nat} (agent : Nat) (hplace : placeLocal (s.loc x) = .tcm c) :
    s.readMem agent x n = (s, some (s.rawBytes x n)) := by
  unfold State.readMem
  simp [hplace, State.badWords, tkeys, herrs, State.fixWords]

/-- The memory of a core in its place among the aliases. -/
theorem placeLocal_tcm {a o n : Nat} (ha : a < 384) (hn : 0 < n) (ho : o + n ≤ if isScore a then 0x10000 else 0x20000) :
    placeLocal (tcmBase + 0x20000 * a + o) = .tcm (tcmBase + 0x20000 * a + o) := by
  have hcis : cisternEnd = 0x0080D8000000 := rfl
  have hbase : tcmBase = 0x010040000000 := rfl
  have hkind : isScore a = decide (a % 12 < 4) := rfl
  have hlt : o < 0x20000 := by split at ho <;> omega
  have hgran : (tcmBase + 0x20000 * a + o - tcmBase) / 0x20000 = a ∧ (tcmBase + 0x20000 * a + o - tcmBase) % 0x20000 = o := by omega
  unfold placeLocal hbmEnd cellBase nCells localBase diagBase
  rw [hgran.1, hgran.2, if_neg (by omega), if_neg (by omega), if_neg (by omega), if_neg (by omega), if_pos (by omega), if_neg]
  rintro ⟨hs, hbig⟩
  rw [hkind, if_pos (decide_eq_true hs)] at ho
  omega

/-- A core may fetch from the bytes of its own memory only. -/
theorem coreCheck_priv_fetch {s : State} {a addr o n : Nat} (hplace : s.place addr = .priv o) (hcheck : s.coreCheck a .fetch addr n = .ok) :
    o + n ≤ if isScore a then 0x10000 else 0x20000 := by
  unfold State.coreCheck at hcheck
  rw [hplace] at hcheck
  by_contra hout
  simp only [hout, if_false] at hcheck
  split at hcheck
  · cases hcheck
  · split at hcheck
    · cases hcheck
    · simp at hcheck

/-- A 16-bit instruction other than EBREAK has its own command: at its fetch nothing else happens. -/
theorem runFetched_half {s : State} {a : Nat} (hhalf : (s.core a).fetched % 4 ≠ 3) (hbreak : (s.core a).fetched ≠ 0x9002) :
    s.runFetched a = s := by
  have hop : bits (s.core a).fetched 6 0 = (s.core a).fetched % 128 := by simp [bits]
  unfold State.runFetched
  simp only [hop]
  rw [if_neg (by omega), if_neg (by omega), if_neg (by omega), if_neg (by omega), if_neg (by omega), if_neg (by omega)]

/-- A half instruction that is whole is kept. -/
theorem fetched_half {s : State} {a v : Nat} (hhalf : v % 4 ≠ 3) (hbreak : v ≠ 0x9002) :
    s.fetched a 1 v = (s.setCore a { s.core a with fetched := v, wait := .none }, none) := by
  unfold State.fetched
  simp only [if_true, hhalf, if_false]
  rw [runFetched_half (by rw [core_setCore_self]; exact hhalf) (by rw [core_setCore_self]; exact hbreak)]

/-- Forgetting the kept granule, when the fetch is from another, and counting the fetch change the core only. -/
theorem startFetch_reads (s : State) (a : Nat) (forget : Bool) : let u := (if forget then s.setCore a { s.core a with kept := none } else s).count a 7
    OnlyCore a s u ∧ ∃ k h, u.core a = { s.core a with kept := k, hpm := h } := by
  cases forget with
  | false =>
    obtain ⟨h, hcore⟩ := core_count s a 7
    exact ⟨onlyCore_count s a 7, (s.core a).kept, h, hcore⟩
  | true =>
    obtain ⟨h, hcore⟩ := core_count (s.setCore a { s.core a with kept := none }) a 7
    rw [core_setCore_self] at hcore
    exact ⟨(onlyCore_setCore s a _).trans (onlyCore_count _ a 7), none, h, hcore⟩

/-- CORE_FETCH of a half instruction in the core's own memory keeps it, and is counted. -/
theorem exec_coreFetch_half {s : State} {a o : Nat} (h : Ready s a) (hplace : s.place (s.core a).pc.toNat = .priv o)
    (hcheck : s.coreCheck a .fetch (s.core a).pc.toNat 2 = .ok) (herrs : s.tcmErrs = [])
    (hhalf : ofLe (s.rawBytes (tcmBase + 0x20000 * a + o) 2) % 4 ≠ 3)
    (hbreak : ofLe (s.rawBytes (tcmBase + 0x20000 * a + o) 2) ≠ 0x9002) :
    ∃ u, OnlyCore a s u ∧ (∃ k x, u.core a = { s.core a with kept := k, hpm := x }) ∧ exec (.coreFetch a) s =
      done s (u.setCore a { u.core a with fetched := ofLe (s.rawBytes (tcmBase + 0x20000 * a + o) 2), wait := .none }) := by
  obtain ⟨honly, hcore⟩ := startFetch_reads s a ((s.core a).kept.any fun k => k.1 != s.loc (s.core a).pc.toNat / 32)
  generalize hu : (if ((s.core a).kept.any fun k => k.1 != s.loc (s.core a).pc.toNat / 32) = true
    then s.setCore a { s.core a with kept := none } else s).count a 7 = u at honly hcore
  refine ⟨u, honly, hcore, (within_of_lt h.1).trans (congrArg (done s) ((onCore_of_ready h).trans ?_))⟩
  have hrange := coreCheck_priv_fetch hplace hcheck
  have haddr : tcmBase + 0x20000 * a + o < 2 ^ 48 := by
    have hbase : tcmBase = 0x010040000000 := rfl
    have ha := h.1
    split at hrange <;> omega
  have hread : u.readMem a (tcmBase + 0x20000 * a + o) 2 = (u, some (s.rawBytes (tcmBase + 0x20000 * a + o) 2)) := by
    rw [readMem_tcm (c := tcmBase + 0x20000 * a + o) (by rw [honly.2]; exact herrs) a
      (by rw [loc_of_lt u haddr]; exact placeLocal_tcm h.1 Nat.two_pos hrange), honly.2]
    rfl
  have hplaced (forget : Bool) : (if forget = true then s.setCore a { s.core a with kept := none } else s).place (s.core a).pc.toNat =
      .priv o := by
    cases forget <;> exact hplace
  unfold State.fetchHalf
  simp only [hcheck, hplaced, hu, hread, fetched_half hhalf hbreak]

/-! ### The statement -/

/-- Settles O15, clause by clause: the load, the store, LR, SC with and without its reservation, the load and the store of a cell, and the
fetch. -/
theorem coreLoadsStoresAndFetch : Obligations.CoreLoadsStoresAndFetch := by
  unfold Obligations.CoreLoadsStoresAndFetch
  intro s a addr size rd e i o sg v h hrd c off got held pcOn stored
  have holds {k : AccKind} (hk : held k) : Holds s a e addr c := by
    obtain ⟨hplace, -, henable, hent, hflips, hdef, hpf, harmed, -⟩ := hk
    exact ⟨hplace, henable, hent, rfl, hflips, hdef, hpf, harmed⟩
  refine ⟨fun hk hst => ?load, fun hk hst => ?store, fun hk hst => ?lr, fun hk hst hresv => ?sc, fun hk hresv => ?scFails,
    fun hplace hcheck hcell => ?cellLoad, fun hplace hcheck hcell => ?cellStore, fun hplace hcheck herrs hhalf hbreak => ?fetch⟩
  case load =>
    have hold := holds hk
    obtain ⟨hretired, hcent, -, hframe⟩ := access_load h hold hst
      (q := { addr := addr, size := size, op := none, rd := rd, signed := sg, val := 4 }) rfl rfl rfl rfl
    obtain ⟨hpc, -, hx, -⟩ := hretired
    obtain ⟨-, hcheck, -⟩ := hk
    exact does_of_done (exec_cacheLoad h hold hcheck rd sg hst) hframe.leaves ⟨hx.trans (if_neg hrd), hcent, hpc, hframe⟩
  case store =>
    obtain ⟨hpc, hcent, hframe⟩ := access_write h (holds hk) hst
      (q := { addr := addr, size := size, op := some .write, rd := 0, signed := false, val := v }) rfl rfl
    obtain ⟨hplace, hcheck, -⟩ := hk
    exact does_of_done (exec_cacheStore_write h hplace hcheck v) hframe.leaves
      ⟨⟨congrArg CacheEnt.st hcent, congrArg CacheEnt.data hcent⟩, hpc, hframe⟩
  case lr =>
    obtain ⟨hretired, hresv, hdata, hframe⟩ := access_lr h (holds hk) hst
      (q := { addr := addr, size := size, op := some (.lr rd), rd := 0, signed := false, val := v }) rfl rfl
    obtain ⟨hpc, -, hx, -⟩ := hretired
    obtain ⟨hplace, hcheck, -, -, -, -, -, -, halign⟩ := hk
    exact does_of_done (exec_cacheStore_lr h hplace hcheck halign rd v) hframe.leaves
      ⟨hx.trans (if_neg hrd), hresv, hdata, hpc, hframe⟩
  case sc =>
    obtain ⟨hretired, hfree, hcent, hframe⟩ := access_sc h (holds hk) hst
      (q := { addr := addr, size := size, op := some (.sc rd), rd := 0, signed := false, val := v }) rfl rfl hresv
    obtain ⟨hpc, -, hx, -⟩ := hretired
    obtain ⟨hplace, hcheck, -, -, -, -, -, -, halign⟩ := hk
    have hexec := exec_cacheStore_sc h hplace hcheck halign rd v
    rw [if_pos hresv] at hexec
    exact does_of_done hexec hframe.leaves
      ⟨hx.trans (if_neg hrd), hfree, ⟨congrArg CacheEnt.st hcent, congrArg CacheEnt.data hcent⟩, hpc, hframe⟩
  case scFails =>
    obtain ⟨hplace, hcheck, -, -, -, -, -, -, halign⟩ := hk
    have hexec := exec_cacheStore_sc h hplace hcheck halign rd v
    rw [if_neg hresv] at hexec
    have honly := (onlyCore_setCore s a { s.core a with resv := none }).trans (onlyCore_ret _ a rd 1)
    have hretired := retired_ret (s.setCore a { s.core a with resv := none }) a rd 1
    rw [core_setCore_self] at hretired
    obtain ⟨hpc, -, hx, -⟩ := hretired
    exact does_of_onlyCore hexec honly ⟨hx.trans (if_neg hrd), honly.cent a e, hpc, honly.cacheFrame⟩
  case cellLoad =>
    have honly := (onlyCore_count s a 8).trans (onlyCore_ret _ a rd (s.cell i))
    obtain ⟨x, hcount⟩ := core_count s a 8
    have hretired := retired_ret (s.count a 8) a rd (s.cell i)
    rw [hcount] at hretired
    obtain ⟨hpc, -, hx, -⟩ := hretired
    exact does_of_onlyCore (exec_uncachedAccess_load h hplace hcheck hcell rd sg v) honly
      ⟨hx.trans (if_neg hrd), by rw [honly.2], hpc, honly.cacheFrame⟩
  case cellStore =>
    let u := s.count a 8
    let t := (u.putCell i v).retire a
    have hcount : OnlyCore a s u := onlyCore_count s a 8
    have hretire : OnlyCore a (u.putCell i v) t := onlyCore_retire _ a
    obtain ⟨x, hcore⟩ := core_count s a 8
    have hcell (j : Nat) : t.cell j = (u.putCell i v).cell j := by
      rw [hretire.2]
      rfl
    have hframe : t = { s with cores := t.cores, sync := t.sync, svc := t.svc } := by
      obtain ⟨x1, x2, x3, x4, hput⟩ := putCell_frame u i v
      rw [hretire.2, hput, hcount.2]
    have hleaves := (hcount.cellFrame.trans ((cellFrame_putCell u i v).trans hretire.cellFrame)).leaves
    refine does_of_done (exec_uncachedAccess_store h hplace hcheck rd sg v) hleaves ⟨?_, fun j hj => ?_, ?_, hframe⟩
    · rw [hcell, cell_putCell, if_pos rfl]
    · rw [hcell, cell_putCell, if_neg hj, hcount.2]
      rfl
    · rw [State.retire, core_setCore_self, retire_pc, core_putCell, hcore]
  case fetch =>
    obtain ⟨u, honly, ⟨k, x, hcore⟩, hexec⟩ := exec_coreFetch_half h hplace hcheck herrs hhalf hbreak
    have hall := honly.trans (onlyCore_setCore u a { u.core a with
      fetched := ofLe (s.rawBytes (tcmBase + 0x20000 * a + o) 2), wait := .none })
    refine does_of_onlyCore hexec hall ⟨?_, hall⟩
    rw [core_setCore_self, hcore, ← ready_wait h]

end Sys2Proof.Machine

/-!
PROOF. O24: what a read of a command by a core leaves (R55, R56), and the commands of the pumps (R167, R175).
-/

namespace Sys2Proof.Machine

/-! ### What no access to memory and no coherence transaction touches -/

/-- The queue, the fuses and the timebase. -/
def State.outside (s : State) : List Instr × Fuse × Nat := (s.pending, s.fuse, s.now)

@[simp] theorem outside_update (s : State) (cores : Tab Core) (coh : Coh) (cis : Cistern) (svc : Service) (free : Nat) :
    ({ s with cores := cores, coh := coh, cistern := cis, svc := svc, free := free } : State).outside = s.outside := rfl

theorem outside_ignoresStore : IgnoresStore State.outside := fun _ _ _ _ _ _ _ => rfl

/-- A state that differs outside of these only completes. -/
theorem leaves_of_outside {s t : State} (h : t.outside = s.outside) : Leaves s t t := by
  obtain ⟨hpending, hfuse, hnow⟩ : t.pending = s.pending ∧ t.fuse = s.fuse ∧ t.now = s.now := by
    simpa [State.outside] using h
  unfold Leaves
  rw [← hpending, ← hfuse, ← hnow]

theorem OnlyCore.outside {a : Nat} {s t : State} (h : OnlyCore a s t) : t.outside = s.outside := by
  obtain ⟨-, hframe⟩ := h
  rw [hframe]
  rfl

@[simp] theorem outside_count (s : State) (a ev : Nat) : (s.count a ev).outside = s.outside := (onlyCore_count s a ev).outside

@[simp] theorem outside_raise (s : State) (code payload : Nat) (fns : List Nat) (src : Nat) (inj : Bool) :
    (s.raise code payload fns src inj).outside = s.outside := by
  rw [raise_frame]
  rfl

@[simp] theorem outside_setCore (s : State) (a : Nat) (x : Core) : (s.setCore a x).outside = s.outside := rfl
@[simp] theorem outside_setCtl (s : State) (a : Nat) (x : CacheCtl) : (s.setCtl a x).outside = s.outside := rfl
@[simp] theorem outside_setCent (s : State) (a e : Nat) (x : CacheEnt) : (s.setCent a e x).outside = s.outside := rfl
@[simp] theorem outside_setDir (s : State) (i : Nat) (e : DirEnt) : (s.setDir i e).outside = s.outside := rfl
@[simp] theorem outside_freeDir (s : State) (i : Nat) : (s.freeDir i).outside = s.outside := rfl
@[simp] theorem outside_send (s : State) (m : CohMsg) : (s.send m).outside = s.outside := rfl
@[simp] theorem outside_noteRefused (s : State) (a g : Nat) : (s.noteRefused a g).outside = s.outside := rfl
@[simp] theorem outside_allocate (s : State) (i x st a : Nat) : (s.allocate i x st a).outside = s.outside := rfl
@[simp] theorem outside_snoop (s : State) (i o : Nat) (m : CohMsg) : (s.snoop i o m).outside = s.outside := rfl

@[simp] theorem outside_ite (p : Prop) [Decidable p] (s t : State) :
    (if p then s else t).outside = if p then s.outside else t.outside := apply_ite State.outside p s t

/-- A fold that carries a value with the state keeps what each of its steps keeps. -/
theorem foldl_keeps_fst {α β γ : Type} (g : State → β) {f : State × γ → α → State × γ} (h : ∀ p a, g (f p a).1 = g p.1)
    (l : List α) (p : State × γ) : g (l.foldl f p).1 = g p.1 := by
  induction l generalizing p with
  | nil => rfl
  | cons a l ih => rw [List.foldl_cons, ih, h]

/-! ### Memory and the catchment slots -/

@[simp] theorem outside_taintAcc (s : State) (x n : Nat) : (s.taintAcc x n).outside = s.outside :=
  foldl_keeps State.outside (fun t e => by dsimp only; split <;> rfl) _ s

@[simp] theorem outside_openAcc (s : State) (x : Nat) (b : Bytes) : (s.openAcc x b).1.outside = s.outside := by
  unfold State.openAcc
  dsimp only
  split <;> rfl

@[simp] theorem outside_readGrans (s : State) (agent : Nat) (ks : List Nat) : (s.readGrans agent ks).1.outside = s.outside :=
  readGrans_keeps outside_ignoresStore s agent ks

@[simp] theorem outside_granError (s : State) (k kind agent : Nat) (inj : Bool) :
    (s.granError k kind agent inj).outside = s.outside :=
  granError_keeps outside_ignoresStore s k kind agent inj

@[simp] theorem outside_writeGrans (s : State) (hw : Bool) (agent a : Nat) (bs : Bytes) (hole : List Nat) :
    (s.writeGrans hw agent a bs hole).1.outside = s.outside :=
  writeGrans_keeps outside_ignoresStore s hw agent a bs hole

@[simp] theorem outside_poisonRange (s : State) (a n : Nat) : (s.poisonRange a n).outside = s.outside :=
  poisonRange_keeps outside_ignoresStore s a n

theorem outside_fixWords (s : State) (ws : List Nat) : (s.fixWords ws).outside = s.outside :=
  foldl_keeps State.outside (fun t w => outside_setCore (t.setTcmErr w {}) _ _) _ s

@[simp] theorem outside_readMem (s : State) (agent a n : Nat) : (s.readMem agent a n).1.outside = s.outside := by
  unfold State.readMem
  dsimp only
  split
  · split
    · rfl
    · exact outside_fixWords s _
  · exact outside_readGrans s agent _

@[simp] theorem outside_lineRead (s : State) (agent x : Nat) : (s.lineRead agent x).1.outside = s.outside := by
  simp [State.lineRead]

@[simp] theorem outside_lineWrite (s : State) (agent x : Nat) (data : Bytes) (mask : Nat) :
    (s.lineWrite agent x data mask).outside = s.outside := by
  refine (foldl_keeps State.outside (fun t i => ?_) _ _).trans (outside_taintAcc s _ _)
  split
  · exact outside_poisonRange t _ _
  · exact outside_writeGrans t _ _ _ _ _

@[simp] theorem outside_readU (s : State) (agent a n : Nat) : (s.readU agent a n).1.outside = s.outside :=
  outside_readGrans s agent _

@[simp] theorem outside_mergeRead (s : State) (x n : Nat) : (s.mergeRead x n).1.outside = s.outside := by
  unfold State.mergeRead
  dsimp only
  repeat' split
  all_goals rfl

/-! ### A cache -/

@[simp] theorem outside_leave (s : State) (a x : Nat) : (s.leave a x).outside = s.outside := by
  simp [State.leave]

@[simp] theorem outside_cacheErr (s : State) (a e kind : Nat) : (s.cacheErr a e kind).outside = s.outside := by
  simp [State.cacheErr]

@[simp] theorem outside_countCe (s : State) (a e k : Nat) : (s.countCe a e k).1.outside = s.outside :=
  foldl_keeps State.outside (fun t _ => outside_cacheErr t a e 1) _ _

@[simp] theorem outside_entryOff (s : State) (a e : Nat) : (s.entryOff a e).outside = s.outside := by
  simp [State.entryOff]

@[simp] theorem outside_writeBack (s : State) (a e : Nat) (dirty keep poison : Bool) :
    (s.writeBack a e dirty keep poison).outside = s.outside := by
  simp [State.writeBack]

@[simp] theorem outside_evict (s : State) (a e : Nat) : (s.evict a e).outside = s.outside := by
  unfold State.evict
  dsimp only
  split <;> simp

@[simp] theorem outside_tallyCe (s : State) (a e k : Nat) : (s.tallyCe a e k).outside = s.outside := by
  simp [State.tallyCe]

@[simp] theorem outside_correct (s : State) (a e off n : Nat) : (s.correct a e off n).outside = s.outside := by
  simp [State.correct]

@[simp] theorem outside_dropPtr (s : State) (a x : Nat) : (s.dropPtr a x).outside = s.outside := by
  unfold State.dropPtr
  split
  · simp
  · rfl

@[simp] theorem outside_cleanCopy (s : State) (a x : Nat) : (s.cleanCopy a x).outside = s.outside := by
  unfold State.cleanCopy
  dsimp only
  split
  · exact outside_count s a 6
  · rw [outside_tallyCe]
    split <;> simp

/-! ### The homes (R204, R211, Table 6.7) -/

@[simp] theorem outside_stopMarch (s : State) (x n : Nat) : (s.stopMarch x n).outside = s.outside := by
  simp [State.stopMarch]

@[simp] theorem outside_sendInv (s : State) (x : Nat) (ags : List Nat) : (s.sendInv x ags).outside = s.outside :=
  foldl_keeps State.outside (fun t a => outside_send t { kind := .inv, line := x, agent := a }) _ s

@[simp] theorem outside_laterStash (s : State) (m : CohMsg) : (s.laterStash m).outside = s.outside := by
  unfold State.laterStash
  split <;> rfl

@[simp] theorem outside_serveWrU (s : State) (m : CohMsg) : (s.serveWrU m).outside = s.outside := by
  simp [State.serveWrU]

@[simp] theorem outside_mergeWrU (s : State) (m : CohMsg) (d : Bytes) (mask : Nat) :
    (s.mergeWrU m d mask).outside = s.outside := by
  unfold State.mergeWrU
  dsimp only
  rw [outside_laterStash, outside_send]
  refine (foldl_keeps State.outside (fun t g => ?_) _ _).trans (by simp)
  split <;> simp

@[simp] theorem outside_serveRdU (s : State) (m : CohMsg) : (s.serveRdU m).outside = s.outside := by
  simp [State.serveRdU, apply_ite Prod.fst]

@[simp] theorem outside_stash (s : State) (x t : Nat) : (s.stash x t).outside = s.outside := by
  unfold State.stash
  dsimp only
  repeat' split
  all_goals simp

@[simp] theorem outside_serveFree (s : State) (m : CohMsg) : (s.serveFree m).outside = s.outside := by
  unfold State.serveFree
  dsimp only
  repeat' split
  all_goals simp

@[simp] theorem outside_countMet (s : State) (i : Nat) : (s.countMet i).outside = s.outside := by
  unfold State.countMet
  dsimp only
  repeat' split
  all_goals simp

@[simp] theorem outside_invalidate (s : State) (i : Nat) (m : CohMsg) : (s.invalidate i m).outside = s.outside := by
  simp [State.invalidate]

@[simp] theorem outside_serve (s : State) (m : CohMsg) : (s.serve m).outside = s.outside := by
  unfold State.serve
  dsimp only
  repeat' split
  all_goals simp

@[simp] theorem outside_request (s : State) (m : CohMsg) : (s.request m).outside = s.outside := by
  simp [State.request]

@[simp] theorem outside_openBytes (s : State) (agent x : Nat) (busy : List Nat) (b : Bytes) (cls : Nat) :
    (s.openBytes agent x busy b cls).1.outside = s.outside := by
  unfold State.openBytes
  rw [foldl_keeps_fst State.outside (fun p l => by simp)]

/-! ### A read by a core (R55, R56) -/

@[simp] theorem outside_cohRead (s : State) (agent a n : Nat) (joins : Bool) (cls : Nat) :
    (s.cohRead agent a n joins cls).1.outside = s.outside := by
  unfold State.cohRead
  dsimp only
  generalize hclean : List.foldl _ (s.stopMarch _ _) _ = t
  have hkept : t.outside = s.outside := by
    rw [← hclean]
    refine (foldl_keeps State.outside (fun u l => ?_) _ _).trans (outside_stopMarch s _ _)
    repeat' split
    all_goals simp
  split
  · have hread := outside_readMem t agent a n
    split <;> simp_all
  · split <;> simp [apply_ite Prod.fst, hkept]

/-- If a read answers bytes, it leaves the queue, the fuses and the timebase. -/
def QuietRead (s : State) (r : State × Except (Option Nat) Bytes) : Prop := ∀ d, r.2 = .ok d → r.1.outside = s.outside

theorem quietRead_ok {s t : State} {d : Bytes} (h : t.outside = s.outside) : QuietRead s (t, .ok d) := fun _ _ => h

theorem quietRead_error (s t : State) (e : Option Nat) : QuietRead s (t, .error e) := by
  intro d h
  cases h

theorem outside_of_cohRead {s t : State} {a ev addr n cls : Nat} {joins : Bool} {r : Option Nat × Bytes}
    (h : (s.count a ev).cohRead a addr n joins cls = (t, r)) : t.outside = s.outside := by
  have hread := outside_cohRead (s.count a ev) a addr n joins cls
  rwa [h, outside_count] at hread

theorem outside_of_readMem {s t : State} {a ev addr n : Nat} {r : Option Bytes} (h : (s.count a ev).readMem a addr n = (t, r)) :
    t.outside = s.outside := by
  have hread := outside_readMem (s.count a ev) a addr n
  rwa [h, outside_count] at hread

theorem quietRead_lineBytes (s : State) (a ad n : Nat) : QuietRead s (s.lineBytes a ad n) := by
  unfold State.lineBytes
  dsimp only
  split
  · split
    · split
      · exact quietRead_ok (by simp)
      · exact quietRead_error s _ _
    · split
      · split
        next hread => exact quietRead_ok (outside_of_cohRead hread)
        next => exact quietRead_error s _ _
      · exact quietRead_error s _ _
  · split
    · exact quietRead_error s _ _
    · split
      next hread => exact quietRead_ok (outside_of_cohRead hread)
      next => exact quietRead_error s _ _

theorem quietRead_coreBytes (s : State) (a ad n : Nat) : QuietRead s (s.coreBytes a ad n) := by
  unfold State.coreBytes
  dsimp only
  split
  case h_2 => exact quietRead_error s _ _
  split
  case h_1 =>
    split
    · split
      next hread => exact quietRead_ok (outside_of_readMem hread)
      next => exact quietRead_error s _ _
    · split
      · split
        · exact quietRead_error s _ _
        · split
          · exact quietRead_error s _ _
          · exact quietRead_ok (outside_correct s _ _ _ _)
      · exact quietRead_error s _ _
  case h_4 =>
    split
    next hread => exact quietRead_ok (outside_of_cohRead hread)
    next => exact quietRead_error s _ _
  case h_5 => exact quietRead_error s _ _
  all_goals exact quietRead_lineBytes s a ad n

end Sys2Proof.Machine

/-!
PROOF. O24, continued: TLK.MCQ (R55), TLK.PUMP (R56), the start and the completion of a pump's command (R167, R175).
-/

namespace Sys2Proof.Machine

/-! ### The queue of an M-core -/

/-- A new head of a queue changes at most the class-I limit of the tile. -/
theorem mHead_frame (s : State) (i : Nat) : ∃ x y, s.mHead i = { s with tiles := x, islands := y } := by
  unfold State.mHead
  split
  · exact ⟨s.tiles, s.islands, rfl⟩
  · split
    · obtain ⟨y, h⟩ := retimeTile_frame
        { s with tiles := tset (fun _ => {}) s.tiles (i / 16) { s.tile (i / 16) with classI := true } } (i / 16)
      exact ⟨_, y, h⟩
    · exact ⟨s.tiles, s.islands, rfl⟩

/-- The M-core after a push of a command with a class (R55). -/
def MCore.pushed (x : MCore) (cls : Nat) (d : Bytes) : MCore :=
  { x with
    queue := x.queue ++ [⟨d, cls, x.pushes⟩]
    pushes := (x.pushes + 1) % 2 ^ 32 }

theorem mPush_frame (s : State) (i cls : Nat) (d : Bytes) :
    ∃ x y, s.mPush i cls d = { s.setMc i ((s.mc i).pushed cls d) with tiles := x, islands := y } :=
  mHead_frame (s.setMc i ((s.mc i).pushed cls d)) i

theorem mc_mPush (s : State) (i cls : Nat) (d : Bytes) (j : Nat) :
    (s.mPush i cls d).mc j = if j = i then (s.mc i).pushed cls d else s.mc j := by
  obtain ⟨x, y, h⟩ := mPush_frame s i cls d
  rw [h]
  exact mc_setMc s i _ j

theorem core_mPush (s : State) (i cls : Nat) (d : Bytes) (b : Nat) : (s.mPush i cls d).core b = s.core b := by
  obtain ⟨x, y, h⟩ := mPush_frame s i cls d
  rw [h]
  rfl

theorem outside_mPush (s : State) (i cls : Nat) (d : Bytes) : (s.mPush i cls d).outside = s.outside := by
  obtain ⟨x, y, h⟩ := mPush_frame s i cls d
  rw [h]
  rfl

/-! ### TLK.MCQ and TLK.PUMP -/

/-- A core counts an event, writes a register and retires. -/
theorem onlyCore_countRet (s : State) (a ev rd : Nat) (v : Word) : OnlyCore a s ((s.count a ev).ret a rd v) :=
  (onlyCore_count s a ev).trans (onlyCore_ret _ a rd v)

theorem retired_countRet (s : State) (a ev rd : Nat) (v : Word) :
    Retired (s.core a) (((s.count a ev).ret a rd v).core a) rd v := by
  obtain ⟨h, hcount⟩ := core_count s a ev
  exact (retired_ret (s.count a ev) a rd v).of_regs (by rw [hcount]) (by rw [hcount]) (by rw [hcount])

theorem outst_countRet (s : State) (a ev rd : Nat) (v : Word) :
    (((s.count a ev).ret a rd v).core a).outst = (s.core a).outst := by
  obtain ⟨h, hcount⟩ := core_count s a ev
  rw [State.ret, core_setCore_self, hcount]
  unfold Core.retire Core.step Core.setX
  split <;> split <;> rfl

theorem OnlyCore.mc {a : Nat} {s t : State} (h : OnlyCore a s t) (i : Nat) : t.mc i = s.mc i := by
  obtain ⟨-, hframe⟩ := h
  rw [hframe]
  rfl

theorem OnlyCore.pump {a : Nat} {s t : State} (h : OnlyCore a s t) (p : Nat) : t.pump p = s.pump p := by
  obtain ⟨-, hframe⟩ := h
  rw [hframe]
  rfl

theorem OnlyCore.mesh {a : Nat} {s t : State} (h : OnlyCore a s t) : t.mesh = s.mesh := by
  obtain ⟨-, hframe⟩ := h
  rw [hframe]

section Queue
variable {s u : State} {a rd rs1 rs2 ad sel i : Nat} {d : Bytes} (h : Ready s a) (had : ((s.core a).x rs1).toNat = ad)
  (halign : ad % 64 = 0) (hread : s.coreBytes a ad 64 = (u, .ok d))
include h had halign hread

/-- TLK.MCQ from an aligned command that reads: the answer depends on the M-core's queue. -/
theorem exec_tlkMcq (hscore : isScore a = true) (hsel : ((s.core a).x rs2).toNat = sel) (hlt : sel < 4)
    (hi : 16 * tileOf a + 4 * sel + a % 12 = i) (hplace : s.mcqPlace ad = true) (hpresent : u.mPresent i = true)
    (hfresh : (u.mc i).stale = false) : exec (.tlkMcq a rd rs1 rs2) s =
    done s (if 32 ≤ u.mDepth i then u.ret a rd 1 else ((u.mPush i (u.core a).cls d).count a 15).ret a rd 0) := by
  refine (within_of_lt h.1).trans (congrArg (done s) ((onCore_of_ready h).trans ?_))
  simp only [hsel, had, Nat.mod_eq_of_lt hlt, hi]
  simp [hscore, Nat.not_le.2 hlt, halign, hplace, hread, hpresent, hfresh]

/-- TLK.PUMP to a pump with room from a core with a free ticket. -/
theorem exec_tlkPump {p : Nat} (hpump : u.selectPump a ((u.core a).x rs2).toNat = some p) (hfree : (u.core a).outst.length < 16)
    (hroom : (u.pump p).length < 64) : exec (.tlkPump a rd rs1 rs2) s =
    done s (((u.accept p a d).count a 11).ret a rd (BitVec.ofNat 64 (u.core a).tickets)) := by
  refine (within_of_lt h.1).trans (congrArg (done s) ((onCore_of_ready h).trans ?_))
  simp only [had]
  simp [halign, hread, hpump, Nat.not_le.2 hfree, Nat.not_le.2 hroom]

end Queue

/-! ### The commands that a pump holds (R167, R175) -/

theorem pump_accept (s : State) (p a : Nat) (d : Bytes) (q : Nat) : (s.accept p a d).pump q =
    if q = p then s.pump p ++ [{ id := s.mesh.nextId, desc := d, agent := a, ticket := (s.core a).tickets, cls := (s.core a).cls }]
    else s.pump q := pump_setPump s p _ q

theorem core_accept (s : State) (p a : Nat) (d : Bytes) : (s.accept p a d).core a =
    { s.core a with
      tickets := ((s.core a).tickets + 1) % 2 ^ 32
      outst := (s.core a).outst ++ [(s.core a).tickets] } := core_setCore_self _ a _

theorem exec_pumpStart {s : State} {p : Nat} {c : PCmd} (hp : p < 156) (hnext : s.pumpNext p = some c)
    (hfence : s.coreFenced c.agent = false) (hlo : 0 < pPop c.desc) (hhi : pPop c.desc ≤ 10) :
    exec (.pumpStart p) s = done s (s.setPCmd p { c with started := true }) := by
  refine (within_of_lt hp).trans (congrArg (done s) ?_)
  simp [hnext, hfence, hlo.ne', hhi.not_gt]

/-- The status of a command reaches a core that waits for nothing. -/
theorem pumpStatus_outstanding {s : State} {c : PCmd} {st : Status} (hticket : (s.core c.agent).outst.contains c.ticket = true)
    (hwait : (s.core c.agent).wait = .none) : s.pumpStatus c st = s.setCore c.agent { s.core c.agent with
      outst := (s.core c.agent).outst.filter (· != c.ticket)
      stat := (s.core c.agent).stat ++ [(c.ticket, st)] } := by
  unfold State.pumpStatus
  simp only [hticket, if_true, hwait]

/-- A finished command with no result record and no signal is removed and its status kept. -/
theorem exec_pumpComplete {s : State} {p id detail res : Nat} {c : PCmd} {st : Status} (hp : p < 156)
    (hfind : (s.pump p).find? (fun x => x.id == id) = some c) (hfin : c.fin = some (st, detail, res)) (hwaits : c.waits = [])
    (haside : s.aside c = false) (hrecord : bit (pFlags c.desc) 4 = false) (hsignal : bit (pFlags c.desc) 0 = false) :
    exec (.pumpComplete p id) s =
      done s ((s.setPump p ((s.pump p).filter (fun x => x.id != id))).pumpStatus c st) := by
  refine (within_of_lt hp).trans (congrArg (done s) ?_)
  simp [hfind, hfin, hwaits, haside, State.raddrOk, hrecord, hsignal]

/-- Settles O24, clause by clause: MCQ with and without room, PUMP, the start and the completion. -/
theorem pumpStartAndComplete : Obligations.PumpStartAndComplete := by
  unfold Obligations.PumpStartAndComplete
  intro s a rd rs1 rs2 p id d c st detail res
  dsimp only
  generalize had : ((s.core a).x rs1).toNat = ad
  generalize hsel : ((s.core a).x rs2).toNat = sel
  generalize hi : 16 * tileOf a + 4 * sel + a % 12 = i
  have hkept := quietRead_coreBytes s a ad 64 d
  generalize hu : s.coreBytes a ad 64 = r
  rw [hu] at hkept
  obtain ⟨u, answer⟩ := r
  dsimp only at hkept ⊢
  refine ⟨fun h hscore hlt halign hplace hok hpresent hfresh => ?mcq, fun h halign hok hpump hfree hroom => ?pump,
    fun hp hnext hfence hlo hhi => ?start, fun hp hfind hfin hwaits haside hrecord hsignal hticket hwait => ?complete⟩
  case mcq =>
    have hexec := exec_tlkMcq (rd := rd) h had halign (hok ▸ hu) hscore hsel hlt hi hplace hpresent hfresh
    refine ⟨fun hroom => ?_, fun hfull => ?_⟩
    · rw [if_neg hroom.not_ge] at hexec
      have honly := onlyCore_countRet (u.mPush i (u.core a).cls d) a 15 rd 0
      obtain ⟨hpc, -, hrd, -, -⟩ := retired_countRet (u.mPush i (u.core a).cls d) a 15 rd 0
      have hmc (j : Nat) := (honly.mc j).trans (mc_mPush u i (u.core a).cls d j)
      have hpushed := (outside_mPush u i (u.core a).cls d).trans (hkept hok)
      refine does_of_done hexec (leaves_of_outside (honly.outside.trans hpushed)) ⟨?_, ?_, ?_, fun j hj => ?_, honly.2⟩
      · rw [hmc, if_pos rfl]
        rfl
      · rw [hrd, ite_self]
      · rw [hpc, core_mPush]
      · rw [hmc, if_neg hj]
    · rw [if_pos hfull] at hexec
      have honly := onlyCore_ret u a rd 1
      obtain ⟨hpc, -, hrd, -, -⟩ := retired_ret u a rd 1
      exact does_of_done hexec (leaves_of_outside (honly.outside.trans (hkept hok))) ⟨hrd, hpc, honly.2⟩
  case pump =>
    have hexec := exec_tlkPump (rd := rd) h had halign (hok ▸ hu) hpump hfree hroom
    have honly := onlyCore_countRet (u.accept p a d) a 11 rd (BitVec.ofNat 64 (u.core a).tickets)
    obtain ⟨hpc, -, hrd, -, -⟩ := retired_countRet (u.accept p a d) a 11 rd (BitVec.ofNat 64 (u.core a).tickets)
    have hpumps (q : Nat) := (honly.pump q).trans (pump_accept u p a d q)
    refine does_of_done hexec (leaves_of_outside (honly.outside.trans (hkept hok))) ⟨?_, hrd, ?_, ?_, fun q hq => ?_, ?_⟩
    · rw [hpumps, if_pos rfl]
    · rw [outst_countRet, core_accept]
    · rw [hpc, core_accept]
    · rw [hpumps, if_neg hq]
    · rw [honly.mesh]
      exact honly.2
  case start =>
    refine does_of_done (exec_pumpStart hp hnext hfence hlo hhi) rfl ⟨?_, fun q hq => ?_, rfl⟩
    · exact (pump_setPump s p _ p).trans (if_pos rfl)
    · exact (pump_setPump s p _ q).trans (if_neg hq)
  case complete =>
    have hexec := exec_pumpComplete hp hfind hfin hwaits haside hrecord hsignal
    rw [pumpStatus_outstanding (s := s.setPump p _) hticket hwait] at hexec
    refine does_of_done hexec rfl ⟨?_, fun q hq => ?_, core_setCore_self _ _ _, fun b hb => ?_, rfl⟩
    · exact (pump_setPump s p _ p).trans (if_pos rfl)
    · exact (pump_setPump s p _ q).trans (if_neg hq)
    · exact (core_setCore _ c.agent _ b).trans (if_neg hb)

end Sys2Proof.Machine

/-!
PROOF. The M-cores: what a step may change of one M-core, and how the command at the head of a queue runs and completes (R98, R104,
R107, R108).
-/

namespace Sys2Proof.Machine

/-! ### A state that differs in one M-core -/

/-- From `s` to `t` M-core `i` becomes `x`, and nothing else changes. -/
def OnlyMc (i : Nat) (x : MCore) (s t : State) : Prop :=
  (∀ j, t.mc j = if j = i then x else s.mc j) ∧ t = { s with mcores := t.mcores }

theorem onlyMc_setMc (s : State) (i : Nat) (x : MCore) : OnlyMc i x s (s.setMc i x) :=
  ⟨mc_setMc s i x, rfl⟩

theorem onlyMc_refl (s : State) (i : Nat) : OnlyMc i (s.mc i) s s :=
  ⟨fun j => by split <;> simp_all, rfl⟩

/-- A state that differs in M-cores only completes. -/
theorem leaves_of_mcores {s t : State} (h : t = { s with mcores := t.mcores }) : Leaves s t t := by
  unfold Leaves
  rw [h]

section OnlyMc
variable {i : Nat} {x y : MCore} {s t u : State}

theorem OnlyMc.mc_trans (h : OnlyMc i x s t) (y : MCore) (j : Nat) :
    (if j = i then y else t.mc j) = if j = i then y else s.mc j := by
  rw [h.1 j]
  split <;> rfl

theorem OnlyMc.trans (h1 : OnlyMc i x s t) (h2 : OnlyMc i y t u) : OnlyMc i y s u := by
  have hframe1 := h1.2
  obtain ⟨hmc2, hframe2⟩ := h2
  refine ⟨fun j => (hmc2 j).trans (h1.mc_trans y j), ?_⟩
  rw [hframe1] at hframe2
  exact hframe2

theorem OnlyMc.self (h : OnlyMc i x s t) : t.mc i = x := (h.1 i).trans (if_pos rfl)

theorem OnlyMc.other (h : OnlyMc i x s t) {j : Nat} (hj : j ≠ i) : t.mc j = s.mc j := (h.1 j).trans (if_neg hj)

theorem OnlyMc.leaves (h : OnlyMc i x s t) : Leaves s t t := leaves_of_mcores h.2

/-- Changes of M-cores one after the other are changes of M-cores. -/
theorem mcores_trans (h1 : t = { s with mcores := t.mcores }) (h2 : u = { t with mcores := u.mcores }) :
    u = { s with mcores := u.mcores } := by
  rw [h1] at h2
  exact h2

end OnlyMc

/-! ### A new head of a queue (R78) -/

/-- From `s` to `t` M-cores, sync units, the service state (which holds the armed flips), the vane network and the Cistern may change,
and nothing else. -/
abbrev HeadFrame (s t : State) : Prop :=
  t = { s with mcores := t.mcores, sync := t.sync, svc := t.svc, vane := t.vane, cistern := t.cistern }

theorem HeadFrame.trans {s t u : State} (h1 : HeadFrame s t) (h2 : HeadFrame t u) : HeadFrame s u := by
  unfold HeadFrame at *
  rw [h1] at h2
  exact h2

theorem HeadFrame.outside {s t : State} (h : HeadFrame s t) : t.outside = s.outside := by
  rw [h]
  rfl

theorem OnlyMc.headFrame {i : Nat} {x : MCore} {s t : State} (h : OnlyMc i x s t) : HeadFrame s t := by
  unfold HeadFrame
  rw [h.2]

@[simp] theorem tiles_retimeTile (s : State) (k : Nat) : (s.retimeTile k).tiles = s.tiles := by
  obtain ⟨x, h⟩ := retimeTile_frame s k
  rw [h]

/-- The clocks of a tile depend on nothing that a command of an M-core changes. -/
theorem retimeTile_of_frame {s t : State} (h : HeadFrame s t) (k : Nat) :
    t.retimeTile k = { t with islands := (s.retimeTile k).islands } := by
  have hsite : (t.tile k).site = (s.tile k).site := by
    rw [h]
    rfl
  have hoff (n : Nat) : (t.island n).off = (s.island n).off := by
    rw [h]
    rfl
  unfold State.retimeTile
  rw [hsite]
  cases (s.tile k).site with
  | none => rw [h]
  | some n =>
    dsimp only
    rw [hoff, h]
    cases (s.island (vsIsland n)).off <;> rfl

/-- What a new head does to the clocks of the tile depends on the queue alone. -/
theorem mHead_of_frame {s t : State} {i : Nat} (h : HeadFrame s t) (hq : (t.mc i).queue = (s.mc i).queue) :
    t.mHead i = { t with tiles := (s.mHead i).tiles, islands := (s.mHead i).islands } := by
  unfold State.mHead
  rw [hq]
  cases (s.mc i).queue with
  | nil => rw [h]
  | cons c rest =>
    dsimp only
    split
    · rw [tiles_retimeTile, h]
      exact retimeTile_of_frame rfl (i / 16)
    · rw [h]

/-- A new head leaves the M-cores. -/
@[simp] theorem mc_mHead (s : State) (i j : Nat) : (s.mHead i).mc j = s.mc j := by
  obtain ⟨x, y, h⟩ := mHead_frame s i
  rw [h]
  rfl

/-! ### The head of a queue runs and completes (R104, R107) -/

/-- M-core `x` after it has taken the flag credit of a command (R104). -/
def MCore.take (x : MCore) (c : MCmd) : MCore :=
  { x with lf := x.lf.set (le c.desc 2 1 % 4) (x.lf.getD (le c.desc 2 1 % 4) 0 - le c.desc 3 1) }

/-- M-core `x` after the head `c` of its queue has completed: SIG's addition is due, and DONE counts it (R107). -/
def MCore.retired (x : MCore) (c : MCmd) (rest : List MCmd) : MCore :=
  { x with
    queue := rest
    sigs := if bit (le c.desc 1 1) 0 then x.sigs ++ [le c.desc 4 4] else x.sigs
    done := (x.done + 1) % 2 ^ 32 }

/-- The completion of a command that has left the queue, or that never leaves it. -/
theorem onlyMc_mFinish (s : State) (i : Nat) (c : MCmd) : OnlyMc i ((s.mc i).retired c (s.mc i).queue) s (s.mFinish i c) :=
  onlyMc_setMc s i _

section Retire
variable {s t : State} {i : Nat} {c : MCmd} {rest : List MCmd} (hqueue : (t.mc i).queue = c :: rest)
include hqueue

/-- M-core `i` after its head has left the queue and completed; every other M-core is as before. -/
theorem mc_retire (hwait : (t.mc i).waiting = false) (j : Nat) :
    ((t.mPop i).mFinish i c).mc j = if j = i then (t.mc i).retired c rest else t.mc j := by
  have hpopped : (t.mPop i).mc i = { t.mc i with queue := rest, waiting := false } := by
    rw [State.mPop, mc_mHead, mc_setMc, if_pos rfl, hqueue, List.drop_one, List.tail_cons]
  rw [State.mFinish, mc_setMc, hpopped]
  split
  · rw [← hwait]
    rfl
  · rw [State.mPop, mc_mHead, mc_setMc, if_neg ‹_›]

/-- The end of the head changes the M-core, and the clocks of its tile as the next head asks. -/
theorem retire_clocks (hframe : HeadFrame s t) : (t.mPop i).mFinish i c = { t with
    mcores := ((t.mPop i).mFinish i c).mcores
    tiles := ((s.setMc i { s.mc i with queue := rest }).mHead i).tiles
    islands := ((s.setMc i { s.mc i with queue := rest }).mHead i).islands } := by
  let popped : MCore := { t.mc i with queue := (t.mc i).queue.drop 1, waiting := false }
  have hhead : HeadFrame (s.setMc i { s.mc i with queue := rest }) (t.setMc i popped) := by
    unfold HeadFrame
    rw [hframe]
    rfl
  have hsame : ((t.setMc i popped).mc i).queue = ((s.setMc i { s.mc i with queue := rest }).mc i).queue := by
    simp [mc_setMc, popped, hqueue]
  have hpop : t.mPop i = _ := mHead_of_frame hhead hsame
  rw [hpop]
  rfl

end Retire

/-- The end of the head changes M-cores and the clocks of a tile only. -/
theorem retire_frame (t : State) (i : Nat) (c : MCmd) :
    ∃ m x y, (t.mPop i).mFinish i c = { t with mcores := m, tiles := x, islands := y } := by
  obtain ⟨x, y, h⟩ := mHead_frame (t.setMc i { t.mc i with queue := (t.mc i).queue.drop 1, waiting := false }) i
  unfold State.mPop
  rw [h]
  exact ⟨_, x, y, rfl⟩

theorem outside_retire (t : State) (i : Nat) (c : MCmd) : ((t.mPop i).mFinish i c).outside = t.outside := by
  obtain ⟨m, x, y, h⟩ := retire_frame t i c
  rw [h]
  rfl

theorem mem_retire (t : State) (i : Nat) (c : MCmd) : ((t.mPop i).mFinish i c).mem = t.mem := by
  obtain ⟨m, x, y, h⟩ := retire_frame t i c
  rw [h]

/-- A command without rows in memory is held up by no transaction. -/
theorem mBusy_of_op {d : Bytes} {o : Nat} (hop : le d 0 1 = o) (s : State) (ho : o ≠ 2 ∧ o ≠ 3 := by decide) :
    s.mBusy d = false := by
  simp [State.mBusy, mRows, hop, ho]

/-- How a started command `c` of M-core `i` goes on after its effect. -/
def headEnd (i : Nat) (c : MCmd) : MEffect → State
  | (t, .finished) => (t.mPop i).mFinish i c
  | (t, .waits) => t.setMc i { t.mc i with waiting := true }
  | (t, .failed st) => t.mFault i c st 0xFF

section Head
variable {s : State} {i : Nat} {c : MCmd} {rest : List MCmd} {op : Nat → Bool} {wait : Bool} {f : MCmd → State → MEffect}
  (h : MHead s i c rest) (hop : op (le c.desc 0 1) = true) (hbusy : s.mBusy c.desc = false)
include h hop hbusy

/-- A head that has passed its checks takes its flag credit and goes on as its effect says. -/
theorem runHead_of_head : s.runHead i op wait f = headEnd i c (f c (s.setMc i ((s.mc i).take c))) := by
  obtain ⟨-, hqueue, hpresent, hfault, hwait, hquiet, hcheck, hcredit, hxfers⟩ := h
  have hgo : (!op (le c.desc 0 1) || !s.mPresent i || (s.mc i).faulted || (s.mc i).waiting || s.quiesced (i / 16) (i / 4 % 4)) = false := by
    simp [hop, hpresent, hfault, hwait, hquiet]
  have hstart : (decide ((s.mc i).lf.getD (le c.desc 2 1 % 4) 0 < le c.desc 3 1) ||
      ((bit (le c.desc 1 1) 1 || wait) && !(s.mc i).xfers.isEmpty) || s.mBusy c.desc) = false := by
    simp only [hcredit.not_gt, hxfers, hbusy]
    simp
  unfold State.runHead
  dsimp only
  split
  next hempty => simp [hqueue] at hempty
  next c' rest' hcons =>
    obtain ⟨rfl, rfl⟩ : c = c' ∧ rest = rest' := by simpa using hqueue.symm.trans hcons
    rw [if_neg (ne_true_of_eq_false hgo), hcheck]
    exact if_neg (ne_true_of_eq_false hstart)

/-- A command whose effect finishes and leaves M-core `i` as `y`: the head leaves the queue and completes. -/
theorem does_of_retire {k : Instr} {t : State} {y : MCore} {P : State → Prop} (hexec : exec k s = done s (s.runHead i op wait f))
    (hf : f c (s.setMc i ((s.mc i).take c)) = (t, .finished)) (hout : t.outside = s.outside)
    (hmc : ∀ j, t.mc j = if j = i then y else s.mc j) (hqueue : y.queue = (s.mc i).queue) (hwait : y.waiting = (s.mc i).waiting)
    (hP : (t.mc i).queue = c :: rest → ((t.mPop i).mFinish i c).mc i = y.retired c rest →
      (∀ j, j ≠ i → ((t.mPop i).mFinish i c).mc j = s.mc j) → P ((t.mPop i).mFinish i c)) : Does k s P := by
  have hend : exec k s = done s ((t.mPop i).mFinish i c) := by
    rw [hexec, runHead_of_head h hop hbusy, hf]
    rfl
  obtain ⟨-, hcons, -, -, hfree, -⟩ := h
  have hself : t.mc i = y := (hmc i).trans (if_pos rfl)
  have hhead : (t.mc i).queue = c :: rest := by rw [hself, hqueue, hcons]
  have hread := mc_retire hhead (by rw [hself, hwait, hfree])
  refine does_of_done hend (leaves_of_outside ((outside_retire t i c).trans hout)) (hP hhead ?_ fun j hj => ?_)
  · exact (hread i).trans ((if_pos rfl).trans (by rw [hself]))
  · exact (hread j).trans ((if_neg hj).trans ((hmc j).trans (if_neg hj)))

/-- When the effect stays within the M-cores, the sync units, the armed flips, the vane network and the Cistern, the clocks of the
tile follow the next head. -/
theorem does_of_finished {k : Instr} {t : State} {y : MCore} {P : State → Prop} (hexec : exec k s = done s (s.runHead i op wait f))
    (hf : f c (s.setMc i ((s.mc i).take c)) = (t, .finished)) (hframe : HeadFrame s t)
    (hmc : ∀ j, t.mc j = if j = i then y else s.mc j) (hqueue : y.queue = (s.mc i).queue) (hwait : y.waiting = (s.mc i).waiting)
    (hP : ∀ u, u.mc i = y.retired c rest → (∀ j, j ≠ i → u.mc j = s.mc j) → u = { t with
      mcores := u.mcores
      tiles := ((s.setMc i { s.mc i with queue := rest }).mHead i).tiles
      islands := ((s.setMc i { s.mc i with queue := rest }).mHead i).islands } → P u) : Does k s P :=
  does_of_retire h hop hbusy hexec hf hframe.outside hmc hqueue hwait fun hhead hself hothers =>
    hP _ hself hothers (retire_clocks hhead hframe)

end Head

end Sys2Proof.Machine

/-!
PROOF. O22: MNOP, MSYNC and MWAIT (R98, R103), a reserved opcode (R108), M_SIG (R107), RESUME and FLUSH (R110).
-/

namespace Sys2Proof.Machine

/-! ### What the commands do -/

/-- A reserved opcode is the first check of Table 3.13 that fails. -/
theorem mCheck_reserved (e : MEnv) (i : Nat) {d : Bytes} (hop : 7 ≤ le d 0 1) : mCheck e i d = some (.badOpcode, 0) := by
  have hlt : decide (le d 0 1 < 7) = false := decide_eq_false hop.not_gt
  unfold mCheck
  rw [hlt]
  rfl

/-- A head that fails a check faults the M-core. -/
theorem runHead_of_fault {s : State} {i field : Nat} {c : MCmd} {rest : List MCmd} {op : Nat → Bool} {wait : Bool}
    {f : MCmd → State → MEffect} {st : Status} (hqueue : (s.mc i).queue = c :: rest) (hop : op (le c.desc 0 1) = true)
    (hpresent : s.mPresent i = true) (hfault : (s.mc i).faulted = false) (hwait : (s.mc i).waiting = false)
    (hquiet : s.quiesced (i / 16) (i / 4 % 4) = false) (hcheck : mCheck (s.mEnv i) i c.desc = some (st, field)) :
    s.runHead i op wait f = s.mFault i c st field := by
  simp [State.runHead, hqueue, hop, hpresent, hfault, hwait, hquiet, hcheck]

/-- M_SIG sends the oldest SIG addition of an M-core without transfers. -/
theorem exec_mSig {s : State} {i k : Nat} {l : List Nat} (hi : i < 512) (hsigs : (s.mc i).sigs = k :: l) (hxfers : (s.mc i).xfers = []) :
    exec (.mSig i) s = done s ((s.setMc i { s.mc i with sigs := l }).postAdd (s.mRegion i) k 1) := by
  refine (within_of_lt hi).trans (congrArg (done s) ?_)
  simp only [hsigs, hxfers, List.any_nil, Bool.false_eq_true, if_false]

/-- The Wellkeeper's write of MS_CTL of M-core `i` (Table 3.14). -/
theorem pathWrite_msCtl (s : State) {i : Nat} (hi : i < 512) (v : Nat) :
    s.pathWrite v (.diag .wellkeeper (diagBase + 0x60000000 + 256 * i + 32)) = (s.msWrite i 4 v).answer 0 .ok := by
  have hbase : diagBase = 0x010000000000 := rfl
  have hloc : s.loc (diagBase + 0x60000000 + 256 * i + 32) = diagBase + 0x60000000 + 256 * i + 32 := loc_of_lt s (by omega)
  have hin : (diagBase + 0x60000000 + 256 * i + 32) % 8 = 0 ∧ diagBase ≤ diagBase + 0x60000000 + 256 * i + 32 ∧
      diagBase + 0x60000000 + 256 * i + 32 < diagBase + 0x100000000 := by omega
  have hoff : diagBase + 0x60000000 + 256 * i + 32 - diagBase = 0x60000000 + 256 * i + 32 := by omega
  have hblock : (0x60000000 + 256 * i + 32) / 0x1000000 = 0x60 := by omega
  have hk : (0x60000000 + 256 * i + 32) % 0x1000000 = 256 * i + 32 := by omega
  have hlt : 256 * i + 32 < 0x20000 := by omega
  have hcore : (256 * i + 32) / 256 = i := by omega
  have hword : (256 * i + 32) % 256 / 8 = 4 := by omega
  have hwrite : s.diagWrite .wellkeeper (0x60000000 + 256 * i + 32) v = some (s.msWrite i 4 v) := by
    unfold State.diagWrite
    simp only [hblock, hk, hlt, hcore, hword, msMaster, and_self, if_true]
  simp only [State.pathWrite, hloc, hin, and_self, if_true, hoff, hwrite]

/-- Bit 0 of MS_CTL is RESUME. -/
theorem msWrite_resume (s : State) (i : Nat) : s.msWrite i 4 1 = s.msResume i := rfl

/-- Bit 1 of MS_CTL is FLUSH. -/
theorem msWrite_flush (s : State) (i : Nat) : s.msWrite i 4 2 = s.msFlush i := rfl

/-- RESUME of a faulted M-core drops the faulted command. -/
theorem exec_msResume {s : State} {i : Nat} (hi : i < 512) (hfault : (s.mc i).faulted = true) (hfresh : (s.mc i).stale = false) :
    exec (.msResume .wellkeeper i) s = done s (((s.setMc i { s.mc i with
      queue := (s.mc i).queue.drop 1, faulted := false, done := ((s.mc i).done + 1) % 2 ^ 32 }).mHead i).answer 0 .ok) := by
  refine (within_of_lt hi).trans (congrArg (done s) ((pathWrite_msCtl s hi 1).trans ?_))
  simp [msWrite_resume, State.msResume, hfault, hfresh]

/-- FLUSH of an M-core that is neither fenced nor waiting empties its queue. -/
theorem exec_msFlush {s : State} {i : Nat} (hi : i < 512) (hwait : (s.mc i).waiting = false) (hfresh : (s.mc i).stale = false) :
    exec (.msFlush .wellkeeper i) s = done s ((s.setMc i { s.mc i with
      queue := [], faulted := false, done := ((s.mc i).done + (s.mc i).queue.length) % 2 ^ 32 }).answer 0 .ok) := by
  refine (within_of_lt hi).trans (congrArg (done s) ((pathWrite_msCtl s hi 2).trans ?_))
  simp [msWrite_flush, State.msFlush, hwait, hfresh]

/-- Settles O22, clause by clause: MNOP, MSYNC SET and ADD, MWAIT that is met and that waits, a reserved opcode, M_SIG, RESUME and
FLUSH. -/
theorem matrixCommandsRetire : Obligations.MatrixCommandsRetire := by
  unfold Obligations.MatrixCommandsRetire
  intro s i c rest d x n retired others clk cell v sent
  let t0 := s.setMc i (x.take c)
  have htake : OnlyMc i (x.take c) s t0 := onlyMc_setMc s i (x.take c)
  have hadd (k : Nat) (w : Word) (u : State) (hvane : u.vane = (t0.postAdd (t0.mRegion i) k w).vane) : sent k w u :=
    ⟨_, congrArg Vane.held hvane⟩
  refine ⟨fun h hop => ?mnop, fun h hop hset hcell => ?set, fun h hop hpost => ?add, fun h hop hge hcell hholds => ?met,
    fun h hop hge hcell hfails hroom hqueue => ?unmet, fun hi hqueue hpresent hfault hwait hquiet hop => ?reserved,
    fun hi k l hsigs hxfers => ?sig, fun hi hfault hfresh => ?resume, fun hi hwait hfresh => ?flush⟩
  case mnop =>
    refine does_of_finished h (op := fun o => o == 0 || decide (7 ≤ o))
      (congrArg (fun o => o == 0 || decide (7 ≤ o)) hop) (mBusy_of_op hop s)
      (within_of_lt h.1) rfl htake.headFrame htake.1 rfl rfl fun u hself hothers hframe => ⟨hself, hothers, ?_⟩
    rw [hframe]
    rfl
  case set =>
    obtain ⟨p, q, r, w, hput⟩ := putCell_frame t0 cell v
    have hread (j : Nat) := cell_putCell t0 cell j v
    refine does_of_finished h (t := t0.putCell cell v) (y := x.take c) (op := (· == 5)) (beq_iff_eq.2 hop)
      (mBusy_of_op hop s) (within_of_lt h.1) (if_pos hset) ?_ (fun j => ?_) rfl rfl
      fun u hself hothers hframe => ?_
    · rw [hput]
      rfl
    · rw [hput]
      exact htake.1 j
    · have hcells (j : Nat) : u.cell j = (t0.putCell cell v).cell j := by
        rw [hframe]
        rfl
      refine ⟨?_, fun j hj => ?_, hself, hothers, ?_⟩
      · rw [hcells, hread, if_pos rfl]
      · rw [hcells, hread, if_neg hj]
        rfl
      · rw [hframe, hput]
        rfl
  case add =>
    refine does_of_finished h (t := t0.postAdd (t0.mRegion i) cell v) (op := (· == 5)) (beq_iff_eq.2 hop)
      (mBusy_of_op hop s) (within_of_lt h.1) (if_neg (by rw [hpost]; decide)) rfl htake.1 rfl rfl
      fun u hself hothers hframe => ⟨hadd cell v u (by rw [hframe]), hself, hothers, ?_⟩
    rw [hframe]
    rfl
  case met =>
    have hreg : t0.register ⟨cell, le d 8 1, le d 16 8, .mcore i⟩ (t0.mRegion i) = (t0, .now (s.cell cell)) :=
      register_holds (s := t0) hcell _ rfl (by rw [hge]; exact decide_eq_true hholds)
    refine does_of_finished h (op := (· == 6)) (beq_iff_eq.2 hop) (mBusy_of_op hop s) (within_of_lt h.1)
      (t := t0) ?_ htake.headFrame htake.1 rfl rfl fun u hself hothers hframe => ⟨hself, hothers, ?_⟩
    · rw [hreg]
    · rw [hframe]
      rfl
  case unmet =>
    have hreg : t0.register ⟨cell, le d 8 1, le d 16 8, .mcore i⟩ (t0.mRegion i) =
        (t0.tableWait ⟨cell, 0, le d 16 8, .mcore i⟩, .waits) := by
      rw [hge]
      exact register_waits (s := t0) hcell _ rfl (decide_eq_false hfails.not_gt) hroom hqueue
    let t1 := t0.tableWait ⟨cell, 0, le d 16 8, .mcore i⟩
    have hexec : exec (.mwait i) s = done s (t1.setMc i { x.take c with waiting := true }) := by
      refine (within_of_lt h.1).trans (congrArg (done s) ?_)
      rw [runHead_of_head h (op := (· == 6)) (beq_iff_eq.2 hop) (mBusy_of_op hop s)]
      dsimp only
      rw [hreg]
      exact congrArg (fun y : MCore => t1.setMc i { y with waiting := true }) htake.self
    refine does_of_done hexec rfl ⟨?_, ?_, fun j hj => ?_, rfl, rfl⟩
    · rw [mc_setMc, if_pos rfl]
    · rw [mc_setMc, if_pos rfl]
      exact h.2.1
    · rw [mc_setMc, if_neg hj]
      exact htake.other hj
  case reserved =>
    have hexec : exec (.mnop i) s = done s (s.mFault i c .badOpcode 0) :=
      (within_of_lt hi).trans (congrArg (done s) (runHead_of_fault (op := fun o => o == 0 || decide (7 ≤ o)) hqueue
        (Bool.or_eq_true_iff.2 (.inr (decide_eq_true hop))) hpresent hfault hwait hquiet (mCheck_reserved _ i hop)))
    have honly := onlyMc_setMc s i { x with
      faulted := true, waiting := false, code := 1, opc := le d 0 1, field := 0, seq := c.seq }
    refine does_of_done hexec honly.leaves ⟨?_, fun j hj => honly.other hj, honly.2⟩
    exact honly.self.trans (by rw [← hwait])
  case sig =>
    have honly := onlyMc_setMc s i { x with sigs := l }
    exact does_of_done (exec_mSig hi hsigs hxfers) rfl ⟨⟨_, rfl⟩, honly.self, fun j hj => honly.other hj, rfl⟩
  case resume =>
    let y : MCore := { x with queue := x.queue.drop 1, faulted := false, done := (x.done + 1) % 2 ^ 32 }
    have honly := onlyMc_setMc s i y
    have hhead : HeadFrame (s.setMc i { x with queue := x.queue.drop 1 }) (s.setMc i y) := rfl
    have hclocks := mHead_of_frame (i := i) hhead (by rw [mc_setMc, mc_setMc, if_pos rfl, if_pos rfl])
    have hexec := exec_msResume hi hfault hfresh
    rw [hclocks] at hexec
    exact does_of_done hexec rfl ⟨honly.self, fun j hj => honly.other hj, rfl⟩
  case flush =>
    have honly := onlyMc_setMc s i { x with
      queue := [], faulted := false, done := (x.done + x.queue.length) % 2 ^ 32 }
    exact does_of_done (exec_msFlush hi hwait hfresh) rfl ⟨honly.self, fun j hj => honly.other hj, rfl⟩

end Sys2Proof.Machine

/-!
PROOF. O23, the parts: the buffers of an M-core (R74, R394), and uncached reads and writes of a memory without errors or transactions
(R211).
-/

namespace Sys2Proof.Machine

/-! ### Buffers -/

/-- A run of bytes leaves the entries before it. -/
theorem tget_putBytes_of_lt (bs : Bytes) (m : Tab Byte) {a k : Nat} (h : k < a) :
    tget memDefault (putBytes m a bs) k = tget memDefault m k := by
  induction bs generalizing m a with
  | nil => rfl
  | cons b bs ih => rw [putBytes, ih _ (by omega), tget_tset_ne _ _ _ (by omega)]

/-- A run of bytes reads as put. -/
theorem tget_putBytes (bs : Bytes) (m : Tab Byte) (a : Nat) {j : Nat} (h : j < bs.length) :
    tget memDefault (putBytes m a bs) (a + j) = bs[j] := by
  induction bs generalizing m a j with
  | nil => simp at h
  | cons b bs ih =>
    cases j with
    | zero => simp [putBytes, tget_putBytes_of_lt]
    | succ j =>
      have hj : a + (j + 1) = a + 1 + j := by omega
      rw [putBytes, hj, ih _ _ (by simpa using h), List.getElem_cons_succ]

/-- A range of a buffer reads as written. -/
theorem read_write_same (x : MCore) (k off : Nat) (b : Bytes) : (x.write k off b).read k off b.length = b := by
  refine List.ext_getElem (by simp [MCore.read]) fun j hj hb => ?_
  simp only [MCore.read, List.getElem_map, List.getElem_range]
  exact tget_putBytes b x.bufs (bufBytes * k + off) hb

section NoErrors
variable {x : MCore} (h : x.errs = [])
include h

theorem bad_noErrors (k off n : Nat) : x.bad k off n = false := by simp [MCore.bad, h]

theorem badOld_noErrors (fresh : Bool) (k off n : Nat) : x.badOld fresh k off n = false := by simp [MCore.badOld, h]

/-- Correcting a range without errors changes nothing. -/
theorem fix_noErrors (k off n : Nat) : x.fix (x.singles k off n) = x := by
  simp only [MCore.singles, h, List.filter_nil, List.map_nil, MCore.fix, List.length_nil, Nat.add_zero]
  rw [← h]

end NoErrors

/-- A flip that is not armed is consumed by no write. -/
theorem armedFlip_unarmed {s : State} {k : Nat} (h : unarmed s k = true) (target : Nat) : s.armedFlip k target = none := by
  have hbit : bit (tget (fun _ => (0 : Word)) s.svc.flips k).toNat 0 = false := by simpa only [unarmed, Bool.not_eq_true'] using h
  unfold State.armedFlip
  dsimp only
  rw [hbit, Bool.false_and]
  exact if_neg Bool.false_ne_true

/-- Reading ranges of a buffer without errors changes nothing. -/
theorem onlyMc_mFix {s : State} {i : Nat} (h : (s.mc i).errs = []) (rs : List (Nat × Nat × Nat)) : OnlyMc i (s.mc i) s (s.mFix i rs) := by
  unfold State.mFix
  induction rs generalizing s with
  | nil => exact onlyMc_refl s i
  | cons r rs ih =>
    have hstep := onlyMc_setMc s i (s.mc i)
    rw [List.foldl_cons, fix_noErrors h]
    have hrest := ih (s := s.setMc i (s.mc i)) (by rw [hstep.self, h])
    rw [hstep.self] at hrest
    exact hstep.trans hrest

/-- A write of a buffer while no flip is armed. -/
theorem onlyMc_mWrite {s : State} {i : Nat} (h : s.armedFlip 4 i = none) (k off : Nat) (b : Bytes) :
    OnlyMc i ((s.mc i).write k off b) s (s.mWrite i k off b) := by
  have hflip : (s.setMc i ((s.mc i).write k off b)).armedFlip 4 i = none := h
  simp only [State.mWrite, hflip]
  exact onlyMc_setMc s i _

/-- M-core `x` with sticky flags recorded (Table 3.14). -/
def MCore.flag (x : MCore) (f : MFlags) : MCore :=
  { x with clamp := x.clamp || f.clamp, ovf := x.ovf || f.ovf, sat := x.sat || f.sat, nanout := x.nanout || f.nanout }

theorem onlyMc_mFlag (s : State) (i : Nat) (f : MFlags) : OnlyMc i ((s.mc i).flag f) s (s.mFlag i f) :=
  onlyMc_setMc s i _

@[simp] theorem flag_none (x : MCore) : x.flag {} = x := by simp [MCore.flag]

/-- A command that sets no sticky flag leaves the M-core's flags. -/
theorem OnlyMc.mFlag_none {i : Nat} {x : MCore} {s t : State} (h : OnlyMc i x s t) : OnlyMc i x s (t.mFlag i {}) := by
  have hflag := onlyMc_mFlag t i {}
  rw [flag_none, h.self] at hflag
  exact h.trans hflag

/-- A command reads ranges of buffers without errors, then writes one. -/
theorem onlyMc_mFix_mWrite {s : State} {i : Nat} (herrs : (s.mc i).errs = []) (hquiet : unarmed s 4 = true)
    (rs : List (Nat × Nat × Nat)) (k off : Nat) (b : Bytes) :
    OnlyMc i ((s.mc i).write k off b) s ((s.mFix i rs).mWrite i k off b) := by
  have hfix := onlyMc_mFix herrs rs
  have hflip : (s.mFix i rs).armedFlip 4 i = none :=
    (armedFlip_of_svc (by rw [hfix.2]) 4 i).trans (armedFlip_unarmed hquiet i)
  have hwrite := onlyMc_mWrite hflip k off b
  rw [hfix.self] at hwrite
  exact hfix.trans hwrite

/-- A command reads ranges of buffers without errors, and records sticky flags. -/
theorem onlyMc_mFix_mFlag {s : State} {i : Nat} (herrs : (s.mc i).errs = []) (rs : List (Nat × Nat × Nat)) (f : MFlags) :
    OnlyMc i ((s.mc i).flag f) s ((s.mFix i rs).mFlag i f) := by
  have hfix := onlyMc_mFix herrs rs
  have hflag := onlyMc_mFlag (s.mFix i rs) i f
  rw [hfix.self] at hflag
  exact hfix.trans hflag

/-! ### Uncached accesses to a clean memory (R211) -/

/-- An address that leads to the Cistern or to HBM does not lead to a tightly coupled memory. -/
theorem placeLocal_ne_tcm {s : State} {a : Nat} (h : inMem s a = true) (c : Nat) : placeLocal (s.loc a) ≠ .tcm c := by
  intro htcm
  unfold inMem State.place at h
  unfold State.loc at htcm
  cases hloc : s.localAddr a with
  | none =>
    rw [hloc] at h
    by_cases hremote : 2 ^ 63 ≤ a ∧ a < 2 ^ 64 ∧ bits a 62 60 = 0
    · simp only [if_pos hremote, Bool.false_eq_true] at h
    · simp only [if_neg hremote, Bool.false_eq_true] at h
  | some x =>
    rw [hloc] at h htcm
    rw [Option.getD_some] at htcm
    simp only [htcm, Bool.false_eq_true] at h

section CleanMemory
variable {s : State} (h : Clean s)
include h

theorem tracked_clean (x n : Nat) : s.tracked x n = [] := by
  obtain ⟨-, -, hdir, -⟩ := h
  simp [State.tracked, hdir, tkeys]

theorem busyLines_clean (x n : Nat) (write : Bool) : s.busyLines x n write = [] := by
  obtain ⟨-, -, -, hwaiting, -⟩ := id h
  simp [State.busyLines, tracked_clean h, hwaiting]

theorem badGrans_clean (a n : Nat) : s.badGrans a n = [] := by
  simp [State.badGrans, h.1, tkeys]

theorem stopMarch_clean (x n : Nat) : s.stopMarch x n = s := if_pos h.2.2.2.2.1

theorem openAcc_clean (x : Nat) (b : Bytes) : s.openAcc x b = (s, b) := by
  obtain ⟨-, -, -, -, -, hslots⟩ := h
  simp [State.openAcc, hslots]

theorem taintAcc_clean (x n : Nat) : s.taintAcc x n = s := by
  obtain ⟨-, -, -, -, -, hslots⟩ := h
  simp [State.taintAcc, hslots]

theorem dropLines_clean (x n agent : Nat) : s.dropLines x n agent = s := by
  simp [State.dropLines, tracked_clean h]

theorem readU_clean (agent a n : Nat) : (s.readU agent a n).1 = s := by
  simp [State.readU, badGrans_clean h, State.readGrans]

theorem firstPoison_clean (a n : Nat) : s.firstPoison a n = none := by
  simp [State.firstPoison, badGrans_clean h]

end CleanMemory

/-- Merging a read with others of its granule changes the Cistern's merge groups only. -/
theorem mergeRead_frame (s : State) (x n : Nat) : ∃ z b, s.mergeRead x n = ({ s with cistern := z }, b) := by
  unfold State.mergeRead
  dsimp only
  repeat' split
  all_goals exact ⟨_, _, rfl⟩

/-- A read of a clean memory gives the stored bytes; it may open or join a merge group. -/
theorem cohRead_clean {s : State} (h : Clean s) {a : Nat} (hmem : inMem s a = true) (agent n : Nat) (joins : Bool) (cls : Nat) :
    ∃ z, s.cohRead agent a n joins cls = ({ s with cistern := z }, none, s.rawBytes a n) := by
  have hplace := placeLocal_ne_tcm hmem
  obtain ⟨z, joined, hmerge⟩ : ∃ z b, (if joins then s.mergeRead (s.loc a) n else (s, false)) = ({ s with cistern := z }, b) := by
    cases joins
    · exact ⟨s.cistern, false, rfl⟩
    · exact mergeRead_frame s _ _
  have hclean : Clean { s with cistern := z } := h
  have hread : (if joined then ({ s with cistern := z } : State) else (State.readU { s with cistern := z } agent (s.loc a) n).1) =
      { s with cistern := z } := by
    rw [readU_clean hclean, ite_self]
  refine ⟨z, ?_⟩
  unfold State.cohRead
  simp only [busyLines_clean h, stopMarch_clean h, tracked_clean h, List.filter_nil, List.foldl_nil, hmerge, hread,
    firstPoison_clean hclean, openAcc_clean hclean]
  rfl

/-- A write of the Cistern or of HBM without errors puts its bytes. -/
theorem mem_writeGrans_clean {s : State} (h : Clean s) (agent a : Nat) (bs : Bytes) :
    (s.writeGrans false agent a bs).1.mem = (s.putMem [] a bs).mem := by
  simp only [State.writeGrans, badGrans_clean h, List.filter_nil, State.readGrans, List.foldl_nil, Bool.false_eq_true, if_false,
    mem_takeFlip]

theorem writeMem_inMem {s : State} {a : Nat} (h : inMem s a = true) (hw : Bool) (agent : Nat) (bs : Bytes) :
    s.writeMem hw agent a bs = s.writeGrans hw agent (s.loc a) bs := by
  have hplace := placeLocal_ne_tcm h
  simp only [State.writeMem]

/-- An uncached write to a clean memory breaks the reservations on its lines and puts its bytes. -/
theorem cohWrite_clean {s : State} (h : Clean s) {a : Nat} (hmem : inMem s a = true) (agent : Nat) (bs : Bytes) (cls : Nat) :
    ∃ y, (s.cohWrite agent a bs none cls).1 = (State.writeGrans { s with cores := y } false agent (s.loc a) bs).1 := by
  obtain ⟨y, hresv⟩ : ∃ y, (List.range ((s.loc a + bs.length - 1) / 128 - s.loc a / 128 + 1)).foldl
      (fun t i => t.breakResv (s.loc a / 128 + i) 512) s = { s with cores := y } :=
    foldl_frame (·.cores) (fun t y => { t with cores := y }) (fun t i => breakResv_frame t _ 512) _ s
  have hclean : Clean { s with cores := y } := h
  have hwrite := writeMem_inMem (s := { s with cores := y }) hmem false agent bs
  refine ⟨y, ?_⟩
  simp only [State.cohWrite, State.quietWrite, busyLines_clean h, stopMarch_clean h, dropLines_clean h, if_true, hresv,
    taintAcc_clean hclean, hwrite]
  split
  next hanswer => exact congrArg Prod.fst hanswer.symm
  next hanswer => exact congrArg Prod.fst hanswer.symm

/-- Such a write changes bytes as put; M-cores, the queue, the fuses and the timebase stay. -/
theorem cohWrite_reads {s : State} (h : Clean s) {a : Nat} (hmem : inMem s a = true) (agent : Nat) (bs : Bytes) (cls : Nat) :
    (s.cohWrite agent a bs none cls).1.mem = (s.putMem [] (s.loc a) bs).mem ∧
    (s.cohWrite agent a bs none cls).1.mcores = s.mcores ∧ (s.cohWrite agent a bs none cls).1.outside = s.outside := by
  obtain ⟨y, hwrite⟩ := cohWrite_clean h hmem agent bs cls
  have hclean : Clean { s with cores := y } := h
  rw [hwrite]
  exact ⟨mem_writeGrans_clean hclean agent _ bs, writeGrans_keeps (g := State.mcores) (fun _ _ _ _ _ _ _ => rfl) _ _ _ _ _ _,
    writeGrans_keeps outside_ignoresStore _ _ _ _ _ _⟩

end Sys2Proof.Machine

/-!
PROOF. O23: MMA (R83, R86), MLOAD (R100), MSTORE (R101), MSEND and its arrival (R102, R106), and the end of the class-I clock (R78).
-/

namespace Sys2Proof.Machine

/-! ### The effects of MMA, MLOAD and MSTORE -/

/-- A head that is no class-I MMA leaves the clocks (R78). -/
theorem mHead_of_other {s : State} {i : Nat} {c : MCmd} {rest : List MCmd} (hqueue : (s.mc i).queue = c :: rest)
    (hclass : opClass (bits (le c.desc 8 1) 3 0) (bits (le c.desc 8 1) 7 4) ≠ 4) : s.mHead i = s := by
  unfold State.mHead
  rw [hqueue]
  exact if_neg fun h => hclass h.2

/-- An MMA of one row by one column with an FP32 accumulator, on buffers without errors, writes one accumulator element (R86). -/
theorem mmaEffect_single {s : State} {i : Nat} {c : MCmd} {rest : List MCmd} (hqueue : (s.mc i).queue = c :: rest)
    (herrs : (s.mc i).errs = []) (hquiet : unarmed s 4 = true) (hfp : bit (le c.desc 9 1) 0 = false)
    (hclass : opClass (bits (le c.desc 8 1) 3 0) (bits (le c.desc 8 1) 7 4) ≠ 4) (hrow : le c.desc 10 2 = 1)
    (hcol : le c.desc 12 2 = 1) :
    let d := c.desc
    let x := s.mc i
    let a := mRow x 0 (bits (le d 8 1) 3 0) (le d 16 4) (le d 20 4) (le d 40 4) (le d 48 2) (le d 14 2) 0
    let b := mRow x 1 (bits (le d 8 1) 7 4) (le d 24 4) (le d 28 4) (le d 44 4) (le d 50 2) (le d 14 2) 0
    ∃ t, mmaEffect i c s = (t, .finished) ∧ OnlyMc i (x.write 2 (le d 32 4) (toLe 4 (mmaFp32 (bit (le d 9 1) 1)
      (le (x.read 2 (le d 32 4) 4) 0 4) (blockValues false (le d 14 2 / 32) a.1 b.1 a.2 b.2)))) s t := by
  intro d x a b
  have hint : (opClass (bits (le c.desc 8 1) 3 0) (bits (le c.desc 8 1) 7 4) == 4) = false := beq_false_of_ne hclass
  unfold mmaEffect
  simp only [hrow, hcol, hfp, hint, mHead_of_other hqueue hclass, List.range_one, List.map_cons, List.map_nil, List.any_cons,
    List.any_nil, bad_noErrors herrs, badOld_noErrors herrs, List.zip_cons_cons, List.zip_nil_left, accBytes,
    Bool.false_eq_true, if_false, Bool.or_false, Bool.and_false, Nat.zero_mul, Nat.add_zero, Nat.mul_zero, Nat.one_mul,
    List.foldl_cons, List.foldl_nil, List.flatten_cons, List.flatten_nil, List.append_nil]
  exact ⟨_, rfl, (onlyMc_mFix_mWrite herrs hquiet _ 2 (le d 32 4) _).mFlag_none⟩

/-- A command without errors or transactions in memory is held up by none. -/
theorem mBusy_clean {s : State} (h : Clean s) (d : Bytes) : s.mBusy d = false := by
  simp [State.mBusy, busyLines_clean h]

/-- An MLOAD of one row from a clean memory writes the row to the buffer (R100). -/
theorem mloadEffect_single {s : State} {i : Nat} {c : MCmd} (h : Clean s) (hquiet : unarmed s 4 = true) (hrow : le c.desc 10 2 = 1)
    (haccess : s.mAccess i .load c.desc = .ok) (hmem : inMem s (le c.desc 16 8) = true) :
    ∃ z t, mloadEffect i c s = (t, .finished) ∧
      OnlyMc i ((s.mc i).write (le c.desc 8 1) (le c.desc 28 4) (s.rawBytes (le c.desc 16 8) (le c.desc 12 4)))
        { s with cistern := z } t := by
  obtain ⟨z, hread⟩ := cohRead_clean h hmem (448 + s.mRegion i) (le c.desc 12 4) true c.cls
  refine ⟨z, _, ?_, onlyMc_mWrite (s := { s with cistern := z }) (armedFlip_unarmed hquiet i) _ _ _⟩
  simp only [mloadEffect, haccess, hrow, List.range_one, List.foldl_cons, List.foldl_nil, Nat.zero_mul, Nat.add_zero, hread,
    ne_eq, not_true_eq_false, if_false, Option.isSome_none, Bool.or_false, Bool.false_eq_true]

/-- An MSTORE of one row to a clean memory outside the catchment puts the converted elements; the M-core's sticky flags take those
of the conversion (R101). -/
theorem mstoreEffect_single {s : State} {i : Nat} {c : MCmd} (h : Clean s) (herrs : (s.mc i).errs = [])
    (hcat : bit (le c.desc 9 1) 4 = false) (hrow : le c.desc 10 2 = 1) (haccess : s.mAccess i .store c.desc = .ok)
    (hmem : inMem s (le c.desc 24 8) = true) :
    let d := c.desc
    ∃ t f, mstoreEffect i c s = (t, .finished) ∧
      t.mem = (s.putMem [] (s.loc (le d 24 8))
        ((mstoreElems d ((s.mc i).read 2 (le d 16 4) (le d 12 2 * accBytes (bit (le d 9 1) 0))) 0).map
          (fun e => toLe (outBytes (le d 8 1)) e.1)).flatten).mem ∧
      (∀ j, t.mc j = if j = i then (s.mc i).flag f else s.mc j) ∧ t.outside = s.outside := by
  intro d
  simp only [mstoreEffect, hcat, haccess, hrow, List.range_one, List.map_cons, List.map_nil, List.any_cons, List.any_nil,
    bad_noErrors herrs, List.foldl_cons, List.foldl_nil, Nat.zero_mul, Nat.add_zero, Bool.or_false, Bool.false_eq_true, if_false,
    ne_eq, not_true_eq_false]
  generalize hflags : List.foldl MFlags.or _ _ = f
  have honly := onlyMc_mFix_mFlag herrs [(2, le c.desc 16 4, le c.desc 12 2 * accBytes (bit (le c.desc 9 1) 0))] f
  generalize (s.mFix i _).mFlag i f = u at honly ⊢
  have hclean : Clean u := by
    rw [honly.2]
    exact h
  have hplace : inMem u (le c.desc 24 8) = true := by
    rw [honly.2]
    exact hmem
  obtain ⟨hbytes, hcores, hout⟩ := cohWrite_reads hclean hplace (448 + s.mRegion i) (((mstoreElems d ((s.mc i).read 2 (le d 16 4)
    (le d 12 2 * accBytes (bit (le d 9 1) 0))) 0).map (fun e => toLe (outBytes (le d 8 1)) e.1)).flatten) c.cls
  refine ⟨_, f, rfl, hbytes.trans ?_, fun j => ?_, hout.trans honly.headFrame.outside⟩
  · rw [honly.2]
    rfl
  · exact (congrArg (fun m => tget (fun _ => ({} : MCore)) m j) hcores).trans (honly.1 j)

/-! ### MSEND and its arrival (R102, R106) -/

/-- Checks without a failure all hold. -/
theorem firstField_none {l : List FieldCheck} (h : firstField l = none) {x : FieldCheck} (hx : x ∈ l) : x.1 = true := by
  induction l with
  | nil => simp at hx
  | cons y l ih =>
    obtain ⟨ok, st, field⟩ := y
    cases ok with
    | false => simp [firstField] at h
    | true =>
      obtain rfl | hmem := List.mem_cons.1 hx
      · rfl
      · exact ih h hmem

/-- An MSEND that passes its checks has a destination. -/
theorem isSome_mDest_of_mCheck {e : MEnv} {i : Nat} {d : Bytes} (hop : le d 0 1 = 4) (h : mCheck e i d = none) :
    (mDest i (le d 9 1)).isSome = true := by
  obtain ⟨hfields, -⟩ := (Option.orElse_eq_none _ _).1 h
  have hmem : ((mDest i (le d 9 1)).isSome, Status.badField, 9) ∈ mCheck2 i d := by simp [mCheck2, hop]
  have hall : ((mDest i (le d 9 1)).isSome, Status.badField, 9) ∈
      [(decide (le d 0 1 < 7), Status.badOpcode, 0)] ++ mCheck2 i d ++ mCheck3 d ++ mCheck4 d ++ mCheck5 i d := by
    simp only [List.mem_append, hmem, true_or, or_true]
  exact firstField_none hfields hall

/-- The directions below 4 lead to M-cores. -/
theorem mDest_mcore {i dir k : Nat} {v : Bool} (hdir : dir < 4) (h : mDest i dir = some (v, k)) : v = false := by
  unfold mDest at h
  interval_cases dir <;> simp at h <;> exact h.2.1

/-- An MSEND at the head whose source holds no error leaves the queue, and its transfer starts with the bytes of the source. -/
theorem exec_msend {s : State} {i k : Nat} {c : MCmd} {rest : List MCmd} (h : MHead s i c rest) (hop : le c.desc 0 1 = 4)
    (hdest : mDest i (le c.desc 9 1) = some (false, k)) (herrs : (s.mc i).errs = []) :
    exec (.msend i) s = done s ((s.setMc i { (s.mc i).take c with
      queue := rest
      xfers := [⟨c, false, k, le c.desc 10 1, le c.desc 20 4, le c.desc 11 1,
        (s.mc i).read (le c.desc 8 1) (le c.desc 16 4) (le c.desc 12 4), false⟩] }).mHead i) := by
  obtain ⟨hi, hqueue, hpresent, hfault, hwait, hquiet, hcheck, hcredit, hxfers⟩ := h
  refine (within_of_lt hi).trans (congrArg (done s) ?_)
  have hgo : (le c.desc 0 1 != 4 || !s.mPresent i || (s.mc i).faulted || (s.mc i).waiting || s.quiesced (i / 16) (i / 4 % 4)) = false := by
    simp [hop, hpresent, hfault, hwait, hquiet]
  have hstart : (decide ((s.mc i).lf.getD (le c.desc 2 1 % 4) 0 < le c.desc 3 1) ||
      (bit (le c.desc 1 1) 1 && !(s.mc i).xfers.isEmpty)) = false := by
    simp only [hcredit.not_gt, hxfers]
    simp
  have hfix := fix_noErrors (x := (s.mc i).take c) herrs (le c.desc 8 1) (le c.desc 16 4) (le c.desc 12 4)
  dsimp only
  split
  next hempty => simp [hqueue] at hempty
  next c' rest' hcons =>
    obtain ⟨rfl, rfl⟩ : c = c' ∧ rest = rest' := by simpa using hqueue.symm.trans hcons
    rw [if_neg (ne_true_of_eq_false hgo), hcheck, hdest]
    dsimp only
    rw [if_neg (ne_true_of_eq_false hstart), if_neg (ne_true_of_eq_false (bad_noErrors herrs _ _ _))]
    unfold MCore.take at hfix ⊢
    rw [hfix, hxfers]
    rfl

/-- A transfer to another M-core lands: its data are in the destination buffer, unless they had landed before. -/
theorem onlyMc_landXfer {s : State} {x : MXfer} (hquiet : unarmed s 4 = true) (htarget : x.toV = false) :
    OnlyMc x.dst (if x.landed then s.mc x.dst else (s.mc x.dst).write x.buf x.base x.data) s (s.landXfer x) := by
  unfold State.landXfer
  cases x.landed with
  | true => exact onlyMc_refl s x.dst
  | false =>
    rw [htarget]
    exact onlyMc_mWrite (armedFlip_unarmed hquiet x.dst) x.buf x.base x.data

/-- The oldest transfer goes on when the flag counter of its destination has room (R106). -/
theorem nextXfer_room {s : State} {x : MXfer} {xs : List MXfer} (hroom : (s.mc x.dst).lf.getD x.lf 0 < 65535) :
    s.nextXfer [] (x :: xs) = some x := by
  have hfree : (x.landed && (s.mc x.dst).lf.getD x.lf 0 == 65535) = false := by
    rw [beq_false_of_ne hroom.ne, Bool.and_false]
  unfold State.nextXfer
  rw [hfree]
  rfl

/-- M-core `x` with one more in flag counter `n` (R106). -/
def MCore.raiseFlag (x : MCore) (n : Nat) : MCore := { x with lf := x.lf.set n (x.lf.getD n 0 + 1) }

/-- MSEND_ARRIVE of a transfer to another M-core whose flag counter has room: it lands, its command completes, and the counter
rises. -/
theorem exec_msendArrive {s : State} {i : Nat} {x : MXfer} {xs : List MXfer} (hi : i < 512) (hquiet : unarmed s 4 = true)
    (hxfers : (s.mc i).xfers = x :: xs) (htarget : x.toV = false) (hother : x.dst ≠ i)
    (hroom : (s.mc x.dst).lf.getD x.lf 0 < 65535) :
    ∃ t, OnlyMc i (MCore.retired { s.mc i with xfers := xs } x.cmd (s.mc i).queue) (s.landXfer x) t ∧
      exec (.msendArrive i) s = done s (t.setMc x.dst ((t.mc x.dst).raiseFlag x.lf)) := by
  have hland := onlyMc_landXfer hquiet htarget
  have hsrc : (s.landXfer x).mc i = s.mc i := hland.other hother.symm
  have hfree : ¬ ((s.landXfer x).mc x.dst).lf.getD x.lf 0 = 65535 := by
    rw [hland.self]
    cases x.landed <;> exact hroom.ne
  have hdrop := onlyMc_setMc (s.landXfer x) i { s.mc i with xfers := xs }
  have hended := hdrop.trans (onlyMc_mFinish _ i x.cmd)
  rw [hdrop.self] at hended
  refine ⟨_, hended, (within_of_lt hi).trans (congrArg (done s) ?_)⟩
  rw [hxfers, nextXfer_room hroom]
  dsimp only
  rw [if_neg (ne_true_of_eq_false htarget), if_neg hfree, hsrc, hxfers, List.erase_cons_head]
  rfl

/-- Settles O23, clause by clause: MMA, MLOAD, MSTORE, MSEND, its arrival, and the end of the class-I clock. -/
theorem matrixDataCommands : Obligations.MatrixDataCommands := by
  unfold Obligations.MatrixDataCommands
  intro s i c rest x xs t1 herrs d fa fb k a b clk gone quiet far
  let t0 := s.setMc i ((s.mc i).take c)
  have htake : OnlyMc i ((s.mc i).take c) s t0 := onlyMc_setMc s i _
  have hcore : t0.mc i = (s.mc i).take c := htake.self
  have herrs0 : (t0.mc i).errs = [] := by
    rw [hcore]
    exact herrs
  refine ⟨fun h hop hquiet hfp hclass hrow hcol => ?mma, fun h hop hquiet hclean hrow haccess hfar => ?mload,
    fun h hop hclean hcat hrow haccess hfar => ?mstore, fun h hop hdir => ?msend,
    fun hi hquiet hxfers htarget hother hlf hlen hroom => ?arrive, fun ht => ?clock⟩
  case mma =>
    have hqueue : (t0.mc i).queue = c :: rest := by
      rw [hcore]
      exact h.2.1
    obtain ⟨t, heffect, honly⟩ := mmaEffect_single hqueue herrs0 hquiet hfp hclass hrow hcol
    rw [hcore] at honly
    have honly' := htake.trans honly
    refine does_of_finished h (op := (· == 1)) (beq_iff_eq.2 hop) (mBusy_of_op hop s) (within_of_lt h.1) heffect
      honly'.headFrame honly'.1 rfl rfl fun u hself hothers hframe =>
      ⟨?_, ⟨congrArg MCore.queue hself, congrArg MCore.done hself, hothers⟩, ?_⟩
    · rw [hself]
      exact read_write_same _ 2 (le d 32 4) (toLe 4 _)
    · rw [hframe, honly'.2]
  case mload =>
    obtain ⟨z, t, heffect, honly⟩ := mloadEffect_single (s := t0) (i := i) hclean hquiet hrow haccess hfar
    rw [hcore] at honly
    refine does_of_finished h (op := (· == 2)) (beq_iff_eq.2 hop) (mBusy_clean hclean _) (within_of_lt h.1) heffect
      ?_ (fun j => (honly.1 j).trans (htake.mc_trans _ j)) rfl rfl fun u hself hothers hframe =>
      ⟨?_, ⟨congrArg MCore.queue hself, congrArg MCore.done hself, hothers⟩, ?_⟩
    · exact HeadFrame.trans (t := { t0 with cistern := z }) rfl honly.headFrame
    · have hlen : (s.rawBytes (le d 16 8) (le d 12 4)).length = le d 12 4 := by simp [State.rawBytes]
      have hread := read_write_same ((s.mc i).take c) (le d 8 1) (le d 28 4) (s.rawBytes (le d 16 8) (le d 12 4))
      rw [hlen] at hread
      rw [hself]
      exact hread
    · rw [hframe, honly.2]
      rfl
  case mstore =>
    obtain ⟨t, f, heffect, hmem, hmc, hout⟩ := mstoreEffect_single (s := t0) hclean herrs0 hcat hrow haccess hfar
    rw [hcore] at hmc
    refine does_of_retire h (op := (· == 3)) (beq_iff_eq.2 hop) (mBusy_clean hclean _) (within_of_lt h.1) heffect
      (hout.trans htake.headFrame.outside) (fun j => (hmc j).trans (htake.mc_trans _ j)) rfl rfl
      fun _ hself hothers => ⟨?_, congrArg MCore.queue hself, congrArg MCore.done hself, hothers⟩
    · rw [mem_retire, hmem, hcore]
      rfl
  case msend =>
    obtain ⟨-, -, -, -, -, -, hcheck, -⟩ := id h
    obtain ⟨⟨v, j⟩, hdest⟩ := Option.isSome_iff_exists.1 (isSome_mDest_of_mCheck hop hcheck)
    obtain rfl := mDest_mcore hdir hdest
    have hexec := exec_msend h hop hdest herrs
    generalize hy : ({ (s.mc i).take c with queue := rest, xfers := _ } : MCore) = y at hexec
    have honly := onlyMc_setMc s i y
    have hhead : HeadFrame (s.setMc i { s.mc i with queue := rest }) (s.setMc i y) := rfl
    have hclocks := mHead_of_frame (i := i) hhead (by rw [honly.self, mc_setMc, if_pos rfl, ← hy])
    rw [hclocks] at hexec
    refine does_of_done hexec rfl ⟨?_, j, hdest, ?_, fun l hl => honly.other hl, rfl⟩
    · exact (congrArg MCore.queue honly.self).trans (by rw [← hy])
    · exact (congrArg MCore.xfers honly.self).trans (by rw [← hy])
  case arrive =>
    have hland := onlyMc_landXfer hquiet htarget
    obtain ⟨v, hended, hexec⟩ := exec_msendArrive hi hquiet hxfers htarget hother hroom
    rw [hended.other hother, hland.self] at hexec
    generalize hy : (if x.landed then s.mc x.dst else (s.mc x.dst).write x.buf x.base x.data) = y at hexec
    have hcount : y.lf = (s.mc x.dst).lf := by
      rw [← hy]
      split <;> rfl
    have hraised := onlyMc_setMc v x.dst (y.raiseFlag x.lf)
    have hframe := mcores_trans (mcores_trans hland.2 hended.2) hraised.2
    refine does_of_done hexec (leaves_of_mcores hframe) ⟨?_, ?_, fun hfresh => ?_, ?_, hframe⟩
    · rw [hraised.other hother.symm, hended.self]
      rfl
    · rw [hraised.other hother.symm, hended.self]
      rfl
    · rw [hraised.self, ← hy, hfresh]
      exact read_write_same (s.mc x.dst) x.buf x.base x.data
    · rw [hraised.self]
      have hin : x.lf < (s.mc x.dst).lf.length := hlen ▸ hlf
      simp [MCore.raiseFlag, hcount, hin]
  case clock =>
    have hexec := exec_int8ClockRestore ht s
    have hread := tile_setTile s t1 { s.tile t1 with classI := false }
    obtain ⟨y, hclocks⟩ := retimeTile_frame (s.setTile t1 { s.tile t1 with classI := false }) t1
    rw [hclocks] at hexec
    refine does_of_done hexec rfl ⟨?_, fun j hj => (hread j).trans (if_neg hj), rfl⟩
    exact congrArg Tile.classI ((hread t1).trans (if_pos rfl))

end Sys2Proof.Machine

/-!
PROOF. O54: spare rows and columns of the Cistern (R395, R396), the retirement of a unit (R397), a scrub read (R392), a corrective
write-back (R139), the end of a merge window (R126) and a slip (R156).
-/

namespace Sys2Proof.Machine

/-! ### Entries and records -/

/-- A repair is entered in a record with room while flash may be written: the entry is its last. -/
theorem addRepair_room {s : State} (hok : s.flashOk = true) (hroom : s.flash.repair.length < 4092) (kind payload : Nat) :
    ∃ n c, s.addRepair kind payload = { s with
      flash.repair := s.flash.repair ++ [⟨kind, s.flash.boots, payload⟩], flash.repairSeq := n, flash.repairCopy := c } :=
  ⟨_, _, (if_pos hok).trans (if_pos hroom)⟩

/-- What a log record may change. -/
theorem logRec_changes (s : State) (code src result : Nat) :
    ∃ q l, s.logRec code src result = { s with svc.logq := q, svc.logLost := l } :=
  ⟨_, _, logRec_frame s code src result [] false⟩

/-- An entered repair that is logged changes the repair record in flash and the log's buffer only. -/
theorem logRec_addRepair {s : State} (hok : s.flashOk = true) (hroom : s.flash.repair.length < 4092)
    (kind payload code src result : Nat) : ∃ n c q l, (s.addRepair kind payload).logRec code src result = { s with
      flash.repair := s.flash.repair ++ [⟨kind, s.flash.boots, payload⟩], flash.repairSeq := n, flash.repairCopy := c
      svc.logq := q, svc.logLost := l } := by
  obtain ⟨n, c, hentry⟩ := addRepair_room hok hroom kind payload
  obtain ⟨q, l, hlog⟩ := logRec_changes (s.addRepair kind payload) code src result
  exact ⟨n, c, q, l, by rw [hlog, hentry]⟩

/-! ### Spare rows and columns (R395, R396) -/

/-- Spares of a sub-array that are used. -/
def spareCount (l : List (Nat × Nat × Nat)) (slice sub : Nat) : Nat := (l.filter (fun r => r.1 == slice && r.2.1 == sub)).length

/-- Setting granules one after another changes granules only. -/
theorem foldl_setGran_frame (x : State → Nat → Gran) (gs : List Nat) (s : State) :
    ∃ m, gs.foldl (fun t g => t.setGran g (x t g)) s = { s with grans := m } :=
  foldl_frame (·.grans) (fun t m => { t with grans := m }) (fun _ _ => ⟨_, rfl⟩) gs s

/-- A row goes to the next spare row of its sub-array. -/
def State.enterRow (s : State) (i sub row : Nat) : State :=
  ({ (s.copyGrans (rowGrans i sub row)).forgetCis (rowGrans i sub row).contains with
      cistern.rows := s.cistern.rows ++ [(i, sub, row)] }.addRepair 4
    (i + 2 ^ 11 * sub + 2 ^ 16 * row + 2 ^ 24 * spareCount s.cistern.rows i sub)).logRec 0x1001 (i / 32)
    (i + 2 ^ 11 * sub + 2 ^ 16 * row)

/-- A bit goes to the next spare column of its sub-array. -/
def State.enterColumn (s : State) (i sub b : Nat) : State :=
  ({ ((tkeys s.grans).filter (inSubArray i sub)).foldl (fun (u : State) g =>
        u.setGran g { u.gran g with flips := (u.gran g).flips.filter (· != b) }) (s.forgetCis (inSubArray i sub)) with
      cistern.cols := s.cistern.cols ++ [(i, sub, b)] }.addRepair 5
    (i + 2 ^ 11 * sub + 2 ^ 16 * b + 2 ^ 25 * spareCount s.cistern.cols i sub)).logRec 0x1002 (i / 32)
    (i + 2 ^ 11 * sub + 2 ^ 16 * b)

/-- CISTERN_REMAP of a row that is due enters the row while a spare is left, and retires its unit after that. -/
theorem exec_cisternRemap {i sub row : Nat} (hi : i < 1152) (hsub : sub < 24) (hrow : row < 128) (s : State) :
    exec (.cisternRemap i sub row) s = done s
      (if !s.cisRowDue (rowGrans i sub row) then s
      else if 8 ≤ spareCount s.cistern.rows i sub then s.retireUnit (1536 * (i / 32) + (1024 * sub + 8 * row) / 16)
      else s.enterRow i sub row) :=
  (within_of_lt hi).trans ((within_of_lt hsub).trans (within_of_lt hrow))

/-- CISTERN_COLUMN of a bit that is due enters its column while a spare is left. -/
theorem exec_cisternColumn {i sub b : Nat} (hi : i < 1152) (hsub : sub < 24) (hb : b < 266) (s : State) :
    exec (.cisternColumn i sub b) s = done s
      (if 2 ≤ spareCount s.cistern.cols i sub || !s.cisColDue i sub b then s else s.enterColumn i sub b) :=
  (within_of_lt hi).trans ((within_of_lt hsub).trans (within_of_lt hb))

/-- A row that goes to a spare row is listed and entered, and its errors are forgotten; beside that only granules and the log's buffer
change. -/
theorem enterRow_frame {s : State} (hok : s.flashOk = true) (hroom : s.flash.repair.length < 4092) (i sub row : Nat) :
    ∃ m n c q l, s.enterRow i sub row = { s with
      grans := m
      cistern.found := s.cistern.found.filter (fun e => !(rowGrans i sub row).contains e.1)
      cistern.rows := s.cistern.rows ++ [(i, sub, row)]
      flash.repair := s.flash.repair ++
        [⟨4, s.flash.boots, i + 2 ^ 11 * sub + 2 ^ 16 * row + 2 ^ 24 * spareCount s.cistern.rows i sub⟩]
      flash.repairSeq := n, flash.repairCopy := c, svc.logq := q, svc.logLost := l } := by
  obtain ⟨m, hcopy⟩ : ∃ m, s.copyGrans (rowGrans i sub row) = { s with grans := m } := foldl_setGran_frame _ _ s
  unfold State.enterRow
  rw [hcopy]
  exact ⟨m, logRec_addRepair (s := { s with
    grans := m
    cistern.found := s.cistern.found.filter (fun e => !(rowGrans i sub row).contains e.1)
    cistern.rows := s.cistern.rows ++ [(i, sub, row)] }) hok hroom _ _ _ _ _⟩

/-- A bit that goes to a spare column is listed and entered; beside that only granules, the errors kept and the log's buffer change. -/
theorem enterColumn_frame {s : State} (hok : s.flashOk = true) (hroom : s.flash.repair.length < 4092) (i sub b : Nat) :
    ∃ m f n c q l, s.enterColumn i sub b = { s with
      grans := m
      cistern.found := f
      cistern.cols := s.cistern.cols ++ [(i, sub, b)]
      flash.repair := s.flash.repair ++
        [⟨5, s.flash.boots, i + 2 ^ 11 * sub + 2 ^ 16 * b + 2 ^ 25 * spareCount s.cistern.cols i sub⟩]
      flash.repairSeq := n, flash.repairCopy := c, svc.logq := q, svc.logLost := l } := by
  obtain ⟨m, hflips⟩ := foldl_setGran_frame (fun u g => { u.gran g with flips := (u.gran g).flips.filter (· != b) })
    ((tkeys s.grans).filter (inSubArray i sub)) (s.forgetCis (inSubArray i sub))
  unfold State.enterColumn
  rw [hflips]
  exact ⟨m, s.cistern.found.filter (fun e => !inSubArray i sub e.1), logRec_addRepair (s := { s with
    grans := m
    cistern.found := s.cistern.found.filter (fun e => !inSubArray i sub e.1)
    cistern.cols := s.cistern.cols ++ [(i, sub, b)] }) hok hroom _ _ _ _ _⟩

/-! ### Retired units (R397) -/

/-- Dropping the far-cache lines of a unit changes the far cache only. -/
theorem dropFarUnit_frame (s : State) (u : Nat) : ∃ x, s.dropFarUnit u = { s with aq.far := x } := by
  unfold State.dropFarUnit
  dsimp only
  split <;> exact ⟨_, rfl⟩

/-- A unit that is not yet retired and that nothing covers is retired: its entry is written and LINE_RETIRED raised. -/
theorem retireUnit_uncovered {s : State} {u : Nat} (hok : s.flashOk = true) (hroom : s.flash.repair.length < 4092)
    (hnew : s.cistern.retired.contains u = false) (hfree : s.covered (unitAddr u) 65536 = false) :
    ∃ x p n c ev q l, s.retireUnit u = { s with
      aq.far := x
      cistern.retired := s.cistern.retired ++ [u]
      cistern.unitsPending := p
      flash.repair := s.flash.repair ++ [⟨6, s.flash.boots, u / 1536 + 2 ^ 16 * (u % 1536)⟩]
      flash.repairSeq := n, flash.repairCopy := c
      host.evbuf := ev, svc.logq := q, svc.logLost := l } := by
  have hretire : s.retireUnit u = s.retireNow u :=
    (if_neg (ne_true_of_eq_false hnew)).trans (if_neg (ne_true_of_eq_false hfree))
  obtain ⟨x, hdrop⟩ := dropFarUnit_frame s u
  obtain ⟨n, c, hentry⟩ := addRepair_room (s := { s with
    aq.far := x
    cistern.retired := s.cistern.retired ++ [u]
    cistern.unitsPending := s.cistern.unitsPending.filter (· != u) }) hok hroom 6 (u / 1536 + 2 ^ 16 * (u % 1536))
  rw [hretire, State.retireNow, hdrop, hentry]
  exact ⟨x, _, n, c, raise_changes _ _ _ _ _ _⟩

/-- UNIT_RETIRE of a unit of a region retires it. -/
theorem exec_unitRetire {n u : Nat} (hn : n < 36) (hu : u < 1536) (s : State) :
    exec (.unitRetire n u) s = done s (s.retireUnit (1536 * n + u)) :=
  (within_of_lt hn).trans (within_of_lt hu)

/-! ### Scrub reads (R392) -/

/-- The scrubber set reads as set, and every other scrubber as before. -/
theorem scrub_setScrub (s : State) (k : Nat) (x : Scrub) (j : Nat) :
    (s.setScrub k x).scrub j = if j = k then x else s.scrub j := by
  by_cases h : j = k
  · simp [State.scrub, State.setScrub, h]
  · simp [State.scrub, State.setScrub, tget_tset_ne, h]

/-- A read of a granule changes nothing in a memory without errors. -/
theorem readGran_clean {s : State} (h : s.grans = []) (g agent : Nat) : s.readGran g agent = (s, false) := by
  have hgran : s.gran g = {} := by rw [State.gran, h]; rfl
  unfold State.readGran
  rw [hgran]
  rfl

/-- In a memory without errors a scrub read of a Cistern block advances its scrubber, and changes the log's buffer beside. -/
theorem scrubStep_clean {s : State} (hclean : s.grans = []) (n : Nat) (late : Bool) : ∃ logged q l, s.scrubStep false n late =
    { s.setScrub n ⟨((s.scrub n).next + 1) % (blockBytes / 32), late, logged⟩ with svc.logq := q, svc.logLost := l } := by
  let t := s.setScrub n ⟨((s.scrub n).next + 1) % scrubSpan false, late,
    decide (((s.scrub n).next + 1) % scrubSpan false ≠ 0) && ((s.scrub n).logged || late)⟩
  obtain ⟨q, l, hlog⟩ : ∃ q l, (if late && !(s.scrub n).logged then t.logRec 0x1006 n n else t) =
      { t with svc.logq := q, svc.logLost := l } := by
    split
    · exact logRec_changes t 0x1006 n n
    · exact ⟨_, _, rfl⟩
  refine ⟨_, q, l, Eq.trans ?_ hlog⟩
  have hgrans : (if late && !(s.scrub n).logged then t.logRec 0x1006 n n else t).grans = [] := by
    rw [hlog]
    exact hclean
  unfold State.scrubStep
  dsimp only
  split
  · exact congrArg Prod.fst (readGran_clean hgrans _ _)
  · rfl

/-- SCRUB_READ of a Cistern block. -/
theorem exec_scrubRead_cistern {n : Nat} (hn : n < 36) (late : Bool) (s : State) :
    exec (.scrubRead false n late) s = done s (s.scrubStep false n late) :=
  within_of_lt hn

/-! ### Corrective write-backs (R139) -/

/-- CORRECTIVE_WRITEBACK of a listed granule with one flipped bit takes it from the list and clears it. -/
theorem exec_correctiveWriteback {s : State} {g : Nat} (hlisted : s.cistern.correct.contains g = true)
    (hone : (s.gran g).flips.length = 1) : exec (.correctiveWriteback g) s =
      done s ({ s with cistern.correct := s.cistern.correct.filter (· != g) }.setGran g {}) :=
  congrArg (done s) ((if_pos hlisted).trans (if_pos hone))

/-! ### Slips (R156) -/

/-- SLIP_TIMEOUT of a port of a region slips the port. -/
theorem exec_slipTimeout {n : Nat} (hn : n < 36) (k : Nat) (full : Bool) (s : State) :
    exec (.slipTimeout n k full) s = done s (s.slip n k (b2n full)) :=
  within_of_lt hn

/-- A region without a schedule has no port that slips. -/
theorem slip_unscheduled {s : State} {n : Nat} (hnone : tget (fun _ => none) s.mesh.scheds n = none) (k cause : Nat) :
    s.slip n k cause = s := by
  unfold State.slip
  rw [hnone]

/-- With no task to notify, a port of an active schedule that is not yet credited turns to credited mode, and an event tells of it. -/
theorem slip_credits {s : State} {n k : Nat} {m : MeshSched} (hsched : tget (fun _ => none) s.mesh.scheds n = some m)
    (hactive : m.active = true) (hport : (msPorts m.sect).contains k = true) (hnew : m.credited.contains k = false)
    (htasks : s.tasks = []) (cause : Nat) : ∃ ev q l, s.slip n k cause = { s with
      mesh.scheds := tset (fun _ => none) s.mesh.scheds n (some { m with credited := m.credited ++ [k] })
      host.evbuf := ev, svc.logq := q, svc.logLost := l } := by
  have hslips : ¬ (!m.active || !(msPorts m.sect).contains k || m.credited.contains k) = true := by
    rw [hactive, hport, hnew]
    decide
  obtain ⟨ev, q, l, hraise⟩ := raise_changes { s with
      mesh.scheds := tset (fun _ => none) s.mesh.scheds n (some { m with credited := m.credited ++ [k] }) }
    0x002 (n + 2 ^ 6 * k + 2 ^ 9 * m.part + 2 ^ 12 * cause) [] n false
  refine ⟨ev, q, l, ?_⟩
  rw [State.slip, hsched]
  dsimp only
  rw [if_neg hslips, hraise, State.notice, htasks]
  rfl

/-! ### The statement -/

/-- Settles O54, clause by clause: rows and columns that are due or not, the retirement of a unit with the row's spares used up and
on command, a scrub read, a corrective write-back, the end of a merge window, and slips. -/
theorem cisternUpkeep : Obligations.CisternUpkeep := by
  unfold Obligations.CisternUpkeep
  intro s i sub row b n u g k late m hi hsub hrow hb hn hu hok hroom id repaired used gs v
  refine ⟨fun hdue => ?rowKept, fun hdue => ?columnKept, fun hdue hleft => ?rowMoved, fun hdue hfull hnew hfree => ?rowRetired,
    fun hdue hleft => ?columnMoved, fun hnew hfree => ?unit, fun hclean => ?scrub, fun hlisted hone => ?writeback, ?merge,
    fun hnone => ?unscheduled, fun hsched hactive hport hnew htasks => ?slip⟩
  case rowKept =>
    have hexec := exec_cisternRemap hi hsub hrow s
    rw [if_pos (by simpa using hdue)] at hexec
    exact does_of_done hexec rfl rfl
  case columnKept =>
    have hexec := exec_cisternColumn hi hsub hb s
    rw [if_pos (by simp [hdue])] at hexec
    exact does_of_done hexec rfl rfl
  case rowMoved =>
    change spareCount s.cistern.rows i sub < 8 at hleft
    have hexec := exec_cisternRemap hi hsub hrow s
    obtain ⟨x, y, c, q, l, henter⟩ := enterRow_frame hok hroom i sub row
    rw [if_neg (by simpa using hdue), if_neg hleft.not_ge, henter] at hexec
    refine does_of_done hexec rfl ⟨rfl, rfl, fun e he => ?_, rfl⟩
    simpa using (List.mem_filter.1 he).2
  case rowRetired =>
    change 8 ≤ spareCount s.cistern.rows i sub at hfull
    have hexec := exec_cisternRemap hi hsub hrow s
    obtain ⟨x, p, y, c, ev, q, l, hretire⟩ := retireUnit_uncovered hok hroom hnew hfree
    rw [if_neg (by simpa using hdue), if_pos hfull, hretire] at hexec
    exact does_of_done hexec rfl ⟨rfl, rfl, rfl⟩
  case columnMoved =>
    change spareCount s.cistern.cols i sub < 2 at hleft
    have hexec := exec_cisternColumn hi hsub hb s
    obtain ⟨x, f, y, c, q, l, henter⟩ := enterColumn_frame hok hroom i sub b
    rw [if_neg (by simp [hdue, hleft]), henter] at hexec
    exact does_of_done hexec rfl ⟨rfl, rfl, rfl⟩
  case unit =>
    have hexec := exec_unitRetire hn hu s
    obtain ⟨x, p, y, c, ev, q, l, hretire⟩ := retireUnit_uncovered hok hroom hnew hfree
    rw [hretire] at hexec
    exact does_of_done hexec rfl ⟨rfl, rfl, rfl⟩
  case scrub =>
    have hexec := exec_scrubRead_cistern hn late s
    obtain ⟨logged, q, l, hstep⟩ := scrubStep_clean hclean n late
    have hread := scrub_setScrub s n ⟨((s.scrub n).next + 1) % (blockBytes / 32), late, logged⟩
    rw [hstep] at hexec
    refine does_of_done hexec rfl ⟨?_, ?_, fun j hj => (hread j).trans (if_neg hj), rfl⟩
    · exact congrArg Scrub.next ((hread n).trans (if_pos rfl))
    · exact congrArg Scrub.late ((hread n).trans (if_pos rfl))
  case writeback =>
    have hread := gran_setGran { s with cistern.correct := s.cistern.correct.filter (· != g) } g {}
    exact does_of_done (exec_correctiveWriteback hlisted hone) rfl
      ⟨(hread g).trans (if_pos rfl), rfl, fun j hj => (hread j).trans (if_neg hj), rfl⟩
  case merge =>
    have hexec : exec (.mergeWindowEnd g) s =
      done s { s with cistern.groups := s.cistern.groups.filter (fun x => x.gran != g) } := rfl
    exact does_of_done hexec rfl ⟨fun x => by simp, rfl⟩
  case unscheduled =>
    have hexec := exec_slipTimeout hn k false s
    rw [slip_unscheduled hnone] at hexec
    exact does_of_done hexec rfl rfl
  case slip =>
    have hexec := exec_slipTimeout hn k false s
    obtain ⟨ev, q, l, hslip⟩ := slip_credits hsched hactive hport hnew htasks (b2n false)
    rw [hslip] at hexec
    exact does_of_done hexec rfl ⟨tget_tset_self _ _ _ _, fun j hj => tget_tset_ne _ _ _ hj, rfl⟩

end Sys2Proof.Machine

/-!
PROOF. O25: COPY (R170), GATHER and SCATTER (R171), FILL (R172), and MCAST with its acknowledgement and its deadline (R177, R178, R180).
-/

namespace Sys2Proof.Machine

/-! ### Rows that a pump reads and writes -/

theorem place_of_inMem {s : State} {a : Nat} (h : inMem s a = true) : ∃ x, s.place a = .hbm x ∨ s.place a = .cistern x := by
  unfold inMem at h
  split at h
  next x hplace => exact ⟨x, .inl hplace⟩
  next x hplace => exact ⟨x, .inr hplace⟩
  next => cases h

/-- Memory of this module is not remote. -/
theorem isRemote_inMem {s : State} {a : Nat} (h : inMem s a = true) : s.isRemote a = false := by
  obtain ⟨x, hplace | hplace⟩ := place_of_inMem h <;> simp only [State.isRemote, hplace]

/-- Merging a read with others of its granule changes the merge groups only. -/
theorem mergeRead_groups (s : State) (x n : Nat) : ∃ g b, s.mergeRead x n = ({ s with cistern.groups := g }, b) := by
  unfold State.mergeRead
  dsimp only
  repeat' split
  all_goals exact ⟨_, _, rfl⟩

/-- Consuming an armed flip changes granules and the armed flips only. -/
theorem takeFlip_frame (s : State) (ks : List Nat) : ∃ m v, s.takeFlip ks = { s with grans := m, svc := v } := by
  unfold State.takeFlip
  repeat' split
  all_goals exact ⟨_, _, rfl⟩

/-- `t` is `s` with bytes stored at an address; beside memory, a store may consume an armed flip, close merge groups and break
reservations. -/
def Stored (s : State) (a : Nat) (b : Bytes) (t : State) : Prop :=
  t.mem = (s.putMem [] (s.loc a) b).mem ∧
  t = { s with mem := t.mem, grans := t.grans, cistern := t.cistern, svc := t.svc, cores := t.cores }

section CleanRows
variable {s : State} (hclean : Clean s)
include hclean

/-- A merging read of a clean memory gives the stored bytes. It changes merge groups only, so the retired units of the Cistern, which the
check of a later write looks at, are as before. -/
theorem cohRead_groups {a : Nat} (hmem : inMem s a = true) (agent n cls : Nat) :
    ∃ g, s.cohRead agent a n true cls = ({ s with cistern.groups := g }, none, s.rawBytes a n) := by
  have hplace := placeLocal_ne_tcm hmem
  obtain ⟨g, joined, hmerge⟩ := mergeRead_groups s (s.loc a) n
  have hkept : Clean { s with cistern.groups := g } := hclean
  refine ⟨g, ?_⟩
  unfold State.cohRead
  simp only [busyLines_clean hclean, stopMarch_clean hclean, tracked_clean hclean, List.filter_nil, List.foldl_nil, if_true, hmerge,
    readU_clean hkept, ite_self, firstPoison_clean hkept, openAcc_clean hkept]
  rfl

/-- A write to a clean memory is refused nothing. -/
theorem writeMem_clean {a : Nat} (hmem : inMem s a = true) (agent : Nat) (bs : Bytes) :
    ∃ t, s.writeMem false agent a bs = (t, true) ∧ Stored s a bs t := by
  rw [writeMem_inMem hmem]
  simp only [State.writeGrans, badGrans_clean hclean, List.filter_nil, State.readGrans, List.foldl_nil, Bool.false_eq_true, if_false,
    List.isEmpty_nil]
  generalize (s.touched (s.loc a) bs.length).filter _ = ks
  obtain ⟨m, v, hflip⟩ := takeFlip_frame { s.putMem [] (s.loc a) bs with
    cistern.groups := s.cistern.groups.filter (fun m => !(s.touched (s.loc a) bs.length).contains m.gran)
    cistern.correct := s.cistern.correct.filter (fun g => !(s.touched (s.loc a) bs.length).contains g) } ks
  exact ⟨_, congrArg (·, true) hflip, rfl, rfl⟩

/-- The lines of an access to a clean memory are settled. -/
theorem settled_clean (a n : Nat) (write : Bool) : s.settled a n write = s :=
  s.settled_quiet a n write (busyLines_clean hclean _ _ _)

/-- The lines of a command's ranges are settled. -/
theorem pSettle_clean (rs : List (Nat × Nat × Bool)) : s.pSettle rs = (s, true) := by
  have hfold : rs.foldl (fun (t : State) r => t.settled r.1 r.2.1 r.2.2) s = s := by
    induction rs with
    | nil => rfl
    | cons r rs ih => rw [List.foldl_cons, settled_clean hclean, ih]
  simp [State.pSettle, hfold, busyLines_clean hclean]

/-- An uncached write to a clean memory is performed. -/
theorem uWrite_clean {a : Nat} (hmem : inMem s a = true) (agent : Nat) (bs : Bytes) (cls : Nat) :
    ∃ t, s.uWrite agent a bs none cls = (t, none) ∧ Stored s a bs t := by
  obtain ⟨y, hresv⟩ : ∃ y, (List.range ((s.loc a + bs.length - 1) / 128 - s.loc a / 128 + 1)).foldl
      (fun t i => t.breakResv (s.loc a / 128 + i) 512) s = { s with cores := y } :=
    foldl_frame (·.cores) (fun t y => { t with cores := y }) (fun t i => breakResv_frame t _ 512) _ s
  have hkept : Clean { s with cores := y } := hclean
  obtain ⟨t, hwrite, hstored⟩ := writeMem_clean hkept hmem agent bs
  refine ⟨t, ?_, hstored⟩
  simp only [State.uWrite, settled_clean hclean, State.cohWrite, State.quietWrite, busyLines_clean hclean, stopMarch_clean hclean,
    dropLines_clean hclean, if_true, hresv, taintAcc_clean hkept, hwrite]

variable {p a n : Nat} {c : PCmd}

/-- A pump reads the stored bytes of a range that its command may read. -/
theorem pRead_clean (hmay : May s p c .load a n) :
    ∃ g, s.pRead (pumpEnv p c) a n = ({ s with cistern.groups := g }, none, s.rawBytes a n) := by
  obtain ⟨hcheck, hmem, -⟩ := hmay
  obtain ⟨g, hread⟩ := cohRead_groups hclean hmem (pumpEnv p c).agent n (pumpEnv p c).cls
  refine ⟨g, ?_⟩
  unfold pumpEnv at hcheck hread
  obtain ⟨x, hplace | hplace⟩ := place_of_inMem hmem <;>
    simp [State.pRead, hplace, pumpEnv, hcheck, settled_clean hclean, hread]

/-- A pump without STASH stores bytes in a range that its command may write. -/
theorem pWrite_clean {b : Bytes} (hstash : bit (pFlags c.desc) 1 = false) (hmay : May s p c .store a b.length) :
    ∃ t, s.pWrite (pumpEnv p c) c.desc a b = (t, none) ∧ Stored s a b t := by
  obtain ⟨hcheck, hmem, hhost⟩ := hmay
  obtain ⟨t, hwrite, hstored⟩ := uWrite_clean hclean hmem (pumpEnv p c).agent b (pumpEnv p c).cls
  refine ⟨t, ?_, hstored⟩
  simp [State.pWrite, hhost, hcheck, hstash, hwrite]

end CleanRows

/-- A pump copies a row of memory to another place. -/
theorem pRead_pWrite_clean {s : State} (hclean : Clean s) {p a b n : Nat} {c : PCmd} (hstash : bit (pFlags c.desc) 1 = false)
    (hload : May s p c .load a n) (hstore : May s p c .store b n) : ∃ w t,
    s.pRead (pumpEnv p c) a n = (w, none, s.rawBytes a n) ∧
    w.pWrite (pumpEnv p c) c.desc b (s.rawBytes a n) = (t, none) ∧ Stored s b (s.rawBytes a n) t := by
  obtain ⟨g, hread⟩ := pRead_clean hclean hload
  have hkept : Clean { s with cistern.groups := g } := hclean
  have hlength : (s.rawBytes a n).length = n := by simp [State.rawBytes]
  have hmay : May { s with cistern.groups := g } p c .store b (s.rawBytes a n).length := by
    rw [hlength]
    exact hstore
  obtain ⟨t, hwrite, hstored⟩ := pWrite_clean hkept hstash hmay
  exact ⟨_, t, hread, hwrite, hstored⟩

/-! ### A command that has passed its checks, and its end -/

/-- A command of a pump runs when its checks pass and its lines are settled. -/
theorem runPump_clean {s : State} {p id pop : Nat} {c : PCmd} (h : Pumping s p id c) (hclean : Clean s) (hpop : pPop c.desc = pop)
    (f : PumpEnv → PCmd → State → State) : s.runPump p id pop f = f (pumpEnv p c) c s := by
  obtain ⟨-, hfind, hstarted, hfin, haside, hwaits, hlive, hcheck⟩ := h
  simp [State.runPump, hfind, hstarted, hfin, hpop, haside, hwaits, hlive, hcheck, pSettle_clean hclean]

/-- A command that ends in a state with the pumps as before has finished. -/
theorem finished_pumpEnd {s t : State} (hpumps : t.mesh.pumps = s.mesh.pumps) (p : Nat) (c : PCmd) (st : Status) (detail result : Nat) :
    Finished s (t.pumpEnd p c st detail result) p c st detail result := by
  have hpump (q : Nat) : t.pump q = s.pump q := congrArg (fun m => tget (fun _ => ([] : List PCmd)) m q) hpumps
  have hset (q : Nat) := pump_setPump t p
    ((t.pump p).map (fun x => if x.id = c.id then { c with fin := some (st, detail, result) } else x)) q
  refine ⟨(hset p).trans ((if_pos rfl).trans ?_), fun q hq => (hset q).trans ((if_neg hq).trans (hpump q))⟩
  rw [hpump]

/-- What a command that moves `n` bytes leaves: the bytes `b` at an address, and its end with ST_OK and RESULT `n`. -/
def Wrote (s : State) (p : Nat) (c : PCmd) (a : Nat) (b : Bytes) (n : Nat) (t : State) : Prop :=
  t.mem = (s.putMem [] (s.loc a) b).mem ∧ Finished s t p c .ok 0 n ∧
  t = { s with mem := t.mem, grans := t.grans, cistern := t.cistern, svc := t.svc, cores := t.cores, mesh := t.mesh }

/-- A command that passed its checks, stores its bytes and ends with ST_OK leaves them. -/
theorem does_wrote {k : Instr} {s : State} {p id pop a n : Nat} {c : PCmd} {b : Bytes} {f : PumpEnv → PCmd → State → State}
    (h : Pumping s p id c) (hclean : Clean s) (hpop : pPop c.desc = pop) (hexec : exec k s = done s (s.runPump p id pop f))
    (hrun : ∃ t, f (pumpEnv p c) c s = t.pumpEnd p c .ok 0 n ∧ Stored s a b t) : Does k s (Wrote s p c a b n) := by
  obtain ⟨t, hend, hmem, hframe⟩ := hrun
  rw [runPump_clean h hclean hpop, hend] at hexec
  refine does_of_done hexec ?_ ⟨hmem, finished_pumpEnd ?_ p c .ok 0 n, ?_⟩
  · rw [hframe]
    rfl
  · rw [hframe]
  · rw [hframe]
    rfl

/-! ### COPY, GATHER, SCATTER and FILL (R170, R171, R172) -/

section Moves
variable {s : State} {p id : Nat} {c : PCmd} (hclean : Clean s) (hstash : bit (pFlags c.desc) 1 = false)
include hclean hstash

/-- A COPY of one row within the module, without VSRC and SDST, stores the row. -/
theorem copyRun_row (hverify : bit (pFlags c.desc) 2 = false) (hseal : bit (pFlags c.desc) 3 = false) (hrow : le c.desc 36 2 = 1)
    (hplane : le c.desc 38 2 = 1) (hload : May s p c .load (le c.desc 16 8) (le c.desc 32 4))
    (hstore : May s p c .store (le c.desc 24 8) (le c.desc 32 4)) : let b := s.rawBytes (le c.desc 16 8) (le c.desc 32 4)
    ∃ t, copyRun p (pumpEnv p c) c s = t.pumpEnd p c .ok 0 (le c.desc 32 4) ∧ Stored s (le c.desc 24 8) b t := by
  obtain ⟨w, t, hread, hwrite, hstored⟩ := pRead_pWrite_clean hclean hstash hload hstore
  obtain ⟨-, hsrc, -⟩ := hload
  obtain ⟨-, hdst, -⟩ := hstore
  have hrows : copyRows c.desc = [(le c.desc 16 8, le c.desc 24 8)] := by simp [copyRows, hrow, hplane]
  refine ⟨t, ?_, hstored⟩
  simp [copyRun, isRemote_inMem hsrc, isRemote_inMem hdst, copyEffect, hverify, hseal, hrows, runCount, hread, hwrite, State.pumpSteps]

/-- A GATHER or SCATTER of one element from `a` to `b` stores the element. -/
theorem idxRun_elem {gather : Bool} {a b : Nat} {list : Bytes} (hone : le c.desc 40 4 = 1)
    (hlist : s.rawBytes (le c.desc 32 8) (if bit (le c.desc 48 1) 0 then 8 else 4) = list)
    (hindex : May s p c .load (le c.desc 32 8) (if bit (le c.desc 48 1) 0 then 8 else 4))
    (helems : idxElems c.desc list gather = [(0, a, b)])
    (hload : May s p c .load a (le c.desc 44 4)) (hstore : May s p c .store b (le c.desc 44 4)) :
    ∃ t, idxRun gather p (pumpEnv p c) c s = t.pumpEnd p c .ok 0 (le c.desc 44 4) ∧
      Stored s b (s.rawBytes a (le c.desc 44 4)) t := by
  obtain ⟨g, hread⟩ := pRead_clean hclean hindex
  have hkept : Clean { s with cistern.groups := g } := hclean
  obtain ⟨w, t, hget, hput, hstored⟩ := pRead_pWrite_clean (s := { s with cistern.groups := g }) hkept hstash hload hstore
  have hgood : State.memCheck { s with cistern.groups := g } (pumpEnv p c).who (if gather then .load else .store)
      (if gather then a else b) (le c.desc 44 4) = .ok := by
    cases gather
    · exact hstore.1
    · exact hload.1
  refine ⟨t, ?_, hstored⟩
  rw [hlist] at hread
  simp [idxRun, hone, hread, helems, pSettle_clean hkept, runCount, hgood, hget, hput]

/-- A FILL within the module stores its pattern. -/
theorem fillRun_stores (hstore : May s p c .store (le c.desc 16 8) (le c.desc 24 8)) :
    ∃ t, fillRun p (pumpEnv p c) c s = t.pumpEnd p c .ok 0 (le c.desc 24 8) ∧ Stored s (le c.desc 16 8) (fillBytes c.desc) t := by
  have hlength : (fillBytes c.desc).length = le c.desc 24 8 := by simp [fillBytes]
  obtain ⟨t, hwrite, hstored⟩ := pWrite_clean (b := fillBytes c.desc) hclean hstash (by rw [hlength]; exact hstore)
  obtain ⟨-, hdst, -⟩ := hstore
  refine ⟨t, ?_, hstored⟩
  simp [fillRun, isRemote_inMem hdst, fillEffect, hwrite, State.pumpSteps]

end Moves

/-! ### MCAST (R177, R178, R180) -/

/-- Giving a landing buffer to the next destination changes the landing buffers only. -/
theorem mcTake_frame (s : State) (key : Nat) : ∃ l, s.mcTake key = { s with mesh.landing := l } := by
  unfold State.mcTake
  split
  · exact ⟨s.mesh.landing, rfl⟩
  · exact ⟨_, rfl⟩

/-- Undefined bytes of a destination change memory and the count of free values only. -/
theorem pLose_frame (s : State) (e : PumpEnv) (a n : Nat) : ∃ m k, s.pLose e a n = { s with mem := m, free := k } := by
  unfold State.pLose
  split
  · exact ⟨s.mem, s.free, rfl⟩
  · obtain ⟨⟨m, k⟩, hfree⟩ := freeRange_frame s a n
    exact ⟨m, k, hfree⟩

/-- The only entry of a list has failed. -/
theorem alive_lost {c : PCmd} {w : Nat} (hdests : c.dests = [w]) (hfailed : c.failed = 1) : c.alive = [] := by
  have hbit : bit 1 0 = true := by decide
  simp [PCmd.alive, hdests, hfailed, hbit]

section Chunk
variable {s : State} {p id one : Nat} {c : PCmd} (hclean : Clean s) (hchunk : c.chunk = 0) (hfailed : c.failed = 0)
  (hpos : 0 < le c.desc 32 4) (hsize : le c.desc 32 4 ≤ 65536) (hload : May s p c .load (le c.desc 16 8) (le c.desc 32 4))
  (hreach : s.mcGone one = false)
include hclean hchunk hfailed hpos hsize hload hreach

/-- The first chunk of an MCAST to one destination is read, and the destination is live. -/
theorem mcSend_first (hdests : c.dests = [one]) : ∃ g l, s.mcSend p (pumpEnv p c) c = { State.setPCmd { s with cistern.groups := g } p
    { c with buf := s.rawBytes (le c.desc 16 8) (le c.desc 32 4), live := [0] } with mesh.landing := l } := by
  obtain ⟨g, hread⟩ := pRead_clean hclean hload
  let c1 := { c with buf := s.rawBytes (le c.desc 16 8) (le c.desc 32 4), live := [0] }
  obtain ⟨l, htake⟩ := mcTake_frame (State.setPCmd { s with cistern.groups := g } p c1)
    ((State.setPCmd { s with cistern.groups := g } p c1).mcKey p one)
  have hbit : bit 0 0 = false := by decide
  have hmore : ¬ mcChunks c.desc ≤ 0 := by
    unfold mcChunks
    omega
  have hbytes : mcBytes c.desc 0 = le c.desc 32 4 := min_eq_right hsize
  have hthere : State.mcGone { s with cistern.groups := g } one = false := hreach
  refine ⟨g, l, ?_⟩
  rw [← htake]
  simp [State.mcSend, PCmd.alive, hchunk, hfailed, hbit, hmore, hbytes, hread, hdests, hthere, c1]

/-- MCAST reads its list of one destination and sends the first chunk. -/
theorem mcStart_chunk (hfind : (s.pump p).find? (fun x => x.id == id) = some c) (hstarted : c.started = true) (hfin : c.fin = none)
    (haside : s.aside c = false) (hlive : c.live = []) (hpop : pPop c.desc = 5) (hcount : le c.desc 36 1 = 1)
    (halign : le c.desc 24 8 % 8 = 0) (hlist : May s p c .load (le c.desc 24 8) 8) (hone : ofLe (s.rawBytes (le c.desc 24 8) 8) = one)
    (hcheck : s.pCheck (pumpEnv p c) c.desc [one] = none) :
    ∃ g l, s.mcStart p id = { State.setPCmd { s with cistern.groups := g } p
      { c with dests := [one], buf := s.rawBytes (le c.desc 16 8) (le c.desc 32 4), live := [0] } with mesh.landing := l } := by
  obtain ⟨g, hread⟩ := pRead_clean hclean hlist
  have hkept : Clean { s with cistern.groups := g } := hclean
  obtain ⟨g', l, hsend⟩ := mcSend_first (s := { s with cistern.groups := g }) (c := { c with dests := [one] }) hkept hchunk hfailed hpos
    hsize hload hreach rfl
  have henv : pumpEnv p { c with dests := [one] } = pumpEnv p c := rfl
  have hlength : (s.rawBytes (le c.desc 24 8) 8).length = 8 := by simp [State.rawBytes]
  have hentry : le (s.rawBytes (le c.desc 24 8) 8) 0 8 = one := by
    rw [le, List.drop_zero, List.take_of_length_le hlength.le, hone]
  refine ⟨g', l, ?_⟩
  obtain ⟨hok, -, -⟩ := hlist
  refine Eq.trans ?_ (henv ▸ hsend)
  simp [State.mcStart, hfind, hstarted, hfin, haside, hlive, hpop, hcount, halign, hok, hread, hlength, hentry, hcheck]

end Chunk

/-- With the last destination of the last chunk an MCAST ends: with ST_OK, or with the failures of its list. -/
theorem mcDone_last {c : PCmd} {s t : State} (hlive : c.live = []) (hchunk : c.chunk = 0) (hsize : le c.desc 32 4 ≤ 65536)
    (hpumps : t.mesh.pumps = s.mesh.pumps) (p dest : Nat) (e : PumpEnv) (held : Bool) :
    Finished s (t.mcDone p e c dest held) p { c with live := [], chunk := 1 } (if c.failed = 0 then .ok else .partialDone)
      (if c.failed = 0 then 0 else c.dests.length - c.alive.length) c.failed ∧
    (t.mcDone p e c dest held).mem = t.mem ∧ (t.mcDone p e c dest held).outside = t.outside := by
  have hlast : mcChunks c.desc ≤ 1 := by
    unfold mcChunks
    omega
  have hstep (u : State) : u.mcStep p e c = u.pumpEnd p { c with live := [], chunk := 1 } (if c.failed = 0 then .ok else .partialDone)
      (if c.failed = 0 then 0 else c.dests.length - c.alive.length) c.failed := by
    rw [State.mcStep, if_pos hlive, hchunk, State.mcSend, if_pos (.inl hlast)]
    rfl
  obtain ⟨l, hback⟩ : ∃ l, (if held then t.mcFree (t.mcKey p (c.dests.getD dest 0)) else t) = { t with mesh.landing := l } := by
    cases held
    · exact ⟨t.mesh.landing, rfl⟩
    · exact ⟨_, rfl⟩
  obtain ⟨l', htake⟩ := mcTake_frame (State.mcStep { t with mesh.landing := l } p e c) (t.mcKey p (c.dests.getD dest 0))
  unfold State.mcDone
  dsimp only
  rw [hback, htake, hstep]
  exact ⟨finished_pumpEnd (t := { t with mesh.landing := l }) hpumps _ _ _ _ _, rfl, rfl⟩

/-- A live destination of an MCAST that is not set aside acts. -/
theorem mcLive_of_live {s : State} {p id : Nat} {c : PCmd} (hfind : (s.pump p).find? (fun x => x.id == id) = some c)
    (haside : s.aside c = false) (hlive : c.live = [0]) (f : PumpEnv → PCmd → State → State) :
    s.mcLive p id 0 f = f (pumpEnv p c) c s := by
  simp [State.mcLive, hfind, haside, hlive]

/-- Settles O25, clause by clause: COPY, GATHER, SCATTER, FILL, MCAST, and the acknowledgement and the deadline of its destination. -/
theorem pumpsMoveData : Obligations.PumpsMoveData := by
  unfold Obligations.PumpsMoveData
  intro s p id w c hclean hstash hverify hseal d wrote src dst n list one
  refine ⟨fun h hpop hrow hplane hload hstore => ?copy, fun h hpop hone hindex hload hstore => ?gather,
    fun h hpop hone hindex hload hstore => ?scatter, fun h hpop hstore => ?fill,
    fun hp hfind hstarted hfin haside hlive hpop hcount halign hlist hcheck hchunk hfailed hpos hsize hload hreach => ?mcast,
    fun hp hfind haside hlive hdests hchunk hfailed hsize => ⟨fun hstore hheld => ?ack, ?timeout⟩⟩
  case copy =>
    exact does_wrote h hclean hpop (within_of_lt h.1) (copyRun_row hclean hstash hverify hseal hrow hplane hload hstore)
  case gather =>
    have helems : idxElems d list true = [(0, src + pIndex d list 0 * n, dst)] := by simp [idxElems, hone, d, src, dst, n]
    exact does_wrote h hclean hpop (within_of_lt h.1) (idxRun_elem hclean hstash hone rfl hindex helems hload hstore)
  case scatter =>
    have helems : idxElems d list false = [(0, src, dst + pIndex d list 0 * n)] := by simp [idxElems, hone, d, src, dst, n]
    exact does_wrote h hclean hpop (within_of_lt h.1) (idxRun_elem hclean hstash hone rfl hindex helems hload hstore)
  case fill =>
    exact does_wrote h hclean hpop (within_of_lt h.1) (fillRun_stores hclean hstash hstore)
  case mcast =>
    obtain ⟨g, l, hstart⟩ := mcStart_chunk hclean hchunk hfailed hpos hsize hload hreach hfind hstarted hfin haside hlive hpop hcount
      halign hlist rfl hcheck
    refine does_of_done ((within_of_lt hp).trans (congrArg (done s) hstart)) rfl ⟨?_, rfl⟩
    exact (pump_setPump { s with cistern.groups := g } p _ p).trans (if_pos rfl)
  case ack =>
    have hdest : c.dests.getD 0 0 + 65536 * c.chunk = w := by simp [hdests, hchunk]
    have hholder : s.mcHolder (s.mcKey p (c.dests.getD 0 0)) = some (p, id, 0) := by simpa [hdests] using hheld
    obtain ⟨t, hwrite, hmem, hframe⟩ := pWrite_clean hclean hstash hstore
    let c1 := { c with live := c.live.filter (· != 0) }
    have hnone : c1.live = [] := by simp [c1, hlive]
    obtain ⟨hend, hbytes, hout⟩ := mcDone_last (c := c1) (s := s) (t := t) hnone hchunk hsize (by rw [hframe]) p 0 (pumpEnv p c) true
    have hexec : exec (.mcAck p id 0) s = done s (t.mcDone p (pumpEnv p c) c1 0 true) := by
      refine (within_of_lt hp).trans (congrArg (done s) ?_)
      rw [mcLive_of_live hfind haside hlive, if_neg (not_not_intro hholder), hdest, hwrite]
    refine does_of_done hexec (leaves_of_outside (hout.trans ?_)) ⟨hbytes.trans hmem, ?_⟩
    · rw [hframe]
      rfl
    · simpa [c1, hfailed] using hend
  case timeout =>
    let r := s.mcFail (pumpEnv p c) c 0
    obtain ⟨m, k, hlose⟩ := pLose_frame s (pumpEnv p c) (c.dests.getD 0 0 + 65536 * c.chunk) (le c.desc 32 4 - 65536 * c.chunk)
    have hlost : r.2.failed = 1 := by simp [r, State.mcFail, hfailed]
    have hnone : r.2.live = [] := by simp [r, State.mcFail, hlive]
    have hstate : r.1 = { s with mem := m, free := k } := hlose
    obtain ⟨hend, -, hout⟩ := mcDone_last (c := r.2) (s := s) (t := r.1) hnone hchunk hsize (by rw [hstate]) p 0 (pumpEnv p c)
      (s.mcHolder (s.mcKey p (c.dests.getD 0 0)) == some (p, id, 0))
    refine does_of_done ((within_of_lt hp).trans (congrArg (done s) (mcLive_of_live hfind haside hlive _)))
      (leaves_of_outside (hout.trans ?_)) ?_
    · rw [hstate]
      rfl
    · rw [alive_lost (w := w) (show r.2.dests = [w] from hdests) hlost] at hend
      simpa [hlost, r, State.mcFail, hdests, hfailed] using hend

end Sys2Proof.Machine

/-!
PROOF. Rules of the coherence operations that caches and homes share (R205, R207, R218, R467): what messages, counted events, the
end of a reservation and a write-back leave as it is.
-/

namespace Sys2Proof.Machine

/-! ### What no cache touches -/

/-- The state but for the cores and the coherence of caches and homes. -/
def State.rest (s : State) : State := { s with cores := [], coh := {} }

/-- Nothing but the cores and the caches changes when the rest of the state stays. -/
theorem cacheFrame_iff {s t : State} : CacheFrame s t ↔ t.rest = s.rest := by
  constructor
  · intro h
    rw [h]
    rfl
  · exact fun h => congrArg (fun u : State => { u with cores := t.cores, coh := t.coh }) h

@[simp] theorem rest_setCore (s : State) (a : Nat) (x : Core) : (s.setCore a x).rest = s.rest := rfl
@[simp] theorem rest_setCtl (s : State) (a : Nat) (x : CacheCtl) : (s.setCtl a x).rest = s.rest := rfl
@[simp] theorem rest_setCent (s : State) (a e : Nat) (x : CacheEnt) : (s.setCent a e x).rest = s.rest := rfl
@[simp] theorem rest_send (s : State) (m : CohMsg) : (s.send m).rest = s.rest := rfl
@[simp] theorem rest_recv (s : State) (m : CohMsg) : (s.recv m).rest = s.rest := rfl
@[simp] theorem rest_retire (s : State) (a : Nat) : (s.retire a).rest = s.rest := rfl

@[simp] theorem rest_count (s : State) (a ev : Nat) : (s.count a ev).rest = s.rest := by
  rw [← cacheFrame_iff]
  exact (onlyCore_count s a ev).cacheFrame

/-! ### Counted events, messages and controls (R467) -/

@[simp] theorem coh_count (s : State) (a ev : Nat) : (s.count a ev).coh = s.coh := by
  rw [(onlyCore_count s a ev).2]

@[simp] theorem cent_count (s : State) (a ev g e : Nat) : (s.count a ev).cent g e = s.cent g e := (onlyCore_count s a ev).cent g e
@[simp] theorem ctl_count (s : State) (a ev g : Nat) : (s.count a ev).ctl g = s.ctl g := (onlyCore_count s a ev).ctl g

@[simp] theorem pc_count (s : State) (a ev : Nat) : ((s.count a ev).core a).pc = (s.core a).pc := by
  obtain ⟨h, hcore⟩ := core_count s a ev
  rw [hcore]

@[simp] theorem msgs_send (s : State) (m : CohMsg) : (s.send m).coh.msgs = s.coh.msgs ++ [m] := rfl
@[simp] theorem cent_send (s : State) (m : CohMsg) (g e : Nat) : (s.send m).cent g e = s.cent g e := rfl
@[simp] theorem ctl_send (s : State) (m : CohMsg) (g : Nat) : (s.send m).ctl g = s.ctl g := rfl
@[simp] theorem core_send (s : State) (m : CohMsg) (g : Nat) : (s.send m).core g = s.core g := rfl

@[simp] theorem msgs_recv (s : State) (m : CohMsg) : (s.recv m).coh.msgs = s.coh.msgs.erase m := rfl
@[simp] theorem cent_recv (s : State) (m : CohMsg) (g e : Nat) : (s.recv m).cent g e = s.cent g e := rfl
@[simp] theorem ctl_recv (s : State) (m : CohMsg) (g : Nat) : (s.recv m).ctl g = s.ctl g := rfl
@[simp] theorem findEnt_recv (s : State) (m : CohMsg) (g x : Nat) : (s.recv m).findEnt g x = s.findEnt g x := rfl
@[simp] theorem cxl_recv (s : State) (m : CohMsg) (g : Nat) : (s.recv m).cxl g = s.cxl g := rfl

@[simp] theorem cent_setCtl (s : State) (a : Nat) (x : CacheCtl) (g e : Nat) : (s.setCtl a x).cent g e = s.cent g e := rfl
@[simp] theorem core_setCtl (s : State) (a : Nat) (x : CacheCtl) (g : Nat) : (s.setCtl a x).core g = s.core g := rfl
@[simp] theorem ctl_setCtl_self (s : State) (a : Nat) (x : CacheCtl) : (s.setCtl a x).ctl a = x := by rw [ctl_setCtl, if_pos rfl]

@[simp] theorem ctl_setCent (s : State) (a e : Nat) (x : CacheEnt) (g : Nat) : (s.setCent a e x).ctl g = s.ctl g := rfl
@[simp] theorem core_setCent (s : State) (a e : Nat) (x : CacheEnt) (g : Nat) : (s.setCent a e x).core g = s.core g := rfl
@[simp] theorem cxl_setCent (s : State) (a e : Nat) (x : CacheEnt) (g : Nat) : (s.setCent a e x).cxl g = s.cxl g := rfl

@[simp] theorem cent_retire (s : State) (a g e : Nat) : (s.retire a).cent g e = s.cent g e := rfl
@[simp] theorem ctl_retire (s : State) (a g : Nat) : (s.retire a).ctl g = s.ctl g := rfl
@[simp] theorem coh_retire (s : State) (a : Nat) : (s.retire a).coh = s.coh := rfl

/-! ### A line leaves E or M (R207) -/

@[simp] theorem rest_leave (s : State) (a x : Nat) : (s.leave a x).rest = s.rest := by
  unfold State.leave
  dsimp only
  split <;> split <;> rfl

@[simp] theorem msgs_leave (s : State) (a x : Nat) : (s.leave a x).coh.msgs = s.coh.msgs := by
  unfold State.leave
  dsimp only
  split <;> split <;> rfl

@[simp] theorem cent_leave (s : State) (a x g e : Nat) : (s.leave a x).cent g e = s.cent g e := by
  unfold State.leave
  dsimp only
  split <;> split <;> rfl

@[simp] theorem pc_leave (s : State) (a x : Nat) : ((s.leave a x).core a).pc = (s.core a).pc := by
  have hcore (r : Option Nat) : ((s.setCore a { s.core a with resv := r }).core a).pc = (s.core a).pc := by rw [core_setCore_self]
  unfold State.leave
  dsimp only
  split <;> split
  · exact hcore none
  · exact hcore none
  · rfl
  · rfl

/-- Of the cache's control only the deferral changes. -/
theorem ctl_leave (s : State) (a x : Nat) : ∃ h, (s.leave a x).ctl a = { s.ctl a with lrHold := h } := by
  have hctl (t : State) (ht : t.ctl a = s.ctl a) : ∃ h,
      (if (t.ctl a).lrHold = some x then t.setCtl a { t.ctl a with lrHold := none } else t).ctl a = { s.ctl a with lrHold := h } := by
    split
    · exact ⟨none, by rw [ctl_setCtl_self, ht]⟩
    · exact ⟨(s.ctl a).lrHold, ht⟩
  unfold State.leave
  dsimp only
  split
  · exact hctl _ rfl
  · exact hctl _ rfl

end Sys2Proof.Machine

/-!
PROOF. O20: the answers of a cache to snoops (R205, R206, Table 6.5).
-/

namespace Sys2Proof.Machine

/-! ### Snoops that reach a cache -/

/-- A message to a cache is taken out of the messages in flight and handled. -/
theorem cacheMsg_of_lt {s : State} {m : CohMsg} (h : m.agent < 384) (k : CohKind) (f : State → CohMsg → State) :
    s.cacheMsg m k f = f (s.recv { m with kind := k }) { m with kind := k } := if_pos h

/-- The answer of a cache to a snoop is its only message, and counts an event. -/
theorem snpRsp_reads (s : State) (a x : Nat) (r : SnpResult) (d : Option Bytes) :
    (s.snpRsp a x r d none).coh.msgs = s.coh.msgs ++
      [{ kind := .snpRsp, line := x, agent := a, result := r, hasData := d.isSome, data := d.getD [] }] ∧
    (∀ g e, (s.snpRsp a x r d none).cent g e = s.cent g e) ∧ (s.snpRsp a x r d none).rest = s.rest := by
  simp [State.snpRsp]

/-- A cache holds off a forwarding snoop of a line that awaits no data only for an LR (R207). -/
theorem defers_eq_false {s : State} {a x : Nat} (hhold : (s.ctl a).lrHold = none)
    (hent : ∀ e, s.findEnt a x = some e → (s.cent a e).st ≠ .is ∧ (s.cent a e).st ≠ .im) : s.defers a x = false := by
  unfold State.defers
  cases hfind : s.findEnt a x with
  | none => simp [hhold]
  | some e =>
    obtain ⟨his, him⟩ := hent e hfind
    cases hst : (s.cent a e).st <;> simp_all

/-- What a line held in M becomes under a snoop (Table 6.5, row M). -/
def snoopKeeps (c : CacheEnt) : CohKind → CacheEnt
  | .snpS => { c with st := .s }
  | .snpX => {}
  | .snpU => { c with st := .e }
  | _ => c

/-- The state in which a line held in M goes to the requester of a snoop. -/
def snoopGrants : CohKind → CState
  | .snpS => .f
  | .snpX => .m
  | _ => .i

/-- What the home receives of a line held in M: its data, when no copy in M is left. -/
def snoopReturns (c : CacheEnt) : CohKind → Option Bytes
  | .snpS | .snpU => some c.data
  | _ => none

/-- A forwarding snoop meets a line held in M without error. -/
theorem snoopEnt_modified {s : State} {m : CohMsg} {e : Nat} {c : CacheEnt} (hcent : s.cent m.agent e = c) (hst : c.st = .m)
    (hflips : c.flips = []) (hkind : m.kind ∈ [CohKind.snpS, .snpX, .snpU, .snpP]) :
    (s.snoopEnt e m).cent m.agent e = snoopKeeps c m.kind ∧
    (s.snoopEnt e m).coh.msgs = s.coh.msgs ++
      [{ kind := .dataR, line := m.line, agent := m.req,
         st := if snoopGrants m.kind = .f ∧ s.cxl m.req then .s else snoopGrants m.kind, data := c.data, off := m.off, len := m.len },
       { kind := .snpRsp, line := m.line, agent := m.agent, result := .fwd, hasData := (snoopReturns c m.kind).isSome,
         data := (snoopReturns c m.kind).getD [] }] ∧
    (s.snoopEnt e m).rest = s.rest := by
  have hclean : c.bad 0 128 = false := bad_clean hflips 0 128
  unfold State.snoopEnt
  simp only [hcent, hst, fixed_clean hflips, singles_clean hflips, List.length_nil, ite_self, if_true, tallyCe_zero, hclean]
  simp only [List.mem_cons, List.not_mem_nil, or_false] at hkind
  obtain hk | hk | hk | hk := hkind <;>
    simp [hk, State.forward, State.snpRsp, snoopKeeps, snoopGrants, snoopReturns, cent_setCent_self]

/-- INV meets a line without error that its cache holds and has not written. -/
theorem invAt_unmodified {s : State} {m : CohMsg} {e : Nat} {c : CacheEnt} (hfind : s.findEnt m.agent m.line = some e)
    (hcent : s.cent m.agent e = c) (hst : c.st ∈ [CState.e, .f, .s]) (hflips : c.flips = []) :
    s.invAt m = ((s.leave m.agent m.line).snpRsp m.agent m.line .ack none none).setCent m.agent e {} := by
  have hclean : c.bad 0 128 = false := bad_clean hflips 0 128
  unfold State.invAt
  simp only [hfind, hcent]
  simp only [List.mem_cons, List.not_mem_nil, or_false] at hst
  obtain hst | hst | hst := hst <;> simp [hst, hclean, tallyCe_zero]

/-- A forwarding snoop that is not held off meets the entry of its line. -/
theorem snoopAt_held {s : State} {m : CohMsg} {e : Nat} (hdefers : s.defers m.agent m.line = false)
    (hfind : s.findEnt m.agent m.line = some e) : s.snoopAt m = s.snoopEnt e m := by
  simp [State.snoopAt, hdefers, hfind]

/-- A forwarding snoop of a line that the cache does not hold is a miss. -/
theorem snoopAt_miss {s : State} {m : CohMsg} (hdefers : s.defers m.agent m.line = false) (hfind : s.findEnt m.agent m.line = none) :
    s.snoopAt m = s.snpRsp m.agent m.line .miss none none := by
  simp [State.snoopAt, hdefers, hfind]

/-- INV of a line that the cache does not hold is a miss. -/
theorem invAt_miss {s : State} {m : CohMsg} (hfind : s.findEnt m.agent m.line = none) :
    s.invAt m = s.snpRsp m.agent m.line .miss none none := by
  simp [State.invAt, hfind]

/-- A snoop message to a cache completes when it changes nothing but the cores and the caches. -/
theorem does_cacheMsg {i : Instr} {s : State} {m : CohMsg} {k : CohKind} {f : State → CohMsg → State} {P : State → Prop}
    (hagent : m.agent < 384) (hexec : exec i s = within "agent" m.agent 509 (done s (s.cacheMsg m k f)))
    (hrest : (f (s.recv { m with kind := k }) { m with kind := k }).rest = s.rest)
    (hp : CacheFrame s (f (s.recv { m with kind := k }) { m with kind := k }) → P (f (s.recv { m with kind := k }) { m with kind := k })) :
    Does i s P := by
  have hframe := cacheFrame_iff.2 hrest
  refine does_of_done ?_ hframe.leaves (hp hframe)
  rw [hexec, within_of_lt (by omega), cacheMsg_of_lt hagent]

/-- A forwarding snoop of a line held in M without error completes as row M of Table 6.5 says. -/
theorem does_snoop_modified {i : Instr} {s : State} {m : CohMsg} {k : CohKind} {e : Nat} (hagent : m.agent < 384)
    (hexec : exec i s = within "agent" m.agent 509 (done s (s.cacheMsg m k State.snoopAt)))
    (hkind : k ∈ [CohKind.snpS, .snpX, .snpU, .snpP]) (hhold : (s.ctl m.agent).lrHold = none)
    (hfind : s.findEnt m.agent m.line = some e) (hst : (s.cent m.agent e).st = .m) (hflips : (s.cent m.agent e).flips = []) :
    Does i s (fun t => t.cent m.agent e = snoopKeeps (s.cent m.agent e) k ∧
      t.coh.msgs = s.coh.msgs.erase { m with kind := k } ++
        [{ kind := .dataR, line := m.line, agent := m.req, st := if snoopGrants k = .f ∧ s.cxl m.req then .s else snoopGrants k,
           data := (s.cent m.agent e).data, off := m.off, len := m.len },
         { kind := .snpRsp, line := m.line, agent := m.agent, result := .fwd,
           hasData := (snoopReturns (s.cent m.agent e) k).isSome, data := (snoopReturns (s.cent m.agent e) k).getD [] }] ∧
      CacheFrame s t) := by
  have hdefers : (s.recv { m with kind := k }).defers m.agent m.line = false :=
    defers_eq_false (s := s.recv { m with kind := k }) hhold fun e' hfind' => by
      obtain rfl : e = e' := Option.some.inj (hfind.symm.trans hfind')
      simp [hst]
  have hanswer : (s.recv { m with kind := k }).snoopAt { m with kind := k } = (s.recv { m with kind := k }).snoopEnt e { m with kind := k } :=
    snoopAt_held hdefers hfind
  obtain ⟨hcent, hmsgs, hrest⟩ := snoopEnt_modified (s := s.recv { m with kind := k }) (m := { m with kind := k }) rfl hst hflips hkind
  refine does_cacheMsg hagent hexec ?_ fun hframe => ?_
  · rw [hanswer]
    exact hrest
  · rw [hanswer] at hframe ⊢
    exact ⟨hcent, hmsgs, hframe⟩

/-- A snoop of a line that the cache does not hold completes with a miss. -/
theorem does_snoop_miss {i : Instr} {s : State} {m : CohMsg} {k : CohKind} {f : State → CohMsg → State} (hagent : m.agent < 384)
    (hexec : exec i s = within "agent" m.agent 509 (done s (s.cacheMsg m k f)))
    (hmiss : f (s.recv { m with kind := k }) { m with kind := k } =
      (s.recv { m with kind := k }).snpRsp m.agent m.line .miss none none) :
    Does i s (fun t => t.coh.msgs = s.coh.msgs.erase { m with kind := k } ++
      [{ kind := .snpRsp, line := m.line, agent := m.agent, result := .miss, hasData := false, data := [] }] ∧ CacheFrame s t) := by
  obtain ⟨hmsgs, -, hrest⟩ := snpRsp_reads (s.recv { m with kind := k }) m.agent m.line .miss none
  refine does_cacheMsg hagent hexec ?_ fun hframe => ?_
  · rw [hmiss]
    exact hrest
  · rw [hmiss] at hframe ⊢
    exact ⟨hmsgs, hframe⟩

/-- Settles O20, clause by clause: a line held in M under each forwarding snoop, INV of a line that is not modified, and a miss. -/
theorem cacheAnswersSnoops : Obligations.CacheAnswersSnoops := by
  unfold Obligations.CacheAnswersSnoops
  intro s m e hagent hhold a c gone fwd rsp only
  refine ⟨fun hfind hst hflips => ⟨?_, ?_, ?_, ?_⟩, fun hfind hst hflips => ?inv, fun hfind => ⟨?missS, ?missInv⟩⟩
  · exact does_snoop_modified (k := .snpS) hagent rfl (by simp) hhold hfind hst hflips
  · exact does_snoop_modified (k := .snpX) hagent rfl (by simp) hhold hfind hst hflips
  · exact does_snoop_modified (k := .snpU) hagent rfl (by simp) hhold hfind hst hflips
  · exact does_snoop_modified (k := .snpP) hagent rfl (by simp) hhold hfind hst hflips
  case inv =>
    let u := s.recv { m with kind := .inv }
    have hinv : u.invAt { m with kind := .inv } = ((u.leave a m.line).snpRsp a m.line .ack none none).setCent a e {} :=
      invAt_unmodified hfind rfl hst hflips
    obtain ⟨hmsgs, -, hrest⟩ := snpRsp_reads (u.leave a m.line) a m.line .ack none
    refine does_cacheMsg hagent rfl ?_ fun hframe => ?_
    · rw [hinv, rest_setCent, hrest, rest_leave, rest_recv]
    · rw [hinv] at hframe ⊢
      refine ⟨cent_setCent_self _ a e {}, ?_, hframe⟩
      rw [setCent_coh_msgs, hmsgs, msgs_leave]
      rfl
  case missS =>
    refine does_snoop_miss hagent rfl (snoopAt_miss ?_ hfind)
    exact defers_eq_false (s := s.recv { m with kind := .snpS }) hhold fun e' hfind' => absurd (hfind.symm.trans hfind') (by simp)
  case missInv =>
    exact does_snoop_miss hagent rfl (invAt_miss hfind)

end Sys2Proof.Machine

/-!
PROOF. O16: the maintenance, pinning and enabling of a cache (R206, R218, R220, R222, R223).
-/

namespace Sys2Proof.Machine

/-! ### Write-backs (R218) -/

/-- From `s` to `t` a cache acts: the pc of its core and what no cache touches stay. -/
def Quiet (a : Nat) (s t : State) : Prop := (t.core a).pc = (s.core a).pc ∧ t.rest = s.rest

/-- The message of a write-back without an error. -/
def putMsg (a e cls : Nat) (c : CacheEnt) (dirty keep : Bool) : CohMsg :=
  { kind := if dirty then .putM else .putC, line := c.line, agent := a, tag := e, keep := keep, hasData := dirty,
    data := if dirty then c.data else [], cls := cls }

/-- A write-back of an entry without an error sends one message, and the entry waits in WB for its acknowledgement. -/
theorem writeBack_reads {s : State} {a e : Nat} {dirty : Bool} (hclean : dirty = true → (s.cent a e).flips = []) (keep : Bool) :
    ∃ h, ((s.writeBack a e dirty keep false).cent a e).st = .wb ∧ ((s.writeBack a e dirty keep false).cent a e).keep = keep ∧
    (s.writeBack a e dirty keep false).coh.msgs = s.coh.msgs ++ [putMsg a e (s.core a).cls (s.cent a e) dirty keep] ∧
    (s.writeBack a e dirty keep false).ctl a = { s.ctl a with lrHold := h } ∧ Quiet a s (s.writeBack a e dirty keep false) := by
  have hwrite : ∃ x : CacheEnt, x.st = .wb ∧ x.keep = keep ∧ s.writeBack a e dirty keep false =
      (((s.setCent a e x).leave a (s.cent a e).line).count a 4).send (putMsg a e (s.core a).cls (s.cent a e) dirty keep) := by
    cases dirty with
    | false => exact ⟨{ s.cent a e with st := .wb, dirty := false, keep := keep, poison := false }, rfl, rfl, rfl⟩
    | true =>
      refine ⟨{ s.cent a e with st := .wb, dirty := true, keep := keep, poison := false }, rfl, rfl, ?_⟩
      have hflips := hclean rfl
      simp [State.writeBack, singles_clean hflips, fixed_clean hflips, putMsg]
  obtain ⟨x, hst, hkeep, hwrite⟩ := hwrite
  obtain ⟨h, hctl⟩ := ctl_leave (s.setCent a e x) a (s.cent a e).line
  refine ⟨h, ?_⟩
  rw [hwrite]
  simp [Quiet, cent_setCent_self, hst, hkeep, hctl]

/-! ### One entry under maintenance (R222) -/

theorem badMask_clean {c : CacheEnt} (h : c.flips = []) : c.badMask = 0 := by
  simp [CacheEnt.badMask, bad_clean h]

/-- A maintenance operation awaits the acknowledgement of an entry's write-back. -/
def State.awaitAck (s : State) (a e : Nat) : State := s.setCtl a { s.ctl a with maint := (s.ctl a).maint ++ [e] }

@[simp] theorem ctl_awaitAck (s : State) (a e : Nat) : (s.awaitAck a e).ctl a = { s.ctl a with maint := (s.ctl a).maint ++ [e] } := by
  simp [State.awaitAck]

@[simp] theorem cent_awaitAck (s : State) (a e g k : Nat) : (s.awaitAck a e).cent g k = s.cent g k := rfl
@[simp] theorem core_awaitAck (s : State) (a e g : Nat) : (s.awaitAck a e).core g = s.core g := rfl
@[simp] theorem msgs_awaitAck (s : State) (a e : Nat) : (s.awaitAck a e).coh.msgs = s.coh.msgs := rfl
@[simp] theorem rest_awaitAck (s : State) (a e : Nat) : (s.awaitAck a e).rest = s.rest := rfl

/-- CLEAN of an entry in M without error writes it back and keeps it. -/
theorem maintEnt_clean {s : State} {a e : Nat} (hst : (s.cent a e).st = .m) (hflips : (s.cent a e).flips = []) :
    s.maintEnt a 1 e = (s.writeBack a e true true false).awaitAck a e := by
  simp [State.maintEnt, hst, badMask_clean hflips, State.awaitAck]

/-- CLEAN_INVAL of an entry in E gives it up. -/
theorem maintEnt_cleanInval {s : State} {a e : Nat} (hst : (s.cent a e).st = .e) :
    s.maintEnt a 3 e = (s.writeBack a e false false false).awaitAck a e := by
  simp [State.maintEnt, hst, State.awaitAck]

/-- INVAL of an entry in S drops it. -/
theorem maintEnt_inval {s : State} {a e : Nat} (hst : (s.cent a e).st = .s) :
    s.maintEnt a 2 e = (s.leave a (s.cent a e).line).setCent a e {} := by
  simp [State.maintEnt, hst]

/-- Maintenance leaves an entry that holds no line. -/
theorem maintEnt_empty {s : State} {a e : Nat} (hst : (s.cent a e).st = .i) (op : Nat) : s.maintEnt a op e = s := by
  simp [State.maintEnt, hst]

/-- Maintenance of a cache that holds no line changes nothing. -/
theorem foldl_maintEnt_empty {s : State} {a : Nat} {l : List Nat} (h : ∀ e ∈ l, (s.cent a e).st = .i) (op : Nat) :
    l.foldl (fun t e => t.maintEnt a op e) s = s := by
  induction l with
  | nil => rfl
  | cons e l ih =>
    rw [List.foldl_cons, maintEnt_empty (h e List.mem_cons_self)]
    exact ih fun e' he' => h e' (List.mem_cons_of_mem e he')

/-! ### The end of an operation -/

/-- An operation that awaits a write-back is not over. -/
theorem maintDone_waits {s : State} {a : Nat} (h : (s.ctl a).maint ≠ []) : s.maintDone a = s := if_pos h

/-- Nothing follows an operation for which nothing is noted. -/
theorem maintDone_none {s : State} {a : Nat} (h : (s.ctl a).after = 0) : s.maintDone a = s := by
  unfold State.maintDone
  simp [h]

/-- An invalidation of every entry ends with INVDONE. -/
theorem maintDone_inval {s : State} {a : Nat} (hmaint : (s.ctl a).maint = []) (h : (s.ctl a).after = 1) :
    s.maintDone a = s.setCtl a { s.ctl a with invdone := true, after := 0 } := by
  simp [State.maintDone, hmaint, h]

/-- A disabling ends with the cache off. -/
theorem maintDone_disable {s : State} {a : Nat} (hmaint : (s.ctl a).maint = []) (h : (s.ctl a).after = 2) :
    s.maintDone a = s.setCtl a { s.ctl a with enable := false, invdone := false, after := 0 } := by
  simp [State.maintDone, hmaint, h]

/-- A pinning ends with the entries of the next map pinned; the new ones hold zeros. -/
theorem maintDone_pin {s : State} {a e : Nat} (hmaint : (s.ctl a).maint = []) (h : (s.ctl a).after = 3)
    (hfresh : (List.range 32).filter (fun k => bit (s.ctl a).pinNext k && !bit (s.ctl a).pin k) = [e]) :
    s.maintDone a = (s.setCtl a { s.ctl a with pin := (s.ctl a).pinNext, after := 0 }).setCent a e { data := zeros 128 } := by
  simp [State.maintDone, hmaint, h, hfresh]

/-! ### Writes of CC_OP (R222) -/

/-- A write of CC_OP has passed its checks, and `after` says what follows it. -/
def State.ccBegin (s : State) (a after : Nat) : State := (s.ccLast a .ok).setCtl a { (s.ccLast a .ok).ctl a with after := after }

@[simp] theorem ctl_ccBegin (s : State) (a after : Nat) : (s.ccBegin a after).ctl a = { s.ctl a with last := 0, after := after } := by
  simp [State.ccBegin, State.ccLast, stCode]

@[simp] theorem cent_ccBegin (s : State) (a after g e : Nat) : (s.ccBegin a after).cent g e = s.cent g e := rfl
@[simp] theorem core_ccBegin (s : State) (a after g : Nat) : (s.ccBegin a after).core g = s.core g := rfl
@[simp] theorem rest_ccBegin (s : State) (a after : Nat) : (s.ccBegin a after).rest = s.rest := rfl
@[simp] theorem msgs_ccBegin (s : State) (a after : Nat) : (s.ccBegin a after).coh.msgs = s.coh.msgs := rfl

/-- The word of CC_OP that names an operation on one entry. -/
theorem ccOp_word {e op : Nat} (he : e < 48) (hop : op < 4) :
    setBits (BitVec.ofNat 64 (4 + 256 * e)).toNat 1 0 op = 4 + 256 * e + op := by
  rw [BitVec.toNat_ofNat]
  norm_num [setBits, bits]
  omega

/-- CC_OP of one entry that is not pinned. -/
theorem ccOp_entry {s : State} {a e op : Nat} (he : e < 48) (hop : op < 4) (hpos : op ≠ 0) (hpin : s.pinned a e = false) :
    s.ccOp a (4 + 256 * e + op) = ((s.ccBegin a 0).maintEnt a op e).maintDone a := by
  have hscope : bits (4 + 256 * e + op) 3 2 = 1 := by norm_num [bits]; omega
  have hent : bits (4 + 256 * e + op) 13 8 = e := by norm_num [bits]; omega
  have hword : bits (4 + 256 * e + op) 1 0 = op := by norm_num [bits]; omega
  have hhigh : bits (4 + 256 * e + op) 63 20 = 0 := by norm_num [bits]; omega
  have hmid : bits (4 + 256 * e + op) 19 14 = 0 := by norm_num [bits]; omega
  have hlow : bits (4 + 256 * e + op) 7 4 = 0 := by norm_num [bits]; omega
  have hcheck : s.ccCheck a (4 + 256 * e + op) = .ok := by
    simp [State.ccCheck, firstFail, hscope, hent, hword, hhigh, hmid, hlow, hpos, hpin, he]
  unfold State.ccOp
  simp only [hcheck, hword, hscope, State.scope, hent, ne_eq, not_true_eq_false, if_false, List.foldl_cons, List.foldl_nil]
  rfl

/-- CC_OP of an entry that it writes back: the cache sends the write-back and waits for its acknowledgement. -/
theorem ccOp_writesBack {s : State} {a e op : Nat} {dirty keep : Bool} (he : e < 48) (hop : op < 4) (hpos : op ≠ 0)
    (hpin : s.pinned a e = false) (hclean : dirty = true → (s.cent a e).flips = [])
    (hwb : (s.ccBegin a 0).maintEnt a op e = ((s.ccBegin a 0).writeBack a e dirty keep false).awaitAck a e) :
    ∃ u : State, s.ccOp a (4 + 256 * e + op) = u ∧ (u.cent a e).st = .wb ∧ (u.cent a e).keep = keep ∧
      u.coh.msgs = s.coh.msgs ++ [putMsg a e (s.core a).cls (s.cent a e) dirty keep] ∧ (u.ctl a).last = 0 ∧ Quiet a s u := by
  obtain ⟨x, hst, hkeep, hmsgs, hctl, hpc, hrest⟩ := writeBack_reads (s := s.ccBegin a 0) (e := e) hclean keep
  refine ⟨_, ?_, (congrArg CacheEnt.st (cent_awaitAck _ a e a e)).trans hst, hkeep, hmsgs, ?_, hpc, hrest⟩
  · rw [ccOp_entry he hop hpos hpin, hwb, maintDone_waits]
    simp
  · simp [hctl]

/-- CC_OP of a cache that holds no line, for every entry. -/
theorem ccOp_all_empty {s : State} {a op : Nat} (hop : op < 4) (hinval : 2 ≤ op) (h : ∀ k, k < 48 → (s.cent a k).st = .i) :
    s.ccOp a (8 + op) = (s.ccBegin a 1).maintDone a := by
  have hscope : bits (8 + op) 3 2 = 2 := by norm_num [bits]; omega
  have hword : bits (8 + op) 1 0 = op := by norm_num [bits]; omega
  have hhigh : bits (8 + op) 63 4 = 0 := by norm_num [bits]; omega
  have hcheck : s.ccCheck a (8 + op) = .ok := by
    have hpos : op ≠ 0 := by omega
    simp [State.ccCheck, firstFail, hscope, hword, hhigh, hpos]
  have hclean : op ≠ 1 := by omega
  unfold State.ccOp
  simp only [hcheck, hword, hscope, State.scope, ne_eq, not_true_eq_false, if_false, hclean, not_false_eq_true, and_self, if_true]
  refine congrArg (fun t : State => t.maintDone a) (foldl_maintEnt_empty (s := s.ccBegin a 1) (fun e he => ?_) op)
  exact h e (List.mem_range.1 (List.mem_filter.1 he).1)

/-! ### Writes of CC_PIN (R220) -/

/-- The only bit of a power of two. -/
theorem filter_bit_two_pow {e : Nat} (he : e < 32) : (List.range 32).filter (bit (2 ^ e)) = [e] := by
  have hbit (k : Nat) : bit (2 ^ e) k = (k == e) := by
    rw [bit, Nat.testBit_two_pow, Bool.beq_eq_decide_eq]
    simp [eq_comm]
  have hcount : (List.range 32).count e = 1 := List.count_eq_one_of_mem List.nodup_range (List.mem_range.2 he)
  rw [List.filter_congr fun k _ => hbit k, List.filter_beq, hcount]
  rfl

/-- A write of CC_PIN that pins the entries of `next` and no others, while none is pinned. -/
def State.pinBegin (s : State) (a next : Nat) : State :=
  (s.ccLast a .ok).setCtl a { (s.ccLast a .ok).ctl a with pin := 0, pinNext := next, after := 3 }

@[simp] theorem ctl_pinBegin (s : State) (a next : Nat) :
    (s.pinBegin a next).ctl a = { s.ctl a with last := 0, pin := 0, pinNext := next, after := 3 } := by
  simp [State.pinBegin, State.ccLast, stCode]

@[simp] theorem cent_pinBegin (s : State) (a next g e : Nat) : (s.pinBegin a next).cent g e = s.cent g e := rfl
@[simp] theorem core_pinBegin (s : State) (a next g : Nat) : (s.pinBegin a next).core g = s.core g := rfl
@[simp] theorem rest_pinBegin (s : State) (a next : Nat) : (s.pinBegin a next).rest = s.rest := rfl

/-- CC_PIN of one entry that holds no line, in a cache that has no entry pinned or off. -/
theorem ccPin_single {s : State} {a e : Nat} (he : e < 32) (hpin : (s.ctl a).pin = 0) (hoff : (s.ctl a).off = 0)
    (hst : (s.cent a e).st = .i) : s.ccPin a (2 ^ e) = (s.pinBegin a (2 ^ e)).maintDone a := by
  have hhigh : bits (2 ^ e) 63 32 = 0 := by
    have hlt : 2 ^ e < 2 ^ 32 := Nat.pow_lt_pow_right (by norm_num) he
    rw [bits, Nat.div_eq_of_lt hlt, Nat.zero_mod]
  have hzero (k : Nat) : bit 0 k = false := Nat.zero_testBit k
  have hnext : bitsOf [e] = 2 ^ e := by simp [bitsOf]
  have hempty : (s.pinBegin a (2 ^ e)).maintEnt a 3 e = s.pinBegin a (2 ^ e) :=
    maintEnt_empty (by rwa [cent_pinBegin]) 3
  unfold State.ccPin
  simp only [hhigh, hpin, hoff, hzero, Bool.not_false, Bool.and_true, Bool.and_false, Bool.false_and, List.filter_false,
    List.contains_nil, filter_bit_two_pow he, hnext, List.foldl_nil, List.foldl_cons, Nat.zero_and, if_true, ne_eq, not_true_eq_false, if_false]
  exact congrArg (fun t : State => t.maintDone a) hempty

/-- The pinning of one entry, with no write-back to await, is over at once. -/
theorem maintDone_pinBegin {s : State} {a e : Nat} (he : e < 32) (hmaint : (s.ctl a).maint = []) : ∃ t : State,
    (s.pinBegin a (2 ^ e)).maintDone a = t.setCent a e { data := zeros 128 } ∧
    t.ctl a = { s.ctl a with last := 0, pin := 2 ^ e, pinNext := 2 ^ e, after := 0 } ∧ Quiet a s t := by
  have hzero (k : Nat) : bit 0 k = false := Nat.zero_testBit k
  refine ⟨_, maintDone_pin ?_ ?_ ?_, ?_, ?_⟩
  · simpa using hmaint
  · simp
  · simp [hzero, filter_bit_two_pow he]
  · simp
  · simp [Quiet]

/-! ### Writes of CC_CTL (R223) -/

/-- Setting bit 0 sets it. -/
theorem bit_setBits_zero (v x : Nat) : bit (setBits v 0 0 x) 0 = decide (x % 2 = 1) := by
  have hval : setBits v 0 0 x = v - v % 2 + x % 2 := by norm_num [setBits, bits]
  rw [bit, Nat.testBit_zero, hval]
  congr 1
  apply propext
  omega

/-- Setting bit 0 leaves every other bit. -/
theorem bit_setBits_succ (v x i : Nat) : bit (setBits v 0 0 x) (i + 1) = v.testBit (i + 1) := by
  have hval : setBits v 0 0 x = v - v % 2 + x % 2 := by norm_num [setBits, bits]
  rw [bit, Nat.testBit_succ, Nat.testBit_succ, hval, show (v - v % 2 + x % 2) / 2 = v / 2 by omega]

/-- CC_CTL that sets ENABLE after an invalidation of every entry. -/
theorem ccCtl_enable {s : State} {a v : Nat} (hset : bit v 0 = true) (hdone : (s.ctl a).invdone = true) :
    s.ccCtl a v = s.setCtl a { s.ctl a with enable := true, pfEn := bit v 1, stashEn := bit v 2, pfDist := bits v 5 4, last := 0 } := by
  simp [State.ccCtl, hset, hdone]

/-- CC_CTL that sets ENABLE too early. -/
theorem ccCtl_locked {s : State} {a v : Nat} (hset : bit v 0 = true) (hdone : (s.ctl a).invdone = false) :
    s.ccCtl a v = s.setCtl a { s.ctl a with last := 5 } := by
  simp [State.ccCtl, hset, hdone, State.ccLast, stCode]

/-- CC_CTL that clears ENABLE of a cache that holds no line. -/
theorem ccCtl_disable {s : State} {a v : Nat} (hclear : bit v 0 = false) (hon : (s.ctl a).enable = true)
    (h : ∀ k, k < 48 → (s.cent a k).st = .i) : s.ccCtl a v = (s.setCtl a
      { s.ctl a with enable := true, pfEn := bit v 1, stashEn := bit v 2, pfDist := bits v 5 4, last := 0, after := 2 }).maintDone a := by
  unfold State.ccCtl
  simp only [hclear, hon, Bool.false_eq_true, if_false, if_true]
  refine congrArg (fun t : State => t.maintDone a) (foldl_maintEnt_empty (fun e he => ?_) 3)
  exact h e (List.mem_range.1 (List.mem_filter.1 he).1)

/-! ### The stores (R222) -/

/-- A store of a cache register by its own core completes when the cache alone acts; the core retires. -/
theorem does_ccStore {i : Instr} {s u : State} {a : Nat} {f : State → State} {P : State → Prop} (h : Ready s a)
    (hexec : exec i s = within "agent" a 384 (done s (s.ccStore a f))) (hf : f s = u) (hquiet : Quiet a s u)
    (hp : ((u.retire a).core a).pc = (s.core a).pc + 4 ∧ CacheFrame s (u.retire a) → P (u.retire a)) : Does i s P := by
  obtain ⟨hpc, hrest⟩ := hquiet
  have hframe : CacheFrame s (u.retire a) := cacheFrame_iff.2 hrest
  refine does_of_done ?_ hframe.leaves (hp ⟨?_, hframe⟩)
  · rw [hexec, within_of_lt h.1, State.ccStore, onCore_of_ready h, hf]
  · rw [State.retire, core_setCore_self, retire_pc, hpc]

theorem ready_maint {s : State} {a : Nat} (h : Ready s a) : (s.ctl a).maint = [] := List.isEmpty_iff.1 (ready_acc h).2

/-- Settles O16, clause by clause: the three operations of CC_OP on an entry, CC_INVAL of every entry, CC_PIN, CC_CTL and the end of an
LR's deferral. -/
theorem cacheControlWrites : Obligations.CacheControlWrites := by
  unfold Obligations.CacheControlWrites
  intro s a e v h he hpin c op none' pcOn
  have hmaint := ready_maint h
  refine ⟨fun hst hflips => ?clean, fun hst => ?inval, fun hst => ?cleanInval, fun hnone => ?all, fun hnone hlt hpins hoff => ?pin,
    fun hdone => ?enable, fun hdone => ?locked, fun hnone hon => ?disable, fun hdef => ?defer⟩
  case clean =>
    obtain ⟨u, hf, hwb, hkeep, hmsgs, hlast, hquiet⟩ :=
      ccOp_writesBack (dirty := true) (keep := true) (op := 1) he (by norm_num) (by norm_num) hpin (fun _ => hflips)
        (maintEnt_clean hst hflips)
    rw [← ccOp_word he (by norm_num)] at hf
    exact does_ccStore h rfl hf hquiet fun hpcOn => ⟨hwb, hkeep, hmsgs, hlast, hpcOn⟩
  case inval =>
    obtain ⟨x, hctl⟩ := ctl_leave (s.ccBegin a 0) a (s.cent a e).line
    let u := ((s.ccBegin a 0).leave a (s.cent a e).line).setCent a e {}
    have hf : s.ccOp a (setBits op.toNat 1 0 2) = u := by
      rw [ccOp_word he (by norm_num), ccOp_entry he (by norm_num) (by norm_num) hpin, maintEnt_inval (s := s.ccBegin a 0) hst]
      exact maintDone_none (by simp [hctl])
    refine does_ccStore h rfl hf (by simp [Quiet, u]) fun hpcOn => ⟨?_, ?_, ?_, hpcOn⟩
    · exact cent_setCent_self _ a e {}
    · simp [u]
    · simp [u, hctl]
  case cleanInval =>
    obtain ⟨u, hf, hwb, -, hmsgs, -, hquiet⟩ :=
      ccOp_writesBack (dirty := false) (keep := false) (op := 3) he (by norm_num) (by norm_num) hpin (by simp) (maintEnt_cleanInval hst)
    rw [← ccOp_word he (by norm_num)] at hf
    exact does_ccStore h rfl hf hquiet fun hpcOn => ⟨hwb, hmsgs, hpcOn⟩
  case all =>
    let u := (s.ccBegin a 1).setCtl a { (s.ccBegin a 1).ctl a with invdone := true, after := 0 }
    have hf : s.ccOp a (setBits (8 : Word).toNat 1 0 2) = u :=
      (ccOp_all_empty (op := 2) (by norm_num) le_rfl hnone).trans (maintDone_inval (by simpa using hmaint) (by simp))
    refine does_ccStore h rfl hf (by simp [Quiet, u]) fun hpcOn => ⟨?_, ?_, ?_, hpcOn⟩ <;> simp [u]
  case pin =>
    have hword : (BitVec.ofNat 64 (2 ^ e)).toNat = 2 ^ e := by
      rw [BitVec.toNat_ofNat, Nat.mod_eq_of_lt (Nat.pow_lt_pow_right (by norm_num) (by omega))]
    obtain ⟨t, hdone, hctl, hpc, hrest⟩ := maintDone_pinBegin hlt hmaint
    have hf : s.ccPin a (BitVec.ofNat 64 (2 ^ e)).toNat = t.setCent a e { data := zeros 128 } := by
      rw [hword, ccPin_single hlt hpins hoff (hnone e he), hdone]
    refine does_ccStore h rfl hf ⟨hpc, hrest⟩ fun hpcOn => ⟨?_, ?_, hpcOn⟩ <;> simp [hctl]
  case enable =>
    have hf := ccCtl_enable (v := setBits v.toNat 0 0 1) (by simp [bit_setBits_zero]) hdone
    refine does_ccStore h rfl hf (by simp [Quiet]) fun hpcOn => ⟨?_, ?_, ?_, ?_, hpcOn⟩
    · simp
    · simp [bit_setBits_succ, BitVec.getLsbD]
    · simp [bit_setBits_succ, BitVec.getLsbD]
    · simp
  case locked =>
    have hf := ccCtl_locked (v := setBits v.toNat 0 0 1) (by simp [bit_setBits_zero]) hdone
    exact does_ccStore h rfl hf (by simp [Quiet]) fun hpcOn => ⟨by simp, hpcOn⟩
  case disable =>
    have hf := ccCtl_disable (v := setBits v.toNat 0 0 0) (by simp [bit_setBits_zero]) hon hnone
    rw [maintDone_disable (by simpa using hmaint) (by simp)] at hf
    refine does_ccStore h rfl hf (by simp [Quiet]) fun hpcOn => ⟨?_, ?_, ?_, hpcOn⟩ <;> simp
  case defer =>
    have hnone : ((s.setCtl a { s.ctl a with lrHold := none }).ctl a).deferred = [] := by simpa using hdef
    refine does_of_done ((within_of_lt h.1).trans (congrArg (done s) (undefer_none hnone))) rfl ⟨?_, rfl⟩
    simp [hdef]

end Sys2Proof.Machine

/-!
PROOF. Writing a line of memory (R123, R139 to R141, R225) does not depend on the caches and the homes, and leaves them as they are.
-/

namespace Sys2Proof.Machine

/-- The state with the caches, homes and messages of `c`. -/
def State.withCoh (s : State) (c : Coh) : State := { s with coh := c }

/-- `f` neither reads nor changes the coherence of caches and homes. -/
def BlindToCoh (f : State → State) : Prop := ∀ s c, f (s.withCoh c) = (f s).withCoh c

/-- A fold of steps that are blind to coherence is blind to it. -/
theorem BlindToCoh.foldl {α : Type} {f : State → α → State} (h : ∀ x, BlindToCoh (f · x)) (l : List α) :
    BlindToCoh (fun s => l.foldl f s) := by
  intro s c
  induction l generalizing s with
  | nil => rfl
  | cons x l ih => exact (congrArg (l.foldl f) (h x s c)).trans (ih (f s x))

/-- What is blind to coherence leaves it as it is. -/
theorem BlindToCoh.coh {f : State → State} (h : BlindToCoh f) (s : State) : (f s).coh = s.coh := by
  have hself : f s = (f s).withCoh s.coh := h s s.coh
  rw [hself]
  rfl

/-! ### Events and error records -/

theorem postTo_blind (fn code payload : Nat) : BlindToCoh (fun s => s.postTo fn code payload) := by
  intro s c
  dsimp only [State.postTo]
  rw [apply_ite (State.withCoh · c)]
  rfl

theorem logRec_blind (code src result : Nat) (data : Bytes) (inj : Bool) : BlindToCoh (fun s => s.logRec code src result data inj) := by
  intro s c
  dsimp only [State.logRec]
  rw [apply_ite (State.withCoh · c)]
  rfl

theorem raise_blind (code payload : Nat) (fns : List Nat) (src : Nat) (inj : Bool) :
    BlindToCoh (fun s => s.raise code payload fns src inj) := by
  intro s c
  have hpost := BlindToCoh.foldl (fun fn => postTo_blind fn code payload) (0 :: fns).eraseDups s c
  dsimp only [State.raise] at hpost ⊢
  rw [hpost]
  split
  · rfl
  · exact logRec_blind code src payload [] inj _ c

theorem granError_blind (g kind agent : Nat) (inj : Bool) : BlindToCoh (fun s => s.granError g kind agent inj) := by
  have hsee (t : State) (c : Coh) : (t.withCoh c).seeCistern g kind inj = (t.seeCistern g kind inj).withCoh c := by
    unfold State.seeCistern
    split <;> rfl
  intro s c
  dsimp only [State.granError]
  split
  · split
    · rfl
    · exact raise_blind _ _ _ _ inj (s.setChan (chanNo (32 * g)) _) c
  · split
    · exact hsee (s.setSlice _ _) c
    · rw [← raise_blind, ← hsee]
      rfl

/-! ### Granules -/

theorem readGran_blind (s : State) (c : Coh) (g agent : Nat) :
    (s.withCoh c).readGran g agent = ((s.readGran g agent).1.withCoh c, (s.readGran g agent).2) := by
  have hgran : (s.withCoh c).gran g = s.gran g := rfl
  unfold State.readGran
  dsimp only
  rw [hgran]
  split
  · rfl
  · split
    · exact congrArg (·, true) (granError_blind g 2 agent _ (s.setGran g _) c)
    · split
      · split <;> rfl
      · exact congrArg (·, false) (granError_blind g 1 agent _ { s with cistern.correct := _ } c)
      · exact congrArg (·, true) (granError_blind g 2 agent _ (s.setGran g _) c)

theorem readGrans_blind (agent : Nat) (gs : List Nat) : BlindToCoh (fun s => (s.readGrans agent gs).1) := by
  intro s c
  unfold State.readGrans
  generalize false = bad
  induction gs generalizing s bad with
  | nil => rfl
  | cons g gs ih =>
    dsimp only [List.foldl_cons] at ih ⊢
    rw [readGran_blind]
    exact ih _ _

theorem takeFlip_blind (gs : List Nat) : BlindToCoh (fun s => s.takeFlip gs) := by
  intro s c
  have harmed (k t : Nat) : (s.withCoh c).armedFlip k t = s.armedFlip k t := rfl
  dsimp only [State.takeFlip]
  simp only [harmed]
  split
  · rfl
  · split <;> rfl

theorem writeGrans_blind (hw : Bool) (agent a : Nat) (bs : Bytes) (hole : List Nat) :
    BlindToCoh (fun s => (s.writeGrans hw agent a bs hole).1) := by
  intro s c
  have hbad (n : Nat) : (s.withCoh c).badGrans a n = s.badGrans a n := rfl
  have hread (gs : List Nat) : ((s.withCoh c).readGrans agent gs).1 = ((s.readGrans agent gs).1).withCoh c := readGrans_blind agent gs s c
  have hgran (t : State) (g : Nat) : (t.withCoh c).gran g = t.gran g := rfl
  have hput (t : State) (skip : List Nat) : (t.withCoh c).putMem skip a bs hole = (t.putMem skip a bs hole).withCoh c := rfl
  have hclear (l : List Nat) (t : State) : l.foldl (fun t g => t.setGran g {}) (t.withCoh c) =
      (l.foldl (fun t g => t.setGran g {}) t).withCoh c := BlindToCoh.foldl (fun _ _ _ => rfl) l t c
  have hrefuse (l : List Nat) (t : State) : l.foldl (fun t g => (t.setGran g { t.gran g with poison := true, flips := [] }).granError g 3
      agent (t.gran g).injected) (t.withCoh c) = (l.foldl (fun t g => (t.setGran g { t.gran g with poison := true, flips := [] }).granError
      g 3 agent (t.gran g).injected) t).withCoh c :=
    BlindToCoh.foldl (fun g t c => granError_blind g 3 agent _ (t.setGran g _) c) l t c
  dsimp only [State.writeGrans]
  rw [hbad, hread]
  simp only [hgran, hput, hclear, hrefuse]
  split
  · rfl
  · refine Eq.trans ?_ (takeFlip_blind _ _ c)
    rfl

theorem poisonRange_blind (a n : Nat) : BlindToCoh (fun s => s.poisonRange a n) := fun s c =>
  BlindToCoh.foldl (fun g => show BlindToCoh (fun t => t.setGran g { poison := true }) from fun _ _ => rfl) (s.touched a n)
    { s with cistern.groups := s.cistern.groups.filter (fun m => !(s.touched a n).contains m.gran) } c

/-! ### Lines -/

theorem taintAcc_blind (x n : Nat) : BlindToCoh (fun s => s.taintAcc x n) := by
  intro s c
  refine BlindToCoh.foldl (fun e t c => ?_) s.activeSlots s c
  dsimp only
  split <;> rfl

theorem lineWrite_blind (agent x : Nat) (data : Bytes) (mask : Nat) : BlindToCoh (fun s => s.lineWrite agent x data mask) := by
  intro s c
  dsimp only [State.lineWrite]
  rw [show (s.withCoh c).taintAcc (128 * x) 128 = (s.taintAcc (128 * x) 128).withCoh c from taintAcc_blind _ _ s c]
  refine BlindToCoh.foldl (fun i t c => ?_) (List.range 4) _ c
  dsimp only
  split
  · exact poisonRange_blind _ _ t c
  · exact writeGrans_blind false agent _ _ [] t c

@[simp] theorem coh_lineWrite (s : State) (agent x : Nat) (data : Bytes) (mask : Nat) : (s.lineWrite agent x data mask).coh = s.coh :=
  (lineWrite_blind agent x data mask).coh s

/-- A line written after a message has been received is the line written before. -/
theorem lineWrite_recv (s : State) (m : CohMsg) (agent x : Nat) (data : Bytes) (mask : Nat) :
    (s.recv m).lineWrite agent x data mask = (s.lineWrite agent x data mask).recv m := by
  have h : (s.recv m).lineWrite agent x data mask = (s.lineWrite agent x data mask).withCoh (s.recv m).coh :=
    lineWrite_blind agent x data mask s (s.recv m).coh
  rw [h]
  unfold State.recv
  rw [coh_lineWrite]
  rfl

end Sys2Proof.Machine

/-!
PROOF. O17: a home serves a line of which it holds no entry (R198, R208, R211, R214).
-/

namespace Sys2Proof.Machine

/-! ### Requests at a home (R204) -/

@[simp] theorem outside_recv (s : State) (m : CohMsg) : (s.recv m).outside = s.outside := rfl

/-- An access to a line ends the march over it, and changes nothing else. -/
theorem stopMarch_frame (s : State) (x n : Nat) : ∃ l, s.stopMarch x n = { s with svc.segments := l } := by
  unfold State.stopMarch
  split
  · exact ⟨s.svc.segments, rfl⟩
  · exact ⟨_, rfl⟩

theorem stopMarch_recv (s : State) (m : CohMsg) (x n : Nat) : (s.recv m).stopMarch x n = (s.stopMarch x n).recv m := by
  unfold State.stopMarch
  rw [apply_ite (State.recv · m)]
  rfl

/-- No request waits at the set of a line. -/
def State.setIdle (s : State) (x : Nat) : Prop := s.coh.waiting.any (fun w => dirBase w.line == dirBase x) = false

theorem stashReady_idle {s : State} {x : Nat} (h : s.setIdle x) : s.stashReady x = false := by
  simp only [State.setIdle, List.any_eq_false, beq_iff_eq] at h
  simp only [State.stashReady, List.any_eq_false, Bool.and_eq_true, beq_iff_eq]
  exact fun w hw ⟨⟨_, hset⟩, _⟩ => h w hw hset

theorem request_idle {s : State} {m : CohMsg} (h : s.setIdle m.line) : s.request m = s.serve m := by
  refine if_neg fun hwaits => ?_
  simp only [State.setIdle, List.any_eq_false, beq_iff_eq] at h
  simp only [List.any_eq_true, Bool.and_eq_true, beq_iff_eq] at hwaits
  obtain ⟨w, hw, hline, -⟩ := hwaits
  exact h w hw (by rw [hline])

/-- The home of its line takes request `m` of kind `k` at once: the home is not full, no request waits at the set, and the site of a
partner lets it pass. -/
structure Taken (s : State) (m : CohMsg) (k : CohKind) : Prop where
  agent : m.agent < 509
  room : s.homeFull m.line = false
  idle : s.setIdle m.line
  goes : s.partnerStops m k = none

/-- A request that its home takes at once completes as the home serves it. -/
theorem does_homeRequest {i : Instr} {s u : State} {m : CohMsg} {k : CohKind} {P : State → Prop} (h : Taken s m k)
    (hexec : exec i s = within "agent" m.agent 509 (done s (s.homeRequest m k)))
    (hserve : (s.recv { m with kind := k }).serve { m with kind := k } = u) (hwaiting : u.coh.waiting = s.coh.waiting) (hp : P u) :
    Does i s P := by
  have hrequest : (s.recv { m with kind := k }).request { m with kind := k } = u :=
    (request_idle (s := s.recv { m with kind := k }) (m := { m with kind := k }) h.idle).trans hserve
  have hready : u.stashReady m.line = false := stashReady_idle (by rw [State.setIdle, hwaiting]; exact h.idle)
  refine does_of_done ?_ (leaves_of_outside ?_) hp
  · rw [hexec, within_of_lt h.agent, State.homeRequest, if_neg (by simp [h.room])]
    simp only [State.letIn, h.goes, hrequest, hready, Bool.false_eq_true, if_false]
  · rw [← hserve, outside_serve, outside_recv]

/-- The home holds no entry of a line. -/
theorem serve_untracked {s : State} {m : CohMsg} (h : s.findWay m.line = none) :
    s.serve m = (s.stopMarch (128 * m.line) 128).serveFree m := by
  obtain ⟨l, hl⟩ := stopMarch_frame s (128 * m.line) 128
  have hfind : (s.stopMarch (128 * m.line) 128).findWay m.line = none := by
    rw [hl]
    exact h
  simp only [State.serve, hfind]

/-! ### Memory without errors -/

theorem hbmWindow_line (x : Nat) {off : Nat} (h : off < 128) : hbmWindow (128 * x + off) = hbmWindow (128 * x) := by
  have hhbm : (128 * x + off < hbmEnd) = (128 * x < hbmEnd) := propext (by unfold hbmEnd; omega)
  have hlo : (localBase ≤ 128 * x + off ∧ 128 * x + off < diagBase) = (localBase ≤ 128 * x ∧ 128 * x < diagBase) :=
    propext (by unfold localBase diagBase; omega)
  unfold hbmWindow
  simp only [hhbm, hlo]
  split
  · rfl
  · split
    next hlocal =>
      have hstack : (128 * x + off - localBase) / localSpan = (128 * x - localBase) / localSpan := by
        obtain ⟨hbase, -⟩ := hlocal
        unfold localBase at hbase ⊢
        unfold localSpan
        omega
      exact congrArg some hstack
    next => rfl

theorem badGrans_empty (s : State) (a : Nat) : s.badGrans a 0 = [] := by
  have hmeets (g : Nat) : granMeets a 0 g = false := by
    unfold granMeets
    split
    · simp [overlap]
    · rfl
  simp [State.badGrans, hmeets]

/-- A part of a line without errors is without errors. -/
theorem badGrans_part {s : State} {x off n : Nat} (h : s.badGrans (128 * x) 128 = []) (hfit : off + n ≤ 128) :
    s.badGrans (128 * x + off) n = [] := by
  obtain hzero | hpos := Nat.eq_zero_or_pos n
  · rw [hzero]
    exact badGrans_empty s _
  simp only [State.badGrans, List.filter_eq_nil_iff] at h ⊢
  intro g hg hmeets
  refine h g hg ?_
  have hseen : seenAt (128 * x + off) (32 * g) = seenAt (128 * x) (32 * g) := by
    unfold seenAt
    rw [hbmWindow_line x (by omega)]
  unfold granMeets at hmeets ⊢
  rw [hseen] at hmeets
  split at hmeets
  · simp only [overlap, Bool.and_eq_true, decide_eq_true_eq] at hmeets ⊢
    omega
  · cases hmeets

theorem firstPoison_sound {s : State} {a n : Nat} (h : s.badGrans a n = []) : s.firstPoison a n = none := by
  simp [State.firstPoison, h]

/-- A read of a part of a line without errors finds none. -/
theorem readU_sound {s : State} {x off n : Nat} (h : s.badGrans (128 * x) 128 = []) (hfit : off + n ≤ 128) (agent : Nat) :
    s.readU agent (128 * x + off) n = (s, false) := by
  have hlines : s.badGrans ((128 * x + off) / 128 * 128)
      ((128 * x + off + n + 127) / 128 * 128 - (128 * x + off) / 128 * 128) = [] := by
    obtain hoff | hoff := Nat.lt_or_ge off 128
    · have hlo : (128 * x + off) / 128 * 128 = 128 * x + 0 := by omega
      rw [hlo]
      exact badGrans_part h (by omega)
    · have hnone : (128 * x + off + n + 127) / 128 * 128 - (128 * x + off) / 128 * 128 = 0 := by omega
      rw [hnone]
      exact badGrans_empty s _
  unfold State.readU
  simp only [badGrans_part h hfit, State.readGrans, List.foldl_nil, firstPoison_sound hlines]
  rfl

theorem openAcc_inactive {s : State} (h : s.activeSlots = []) (x : Nat) (b : Bytes) : s.openAcc x b = (s, b) := by
  simp [State.openAcc, h]

/-- The home of line `x` holds no entry for it and has way `i` free; memory holds the line without errors, and no reduction slot is
ACTIVE. -/
structure FreeLine (s : State) (x i : Nat) : Prop where
  untracked : s.findWay x = none
  way : s.freeWay x = some i
  sound : s.badGrans (128 * x) 128 = []
  stack : s.stackStatus (128 * x) 128 = .ok
  slots : s.activeSlots = []

section FreeLine
variable {s : State} {m : CohMsg} {i : Nat} (h : FreeLine s m.line i)
include h

/-- The end of a march and the receipt of a message leave the line free. -/
theorem FreeLine.received (k : CohMsg) (a n : Nat) : FreeLine ((s.stopMarch a n).recv k) m.line i := by
  obtain ⟨l, hl⟩ := stopMarch_frame s a n
  rw [hl]
  exact ⟨h.untracked, h.way, h.sound, h.stack, h.slots⟩

theorem FreeLine.lineRead (agent : Nat) : s.lineRead agent m.line = (s, s.rawBytes (128 * m.line) 128, false) := by
  simp [State.lineRead, h.sound, h.stack, State.readGrans, openAcc_inactive h.slots]

/-- RD_S, RD_X and UPG of a free line make the requester its only owner (Table 6.7). -/
theorem FreeLine.serve_own (hkind : m.kind ∈ [CohKind.rdS, .rdX, .upg]) : s.serveFree m =
    (s.allocate i m.line 1 m.agent).send (replyData m .e (s.rawBytes (128 * m.line) 128) false) := by
  simp only [List.mem_cons, List.not_mem_nil, or_false] at hkind
  unfold State.serveFree
  obtain hk | hk | hk := hkind <;>
    simp only [hk, h.way, h.lineRead, Bool.false_eq_true, if_false]

/-- RD_U and PEEK of a free line are answered from memory; only an RD_U may merge with others. -/
theorem FreeLine.serve_read (hkind : m.kind ∈ [CohKind.rdU, .peek]) (hfit : m.off + m.len ≤ 128) :
    ∃ g, s.serveFree m = State.send { s with cistern.groups := g } (replyData m .i (s.rawBytes (128 * m.line) 128) false) ∧
      (m.kind = .peek → g = s.cistern.groups) := by
  obtain ⟨g, joined, hmerge, hpeek⟩ : ∃ g joined,
      (if m.kind = .rdU ∧ merges m.agent then s.mergeRead (128 * m.line + m.off) m.len else (s, false)) =
        ({ s with cistern.groups := g }, joined) ∧ (m.kind = .peek → g = s.cistern.groups) := by
    by_cases hmay : m.kind = .rdU ∧ merges m.agent
    · obtain ⟨g, b, hmerge⟩ := mergeRead_groups s (128 * m.line + m.off) m.len
      obtain ⟨hrdU, -⟩ := id hmay
      exact ⟨g, b, (if_pos hmay).trans hmerge, fun hk => absurd (hrdU.symm.trans hk) (by simp)⟩
    · exact ⟨s.cistern.groups, false, if_neg hmay, fun _ => rfl⟩
  obtain ⟨u, hu⟩ : ∃ u : State, u = { s with cistern.groups := g } := ⟨_, rfl⟩
  rw [← hu] at hmerge
  obtain ⟨hsound, hslots, hbytes⟩ : u.badGrans (128 * m.line) 128 = [] ∧ u.activeSlots = [] ∧
      u.rawBytes (128 * m.line) 128 = s.rawBytes (128 * m.line) 128 := by
    rw [hu]
    exact ⟨h.sound, h.slots, rfl⟩
  have hread : (if joined then (u, (u.firstPoison (128 * m.line) 128).isSome) else u.readU m.agent (128 * m.line + m.off) m.len) =
      (u, false) := by
    rw [firstPoison_sound hsound, readU_sound hsound hfit]
    exact ite_self _
  have hserve : s.serveRdU m = u.send (replyData m .i (s.rawBytes (128 * m.line) 128) false) := by
    unfold State.serveRdU
    simp only [hmerge, hread, openAcc_inactive hslots, hbytes, h.stack]
    rfl
  refine ⟨g, ?_, hpeek⟩
  simp only [List.mem_cons, List.not_mem_nil, or_false] at hkind
  unfold State.serveFree
  obtain hk | hk := hkind <;> simp only [hk, hserve, hu]

end FreeLine

/-! ### Writes of a memory without errors -/

/-- A write to a memory without errors puts its bytes and is refused nothing. -/
theorem writeGrans_sound {s : State} (h : s.grans = []) (agent a : Nat) (bs : Bytes) :
    (s.writeGrans false agent a bs).2 = true ∧ (s.writeGrans false agent a bs).1.mem = (s.putMem [] a bs).mem := by
  have hbad : s.badGrans a bs.length = [] := by simp [State.badGrans, h, tkeys]
  constructor
  · simp [State.writeGrans, hbad]
  · simp only [State.writeGrans, hbad, List.filter_nil, State.readGrans, List.foldl_nil, Bool.false_eq_true, if_false, mem_takeFlip]

theorem coh_writeGrans (s : State) (hw : Bool) (agent a : Nat) (bs : Bytes) (hole : List Nat) :
    (s.writeGrans hw agent a bs hole).1.coh = s.coh := (writeGrans_blind hw agent a bs hole).coh s

/-- A WR_U of whole bytes without a stash target, to a memory without errors, puts its bytes and is acknowledged. -/
theorem serveWrU_sound {s : State} {m : CohMsg} (hgrans : s.grans = []) (hslots : s.activeSlots = []) (hhole : m.hole = [])
    (hstash : m.stash = none) : (s.serveWrU m).mem = (s.putMem [] (128 * m.line + m.off) m.data).mem ∧
    (s.serveWrU m).coh = { s.coh with msgs := s.coh.msgs ++ [{ kind := .wrAck, line := m.line, agent := m.agent }] } := by
  have htaint (x n : Nat) : s.taintAcc x n = s := by simp [State.taintAcc, hslots]
  obtain ⟨hall, hmem⟩ := writeGrans_sound hgrans m.agent (128 * m.line + m.off) m.data
  have hserve : s.serveWrU m = (s.writeGrans false m.agent (128 * m.line + m.off) m.data).1.send
      { kind := .wrAck, line := m.line, agent := m.agent } := by
    simp [State.serveWrU, htaint, hhole, hall, State.laterStash, hstash]
  rw [hserve]
  refine ⟨hmem, ?_⟩
  unfold State.send
  rw [coh_writeGrans]

/-! ### Requests that a home serves -/

/-- The end of a march leaves the coherence of caches and homes. -/
theorem coh_stopMarch (s : State) (x n : Nat) : (s.stopMarch x n).coh = s.coh := by
  obtain ⟨l, hl⟩ := stopMarch_frame s x n
  rw [hl]

/-- `r` is the state in which a home serves request `m`, which it has received as one of kind `k`; the march over the line has ended. -/
structure Serving (s r : State) (m : CohMsg) (k : CohKind) : Prop where
  frame : r = (s.stopMarch (128 * m.line) 128).withCoh r.coh
  coh : r.coh = { s.coh with msgs := s.coh.msgs.erase { m with kind := k } }
  grans : r.grans = s.grans
  cistern : r.cistern = s.cistern
  put : ∀ a d, (r.putMem [] a d).mem = (s.putMem [] a d).mem
  bytes : r.rawBytes (128 * m.line) 128 = s.rawBytes (128 * m.line) 128

theorem serving_received (s : State) (m : CohMsg) (k : CohKind) :
    Serving s ((s.stopMarch (128 * m.line) 128).recv { m with kind := k }) m k := by
  obtain ⟨l, hl⟩ := stopMarch_frame s (128 * m.line) 128
  constructor
  case frame => rfl
  case coh => rw [State.recv, coh_stopMarch]
  all_goals
    rw [hl]
    intros
    rfl

theorem Serving.dirEnt {s r : State} {m : CohMsg} {k : CohKind} (h : Serving s r m k) (j : Nat) : r.dirEnt j = s.dirEnt j := by
  rw [State.dirEnt, h.coh]
  rfl

/-- A home serves a request for a free line as one for a line of which it holds no entry. -/
theorem serving_of_free {s : State} {m : CohMsg} {i : Nat} (h : FreeLine s m.line i) (k : CohKind) : ∃ r, Serving s r m k ∧
    FreeLine r m.line i ∧ (s.recv { m with kind := k }).serve { m with kind := k } = r.serveFree { m with kind := k } := by
  have hserve : (s.recv { m with kind := k }).serve { m with kind := k } = _ := serve_untracked h.untracked
  rw [stopMarch_recv] at hserve
  exact ⟨_, serving_received s m k, h.received _ _ _, hserve⟩

/-- What an allocation and the grant that follows it leave. -/
theorem allocate_send_reads (s : State) (i x a : Nat) (d : CohMsg) : let t := (s.allocate i x 1 a).send d
    t.dirEnt i = { line := x, st := 1, ptrs := [some a, none, none, none], age := s.coh.ages + 1 } ∧
    (∀ j, j ≠ i → t.dirEnt j = s.dirEnt j) ∧ t.coh.msgs = s.coh.msgs ++ [d] ∧ t.coh.waiting = s.coh.waiting ∧
    t = s.withCoh t.coh :=
  ⟨(dirEnt_setDir s i _ i).trans (if_pos rfl), fun j hj => (dirEnt_setDir s i _ j).trans (if_neg hj), rfl, rfl, rfl⟩

/-- A request for ownership or for a shared copy of a free line completes with the requester as its only owner. -/
theorem does_own {n : Instr} {s : State} {m : CohMsg} {i : Nat} {k : CohKind} (htaken : Taken s m k)
    (hexec : exec n s = within "agent" m.agent 509 (done s (s.homeRequest m k))) (h : FreeLine s m.line i)
    (hkind : k ∈ [CohKind.rdS, .rdX, .upg]) :
    Does n s (fun t =>
      t.dirEnt i = { line := m.line, st := 1, ptrs := [some m.agent, none, none, none], age := s.coh.ages + 1 } ∧
      (∀ j, j ≠ i → t.dirEnt j = s.dirEnt j) ∧
      t.coh.msgs = s.coh.msgs.erase { m with kind := k } ++ [replyData m .e (s.rawBytes (128 * m.line) 128) false] ∧
      t = (s.stopMarch (128 * m.line) 128).withCoh t.coh) := by
  obtain ⟨r, hr, hfree, hserve⟩ := serving_of_free h k
  have hown := hfree.serve_own (m := { m with kind := k }) hkind
  obtain ⟨hent, hothers, hmsgs, hwaiting, hframe⟩ :=
    allocate_send_reads r i m.line m.agent (replyData m .e (s.rawBytes (128 * m.line) 128) false)
  rw [hr.bytes] at hown
  rw [hr.coh] at hent hmsgs hwaiting
  refine does_homeRequest htaken hexec (hserve.trans hown) hwaiting
    ⟨hent, fun j hj => (hothers j hj).trans (hr.dirEnt j), hmsgs, hframe.trans ?_⟩
  rw [hr.frame]
  rfl

/-- The state in which a home has answered a read of part of a line from memory, with merge groups `g`. -/
def State.answerRead (s : State) (m : CohMsg) (k : CohKind) (g : List MergeGroup) : State :=
  { s.stopMarch (128 * m.line) 128 with
    coh.msgs := s.coh.msgs.erase { m with kind := k } ++ [replyData m .i (s.rawBytes (128 * m.line) 128) false]
    cistern.groups := g }

/-- A read of a part of a free line completes with the bytes of memory; it may change the merge groups, which a PEEK does not. -/
theorem does_read {n : Instr} {s : State} {m : CohMsg} {i : Nat} {k : CohKind} (htaken : Taken s m k)
    (hexec : exec n s = within "agent" m.agent 509 (done s (s.homeRequest m k))) (h : FreeLine s m.line i)
    (hkind : k ∈ [CohKind.rdU, .peek]) (hfit : m.off + m.len ≤ 128) :
    Does n s (fun t => t = s.answerRead m k (if k = .peek then s.cistern.groups else t.cistern.groups)) := by
  obtain ⟨r, hr, hfree, hserve⟩ := serving_of_free h k
  obtain ⟨g, hread, hpeek⟩ := hfree.serve_read (m := { m with kind := k }) hkind hfit
  have hgroups : g = if k = .peek then s.cistern.groups else g := by
    split
    next hk => rw [hpeek hk, hr.cistern]
    next => rfl
  have hwaiting : r.coh.waiting = s.coh.waiting := by rw [hr.coh]
  have hanswer : State.send { r with cistern.groups := g } (replyData m .i (s.rawBytes (128 * m.line) 128) false) =
      s.answerRead m k g := by
    obtain ⟨l, hl⟩ := stopMarch_frame s (128 * m.line) 128
    rw [State.answerRead, hr.frame, hr.coh, hl]
    rfl
  rw [hr.bytes] at hread
  exact does_homeRequest htaken hexec (hserve.trans hread) hwaiting (hanswer.trans (congrArg (s.answerRead m k) hgroups))

/-! ### The statement -/

/-- Settles O17: grants of a free line, reads of it, and a write to it. -/
theorem homeServesFreeLine : Obligations.HomeServesFreeLine := by
  unfold Obligations.HomeServesFreeLine
  intro s m i hagent hfind hway hfull hidle hsound hstack hslots s0 bytes goes own read
  have h : FreeLine s m.line i := ⟨hfind, hway, hsound, hstack, hslots⟩
  have htaken {k : CohKind} (hgoes : s.partnerStops m k = none) : Taken s m k := ⟨hagent, hfull, hidle, hgoes⟩
  refine ⟨fun hgoes => ?_, fun hgoes => ?_, fun hgoes => ?_, fun hfit => ⟨fun hgoes => ?_, fun hgoes => ?_⟩,
    fun hgoes hgrans hhole hstash => ?write⟩
  · exact does_own (htaken hgoes) rfl h (by simp)
  · exact does_own (htaken hgoes) rfl h (by simp)
  · exact does_own (htaken hgoes) rfl h (by simp)
  · exact does_read (htaken hgoes) rfl h (by simp) hfit
  · exact does_read (htaken hgoes) rfl h (by simp) hfit
  case write =>
    obtain ⟨r, hr, hfree, hserve⟩ := serving_of_free h .wrU
    obtain ⟨hmem, hcoh⟩ := serveWrU_sound (m := { m with kind := .wrU }) (hr.grans.trans hgrans) hfree.slots hhole hstash
    rw [hr.coh] at hcoh
    refine does_homeRequest (u := r.serveWrU { m with kind := .wrU }) (htaken hgoes) rfl hserve ?_
      ⟨?_, hmem.trans (hr.put _ _), ?_⟩
    all_goals rw [hcoh]

end Sys2Proof.Machine

/-!
PROOF. O18: a home snoops the owner of a line, takes its answer, and takes the owner's write-backs (R198, R208, R209).
-/

namespace Sys2Proof.Machine

/-! ### Snoops of an owner (Table 6.7) -/

/-- What a snoop for a request leaves: the entry is BUSY_F and waits for the owner. -/
theorem snoop_reads (s : State) (i o : Nat) (m : CohMsg) : let t := s.snoop i o m
    t.dirEnt i = { s.dirEnt i with prev := (s.dirEnt i).st, st := 4, req := some m, wait := [o], data := none, mask := 0 } ∧
    (∀ j, j ≠ i → t.dirEnt j = s.dirEnt j) ∧
    t.coh.msgs = s.coh.msgs ++
      [{ kind := snoopKind m.kind, line := m.line, agent := o, req := m.agent, off := m.off, len := m.len }] ∧
    t.coh.waiting = s.coh.waiting ∧ t = s.withCoh t.coh :=
  ⟨(dirEnt_setDir s i _ i).trans (if_pos rfl), fun j hj => (dirEnt_setDir s i _ j).trans (if_neg hj), rfl, rfl, rfl⟩

/-- A read of a line that an agent owns snoops the owner. -/
theorem serve_owned {s : State} {m : CohMsg} {i o : Nat} (hfind : s.findWay m.line = some i) (hst : (s.dirEnt i).st = 1)
    (hptrs : (s.dirEnt i).ptrs = [some o, none, none, none]) (hkind : m.kind ∈ [CohKind.rdS, .rdX, .rdU]) :
    s.serve m = (s.stopMarch (128 * m.line) 128).snoop i o m := by
  obtain ⟨r, hr⟩ : ∃ r, r = s.stopMarch (128 * m.line) 128 := ⟨_, rfl⟩
  have hcoh : r.coh = s.coh := by rw [hr, coh_stopMarch]
  have hent : r.dirEnt i = s.dirEnt i := by rw [State.dirEnt, hcoh]; rfl
  have hway : r.findWay m.line = some i := by
    rw [← hfind]
    unfold State.findWay State.dirEnt
    rw [hcoh]
  simp only [List.mem_cons, List.not_mem_nil, or_false] at hkind
  unfold State.serve
  rw [← hr]
  obtain hk | hk | hk := hkind <;> simp [hway, hent, hst, hptrs, hk]

/-- A home serves a request for a line of which it holds an entry. -/
theorem serving_of_owned {s : State} {m : CohMsg} {i o : Nat} {k : CohKind} (hfind : s.findWay m.line = some i)
    (hst : (s.dirEnt i).st = 1) (hptrs : (s.dirEnt i).ptrs = [some o, none, none, none]) (hkind : k ∈ [CohKind.rdS, .rdX, .rdU]) :
    ∃ r, Serving s r m k ∧ (s.recv { m with kind := k }).serve { m with kind := k } = r.snoop i o { m with kind := k } := by
  have hserve : (s.recv { m with kind := k }).serve { m with kind := k } = _ := serve_owned hfind hst hptrs hkind
  rw [stopMarch_recv] at hserve
  exact ⟨_, serving_received s m k, hserve⟩

/-- A read of a line that an agent owns completes with the entry BUSY_F and the owner snooped. -/
theorem does_snoopOwner {n : Instr} {s : State} {m : CohMsg} {i o : Nat} {k : CohKind} (htaken : Taken s m k)
    (hexec : exec n s = within "agent" m.agent 509 (done s (s.homeRequest m k))) (hfind : s.findWay m.line = some i)
    (hst : (s.dirEnt i).st = 1) (hptrs : (s.dirEnt i).ptrs = [some o, none, none, none]) (hkind : k ∈ [CohKind.rdS, .rdX, .rdU]) :
    Does n s (fun t => (t.dirEnt i).st = 4 ∧ (t.dirEnt i).wait = [o] ∧ (t.dirEnt i).req = some { m with kind := k } ∧
      (t.dirEnt i).prev = 1 ∧
      t.coh.msgs = s.coh.msgs.erase { m with kind := k } ++
        [{ kind := snoopKind k, line := m.line, agent := o, req := m.agent, off := m.off, len := m.len }] ∧
      (∀ j, j ≠ i → t.dirEnt j = s.dirEnt j) ∧ t = (s.stopMarch (128 * m.line) 128).withCoh t.coh) := by
  obtain ⟨r, hr, hserve⟩ := serving_of_owned hfind hst hptrs hkind
  obtain ⟨hent, hothers, hmsgs, hwaiting, hframe⟩ := snoop_reads r i o { m with kind := k }
  rw [hr.coh] at hmsgs hwaiting
  refine does_homeRequest htaken hexec hserve hwaiting ⟨?_, ?_, ?_, ?_, hmsgs, fun j hj => ?_, ?_⟩
  · rw [hent]
  · rw [hent]
  · rw [hent]
  · rw [hent]
    exact (congrArg DirEnt.st (hr.dirEnt i)).trans hst
  · exact (hothers j hj).trans (hr.dirEnt j)
  · refine hframe.trans ?_
    rw [hr.frame]
    rfl

/-! ### A set at rest -/

/-- With no request waiting anywhere, nothing is served again. -/
theorem settle_idle {s : State} (h : s.coh.waiting = []) (x : Nat) : s.settle x = s := by
  have hself : s.withCoh { s.coh with waiting := [] } = s := by rw [← h]; rfl
  have hready (c : Coh) (hc : c.waiting = []) : (s.withCoh c).stashReady x = false := by
    have hwaiting : (s.withCoh c).coh.waiting = [] := hc
    simp [State.stashReady, hwaiting]
  refine Eq.trans ?_ hself
  unfold State.settle State.settleGo
  simp only [h, List.filter_nil, List.foldl_nil, List.append_nil]
  exact if_neg fun hr => Bool.false_ne_true ((hready { s.coh with waiting := [] } rfl).symm.trans hr)

/-- An entry that becomes stable, with no PUT held and no request waiting. -/
theorem stable_idle {s : State} (h : s.coh.waiting = []) (i : Nat) {e : DirEnt} (hst : e.st ≠ 0) :
    ∃ d : DirEnt, s.stable i e [] = s.setDir i d ∧ d.st = e.st ∧ d.ptrs = e.ptrs := by
  refine ⟨{ line := e.line, st := e.st, ptrs := e.ptrs, ovf := if e.st ≤ 1 then false else e.ovf, age := e.age }, ?_, rfl, rfl⟩
  unfold State.stable State.releasePuts
  dsimp only [List.foldl_nil]
  refine (settle_idle (s := s.setDir i _) h e.line).trans (congrArg (s.setDir i) ?_)
  by_cases hone : e.st ≤ 1
  · simp only [hone, if_true, hst, if_false]
  · simp only [hone, if_false, hst]

/-! ### The answer of an owner (Table 6.8, BUSY_F) -/

/-- The agent that receives the line from its only holder takes DE_PTR0, and the holder is a sharer (R198). -/
theorem takePtr0_sole {e : DirEnt} {o q : Nat} (hptrs : e.ptrs = [some o, none, none, none]) (hne : q ≠ o) :
    (e.takePtr0 q).ptrs = [some q, some o, none, none] := by
  have hfree : (List.range 3).find? (fun k => ([none, none, none] : List (Option Nat))[k]? == some none) = some 0 := rfl
  simp [DirEnt.takePtr0, DirEnt.remove, DirEnt.addSharer, hptrs, hne.symm, hfree]

section Answer
variable {s : State} {m q : CohMsg} {i : Nat} (hptrs : (s.dirEnt i).ptrs = [some m.agent, none, none, none])
  (hreq : (s.dirEnt i).req = some q) (hheld : (s.dirEnt i).held = []) (hwaiting : s.coh.waiting = []) (hresult : m.result = .fwd)
  (hdata : m.hasData = false) (hcancel : m.cancel = false) (hpoison : m.poison = false) (hlost : q.cancel = false)
include hptrs hreq hheld hwaiting hresult hdata hcancel hpoison hlost

/-- An owner that forwarded to an RD_S leaves the line SHARED_F, with the requester as its forwarder. -/
theorem forwarded_rdS (hne : q.agent ≠ m.agent) (hcxl : s.cxl q.agent = false) (hkind : q.kind = .rdS) :
    ∃ d : DirEnt, s.forwarded i m = s.setDir i d ∧ d.st = 2 ∧ d.ptrs = [some q.agent, some m.agent, none, none] := by
  let base : DirEnt := { s.dirEnt i with st := 2 }
  have hforward : s.forwarded i m = s.stable i { base.takePtr0 q.agent with st := 2 } [] := by
    simp [State.forwarded, hreq, hcancel, hpoison, hresult, hdata, hkind, hlost, hcxl, hheld, base]
  obtain ⟨d, hstable, hdst, hdptrs⟩ := stable_idle hwaiting i (e := { base.takePtr0 q.agent with st := 2 }) (by simp)
  exact ⟨d, hforward.trans hstable, hdst, hdptrs.trans (takePtr0_sole hptrs hne)⟩

omit hptrs in
/-- An owner that forwarded to an RD_X leaves the line OWNED by the requester. -/
theorem forwarded_rdX (hkind : q.kind = .rdX) :
    ∃ d : DirEnt, s.forwarded i m = s.setDir i d ∧ d.st = 1 ∧ d.ptrs = [some q.agent, none, none, none] := by
  let owned : DirEnt := { s.dirEnt i with st := 1, ptrs := [some q.agent, none, none, none] }
  have hforward : s.forwarded i m = s.stable i owned [] := by
    simp [State.forwarded, hreq, hcancel, hpoison, hresult, hdata, hkind, hlost, hheld, owned]
  obtain ⟨d, hstable, hdst, hdptrs⟩ := stable_idle hwaiting i (e := owned) (by simp [owned])
  exact ⟨d, hforward.trans hstable, hdst, hdptrs⟩

end Answer

/-- The awaited answer of a forwarding snoop. -/
theorem snpAnswer_awaited {s : State} {m : CohMsg} {i : Nat} (hfind : s.findWay m.line = some i) (hst : (s.dirEnt i).st = 4)
    (hwait : (s.dirEnt i).wait = [m.agent]) : s.snpAnswer m = s.forwarded i m := by
  simp [State.snpAnswer, hfind, hwait, hst]

/-! ### Write-backs of an owner (R208) -/

/-- The acknowledgement of a write-back. -/
def putAck (m : CohMsg) : CohMsg := { kind := .wbAck, line := m.line, agent := m.agent, tag := m.tag }

section Put
variable {s : State} {m : CohMsg} {i : Nat} (hfind : s.findWay m.line = some i) (hst : (s.dirEnt i).st = 1)
  (hptrs : (s.dirEnt i).ptrs = [some m.agent, none, none, none]) (hwaiting : s.coh.waiting = []) (hcancelled : s.coh.cancelled = [])
include hfind hst hptrs hwaiting hcancelled

/-- PUT_C of the owner frees the entry. -/
theorem put_clean (hkind : m.kind = .putC) : s.put m = (s.send (putAck m)).freeDir i := by
  have hidle : ((s.send (putAck m)).freeDir i).settle m.line = (s.send (putAck m)).freeDir i :=
    settle_idle (s := (s.send (putAck m)).freeDir i) hwaiting m.line
  rw [← hidle]
  simp [State.put, State.putStable, hfind, hst, hptrs, hcancelled, hkind, putAck]

/-- PUT_M of the owner, without KEEP, writes the line to memory and frees the entry. -/
theorem put_modified (hkind : m.kind = .putM) (hkeep : m.keep = false) (hpoison : m.poison = false)
    (hstack : s.stackStatus (128 * m.line) 128 = .ok) :
    s.put m = ((s.lineWrite m.agent m.line m.data 0).send (putAck m)).freeDir i := by
  have hwritten : (((s.lineWrite m.agent m.line m.data 0).send (putAck m)).freeDir i).coh.waiting = [] := by
    have hcoh := coh_lineWrite s m.agent m.line m.data 0
    exact (congrArg Coh.waiting hcoh).trans hwaiting
  rw [← settle_idle hwritten m.line]
  simp [State.put, State.putStable, State.putMemory, hfind, hst, hptrs, hcancelled, hkind, hkeep, hpoison, hstack, putAck]

end Put

/-! ### The statement -/

/-- A message that its home takes at once completes as the home handles it. -/
theorem does_letIn {n : Instr} {s t u : State} {m : CohMsg} {k : CohKind} {P : State → Prop} (hagent : m.agent < 509)
    (hexec : exec n s = within "agent" m.agent 509 (done s (s.letIn m k t))) (hgoes : s.partnerStops m k = none) (ht : t = u)
    (hout : u.outside = s.outside) (hp : P u) : Does n s P := by
  refine does_of_done ?_ (leaves_of_outside hout) hp
  rw [hexec, within_of_lt hagent, ← ht]
  simp only [State.letIn, hgoes]

/-- The awaited answer of an owner completes as the entry that it leaves says. -/
theorem does_forwarded {s : State} {m : CohMsg} {i : Nat} {d : DirEnt} (hagent : m.agent < 509)
    (hgoes : s.partnerStops m .snpRsp = none) (hfind : s.findWay m.line = some i) (hst : (s.dirEnt i).st = 4)
    (hwait : (s.dirEnt i).wait = [m.agent])
    (hforward : (s.recv { m with kind := .snpRsp }).forwarded i { m with kind := .snpRsp } =
      (s.recv { m with kind := .snpRsp }).setDir i d) :
    Does (.snpRsp m) s (fun t => (t.dirEnt i).st = d.st ∧ (t.dirEnt i).ptrs = d.ptrs ∧
      t.coh.msgs = s.coh.msgs.erase { m with kind := .snpRsp } ∧ t = s.withCoh t.coh) := by
  have hanswer := (snpAnswer_awaited (s := s.recv { m with kind := .snpRsp }) (m := { m with kind := .snpRsp }) hfind hst hwait).trans
    hforward
  have hent : ((s.recv { m with kind := .snpRsp }).setDir i d).dirEnt i = d := (dirEnt_setDir _ i d i).trans (if_pos rfl)
  refine does_letIn hagent rfl hgoes hanswer rfl ⟨?_, ?_, rfl, rfl⟩ <;> rw [hent]

/-- Settles O18: the snoops of an owner, the two answers of one that forwarded, and its write-backs. -/
theorem homeSnoopsOwnerAndTakesAnswers : Obligations.HomeSnoopsOwnerAndTakesAnswers := by
  unfold Obligations.HomeSnoopsOwnerAndTakesAnswers
  intro s m q i o hagent hfind hwaiting hfull hgoes s0 e gone ack snooped
  have htaken {k : CohKind} (hgoes : s.partnerStops m k = none) : Taken s m k :=
    ⟨hagent, hfull, by simp [State.setIdle, hwaiting], hgoes⟩
  refine ⟨fun hst hptrs => ⟨?_, ?_, ?_⟩,
    fun hst _ hptrs hwait hreq hheld hresult hdata hcancel hpoison hne hlost hcxl => ⟨fun hkind => ?shared, fun hkind => ?owned⟩,
    fun hst hptrs hcancelled => ?clean, fun hst hptrs hcancelled hkeep hpoison _ hstack => ?modified⟩
  · exact does_snoopOwner (htaken (k := .rdS) (hgoes _ (by simp))) rfl hfind hst hptrs (by simp)
  · exact does_snoopOwner (htaken (k := .rdX) (hgoes _ (by simp))) rfl hfind hst hptrs (by simp)
  · exact does_snoopOwner (htaken (k := .rdU) (hgoes _ (by simp))) rfl hfind hst hptrs (by simp)
  case shared =>
    obtain ⟨d, hforward, hdst, hdptrs⟩ := forwarded_rdS (s := s.recv { m with kind := .snpRsp }) (m := { m with kind := .snpRsp })
      hptrs hreq hheld hwaiting hresult hdata hcancel hpoison hlost hne hcxl hkind
    rw [← hdst, ← hdptrs]
    exact does_forwarded hagent (hgoes _ (by simp)) hfind hst hwait hforward
  case owned =>
    obtain ⟨d, hforward, hdst, hdptrs⟩ := forwarded_rdX (s := s.recv { m with kind := .snpRsp }) (m := { m with kind := .snpRsp })
      hreq hheld hwaiting hresult hdata hcancel hpoison hlost hkind
    rw [← hdst, ← hdptrs]
    exact does_forwarded hagent (hgoes _ (by simp)) hfind hst hwait hforward
  case clean =>
    have hput := put_clean (s := s.recv { m with kind := .putC }) (m := { m with kind := .putC }) hfind hst hptrs hwaiting hcancelled rfl
    refine does_letIn hagent rfl (hgoes _ (by simp)) hput rfl ⟨?_, fun j hj => ?_, rfl, rfl⟩
    · exact (dirEnt_setDir _ i {} i).trans (if_pos rfl)
    · exact (dirEnt_setDir _ i {} j).trans (if_neg hj)
  case modified =>
    obtain ⟨w, hw⟩ : ∃ w, w = s.lineWrite m.agent m.line m.data 0 := ⟨_, rfl⟩
    have hcoh : w.coh = s.coh := by rw [hw, coh_lineWrite]
    have hout : w.outside = s.outside := by rw [hw, outside_lineWrite]
    have hput : (s.recv { m with kind := .putM }).put { m with kind := .putM } =
        ((w.recv { m with kind := .putM }).send (putAck m)).freeDir i := by
      rw [hw, ← lineWrite_recv]
      exact put_modified (m := { m with kind := .putM }) hfind hst hptrs hwaiting hcancelled rfl hkeep hpoison hstack
    rw [← hw]
    refine does_letIn hagent rfl (hgoes _ (by simp)) hput hout ⟨?_, rfl, ?_⟩
    · exact (dirEnt_setDir _ i {} i).trans (if_pos rfl)
    · exact congrArg (fun c : Coh => c.msgs.erase { m with kind := .putM } ++ [ack]) hcoh

end Sys2Proof.Machine

/-!
PROOF. O55: rate steps of a stack and their retraining (R249), the remap of a row (R243), and the traffic generator of a channel that
is held out of service (R245, R246).
-/

namespace Sys2Proof.Machine

/-! ### Rate steps of a stack (R249) -/

/-- A slow notice that goes to nobody changes nothing. -/
theorem slowNotice_nobody {s : State} (hports : s.slowPorts = []) (htargets : s.slowTargets = []) (cause delay : Nat) :
    s.slowNotice cause delay = s := by
  unfold State.slowNotice
  rw [hports, htargets]
  rfl

/-- Whom a slow notice reaches is read from the links and the registers. -/
theorem slowAudience_congr {s t : State} (haq : t.aq = s.aq) (hregs : t.host.regs = s.host.regs) :
    t.slowPorts = s.slowPorts ∧ t.slowTargets = s.slowTargets := by
  have hports : t.slowPorts = s.slowPorts := by simp only [State.slowPorts, State.port, haq]
  have harmed : t.armed = s.armed := by
    funext g
    simp only [State.armed, State.groupReg, State.reg, hregs]
  refine ⟨hports, ?_⟩
  simp only [State.slowTargets, State.port, State.group, hports, harmed, haq]

/-- Stack `h` turns to `x`: the distance table is marked and an event tells of the rate. -/
def State.enterRate (s : State) (h : Nat) (x : Stack) : State :=
  (s.setStack h x).markDist.raise 0x008 (h + 2 ^ 4 * x.rate) [] (stripOf h)

/-- A stack that turns to another rate changes beside it the mark of the distance table, and what tells of it. -/
theorem enterRate_frame (s : State) (h : Nat) (x : Stack) : ∃ ev q l, s.enterRate h x =
    { s.setStack h x with dist.dirty := true, host.evbuf := ev, svc.logq := q, svc.logLost := l } :=
  raise_changes _ _ _ _ _ _

/-- A slow notice reaches the same modules after a stack has turned to another rate. -/
theorem slowAudience_enterRate (s : State) (h : Nat) (x : Stack) :
    (s.enterRate h x).slowPorts = s.slowPorts ∧ (s.enterRate h x).slowTargets = s.slowTargets := by
  obtain ⟨ev, q, l, henter⟩ := enterRate_frame s h x
  exact slowAudience_congr (by rw [henter]; rfl) (by rw [henter]; rfl)

/-- A stack above its lowest rate retrains one step lower, when there is nobody to notify. -/
theorem derate_retrains {s : State} {h : Nat} (hrate : (s.stack h).rate < 2) (hports : s.slowPorts = [])
    (htargets : s.slowTargets = []) :
    s.derate h = s.enterRate h { s.stack h with rate := (s.stack h).rate + 1, retraining := true } := by
  have hon : (s.stack h).rate ≠ 3 := by omega
  have hstep : (s.stack h).rate + 1 ≠ 3 := by omega
  have hretrains : ((s.stack h).rate + 1 != 3) = true := bne_iff_ne.2 hstep
  obtain ⟨hports', htargets'⟩ := slowAudience_enterRate s h { s.stack h with rate := (s.stack h).rate + 1, retraining := true }
  refine Eq.trans ?_ (slowNotice_nobody (hports'.trans hports) (htargets'.trans htargets) 0 2000)
  simp only [State.derate, if_neg hon, if_neg hstep, hretrains]
  rfl

/-- A stack at its lowest rate goes offline and drops its queue. -/
theorem derate_goesOffline {s : State} {h : Nat} (hrate : (s.stack h).rate = 2) :
    s.derate h = s.enterRate h { s.stack h with rate := 3, retraining := false, queue := [] } := by
  simp only [State.derate, hrate]
  rfl

/-- A stack that is offline steps no lower. -/
theorem derate_offline {s : State} {h : Nat} (hrate : (s.stack h).rate = 3) : s.derate h = s := if_pos hrate

/-- HBM_DERATE of a stack of the module. -/
theorem exec_hbmDerate {h : Nat} (hh : h < 8) (s : State) : exec (.hbmDerate h) s = done s (s.derate h) := within_of_lt hh

/-- HBM_RETRAIN_DONE of a stack that trained at a rate its cap allows ends the retraining. -/
theorem exec_hbmRetrainDone {s : State} {h : Nat} (hh : h < 8) (hretrains : (s.stack h).retraining = true)
    (hcap : s.rateCap h ≤ (s.stack h).rate) :
    exec (.hbmRetrainDone h true) s = done s (s.setStack h { s.stack h with retraining := false }) := by
  refine (within_of_lt hh).trans ?_
  simp [hretrains, hcap.not_gt]

/-! ### The remap of a row (R243) -/

/-- Row number `v` goes to remap entry `i`, and leaves any other it had. -/
def Stack.enterRow (x : Stack) (i v : Nat) : Stack :=
  { x with remap := tset (fun _ => none) (x.remap.filter (fun e => e.2 != some v)) i (some v) }

/-- A row's granules move to remap entry `i` of stack `h` under its number `v`; the errors kept of it in channel `k` count no more. -/
def State.moveRow (s : State) (h k i v : Nat) (gs : List Nat) : State :=
  let t := (s.copyGrans gs).forgetRow k gs
  ((t.setStack h ((t.stack h).enterRow i v)).addRepair 7 (2 * v + 2 ^ 56 * h)).raise 0x005 (h + 2 ^ 3 * i) [] (stripOf h)

/-- Number of a DRAM row in a remap entry (Table 7.4). -/
def rowNumber (ch pc sid bank row : Nat) : Nat :=
  ch % 32 + 2 ^ 5 * (pc % 2) + 2 ^ 6 * (sid % 16) + 2 ^ 10 * (bank % 64) + 2 ^ 16 * (row % 2 ^ 18)

section Remap
variable {s : State} {h ch pc : Nat} (sid bank row : Nat) {units : List Nat} (bad : List Nat) (hh : h < 8)
include hh

/-- HBM_REMAP of a row whose errors do not call for it does nothing. -/
theorem exec_hbmRemap_notDue (hdue : s.rowDue (32 * h + ch % 32) (dramRow h (ch % 32) (pc % 2) units) = false) :
    exec (.hbmRemap h ch pc sid bank row units bad) s = done s s := by
  refine (within_of_lt hh).trans ?_
  simp [hdue]

/-- HBM_REMAP of a row whose errors call for it moves the row to the first free entry. -/
theorem exec_hbmRemap_due {i : Nat} (hdue : s.rowDue (32 * h + ch % 32) (dramRow h (ch % 32) (pc % 2) units) = true)
    (hfree : (List.range 1024).find? (fun i => (s.remapEnt h i).isNone) = some i) :
    exec (.hbmRemap h ch pc sid bank row units bad) s = done s
      (s.moveRow h (32 * h + ch % 32) i (rowNumber ch pc sid bank row) (dramRow h (ch % 32) (pc % 2) units)) := by
  refine (within_of_lt hh).trans ?_
  simp only [hdue, hfree]
  rfl

end Remap

/-- A row that moves is entered at its entry of its stack; beside that only granules, the errors kept, the repair record and what tells
of it change. -/
theorem moveRow_frame (s : State) (h k i v : Nat) (gs : List Nat) : ∃ m ch f r ev q l, s.moveRow h k i v gs =
    { s.setStack h ((s.stack h).enterRow i v) with
      grans := m, chans := ch, flash := f, svc.heldRepairs := r, host.evbuf := ev, svc.logq := q, svc.logLost := l } := by
  obtain ⟨m, hcopy⟩ : ∃ m, s.copyGrans gs = { s with grans := m } := foldl_setGran_frame _ gs s
  let t := State.forgetRow { s with grans := m } k gs
  obtain ⟨f, r, hentry⟩ := addRepair_frame (t.setStack h ((s.stack h).enterRow i v)) 7 (2 * v + 2 ^ 56 * h)
  obtain ⟨ev, q, l, hraise⟩ := raise_changes ((t.setStack h ((s.stack h).enterRow i v)).addRepair 7 (2 * v + 2 ^ 56 * h))
    0x005 (h + 2 ^ 3 * i) [] (stripOf h) false
  refine ⟨m, t.chans, f, r, ev, q, l, ?_⟩
  rw [State.moveRow, hcopy]
  exact hraise.trans (by rw [hentry]; rfl)

/-- The entry taken holds the row's number. -/
theorem enterRow_entry (x : Stack) (i v : Nat) : tget (fun _ => none) (x.enterRow i v).remap i = some v := tget_tset_self _ _ _ _

/-! ### A state that differs in one channel block -/

/-- `t` differs from `s` in the block of channel `k` only. -/
def OnlyChan (k : Nat) (s t : State) : Prop := (∀ j, j ≠ k → t.chan j = s.chan j) ∧ t = { s with chans := t.chans }

theorem onlyChan_refl (k : Nat) (s : State) : OnlyChan k s s := ⟨fun _ _ => rfl, rfl⟩

theorem onlyChan_setChan (s : State) (k : Nat) (x : Chan) : OnlyChan k s (s.setChan k x) :=
  ⟨fun j hj => (chan_setChan s k x j).trans (if_neg hj), rfl⟩

/-- The block set reads as set. -/
theorem chan_setChan_self (s : State) (k : Nat) (x : Chan) : (s.setChan k x).chan k = x := (chan_setChan s k x k).trans (if_pos rfl)

namespace OnlyChan
variable {k : Nat} {s t u : State}

theorem trans (h : OnlyChan k s t) (h' : OnlyChan k t u) : OnlyChan k s u :=
  ⟨fun j hj => (h'.1 j hj).trans (h.1 j hj), by rw [h'.2, h.2]⟩

theorem setChan (h : OnlyChan k s t) (x : Chan) : OnlyChan k s (t.setChan k x) := h.trans (onlyChan_setChan t k x)

theorem grans (h : OnlyChan k s t) : t.grans = s.grans := by rw [h.2]

/-- Memory reads as before. -/
theorem rawBytes (h : OnlyChan k s t) (a n : Nat) : t.rawBytes a n = s.rawBytes a n := by
  rw [h.2]
  rfl

theorem outside (h : OnlyChan k s t) : t.outside = s.outside := by
  rw [h.2]
  rfl

end OnlyChan

/-- A command whose meaning changes one channel block completes. -/
theorem does_onlyChan {c : Instr} {k : Nat} {s t : State} {P : State → Prop} (hexec : exec c s = done s t) (honly : OnlyChan k s t)
    (hp : P t) : Does c s P :=
  does_of_done hexec (leaves_of_outside honly.outside) hp

/-! ### The start of a run (R245, R246) -/

/-- A START on a channel that is in service is refused. -/
theorem tgStart_refused {s : State} {k : Nat} (hheld : s.chanHeld k = false) (v : Nat) (wrong : List (Nat × Nat × Word)) :
    ∃ x, s.tgStart k v wrong = s.setChan k x ∧ x.refused = true ∧ x.busy = false ∧ x.run = none :=
  ⟨_, if_pos (by simp [tgRefused, hheld]), rfl, rfl, rfl⟩

/-- The run that a control word asks of a channel. -/
def Chan.asked (x : Chan) (v : Nat) (wrong : List (Nat × Nat × Word)) : TgRun :=
  ⟨bits v 2 0, bits v 5 4, bits v 6 6, x.seed, x.base, x.len, wrong⟩

/-- A START that nothing refuses makes the channel busy with its run. -/
theorem tgStart_starts {s : State} {k v : Nat} {wrong : List (Nat × Nat × Word)}
    (hgood : tgRefused (s.chanHeld k) ((s.chan k).asked v wrong) = false) : ∃ x, s.tgStart k v wrong = s.setChan k x ∧
      x.busy = true ∧ x.refused = false ∧ x.fail = false ∧ x.run = some ((s.chan k).asked v wrong) :=
  ⟨_, if_neg (ne_true_of_eq_false hgood), rfl, rfl, rfl, rfl⟩

/-- The control word of a check in a mode of Table 7.5, on pseudo-channel 0. -/
theorem asked_check {mode : Nat} (hmode : mode < 4) (x : Chan) (wrong : List (Nat × Nat × Word)) :
    x.asked (BitVec.ofNat 64 (mode + 2 ^ 5)).toNat wrong = ⟨mode, 2, 0, x.seed, x.base, x.len, wrong⟩ := by
  have hword : (BitVec.ofNat 64 (mode + 2 ^ 5)).toNat = mode + 2 ^ 5 := Nat.mod_eq_of_lt (by omega)
  have hmodeBits : bits (mode + 2 ^ 5) 2 0 = mode := by simp only [bits]; omega
  have hopBits : bits (mode + 2 ^ 5) 5 4 = 2 := by simp only [bits]; omega
  have hpcBits : bits (mode + 2 ^ 5) 6 6 = 0 := by simp only [bits]; omega
  rw [Chan.asked, hword, hmodeBits, hopBits, hpcBits]

/-- TG_START of a channel of the module. -/
theorem exec_tgStart {h c : Nat} (hh : h < 8) (hc : c < 32) (v : Word) (wrong : List (Nat × Nat × Word)) (s : State) :
    exec (.tgStart h c v wrong) s = done s (s.tgStart (32 * h + c) v.toNat wrong) :=
  (within_of_lt hh).trans (within_of_lt hc)

/-! ### Checks of a run (R245) -/

/-- A step of a run: whether it writes, the unit offset, the unit's address and the pattern's bytes. -/
abbrev TgStep := Bool × Nat × Nat × Bytes

/-- Whether granule `i` of the unit of step `e` holds the pattern. -/
def State.tgHolds (s : State) (e : TgStep) (i : Nat) : Prop :=
  s.rawBytes (e.2.2.1 + 32 * i) 32 = (e.2.2.2.drop (32 * i)).take 32

/-- The checks of a list of granules, each a step and a number in its unit, one after another. -/
def State.tgChecks (s : State) (k : Nat) (r : TgRun) (l : List (TgStep × Nat)) : State :=
  l.foldl (fun t q => t.tgCheck k r q.1.2.1 q.1.2.2.1 q.1.2.2.2 q.2) s

/-- The granules of the units of some steps, eight of each. -/
def tgGrans (steps : List TgStep) : List (TgStep × Nat) := steps.product (List.range 8)

/-- Steps that check are the checks of their granules. -/
theorem foldl_tgStep (k : Nat) (r : TgRun) (s : State) {steps : List TgStep} (hcheck : ∀ e ∈ steps, e.1 = false) :
    steps.foldl (State.tgStep · k r) s = s.tgChecks k r (tgGrans steps) := by
  unfold State.tgChecks tgGrans List.product
  rw [List.foldl_flatMap]
  refine List.foldl_ext _ _ s fun t e he => ?_
  rw [List.foldl_map, State.tgStep, hcheck e he]
  rfl

/-- A run of OP 2 only checks. -/
theorem tgSteps_check {r : TgRun} (hop : r.op = 2) (h c : Nat) : ∀ e ∈ tgSteps h c r, e.1 = false := by
  have hpasses : tgPasses r = [(false, false)] := by simp [tgPasses, hop]
  intro e he
  simp only [tgSteps, hpasses, List.flatMap_singleton, List.mem_map] at he
  obtain ⟨x, -, rfl⟩ := he
  rfl

/-- Reading one granule of a memory without errors changes nothing and finds no poison. -/
theorem readGrans_one_clean {s : State} (hclean : s.grans = []) (agent g : Nat) : s.readGrans agent [g] = (s, false) := by
  simp [State.readGrans, readGran_clean hclean]

section Check
variable {s : State} (hclean : s.grans = []) (k : Nat) (r : TgRun)
include hclean

/-- A check of a memory without errors either finds the pattern and changes nothing, or counts a mismatch. -/
theorem tgCheck_cases (e : TgStep) (i : Nat) :
    s.tgHolds e i ∧ s.tgCheck k r e.2.1 e.2.2.1 e.2.2.2 i = s ∨
    ∃ d, s.tgCheck k r e.2.1 e.2.2.1 e.2.2.2 i = s.setChan k ((s.chan k).mismatch e.2.1 i d) := by
  simp only [State.tgCheck, readGrans_one_clean hclean]
  split
  · exact .inr ⟨_, rfl⟩
  · split
    next hsame => exact .inl ⟨hsame.1.symm, rfl⟩
    next => exact .inr ⟨_, rfl⟩

/-- A granule that holds the pattern and is not returned wrong passes its check. -/
theorem tgCheck_holds (hwrong : r.wrong = []) {e : TgStep} {i : Nat} (hholds : s.tgHolds e i) :
    s.tgCheck k r e.2.1 e.2.2.1 e.2.2.2 i = s := by
  simp only [State.tgCheck, readGrans_one_clean hclean, hwrong, List.find?_nil]
  exact if_pos ⟨hholds.symm, trivial⟩

end Check

/-- A mismatch is a failure. -/
theorem mismatch_fail (x : Chan) (off i : Nat) (d : Word) : (x.mismatch off i d).fail = true := by
  unfold Chan.mismatch
  split
  · assumption
  · rfl

/-- A check of a memory without errors changes its channel's block only, and clears no failure. -/
theorem tgCheck_keeps {s : State} (hclean : s.grans = []) (k : Nat) (r : TgRun) (e : TgStep) (i : Nat) :
    OnlyChan k s (s.tgCheck k r e.2.1 e.2.2.1 e.2.2.2 i) ∧
    ((s.chan k).fail = true → ((s.tgCheck k r e.2.1 e.2.2.1 e.2.2.2 i).chan k).fail = true) := by
  obtain ⟨-, hsame⟩ | ⟨d, hcount⟩ := tgCheck_cases hclean k r e i
  · rw [hsame]
    exact ⟨onlyChan_refl k s, id⟩
  · rw [hcount, chan_setChan_self]
    exact ⟨onlyChan_setChan s k _, fun _ => mismatch_fail _ _ _ _⟩

/-- Checks of a memory without errors change their channel's block only, and clear no failure. -/
theorem tgChecks_keeps {s : State} (hclean : s.grans = []) (k : Nat) (r : TgRun) (l : List (TgStep × Nat)) :
    OnlyChan k s (s.tgChecks k r l) ∧ ((s.chan k).fail = true → ((s.tgChecks k r l).chan k).fail = true) := by
  induction l generalizing s with
  | nil => exact ⟨onlyChan_refl k s, id⟩
  | cons q l ih =>
    obtain ⟨honly, hfail⟩ := tgCheck_keeps hclean k r q.1 q.2
    obtain ⟨hrest, hfailRest⟩ := ih (honly.grans.trans hclean)
    exact ⟨honly.trans hrest, hfailRest ∘ hfail⟩

/-- Granules that all hold the pattern pass their checks. -/
theorem tgChecks_hold {s : State} (hclean : s.grans = []) (k : Nat) {r : TgRun} (hwrong : r.wrong = [])
    {l : List (TgStep × Nat)} (hholds : ∀ q ∈ l, s.tgHolds q.1 q.2) : s.tgChecks k r l = s := by
  induction l with
  | nil => rfl
  | cons q l ih =>
    obtain ⟨hq, hl⟩ := List.forall_mem_cons.1 hholds
    unfold State.tgChecks
    rw [List.foldl_cons, tgCheck_holds hclean k r hwrong hq]
    exact ih hl

/-- A granule that does not hold the pattern makes the checks fail. -/
theorem tgChecks_fail {s : State} (hclean : s.grans = []) (k : Nat) (r : TgRun) {l : List (TgStep × Nat)}
    (hdiffers : ∃ q ∈ l, ¬ s.tgHolds q.1 q.2) : ((s.tgChecks k r l).chan k).fail = true := by
  induction l generalizing s with
  | nil =>
    obtain ⟨q, hq, -⟩ := hdiffers
    exact absurd hq List.not_mem_nil
  | cons p l ih =>
    have honly := (tgCheck_keeps hclean k r p.1 p.2).1
    have hclean' := honly.grans.trans hclean
    obtain ⟨hholds, -⟩ | ⟨d, hcount⟩ := tgCheck_cases hclean k r p.1 p.2
    · obtain ⟨q, hq, hdiff⟩ := hdiffers
      have hrest : q ∈ l := (List.mem_cons.1 hq).resolve_left fun h => hdiff (h ▸ hholds)
      refine ih hclean' ⟨q, hrest, ?_⟩
      rwa [State.tgHolds, honly.rawBytes]
    · refine (tgChecks_keeps hclean' k r l).2 ?_
      rw [hcount, chan_setChan_self]
      exact mismatch_fail _ _ _ _

/-- A part of a range reads as that part of the bytes read of the whole. -/
theorem rawBytes_drop_take (s : State) (a : Nat) {o n m : Nat} (h : o + n ≤ m) :
    s.rawBytes (a + o) n = ((s.rawBytes a m).drop o).take n := by
  refine List.ext_getElem ?_ fun j _ _ => ?_
  · simp only [State.rawBytes, List.length_map, List.length_range, List.length_take, List.length_drop]
    omega
  · simp [State.rawBytes, Nat.add_assoc]

/-- Every granule of units that hold the pattern holds it. -/
theorem tgHolds_of_unit {s : State} {steps : List TgStep}
    (hunits : ∀ e ∈ steps, s.rawBytes e.2.2.1 256 = e.2.2.2) : ∀ q ∈ tgGrans steps, s.tgHolds q.1 q.2 := by
  rintro ⟨e, i⟩ hq
  obtain ⟨he, hi⟩ := List.pair_mem_product.1 hq
  rw [List.mem_range] at hi
  rw [State.tgHolds, ← hunits e he]
  exact rawBytes_drop_take s e.2.2.1 (by omega)

/-! ### The end of a run (R246) -/

section End
variable {s : State} {h c : Nat} {r : TgRun} (hh : h < 8) (hc : c < 32) (hrun : (s.chan (32 * h + c)).run = some r) (hop : r.op = 2)
include hh hc hrun hop

/-- TG_DONE of a check makes the checks of the whole range, and ends the run. -/
theorem exec_tgDone_check : exec (.tgDone h c) s =
    let t := s.tgChecks (32 * h + c) r (tgGrans (tgSteps h c r))
    done s (t.setChan (32 * h + c) { t.chan (32 * h + c) with busy := false, done := true, run := none }) := by
  have hdiv : (32 * h + c) / 32 = h := by omega
  have hmod : (32 * h + c) % 32 = c := by omega
  refine ((within_of_lt hh).trans (within_of_lt hc)).trans ?_
  simp only [State.tgFinish, hrun, hdiv, hmod, foldl_tgStep _ _ _ (tgSteps_check hop h c)]

/-- TG_STOP of a check makes some of the checks, and ends the run with ABORTED. -/
theorem exec_tgStop_check : ∃ l, exec (.tgStop h c) s =
    let t := State.tgChecks { s with free := s.free + 1 } (32 * h + c) r l
    done s (t.setChan (32 * h + c) { t.chan (32 * h + c) with busy := false, aborted := true, run := none }) := by
  have hdiv : (32 * h + c) / 32 = h := by omega
  have hmod : (32 * h + c) % 32 = c := by omega
  let steps := (tgSteps h c r).take (Config.freeNat s.free % ((tgSteps h c r).length + 1))
  have hcheck : ∀ e ∈ steps, e.1 = false := fun e he => tgSteps_check hop h c e (List.mem_of_mem_take he)
  refine ⟨tgGrans steps, ((within_of_lt hh).trans (within_of_lt hc)).trans ?_⟩
  simp only [State.tgHalt, hrun, hdiv, hmod]
  rw [← foldl_tgStep _ r _ hcheck]
  rfl

end End

/-! ### The statement -/

/-- Settles O55, clause by clause: the rate steps and the end of a retraining, rows that are due or not, a START that is refused and one
that is good, and a check that ends without a mismatch, with one, and by STOP. -/
theorem hbmRates : Obligations.HbmRates := by
  unfold Obligations.HbmRates
  intro s h c k ch pc sid bank row mode seed units v mm r hh hc x y key others chans gs steps
  refine ⟨fun hrate hports htargets => ?lower, fun hrate => ?offline, fun hrate => ?lowest, fun hretrains hcap => ?trained,
    fun hdue => ?rowKept, fun hdue hfree => ?rowMoved, fun hheld => ?refused, fun hheld hmode hzero hseed hlen hrange => ?starts,
    fun hrun hop hclean hwrong hunits => ?passes, fun hrun hop hclean hdiffers => ?fails, fun hrun hop hclean => ?stops⟩
  case lower =>
    obtain ⟨ev, q, l, henter⟩ := enterRate_frame s h { x with rate := x.rate + 1, retraining := true }
    have hstep := (derate_retrains hrate hports htargets).trans henter
    have hread := stack_setStack s h { x with rate := x.rate + 1, retraining := true }
    exact does_of_done ((exec_hbmDerate hh s).trans (congrArg (done s) hstep)) rfl
      ⟨(hread h).trans (if_pos rfl), fun j hj => (hread j).trans (if_neg hj), rfl, rfl⟩
  case offline =>
    obtain ⟨ev, q, l, henter⟩ := enterRate_frame s h { x with rate := 3, retraining := false, queue := [] }
    have hstep := (derate_goesOffline hrate).trans henter
    have hread := stack_setStack s h { x with rate := 3, retraining := false, queue := [] }
    exact does_of_done ((exec_hbmDerate hh s).trans (congrArg (done s) hstep)) rfl
      ⟨(hread h).trans (if_pos rfl), fun j hj => (hread j).trans (if_neg hj), rfl⟩
  case lowest =>
    exact does_of_done ((exec_hbmDerate hh s).trans (congrArg (done s) (derate_offline hrate))) rfl rfl
  case trained =>
    have hread := stack_setStack s h { x with retraining := false }
    exact does_of_done (exec_hbmRetrainDone hh hretrains hcap) rfl
      ⟨(hread h).trans (if_pos rfl), fun j hj => (hread j).trans (if_neg hj), rfl⟩
  case rowKept =>
    exact does_of_done (exec_hbmRemap_notDue sid bank row [] hh hdue) rfl rfl
  case rowMoved =>
    have hexec := exec_hbmRemap_due sid bank row [] hh hdue hfree
    obtain ⟨m, d, f, a, ev, q, l, hmove⟩ := moveRow_frame s h (32 * h + ch % 32) k key gs
    have hread := stack_setStack s h (x.enterRow k key)
    refine does_of_done (hexec.trans (congrArg (done s) hmove)) rfl ⟨?_, fun j hj => (hread j).trans (if_neg hj), rfl, rfl⟩
    exact (congrArg (fun x : Stack => tget (fun _ => none) x.remap k) ((hread h).trans (if_pos rfl))).trans (enterRow_entry x k key)
  case refused =>
    obtain ⟨z, hstart, hrefused, hidle, hnone⟩ := tgStart_refused hheld v.toNat mm
    have honly := onlyChan_setChan s (32 * h + c) z
    refine does_onlyChan ((exec_tgStart hh hc v mm s).trans (congrArg (done s) hstart)) honly ?_
    rw [chan_setChan_self]
    exact ⟨hrefused, hidle, hnone, honly⟩
  case starts =>
    have hasked : y.asked (BitVec.ofNat 64 (mode + 2 ^ 5)).toNat mm = ⟨mode, 2, 0, seed, y.base, y.len, mm⟩ := by
      rw [asked_check hmode, hseed]
    have hgood : tgRefused (s.chanHeld (32 * h + c)) (y.asked (BitVec.ofNat 64 (mode + 2 ^ 5)).toNat mm) = false := by
      rw [hasked, hheld]
      simpa [tgRefused, hlen] using ⟨⟨hmode, hzero⟩, hrange⟩
    obtain ⟨z, hstart, hbusy, hrefused, hfail, hrun⟩ := tgStart_starts hgood
    have honly := onlyChan_setChan s (32 * h + c) z
    refine does_onlyChan ((exec_tgStart hh hc _ mm s).trans (congrArg (done s) hstart)) honly ?_
    rw [chan_setChan_self]
    exact ⟨hbusy, hrefused, hfail, hrun.trans (congrArg some hasked), honly⟩
  case passes =>
    have hexec := exec_tgDone_check hh hc hrun hop
    rw [tgChecks_hold hclean (32 * h + c) hwrong (tgHolds_of_unit hunits)] at hexec
    have honly := onlyChan_setChan s (32 * h + c) { y with busy := false, done := true, run := none }
    exact does_onlyChan hexec honly ⟨chan_setChan_self _ _ _, honly⟩
  case fails =>
    obtain ⟨e, he, i, hi, hdiff⟩ := hdiffers
    have hfail := tgChecks_fail hclean (32 * h + c) r ⟨(e, i), List.pair_mem_product.2 ⟨he, hi⟩, hdiff⟩
    have honly := (tgChecks_keeps hclean (32 * h + c) r (tgGrans steps)).1
    refine does_onlyChan (exec_tgDone_check hh hc hrun hop) (honly.setChan _) ?_
    rw [chan_setChan_self]
    exact ⟨hfail, rfl, rfl, honly.setChan _⟩
  case stops =>
    obtain ⟨l, hexec⟩ := exec_tgStop_check hh hc hrun hop
    have honly := (tgChecks_keeps (s := { s with free := s.free + 1 }) hclean (32 * h + c) r l).1
    refine does_of_done hexec (leaves_of_outside (honly.setChan _).outside) ?_
    rw [chan_setChan_self]
    exact ⟨rfl, rfl, rfl, honly.setChan _⟩

end Sys2Proof.Machine

/-!
PROOF. O27: doorbells and fetches (R256, R268, R269).
-/

namespace Sys2Proof.Machine

/-! ### One ring changes -/

/-- From `s` to `t` only the host interface changes, and of it neither the registers, nor the dispatched commands, nor a ring other
than `r`. -/
structure OnlyRing (r : Nat) (s t : State) : Prop where
  others : ∀ q, q ≠ r → t.ring q = s.ring q
  regs : t.host.regs = s.host.regs
  cmds : t.host.cmds = s.host.cmds
  frame : t = { s with host := t.host }

/-- A command that changes one ring completes. -/
theorem does_onlyRing {c : Instr} {r : Nat} {s t : State} {P : State → Prop} (hexec : exec c s = done s t) (honly : OnlyRing r s t)
    (h : P t) : Does c s P := by
  refine does_of_done hexec ?_ h
  unfold Leaves
  rw [honly.frame]

theorem OnlyRing.trans {r : Nat} {s t u : State} (h : OnlyRing r s t) (h' : OnlyRing r t u) : OnlyRing r s u where
  others q hq := (h'.others q hq).trans (h.others q hq)
  regs := h'.regs.trans h.regs
  cmds := h'.cmds.trans h.cmds
  frame := by
    have hframe := h'.frame
    rw [h.frame] at hframe
    exact hframe

theorem onlyRing_setRing (s : State) (r : Nat) (x : Ring) : OnlyRing r s (s.setRing r x) :=
  ⟨fun q hq => (ring_setRing s r x q).trans (if_neg hq), rfl, rfl, rfl⟩

@[simp] theorem ring_setRing_self (s : State) (r : Nat) (x : Ring) : (s.setRing r x).ring r = x :=
  (ring_setRing s r x r).trans (if_pos rfl)

/-- An error of a ring is an event, and none of the log's (R415). -/
theorem ringError_frame (s : State) (r side cause : Nat) : ∃ ev, s.ringError r side cause = { s with host.evbuf := ev } :=
  ⟨_, foldl_postTo_frame _ s _ _⟩

@[simp] theorem ring_ringError (s : State) (r side cause q : Nat) : (s.ringError r side cause).ring q = s.ring q := by
  obtain ⟨ev, hev⟩ := ringError_frame s r side cause
  rw [hev]
  rfl

/-- A ring that goes into error changes alone; beside it an event is raised. -/
theorem onlyRing_fails (s : State) (r side cause : Nat) (x : Ring) : OnlyRing r s ((s.setRing r x).ringError r side cause) := by
  obtain ⟨ev, hev⟩ := ringError_frame (s.setRing r x) r side cause
  rw [hev]
  exact ⟨(onlyRing_setRing s r x).others, rfl, rfl, rfl⟩

/-! ### The doorbells (R268) -/

section Doorbell
variable {s : State} {fn r : Nat} {idx : BitVec 32} (hfn : fn < 8) (hr : r < 256) (hlive : s.live fn = true)
  (howner : s.ringOwner r = fn) (hcmd : s.cmdEn fn = true)
include hfn hr hlive howner hcmd

/-- A new index rung at an enabled submission ring without error is judged by the descriptors that it leaves in the ring. -/
theorem exec_sqDoorbell (hen : s.sqEn r = true) (herr : (s.ring r).sqErr = 0) (hnew : idx.toNat ≠ (s.ring r).pi) :
    exec (.sqDoorbell fn r idx) s = done s (
      let held := (idx.toNat + 2 ^ 32 - (s.ring r).ci) % 2 ^ 32
      if 2 ^ s.sqLog r < held then (s.setRing r { s.ring r with sqErr := 1 }).ringError r 0 1
      else if held = 0 then (s.cancelWait (.hostHead r)).setRing r { s.ring r with
        pi := idx.toNat, fetched := [], headTick := none, headWaits := false, headMet := false }
      else s.setRing r { s.ring r with pi := idx.toNat, fetched := (s.ring r).fetched.take held }) := by
  refine (within_of_lt hfn).trans ((within_of_lt hr).trans (congrArg (done s) (if_neg ?_)))
  simp [hlive, howner, hcmd, hen, herr, hnew]

/-- A new index rung at an enabled completion ring without error is judged by the entries that the ring holds. -/
theorem exec_cqDoorbell (hen : s.cqEn r = true) (herr : (s.ring r).cqErr = 0) (hnew : idx.toNat ≠ (s.ring r).cqCi) :
    exec (.cqDoorbell fn r idx) s = done s (
      if s.cqHeld r < (idx.toNat + 2 ^ 32 - (s.ring r).cqCi) % 2 ^ 32 then
        (s.setRing r { s.ring r with cqErr := 1 }).ringError r 1 1
      else s.setRing r { s.ring r with cqCi := idx.toNat }) := by
  refine (within_of_lt hfn).trans ((within_of_lt hr).trans (congrArg (done s) (if_neg ?_)))
  simp [hlive, howner, hcmd, hen, herr, hnew]

end Doorbell

/-- A submission ring that is disabled ignores its doorbell. -/
theorem exec_sqDoorbell_disabled {s : State} {fn r : Nat} (hfn : fn < 8) (hr : r < 256) (idx : BitVec 32)
    (hen : s.sqEn r = false) :
    exec (.sqDoorbell fn r idx) s = done s s := by
  refine (within_of_lt hfn).trans ((within_of_lt hr).trans (congrArg (done s) (if_pos ?_)))
  simp [hen]

/-! ### The fetch (R269) -/

/-- A descriptor that becomes the head takes its deadline; the ring's indices and its descriptors stay. -/
theorem newHead_reads (s : State) (r : Nat) : let t := s.newHead r
    (t.ring r).fetched = (s.ring r).fetched ∧ (t.ring r).ci = (s.ring r).ci ∧ (t.ring r).pi = (s.ring r).pi ∧ OnlyRing r s t := by
  unfold State.newHead
  dsimp only
  split
  · simp [onlyRing_setRing]
  · exact ⟨rfl, rfl, rfl, fun _ _ => rfl, rfl, rfl, rfl⟩

section Fetch
variable {s : State} {r : Nat} (hr : r < 256) (hen : s.sqEn r = true) (herr : (s.ring r).sqErr = 0)
  (hlive : s.live (s.ringOwner r) = true) {n : Nat} (hn : n = min 16 (s.sqHeld r - (s.ring r).fetched.length)) (hpos : 0 < n)
include hr hen herr hlive hn hpos

/-- A fetch that the host answers in full takes every descriptor asked for. -/
theorem exec_sqFetch_data {b : Bytes} (hb : b.length = 64 * n) : exec (.sqFetch r (.data b)) s =
    done s ((s.setRing r { s.ring r with fetched := (s.ring r).fetched ++ chunks64 n b }).newHead r) := by
  have hall : min n (b.length / 64) = n := by omega
  refine (within_of_lt hr).trans (congrArg (done s) ((if_neg ?_).trans ?_))
  · simp [hen, herr, hlive, ← hn, hpos.ne']
  · dsimp only
    rw [← hn, hall]

/-- A fetch that the host refuses puts the ring into error. -/
theorem exec_sqFetch_unsupported : exec (.sqFetch r .unsupported) s =
    done s ((s.setRing r { s.ring r with sqErr := 2 }).ringError r 0 2) := by
  refine (within_of_lt hr).trans (congrArg (done s) (if_neg ?_))
  simp [hen, herr, hlive, ← hn, hpos.ne']

end Fetch

/-- Settles O27: the three answers to a doorbell of a submission ring and that of a disabled one, the two to a doorbell of a
completion ring, and the two ends of a fetch. -/
theorem doorbellsAndFetch : Obligations.DoorbellsAndFetch := by
  unfold Obligations.DoorbellsAndFetch
  intro s fn r idx b hfn hr hlive howner hcmd x others only held freed n
  have changed {c : Instr} {t : State} {P : State → Prop} (hexec : exec c s = done s t) (honly : OnlyRing r s t) (h : P t) :
      Does c s (fun t => P t ∧ others t ∧ only t) := by
    exact does_onlyRing hexec honly ⟨h, ⟨honly.others, honly.regs, honly.cmds⟩, honly.frame⟩
  refine ⟨fun hen herr hnew hzero => ?emptied, fun hen herr hnew hpos hfit => ?moved, fun hen herr hnew hover => ?overrun,
    fun hen => ?disabled, fun hen herr hnew hfit => ?released, fun hen herr hnew hover => ?cqOverrun,
    fun hen herr hpos hb => ?fetched, fun hen herr hpos => ?refused⟩
  case emptied =>
    have hexec := exec_sqDoorbell hfn hr hlive howner hcmd hen herr hnew
    rw [if_neg (by rw [show _ % _ = 0 from hzero]; exact Nat.not_lt_zero _), if_pos hzero] at hexec
    exact does_of_done hexec rfl ⟨ring_setRing_self _ _ _, ⟨(onlyRing_setRing _ r _).others, rfl, rfl⟩, rfl⟩
  case moved =>
    have hexec := exec_sqDoorbell hfn hr hlive howner hcmd hen herr hnew
    rw [if_neg (Nat.not_lt.2 hfit), if_neg (Nat.pos_iff_ne_zero.1 hpos)] at hexec
    exact changed hexec (onlyRing_setRing s r _) (ring_setRing_self _ _ _)
  case overrun =>
    have hexec := exec_sqDoorbell hfn hr hlive howner hcmd hen herr hnew
    rw [if_pos hover] at hexec
    exact changed hexec (onlyRing_fails s r 0 1 _) (by simp [x])
  case disabled => exact does_of_done (exec_sqDoorbell_disabled hfn hr idx hen) rfl rfl
  case released =>
    have hexec := exec_cqDoorbell hfn hr hlive howner hcmd hen herr hnew
    rw [if_neg (Nat.not_lt.2 hfit)] at hexec
    exact changed hexec (onlyRing_setRing s r _) (ring_setRing_self _ _ _)
  case cqOverrun =>
    have hexec := exec_cqDoorbell hfn hr hlive howner hcmd hen herr hnew
    rw [if_pos hover] at hexec
    exact changed hexec (onlyRing_fails s r 1 1 _) (by simp [x])
  case fetched =>
    have hexec := exec_sqFetch_data hr hen herr (by rw [howner]; exact hlive) rfl hpos hb
    obtain ⟨hfetched, hci, hpi, honly⟩ := newHead_reads (s.setRing r { x with fetched := x.fetched ++ chunks64 n b }) r
    rw [ring_setRing_self] at hfetched hci hpi
    have honly := (onlyRing_setRing s r _).trans honly
    exact does_onlyRing hexec honly ⟨hfetched, hci, hpi, ⟨honly.others, honly.regs, honly.cmds⟩, honly.frame⟩
  case refused =>
    have hexec := exec_sqFetch_unsupported hr hen herr (by rw [howner]; exact hlive) rfl hpos
    exact changed hexec (onlyRing_fails s r 0 2 _) (by simp [x])

end Sys2Proof.Machine

/-!
PROOF. O29: completion records, event records and interrupts (R270, R271, R274, R292).
-/

namespace Sys2Proof.Machine

/-! ### Records (R270, R271) -/

/-- Where the next record of completion ring `r` goes in host memory (R270). -/
def State.recSlot (s : State) (r : Nat) : Nat :=
  bits (s.reg 8 (0x4008 + 64 * r)) 63 12 * 4096 + 16 * ((s.ring r).cqPi % 2 ^ s.cqLog r)

/-- Ring `r` past a record in its next slot: the producer index has advanced, and the phase flips at the wrap. -/
def State.pastRec (s : State) (r : Nat) (irq : Bool) : Ring := { s.ring r with
  cqPi := ((s.ring r).cqPi + 1) % 2 ^ 32
  phase := if (s.ring r).cqPi % 2 ^ s.cqLog r + 1 = 2 ^ s.cqLog r then !(s.ring r).phase else (s.ring r).phase
  coal := (s.ring r).coal + b2n irq }

/-- The state with a record in the next slot of ring `r`, before any interrupt. -/
def State.putRec (s : State) (r : Nat) (x : Rec) : State :=
  (s.hostWrite (s.recSlot r) (recBytes x (s.ring r).phase)).setRing r (s.pastRec r x.irq)

/-- A record is written; when it makes up the count that the ring waits for, the ring's vector is signalled. -/
theorem writeRec_eq (s : State) (r : Nat) (x : Rec) : s.writeRec r x =
    if x.irq && bit (s.reg 8 (0x4018 + 64 * r)) 9 &&
      decide (bits (s.reg 8 (0x4018 + 64 * r)) 31 24 + 1 ≤ ((s.putRec r x).ring r).coal)
    then (s.putRec r x).signal r else s.putRec r x := rfl

/-- A record that asks for no interrupt is written, and no more. -/
theorem writeRec_quiet (s : State) (r : Nat) {x : Rec} (hirq : x.irq = false) : s.writeRec r x = s.putRec r x := by
  simp [writeRec_eq, hirq]

/-- Signalling clears the ring's count and sends a message or leaves it pending. -/
theorem signal_frame (s : State) (r : Nat) : ∃ m p, s.signal r =
    { s.setRing r { s.ring r with coal := 0 } with out.msix := m, host.pba := p } := by
  unfold State.signal
  dsimp only
  split <;> exact ⟨_, _, rfl⟩

/-- What a record written to ring `r`, with or without a signal, leaves beside the count of records to signal. -/
structure Posted (r : Nat) (x : Rec) (s t : State) : Prop where
  bytes : t.out.hostMem = putBytes s.out.hostMem (s.recSlot r) (recBytes x (s.ring r).phase)
  index : (t.ring r).cqPi = ((s.ring r).cqPi + 1) % 2 ^ 32
  phase : (t.ring r).phase =
    if (s.ring r).cqPi % 2 ^ s.cqLog r + 1 = 2 ^ s.cqLog r then !(s.ring r).phase else (s.ring r).phase
  others : ∀ k, k ≠ r → t.ring k = s.ring k
  evbuf : t.host.evbuf = s.host.evbuf
  frame : t = { s with host := t.host, out := t.out }

/-- Bytes written to the host and a ring that is set: what changes. -/
theorem hostWrite_setRing_reads (s : State) (a r : Nat) (b : Bytes) (y : Ring) : let t := (s.hostWrite a b).setRing r y
    t.out.hostMem = putBytes s.out.hostMem a b ∧ (∀ k, k ≠ r → t.ring k = s.ring k) ∧ t.host.evbuf = s.host.evbuf ∧
    t = { s with host := t.host, out := t.out } :=
  ⟨rfl, fun k hk => (ring_setRing _ r y k).trans (if_neg hk), rfl, rfl⟩

theorem msix_hostWrite_setRing (s : State) (a r : Nat) (b : Bytes) (y : Ring) :
    ((s.hostWrite a b).setRing r y).out.msix = s.out.msix := rfl

theorem msix_putRec (s : State) (r : Nat) (x : Rec) : (s.putRec r x).out.msix = s.out.msix := msix_hostWrite_setRing _ _ _ _ _

@[simp] theorem ring_putRec (s : State) (r : Nat) (x : Rec) : (s.putRec r x).ring r = s.pastRec r x.irq :=
  ring_setRing_self _ r _

theorem posted_putRec (s : State) (r : Nat) (x : Rec) : Posted r x s (s.putRec r x) := by
  obtain ⟨hbytes, hothers, hevbuf, hframe⟩ :=
    hostWrite_setRing_reads s (s.recSlot r) r (recBytes x (s.ring r).phase) (s.pastRec r x.irq)
  exact {
    bytes := hbytes
    index := by rw [ring_putRec, State.pastRec]
    phase := by rw [ring_putRec, State.pastRec]
    others := hothers
    evbuf := hevbuf
    frame := hframe }

theorem Posted.signal {r : Nat} {x : Rec} {s t : State} (h : Posted r x s t) : Posted r x s (t.signal r) := by
  obtain ⟨m, p, hsignal⟩ := signal_frame t r
  rw [hsignal]
  exact {
    bytes := h.bytes
    index := (congrArg Ring.cqPi (ring_setRing_self t r _)).trans h.index
    phase := (congrArg Ring.phase (ring_setRing_self t r _)).trans h.phase
    others := fun k hk => ((ring_setRing t r _ k).trans (if_neg hk)).trans (h.others k hk)
    evbuf := h.evbuf
    frame := by rw [h.frame]; rfl }

theorem posted_writeRec (s : State) (r : Nat) (x : Rec) : Posted r x s (s.writeRec r x) := by
  rw [writeRec_eq]
  split
  · exact (posted_putRec s r x).signal
  · exact posted_putRec s r x

theorem Posted.leaves {r : Nat} {x : Rec} {s t : State} (h : Posted r x s t) : Leaves s t t := by
  unfold Leaves
  rw [h.frame]

/-- A ring that is set leaves the registers, and with them the sizes of the rings. -/
@[simp] theorem reg_setRing (s : State) (r : Nat) (y : Ring) (b o : Nat) : (s.setRing r y).reg b o = s.reg b o := rfl
@[simp] theorem cqLog_setRing (s : State) (r : Nat) (y : Ring) (k : Nat) : (s.setRing r y).cqLog k = s.cqLog k := rfl

/-- Taking the record from the backlog first changes no place and no phase. -/
theorem Posted.of_backlog {r : Nat} {x : Rec} {s t : State} {l : List Rec}
    (h : Posted r x (s.setRing r { s.ring r with backlog := l }) t) : Posted r x s t := by
  obtain ⟨hbytes, hindex, hphase, hothers, hevbuf, hframe⟩ := h
  rw [State.recSlot, reg_setRing, setRing_out] at hbytes
  rw [ring_setRing_self, cqLog_setRing] at hbytes hphase
  rw [ring_setRing_self] at hindex
  exact ⟨hbytes, hindex, hphase, fun k hk => (hothers k hk).trans ((ring_setRing s r _ k).trans (if_neg hk)), hevbuf, hframe⟩

/-! ### The commands -/

section Post
variable {s : State} {r : Nat} (hready : s.cqReady r = true)
include hready

/-- CQ_POST of a ring that can take a record writes the oldest of its backlog. -/
theorem exec_cqPost_taken (hr : r < 256) {x : Rec} {rest : List Rec} (hlog : (s.ring r).backlog = x :: rest) :
    exec (.cqPost r true) s = done s ((s.setRing r { s.ring r with backlog := rest }).writeRec r x) := by
  refine (within_of_lt hr).trans (congrArg (done s) ?_)
  simp [hlog, hready, State.postNext]

/-- A write that the host refuses puts the ring into error. -/
theorem exec_cqPost_refused (hr : r < 256) {x : Rec} {rest : List Rec} (hlog : (s.ring r).backlog = x :: rest) :
    exec (.cqPost r false) s = done s ((s.setRing r { s.ring r with cqErr := 2 }).ringError r 1 2) := by
  refine (within_of_lt hr).trans (congrArg (done s) ?_)
  simp [hlog, hready]

/-- The record of an event, with the count of those lost before it (R292). -/
def State.eventRec (s : State) (fn : Nat) (e : Event) : Rec :=
  ⟨e.code + 2 ^ 16 * (s.evbuf fn).lost, .ok, 0, true, e.payload, true, none⟩

variable {fn : Nat} (hfn : fn < 8) {e : Event} {es : List Event} (hbuf : (s.evbuf fn).waiting = e :: es)
  (hen : s.evtEn fn = true) (hcq : s.evcq fn = r)
include hfn hbuf hen hcq

/-- EVENT_POST writes the oldest event of the function's buffer to the ring that its EVCQ names. -/
theorem exec_eventPost_taken : exec (.eventPost ⟨fn, true⟩) s =
    done s ((s.setEvbuf fn { waiting := es, lost := 0 }).writeRec r (s.eventRec fn e)) := by
  refine (within_of_lt hfn).trans (congrArg (done s) ?_)
  simp [hbuf, hen, hcq, hready, State.eventRec]

/-- A write that the host refuses puts the ring into error. -/
theorem exec_eventPost_refused : exec (.eventPost ⟨fn, false⟩) s =
    done s ((s.setRing r { s.ring r with cqErr := 2 }).ringError r 1 2) := by
  refine (within_of_lt hfn).trans (congrArg (done s) ?_)
  simp [hbuf, hen, hcq, hready]

end Post

/-- IRQ_COALESCE_TIMEOUT of a ring that coalesces and has an unsignalled record signals its vector. -/
theorem exec_irqCoalesceTimeout {s : State} {r : Nat} (hr : r < 256) (hcoal : bit (s.reg 8 (0x4018 + 64 * r)) 9 = true)
    (htime : bits (s.reg 8 (0x4018 + 64 * r)) 47 32 ≠ 0) (hpos : 0 < (s.ring r).coal) :
    exec (.irqCoalesceTimeout r) s = done s (s.signal r) := by
  refine (within_of_lt hr).trans (congrArg (done s) (if_pos ?_))
  simp [hcoal, htime, hpos]

/-- The signal of an unmasked vector is a message. -/
theorem signal_unmasked {s : State} {r : Nat}
    (hmask : s.host.unmasked.contains (256 * s.ringOwner r + bits (s.reg 8 (0x4018 + 64 * r)) 23 16) = true) :
    s.signal r = { s.setRing r { s.ring r with coal := 0 } with
      out.msix := s.out.msix ++ [(s.ringOwner r, bits (s.reg 8 (0x4018 + 64 * r)) 23 16)] } :=
  if_pos hmask

/-- Settles O29: a record that is written and one that is refused, for a completion and for an event, and the signal of an expired
coalescing time. -/
theorem recordsEventsAndInterrupts : Obligations.RecordsEventsAndInterrupts := by
  unfold Obligations.RecordsEventsAndInterrupts
  intro s r fn x rest e es hr q size slot moved
  have refused {c : Instr} (hexec : exec c s = done s ((s.setRing r { q with cqErr := 2 }).ringError r 1 2)) :
      Does c s (fun t => t.ring r = { q with cqErr := 2 } ∧ t.out = s.out ∧ t = { s with host := t.host }) := by
    have honly := onlyRing_fails s r 1 2 { q with cqErr := 2 }
    exact does_onlyRing hexec honly ⟨by simp, by rw [honly.frame], honly.frame⟩
  refine ⟨fun hlog hready hirq => ?written, fun hlog hready => refused (exec_cqPost_refused hready hr hlog),
    fun hfn hbuf hen hcq hready => ⟨?event, refused (exec_eventPost_refused hready hfn hbuf hen hcq)⟩,
    fun hcoal htime hpos hmask => ?signalled⟩
  case written =>
    have hexec := exec_cqPost_taken hready hr hlog
    rw [writeRec_quiet _ _ hirq] at hexec
    have hposted := (posted_putRec _ r x).of_backlog (s := s) (l := rest)
    refine does_of_done hexec hposted.leaves ⟨hposted.bytes, ?_, ⟨hposted.index, hposted.phase, hposted.others⟩,
      msix_putRec _ r x, hposted.frame⟩
    rw [ring_putRec, State.pastRec, ring_setRing_self]
  case event =>
    have hposted := posted_writeRec (s.setEvbuf fn { waiting := es, lost := 0 }) r (s.eventRec fn e)
    have hevbuf : ((s.setEvbuf fn { waiting := es, lost := 0 }).writeRec r (s.eventRec fn e)).evbuf fn = { waiting := es, lost := 0 } := by
      rw [State.evbuf, hposted.evbuf]
      exact (evbuf_setEvbuf s fn _ fn).trans (if_pos rfl)
    refine does_of_done (exec_eventPost_taken hready hfn hbuf hen hcq) ?_ ⟨by rw [hevbuf], by rw [hevbuf], 
      ⟨hposted.index, hposted.phase, hposted.others⟩, hposted.bytes⟩
    unfold Leaves
    rw [hposted.frame]
    rfl
  case signalled =>
    have hexec := exec_irqCoalesceTimeout hr hcoal htime hpos
    rw [signal_unmasked hmask] at hexec
    exact does_of_done hexec rfl ⟨rfl, ring_setRing_self s r _, rfl⟩

end Sys2Proof.Machine

/-!
PROOF. O33: the operations of a SYNC_OP on a cell of this module (R283, R295, R298).
-/

namespace Sys2Proof.Machine

/-! ### Completion after other effects (R273) -/

/-- What completes a command in a state whose registers, rings and dispatched commands are those of `s` completes it in `s`. -/
theorem Ended.of_host {s u t : State} {c : HostCmd} {st : Status} {detail result : Nat} (h : Ended u t c st detail result)
    (hregs : u.host.regs = s.host.regs) (hrings : u.host.rings = s.host.rings) (hcmds : u.host.cmds = s.host.cmds) :
    Ended s t c st detail result := by
  simp only [Ended, State.ring, State.sqCq, State.reg, hregs, hrings, hcmds] at h ⊢
  exact h

/-- The cells stand in the sync units. -/
theorem cell_of_sync {s t : State} (h : t.sync = s.sync) (j : Nat) : t.cell j = s.cell j := by
  rw [State.cell, h]
  rfl

/-- From `s` to `t` the sync units, the service data and the outstanding ARMs of the host may change, and nothing else. -/
abbrev SyncFrame (s t : State) : Prop := t = { s with sync := t.sync, svc := t.svc, host.arms := t.host.arms }

theorem syncFrame_putCell (s : State) (i : Nat) (v : Word) : SyncFrame s (s.putCell i v) := by
  obtain ⟨x, y, z, w, hput⟩ := putCell_frame s i v
  rw [hput]

/-- A command whose operation worked out `u` completes: the sync units and the ARMs are those of `u`, and its record is entered. -/
theorem does_complete {n : Instr} {s u : State} {c : HostCmd} {result : Nat} {P : State → Prop}
    (hexec : exec n s = done s (u.complete c .ok 0 result)) (hu : SyncFrame s u)
    (h : ∀ t, t.sync = u.sync → t.host.arms = u.host.arms → Ended s t c .ok 0 result →
      t = { s with sync := t.sync, svc := t.svc, host := t.host } → P t) : Does n s P := by
  have hregs : u.host.regs = s.host.regs := by rw [hu]
  have hrings : u.host.rings = s.host.rings := by rw [hu]
  have hcmds : u.host.cmds = s.host.cmds := by rw [hu]
  have hframe : u.complete c .ok 0 result =
      { s with sync := u.sync, svc := u.svc, host := (u.complete c .ok 0 result).host } := by
    rw [complete_frame u c .ok 0 result, hu]
  refine does_of_done hexec ?_ (h _ rfl rfl ((complete_ended u c .ok 0 result).of_host hregs hrings hcmds) hframe)
  unfold Leaves
  rw [hframe]

/-! ### The operations (R283) -/

/-- The waiter that an ARM of the function enters: it names the function, the TAG and the cell. -/
def armWaiter (c : HostCmd) (i : Nat) : WaitEnt := ⟨i, 4, (soVal c.desc).toNat, .hostArm c.fn (dTag c.desc + 2 ^ 32 * i)⟩

/-- An outstanding ARM of the function. -/
def State.keepArm (s : State) (c : HostCmd) (i : Nat) : State :=
  { s with host.arms := s.host.arms ++ [(c.fn, dTag c.desc, i, (soVal c.desc).toNat)] }

section Here
variable {s : State} {id i : Nat} {c : HostCmd} (hrun : Runs s id 7 c) (hcheck : syncCheck s c.fn c.desc = .ok)
  (hhere : s.soHere c.desc = some i) (hcell : SoundCell s i)

section Operation
include hrun hcheck hhere

/-- A SYNC_OP that passes its checks and names a cell of this module performs its operation on it. -/
theorem syncOp_here {op : Nat} (hop : soOp c.desc = op) (f : HostCmd → Nat → State) : s.syncOp id op f = f c i := by
  unfold State.syncOp
  rw [withCmd_of_runs hrun]
  simp [hcheck, hop, hhere]

theorem exec_syncOpSet (hop : soOp c.desc = 0) :
    exec (.syncOpSet id) s = done s ((s.putCell i (soVal c.desc)).complete c .ok 0 0) :=
  congrArg (done s) (syncOp_here hrun hcheck hhere hop _)

theorem exec_syncOpWaitGe (hop : soOp c.desc = 3) : exec (.syncOpWaitGe id) s = done s (s.syncWait c i 0) :=
  congrArg (done s) (syncOp_here hrun hcheck hhere hop _)

theorem exec_syncOpWaitEq (hop : soOp c.desc = 4) : exec (.syncOpWaitEq id) s = done s (s.syncWait c i 1) :=
  congrArg (done s) (syncOp_here hrun hcheck hhere hop _)

include hcell

theorem exec_syncOpAdd (hop : soOp c.desc = 1) : exec (.syncOpAdd id) s =
    done s ((s.putCell i (s.cell i + soVal c.desc)).complete c .ok 0 (s.cell i).toNat) := by
  refine congrArg (done s) ((syncOp_here hrun hcheck hhere hop _).trans ?_)
  rw [cellAdd_sound hcell]
  rfl

theorem exec_syncOpCas (hop : soOp c.desc = 2) : exec (.syncOpCas id) s = done s
    ((if s.cell i = soVal c.desc then s.putCell i (soVal2 c.desc) else s.evalCell i (s.cell i)).complete c .ok 0 (s.cell i).toNat) := by
  refine congrArg (done s) ((syncOp_here hrun hcheck hhere hop _).trans ?_)
  rw [cellCas_sound hcell]
  rfl

theorem exec_syncOpArm_waits (hop : soOp c.desc = 5) (hholds : waitHolds 4 (soVal c.desc).toNat (s.cell i) = false)
    (hroom : s.waitUsed (i / 2048) < 1024) (hqueue : s.sync.queued.any (fun x => x.cell / 2048 == i / 2048) = false) :
    exec (.syncOpArm id) s = done s (((s.tableWait (armWaiter c i)).keepArm c i).complete c .ok 0 0) := by
  refine congrArg (done s) ((syncOp_here hrun hcheck hhere hop _).trans ?_)
  dsimp only
  rw [register_waits hcell _ rfl hholds hroom hqueue]
  rfl

end Operation

section Wait
include hcell

/-- A wait whose condition holds completes with the cell's value. -/
theorem syncWait_holds {kind : Nat} (hholds : waitHolds kind (soVal c.desc).toNat (s.cell i) = true) :
    s.syncWait c i kind = s.complete c .ok 0 (s.cell i).toNat := by
  unfold State.syncWait
  rw [register_holds hcell _ rfl hholds]

/-- Another waits in the table when that has room. -/
theorem syncWait_waits {kind : Nat} (hholds : waitHolds kind (soVal c.desc).toNat (s.cell i) = false)
    (hroom : s.waitUsed (i / 2048) < 1024) (hqueue : s.sync.queued.any (fun x => x.cell / 2048 == i / 2048) = false) :
    s.syncWait c i kind = (s.tableWait ⟨i, kind, (soVal c.desc).toNat, .hostCmd c.id⟩).cmdWaits c.id := by
  unfold State.syncWait
  rw [register_waits hcell _ rfl hholds hroom hqueue]

end Wait

end Here

/-- Settles O33: the three operations that store, the two waits that end at once and that wait, and the ARM that is kept. -/
theorem hostSyncOperations : Obligations.HostSyncOperations := by
  unfold Obligations.HostSyncOperations
  intro s id i c hrun hcheck hhere hcell d x y v ge only waits room
  have put {n : Instr} {w : Word} {result : Nat} (hexec : exec n s = done s ((s.putCell i w).complete c .ok 0 result)) :
      Does n s fun t => t.cell i = w ∧ Ended s t c .ok 0 result ∧ only t := by
    refine does_complete hexec (syncFrame_putCell s i w) fun t hsync _ hended hframe => ?_
    have hread (j : Nat) : t.cell j = if j = i then w else s.cell j :=
      (cell_of_sync hsync j).trans (cell_putCell s i j w)
    exact ⟨(hread i).trans (if_pos rfl), hended, fun j hj => (hread j).trans (if_neg hj), hframe⟩
  have met {n : Instr} {kind : Nat} (hexec : exec n s = done s (s.syncWait c i kind))
      (hholds : waitHolds kind x.toNat v = true) : Does n s fun t => Ended s t c .ok 0 v.toNat ∧ t.sync = s.sync ∧ only t := by
    rw [syncWait_holds hcell hholds] at hexec
    refine does_complete hexec rfl fun t hsync _ hended hframe => ⟨hended, hsync, fun j _ => cell_of_sync hsync j, hframe⟩
  have unmet {n : Instr} {kind : Nat} (hexec : exec n s = done s (s.syncWait c i kind))
      (hholds : waitHolds kind x.toNat v = false) (hroom : room) : Does n s (waits kind) := by
    rw [syncWait_waits hcell hholds hroom.1 hroom.2] at hexec
    exact does_of_done hexec rfl ⟨rfl, rfl, rfl, fun _ _ => rfl, rfl⟩
  refine ⟨fun hop => ?set, fun hop => ?add, fun hop => ?cas, fun hop hge => ?ge, fun hop hge hroom => ?geWaits, fun hop heq => ?eq,
    fun hop hne hroom => ?eqWaits, fun hop hge hroom => ?arm⟩
  case set => exact put (exec_syncOpSet hrun hcheck hhere hop)
  case add => exact put (exec_syncOpAdd hrun hcheck hhere hcell hop)
  case cas =>
    have hexec := exec_syncOpCas hrun hcheck hhere hcell hop
    by_cases hv : v = x
    · rw [if_pos hv] at hexec ⊢
      exact put hexec
    · rw [if_neg hv] at hexec
      simp only [if_neg hv]
      refine does_complete hexec rfl fun t hsync _ hended hframe => ?_
      have hread (j : Nat) : t.cell j = s.cell j :=
        (cell_of_sync hsync j).trans (cell_evalCell s i j v)
      exact ⟨hread i, hended, fun j _ => hread j, hframe⟩
  case ge => exact met (exec_syncOpWaitGe hrun hcheck hhere hop) ((waitHolds_ge v x).trans hge)
  case geWaits => exact unmet (exec_syncOpWaitGe hrun hcheck hhere hop) ((waitHolds_ge v x).trans hge) hroom
  case eq => exact met (exec_syncOpWaitEq hrun hcheck hhere hop) ((waitHolds_eq v x).trans (beq_iff_eq.2 heq))
  case eqWaits => exact unmet (exec_syncOpWaitEq hrun hcheck hhere hop) ((waitHolds_eq v x).trans (beq_eq_false_iff_ne.2 hne)) hroom
  case arm =>
    have hexec := exec_syncOpArm_waits hrun hcheck hhere hcell hop ((waitHolds_arm v x).trans hge) hroom.1 hroom.2
    exact does_complete hexec rfl fun t hsync harms hended hframe =>
      ⟨hended, harms, by rw [hsync]; rfl, fun j _ => by rw [State.cell, hsync]; rfl, hframe⟩

end Sys2Proof.Machine

/-!
PROOF. O30: commits capture what is staged, one at a time (R260, R336, R374, R391, R418), the power group is applied whole or not
at all (R418, R425), and a register of BAR0 is written to its staging copy (R259).
-/

namespace Sys2Proof.Machine

/-! ### Registers -/

/-- The register set reads as the low 64 bits of its value, and every other as before. -/
theorem reg_setReg (s : State) (b o v b' o' : Nat) :
    (s.setReg b o v).reg b' o' = if rkey b' o' = rkey b o then v % 2 ^ 64 else s.reg b' o' := by
  by_cases h : rkey b' o' = rkey b o
  · simp [State.reg, State.setReg, h]
  · simp [State.reg, State.setReg, tget_tset_ne, h]

theorem staged_setStaged_self (s : State) (b o v : Nat) : (s.setStaged b o v).staged b o = v % 2 ^ 64 := by
  simp [State.staged, State.setStaged]

/-! ### The start of a commit (R260) -/

/-- The unit as a commit of group `g` of block `blk` starts: it holds the staged values. -/
def State.starting (s : State) (u blk g : Nat) (cmd : Option Nat) : CommitUnit :=
  { s.unit u with
    busy := true
    running := g
    captured := (groupRegs blk g).map (fun o => (o, s.staged blk o))
    cmd := cmd }

theorem commitStart_idle {s : State} {u : Nat} (h : (s.unit u).busy = false) (blk g : Nat) (cmd : Option Nat) :
    s.commitStart u blk g cmd = s.setUnit u (s.starting u blk g cmd) := by
  simp [State.commitStart, State.starting, h]

theorem commitStart_busy {s : State} {u : Nat} (h : (s.unit u).busy = true) (blk g : Nat) (cmd : Option Nat) :
    s.commitStart u blk g cmd = s.setUnit u { s.unit u with overrun := true } := by
  simp [State.commitStart, h]

theorem exec_cfgCommit {s : State} {fn g : Nat} (hfn : fn < 8) (hlive : s.live fn = true) (hg : g < 2 ^ 16) :
    exec (.cfgCommit fn g) s = done s (s.commitStart fn (cfgBlk fn g) g none) := by
  refine (within_of_lt hfn).trans (congrArg (done s) ((if_pos hlive).trans ?_))
  rw [Nat.mod_eq_of_lt hg]

section Commit
variable (s : State) {g : Nat} (hg : g < 2 ^ 16)
include hg

theorem exec_aqCommit : exec (.aqCommit g) s = done s (s.commitStart 8 9 g none) :=
  congrArg (fun k => done s (s.commitStart 8 9 k none)) (Nat.mod_eq_of_lt hg)
theorem exec_psCommit : exec (.psCommit g) s = done s (s.commitStart 9 10 g none) :=
  congrArg (fun k => done s (s.commitStart 9 10 k none)) (Nat.mod_eq_of_lt hg)
theorem exec_diagCommit : exec (.diagCommit g) s = done s (s.commitStart 10 11 g none) :=
  congrArg (fun k => done s (s.commitStart 10 11 k none)) (Nat.mod_eq_of_lt hg)
theorem exec_pwrCommit : exec (.pwrCommit g) s = done s (s.commitStart 11 12 g none) :=
  congrArg (fun k => done s (s.commitStart 11 12 k none)) (Nat.mod_eq_of_lt hg)

end Commit

/-! ### The verdict on the power group (R418) -/

/-- The captured values of the power group: CAP and the shares of the partner sites. -/
abbrev powerGroup (v w : Nat) : List (Nat × Nat) := [(0x10, v), (0x18, w)]

/-- The power group is judged by the range of CAP and by its two shares. -/
theorem pwrVerdict_group1 (s : State) {v w : Nat} (hv : v < 2 ^ 16) (hw : w < 2 ^ 16) :
    pwrVerdict s 1 (powerGroup v w) =
      if v ≠ 0 ∧ (v < 600 ∨ s.boot.limitW < v) then some (.range, 0x10)
      else if 150 < w % 256 ∨ 150 < w / 256 then some (.range, 0x18) else none := by
  have hcap : newVal s 12 (powerGroup v w) 0x10 = v := rfl
  have hshare : newVal s 12 (powerGroup v w) 0x18 = w := rfl
  have hregs : groupRegs 12 1 = [0x10, 0x18] := rfl
  have hkept {x : Nat} (hx : x < 2 ^ 16) : x &&& 0xFFFF = x := (Nat.and_two_pow_sub_one_eq_mod x 16).trans (Nat.mod_eq_of_lt hx)
  have hfree : reserved 12 1 (newVal s 12 (powerGroup v w)) = none := by
    simp [reserved, wrong, hregs, hcap, hshare, regSpec, pwrSpec, hkept hv, hkept hw]
  have hlow : bits w 7 0 = w % 256 := by simp [bits]
  have hhigh : bits w 15 8 = w / 256 := by simp only [bits]; omega
  unfold pwrVerdict
  simp only [hregs, hfree, hcap, hshare, hlow, hhigh]
  by_cases hbad : v ≠ 0 ∧ (v < 600 ∨ s.boot.limitW < v)
  · simp [wrongAt, firstVerdict, hbad]
  · by_cases hpart : 150 < w % 256 ∨ 150 < w / 256
    · simp [wrongAt, firstVerdict, hbad, hpart]
    · simp [wrongAt, firstVerdict, hbad, hpart]

/-! ### Shares and grants (R425) -/

/-- A partner's grant above its share is lowered to it. -/
def State.lowerGrant (s : State) (k : Nat) : State :=
  if s.partnerCap k < (s.psite k).pgrant then s.grantSite k (s.partnerCap k) else s

theorem applyPwr_group1 (s : State) (cap : List (Nat × Nat)) :
    s.applyPwr 1 cap = ((s.setGroupRegs 12 cap).lowerGrant 0).lowerGrant 1 := rfl

theorem lowerGrant_frame (s : State) (k : Nat) : ∃ p w, s.lowerGrant k = { s with psites := p, power := w } := by
  unfold State.lowerGrant State.grantSite
  dsimp only
  split
  · split <;> exact ⟨_, _, rfl⟩
  · exact ⟨_, _, rfl⟩

theorem psite_grantSite (s : State) (k w j : Nat) :
    (s.grantSite k w).psite j = if j = k then { s.psite k with pgrant := w } else s.psite j := by
  have hput := psite_setPsite s k { s.psite k with pgrant := w } j
  unfold State.grantSite
  dsimp only
  split <;> exact hput

theorem pgrant_lowerGrant (s : State) (k j : Nat) : ((s.lowerGrant k).psite j).pgrant =
    if j = k then min (s.psite k).pgrant (s.partnerCap k) else (s.psite j).pgrant := by
  unfold State.lowerGrant
  by_cases hover : s.partnerCap k < (s.psite k).pgrant
  · rw [if_pos hover, psite_grantSite]
    by_cases hj : j = k
    · simp [hj, hover.le]
    · simp [hj]
  · rw [if_neg hover]
    by_cases hj : j = k
    · simp [hj, Nat.not_lt.1 hover]
    · simp [hj]

/-- The cap of a site depends on the registers only. -/
theorem partnerCap_lowerGrant (s : State) (k j : Nat) : (s.lowerGrant k).partnerCap j = s.partnerCap j := by
  obtain ⟨p, w, hframe⟩ := lowerGrant_frame s k
  rw [hframe]
  rfl

/-! ### The end of a commit (R260) -/

/-- The unit as its commit ends with a verdict. -/
def CommitUnit.ended (x : CommitUnit) (code field : Nat) : CommitUnit :=
  { x with busy := false, code := code, group := x.running % 2 ^ 16, field := field, seq := (x.seq + 1) % 2 ^ 16, captured := [], cmd := none }

/-- A commit that no command asked for ends in its unit alone. -/
theorem commitEnd_some {s : State} {u : Nat} (hcmd : (s.unit u).cmd = none) (st : Status) (o : Nat) :
    s.commitEnd u (some (st, o)) = s.setUnit u ((s.unit u).ended (stCode st) (o % 2 ^ 16)) := by
  simp [State.commitEnd, CommitUnit.ended, hcmd]

theorem commitEnd_none {s : State} {u : Nat} (hcmd : (s.unit u).cmd = none) :
    s.commitEnd u none = s.setUnit u ((s.unit u).ended 0 0xFFFF) := by
  simp [State.commitEnd, CommitUnit.ended, hcmd, stCode]

theorem exec_commitApply_power (s : State) : exec (.commitApply 11) s = done s (s.commitRun 11) :=
  within_of_lt (k := "commit unit") (n := 11) (c := 12) (by decide)

section Power
variable {s : State} {cap : List (Nat × Nat)} (hbusy : (s.unit 11).busy = true) (hgroup : (s.unit 11).running = 1)
  (hcap : (s.unit 11).captured = cap)
include hbusy hgroup hcap

theorem commitRun_power_refused {e : Status × Nat} (hverdict : pwrVerdict s 1 cap = some e) :
    s.commitRun 11 = s.commitEnd 11 (some e) := by
  simp [State.commitRun, hbusy, hgroup, hcap, hverdict]

theorem commitRun_power_applied (hverdict : pwrVerdict s 1 cap = none) :
    s.commitRun 11 = (s.applyPwr 1 cap).commitEnd 11 none := by
  simp [State.commitRun, hbusy, hgroup, hcap, hverdict]

end Power

/-- The power group in force: its two registers, and the partners' grants lowered to their shares. -/
theorem applyPwr_reads (s : State) {v w : Nat} (hv : v < 2 ^ 16) (hw : w < 2 ^ 16) (hlow : w % 256 ≤ 150) (hhigh : w / 256 ≤ 150) :
    let t := s.applyPwr 1 (powerGroup v w)
    t.reg 12 0x10 = v ∧ t.reg 12 0x18 = w ∧
    (∀ k, k < 2 → (t.psite k).pgrant = min (s.psite k).pgrant (bits w (8 * k + 7) (8 * k))) ∧
    t = { s with host.regs := t.host.regs, psites := t.psites, power := t.power } := by
  intro t
  let u := s.setGroupRegs 12 (powerGroup v w)
  have ht : t = (u.lowerGrant 0).lowerGrant 1 := applyPwr_group1 s _
  have hcapReg : u.reg 12 0x10 = v := by
    refine ((reg_setReg _ 12 0x18 w 12 0x10).trans (if_neg (by decide))).trans ?_
    rw [reg_setReg, if_pos rfl, Nat.mod_eq_of_lt (by omega)]
  have hshareReg : u.reg 12 0x18 = w := by
    refine ((reg_setReg _ 12 0x18 w 12 0x18).trans (if_pos rfl)).trans (Nat.mod_eq_of_lt (by omega))
  have hcap (k : Nat) (hk : k < 2) : u.partnerCap k = bits w (8 * k + 7) (8 * k) := by
    rw [State.partnerCap, hshareReg]
    obtain rfl | rfl : k = 0 ∨ k = 1 := by omega
    · simp only [bits]; omega
    · simp only [bits]; omega
  have hgrant (k : Nat) (hk : k < 2) : (t.psite k).pgrant = min (u.psite k).pgrant (u.partnerCap k) := by
    rw [ht, pgrant_lowerGrant, pgrant_lowerGrant, pgrant_lowerGrant, partnerCap_lowerGrant]
    obtain rfl | rfl : k = 0 ∨ k = 1 := by omega
    · rfl
    · rfl
  obtain ⟨p, x, hfirst⟩ := lowerGrant_frame u 0
  obtain ⟨p', x', hsecond⟩ := lowerGrant_frame (u.lowerGrant 0) 1
  have hframe : t = { u with psites := p', power := x' } := by rw [ht, hsecond, hfirst]
  refine ⟨?_, ?_, fun k hk => ?_, ?_⟩
  · rw [hframe]
    exact hcapReg
  · rw [hframe]
    exact hshareReg
  · rw [hgrant k hk, hcap k hk]
    rfl
  · rw [hframe]
    rfl

/-! ### A write of BAR0 (R259) -/

/-- CFG_ENABLE of a function whose registers work is written to its staging copy. -/
theorem exec_registerWrite_cfgEnable {s : State} {fn : Nat} (hfn : fn < 8) (hlive : s.live fn = true) (v : Word) :
    exec (.registerWrite (.bar0 fn 0x28) v) s = done s (s.setStaged fn 0x28 v.toNat) := by
  refine (within_of_lt hfn).trans (congrArg (done s) ?_)
  simp [State.pathWrite, State.bar0Write, hlive, State.bar0Shows, regSpec, hfn]

/-! ### The statement -/

/-- Settles O30: the start of a commit at each of the five units, the power group applied and refused, and the staged write. -/
theorem commitsAreValidatedThenApplied : Obligations.CommitsAreValidatedThenApplied := by
  unfold Obligations.CommitsAreValidatedThenApplied
  intro s fn g v w hg hv hw only start running result
  have started {c : Instr} {u blk : Nat} (hexec : exec c s = done s (s.commitStart u blk g none)) : Does c s (start u blk) := by
    cases hbusy : (s.unit u).busy with
    | false =>
      rw [commitStart_idle hbusy] at hexec
      refine does_of_done hexec rfl ⟨rfl, rfl, fun k hk => (unit_setUnit s u _ k).trans (if_neg hk), rfl, fun _ => ?_, fun h => ?_⟩
      · exact (unit_setUnit s u _ u).trans (if_pos rfl)
      · rw [hbusy] at h
        cases h
    | true =>
      rw [commitStart_busy hbusy] at hexec
      refine does_of_done hexec rfl ⟨rfl, rfl, fun k hk => (unit_setUnit s u _ k).trans (if_neg hk), rfl, fun h => ?_, fun _ => ?_⟩
      · rw [hbusy] at h
        cases h
      · exact (unit_setUnit s u _ u).trans (if_pos rfl)
  have ended (u : State) (code field : Nat) (hgroup : (s.unit 11).running = 1) :
      result code field (u.setUnit 11 ((s.unit 11).ended code field)) := by
    have hunit := (unit_setUnit u 11 ((s.unit 11).ended code field) 11).trans (if_pos rfl)
    refine ⟨congrArg CommitUnit.busy hunit, congrArg CommitUnit.code hunit, congrArg CommitUnit.field hunit, ?_,
      congrArg CommitUnit.seq hunit⟩
    rw [hunit]
    simp [CommitUnit.ended, hgroup]
  refine ⟨fun hfn hlive => started (exec_cfgCommit hfn hlive hg), started (exec_aqCommit s hg), started (exec_psCommit s hg),
    started (exec_diagCommit s hg), started (exec_pwrCommit s hg), fun hrun hv' hlow hhigh => ?applied, fun hrun hne hout => ?refused,
    fun hfn hlive => ?staged⟩
  case applied =>
    obtain ⟨hbusy, hgroup, hcap, hcmd⟩ := hrun
    have hgood : pwrVerdict s 1 (powerGroup v w) = none := by
      rw [pwrVerdict_group1 s hv hw, if_neg (by omega), if_neg (by omega)]
    obtain ⟨hlimit, hshare, hgrant, hframe⟩ := applyPwr_reads s hv hw hlow hhigh
    have hexec := exec_commitApply_power s
    rw [commitRun_power_applied hbusy hgroup hcap hgood] at hexec
    generalize s.applyPwr 1 (powerGroup v w) = u at hexec hlimit hshare hgrant hframe
    have hunit : u.unit 11 = s.unit 11 := by
      rw [hframe]
      rfl
    rw [commitEnd_none (by rw [hunit, hcmd]), hunit] at hexec
    refine does_of_done hexec ?_ ⟨hlimit, hshare, ended u 0 0xFFFF hgroup, hgrant, ?_⟩
    · unfold Leaves
      rw [hframe]
      rfl
    · rw [hframe]
      rfl
  case refused =>
    obtain ⟨hbusy, hgroup, hcap, hcmd⟩ := hrun
    have hbad : pwrVerdict s 1 (powerGroup v w) = some (.range, 0x10) := by
      rw [pwrVerdict_group1 s hv hw, if_pos ⟨hne, hout⟩]
    have hexec := exec_commitApply_power s
    rw [commitRun_power_refused hbusy hgroup hcap hbad, commitEnd_some hcmd] at hexec
    exact does_of_done hexec rfl ⟨rfl, ended s 3 0x10 hgroup, rfl⟩
  case staged =>
    have hexec := exec_registerWrite_cfgEnable hfn hlive (BitVec.ofNat 64 v)
    refine does_of_done hexec rfl ⟨?_, rfl, rfl, rfl⟩
    rw [staged_setStaged_self, BitVec.toNat_ofNat]
    omega

end Sys2Proof.Machine

/-!
PROOF. O32: NOP, TIMESTAMP and FENCE (R289), CONFIG_STAGE and CONFIG_COMMIT (R285), QUERY (R286), TEST (R290) and ACK_EVENT (R291).
-/

namespace Sys2Proof.Machine

/-! ### Reserved operands that are zero -/

/-- A field of zero bytes reads zero. -/
theorem ofLe_zero {b : Bytes} (h : b.all (· == 0) = true) : ofLe b = 0 := by
  induction b with
  | nil => rfl
  | cons x t ih =>
    simp only [List.all_cons, Bool.and_eq_true, beq_iff_eq] at h
    simp [ofLe, h.1, ih h.2]

theorem le_of_zeroAt {d : Bytes} {off n : Nat} (h : zeroAt d off n = true) : le d off n = 0 := ofLe_zero h

/-- A part of a zero range is zero. -/
theorem zeroAt_part {d : Bytes} {off n : Nat} (h : zeroAt d off n = true) (off' n' : Nat) (hlo : off ≤ off')
    (hhi : off' + n' ≤ off + n) : zeroAt d off' n' = true := by
  have hpart : (d.drop off').take n' = (((d.drop off).take n).drop (off' - off)).take n' := by
    rw [List.drop_take, List.drop_drop, List.take_take]
    congr 1
    · omega
    · congr 1
      omega
  rw [zeroAt, hpart, List.all_eq_true]
  intro x hx
  exact List.all_eq_true.1 h x (List.mem_of_mem_drop (List.mem_of_mem_take hx))

/-! ### Commands that complete without another effect -/

/-- A command that completes at once changes the dispatched commands and its completion ring only. -/
theorem does_end {n : Instr} {s : State} {c : HostCmd} {st : Status} {result : Nat}
    (hexec : exec n s = done s (s.complete c st 0 result)) :
    Does n s fun t => Ended s t c st 0 result ∧ t = { s with host := t.host } :=
  does_of_done hexec rfl ⟨complete_ended s c st 0 result, rfl⟩

section Commands
variable {s : State} {id : Nat} {c : HostCmd}

theorem exec_nop (hrun : Runs s id 0 c) : exec (.nop id) s = done s (s.complete c (noOperands c.desc) 0 0) :=
  congrArg (done s) (withCmd_of_runs hrun)

theorem exec_timestamp (hrun : Runs s id 0xE c) (hzero : zeroAt c.desc 16 48 = true) :
    exec (.timestamp id) s = done s (s.complete c .ok 0 s.now) :=
  congrArg (done s) ((withCmd_of_runs hrun).trans (if_pos (if_pos hzero)))

/-- A FENCE with no reserved bit set completes once its scope has. -/
theorem exec_fence (hrun : Runs s id 0xF c) (hzero : zeroAt c.desc 16 48 = true) (hdone : s.fenceDone c = true) :
    exec (.fence id) s = done s (s.complete c .ok 0 0) := by
  have hscope : le c.desc 16 1 = 0 := le_of_zeroAt (zeroAt_part hzero 16 1 (by omega) (by omega))
  have hrest : zeroAt c.desc 17 47 = true := zeroAt_part hzero 17 47 (by omega) (by omega)
  refine congrArg (done s) ((withCmd_of_runs hrun).trans ((if_neg ?_).trans (if_pos hdone)))
  simp [hscope, hrest, bits]

/-- A command that is alone, with no record waiting, has a completed scope. -/
theorem fenceDone_alone (honly : s.host.cmds = [c]) (hempty : ∀ q ∈ s.host.rings, q.2.backlog = []) : s.fenceDone c = true := by
  simp only [State.fenceDone, honly, List.all_cons, List.all_nil, le_refl, decide_true, Bool.or_true, Bool.and_true, Bool.true_and,
    List.all_eq_true]
  intro q hq x hx
  rw [hempty q hq] at hx
  cases hx

/-! ### CONFIG_STAGE and CONFIG_COMMIT (R285) -/

/-- One word staged by the physical function at CFG_ENABLE of its own. -/
theorem exec_configStage_cfgEnable (hrun : Runs s id 9 c) (hoff : le c.desc 16 2 = 0x28) (hcount : le c.desc 18 1 = 1)
    (htarget : le c.desc 19 1 = 0) (hzero : zeroAt c.desc 20 4 = true) (hfn : c.fn = 0) :
    exec (.configStage id) s = done s ((s.setStaged 0 0x28 (le c.desc 24 8)).complete c .ok 0 0) := by
  refine congrArg (done s) ((withCmd_of_runs hrun).trans ?_)
  simp [stageCmd, hoff, hcount, htarget, hzero, hfn, targetCheck, firstFail, bar0Blk, regSpec, State.bar0Shows, State.fails,
    List.range_one]

/-- Group 1 committed by the physical function for itself, while no commit of its own runs. -/
theorem exec_configCommit_own (hrun : Runs s id 0xA c) (hgroup : le c.desc 16 2 = 1) (hzero : zeroAt c.desc 18 46 = true)
    (hfn : c.fn = 0) (hidle : (s.unit 0).busy = false) :
    exec (.configCommit id) s = done s ((s.commitStart 0 0 1 (some id)).cmdWaits id) := by
  have htarget : le c.desc 19 1 = 0 := le_of_zeroAt (zeroAt_part hzero 19 1 (by omega) (by omega))
  have hbyte : zeroAt c.desc 18 1 = true := zeroAt_part hzero 18 1 (by omega) (by omega)
  have hrest : zeroAt c.desc 20 44 = true := zeroAt_part hzero 20 44 (by omega) (by omega)
  refine congrArg (done s) ((withCmd_of_runs hrun).trans ?_)
  simp [hgroup, htarget, hbyte, hrest, hfn, hidle, targetCheck, firstFail, cfgBlk]

/-! ### QUERY (R286) -/

/-- The 16 bytes of the module serial. -/
def State.serialBytes (s : State) : Bytes := (s.fuse.serial ++ zeros 16).take 16

theorem length_serialBytes (s : State) : s.serialBytes.length = 16 := by
  simp [State.serialBytes]

/-- The module serial queried to address 0 of the host: the bytes are written, or the refused write ends the command. -/
theorem exec_query_serial (hrun : Runs s id 0xB c) (hitem : le c.desc 16 1 = 3) (hzero : zeroAt c.desc 17 3 = true)
    (hindex : le c.desc 20 4 = 0) (hdst : le c.desc 24 8 = 2 ^ 62) (hlen : 16 ≤ le c.desc 32 4) (hrest : zeroAt c.desc 36 28 = true)
    (taken : Bool) : exec (.query ⟨id, taken⟩) s = done s (if taken = true then
      (s.hostWrite 0 s.serialBytes).complete c .ok 0 16 else s.complete c .aborted 0 0) := by
  have hquery : s.queryItem 3 0 = .ok s.serialBytes := rfl
  have hbus : hostBus (le c.desc 24 8) = 0 := by rw [hdst]; decide
  have hhost (w : Master) (g : Nat) (a : Bool) (k : Nat) : isHost ⟨w, g, a, true, k⟩ (le c.desc 24 8) = true := by
    rw [hdst]; rfl
  refine congrArg (done s) ((withCmd_of_runs hrun).trans ?_)
  cases taken with
  | false => simp [queryCmd, hitem, hzero, hindex, hrest, hquery, length_serialBytes, hlen.not_gt, hhost, hbus, State.fails]
  | true => simp [queryCmd, hitem, hzero, hindex, hrest, hquery, length_serialBytes, hlen.not_gt, hhost, hbus, State.pWrite]

/-! ### ACK_EVENT (R291) -/

/-- The state once a thermal shutdown is acknowledged. -/
def State.acked (s : State) : State :=
  { s with
    boot.computeOff := false
    boot.shutPending := false
    flash.shutAck := s.flash.shutRec.map (fun (b : Bytes) =>
      let r := putAt (b.take 60) 32 [0xAC]
      r ++ toLe 4 (crc32c r)) }

theorem exec_ackEvent (hrun : Runs s id 0x11 c) (hfn : c.fn = 0) (hzero : zeroAt c.desc 18 46 = true)
    (hcode : le c.desc 16 2 = 0x01A) (hoff : s.boot.computeOff = true) (hflash : s.flashOk = true) :
    exec (.ackEvent id) s = done s (s.acked.complete c .ok 0 0) := by
  refine congrArg (done s) ((withCmd_of_runs hrun).trans ?_)
  simp [ackCmd, hfn, hzero, hcode, hoff, hflash, firstFail, State.fails, State.acked]

/-! ### TEST of a tile (R290) -/

/-- A TEST of a core that passes changes what is under test and what is overdue, and dates the tile's site. -/
theorem testUnit_core_passes (s : State) (u row p : Nat) : let t := s.testUnit (.core u row p, false)
    t = { s with svc := t.svc, sites := t.sites } ∧ ∀ n, (s.tile u).site = some n → (t.site n).cover = s.now := by
  unfold State.testUnit State.covers State.leaveSegment
  dsimp only
  cases hsite : (s.tile u).site with
  | none =>
    have hsame (v : Service) : (State.tile { s with svc := v } u).site = none := hsite
    simp [hsame]
  | some m =>
    have hsame (v : Service) : (State.tile { s with svc := v } u).site = some m := hsite
    simp only [Bool.false_eq_true, if_false, hsame]
    refine ⟨rfl, fun n hn => ?_⟩
    obtain rfl : m = n := Option.some.inj hn
    rw [site_setSite, if_pos rfl]

/-- So do any number of them, and at least one dates the site. -/
theorem testUnits_core_pass {u : Nat} (e : TestUnit × Bool) (l : List (TestUnit × Bool)) (s : State)
    (hcore : ∀ x ∈ e :: l, ∃ row p, x = (.core u row p, false)) : let t := (e :: l).foldl State.testUnit s
    t = { s with svc := t.svc, sites := t.sites } ∧ ∀ n, (s.tile u).site = some n → (t.site n).cover = s.now := by
  induction l generalizing s e with
  | nil =>
    obtain ⟨row, p, rfl⟩ := hcore e (List.mem_cons_self ..)
    exact testUnit_core_passes s u row p
  | cons e' l ih =>
    obtain ⟨row, p, rfl⟩ := hcore e (List.mem_cons_self ..)
    obtain ⟨hframe, -⟩ := testUnit_core_passes s u row p
    obtain ⟨hframe', hcover⟩ := ih e' (s.testUnit (.core u row p, false)) fun x hx => hcore x (List.mem_cons_of_mem _ hx)
    rw [List.foldl_cons]
    generalize s.testUnit (.core u row p, false) = v at *
    refine ⟨hframe'.trans (by rw [hframe]), fun n hn => ?_⟩
    rw [hcover n (by rw [hframe]; exact hn), hframe]

/-- The units of a TEST of a tile whose cores all pass. -/
theorem testUnits_tile {r : TestFind} (hpass : r.cores = []) (u : Nat) :
    ∀ x ∈ testUnits true u r, ∃ row p, x = (.core u row p, false) := by
  intro x hx
  simp only [testUnits, if_true, hpass, List.mem_flatMap, List.mem_map] at hx
  obtain ⟨row, -, p, -, rfl⟩ := hx
  exact ⟨row, p, by simp⟩

theorem testUnits_tile_ne_nil (u : Nat) (r : TestFind) : testUnits true u r ≠ [] := by
  refine List.ne_nil_of_mem (a := (.core u 0 0, r.cores.contains (0, 0))) ?_
  simp only [testUnits, if_true, List.mem_flatMap, List.mem_map]
  exact ⟨0, by decide, 0, by decide, rfl⟩

/-- A TEST of a tile that passes its checks and finds no failure. -/
theorem exec_test_tile (hrun : Runs s id 0x10 c) (hfn : c.fn = 0) (hcheck : testCheck s c.desc = .ok) (hkind : le c.desc 16 1 = 2)
    {r : TestFind} (hpass : r.cores = []) : exec (.test id r) s =
    done s (((testUnits true (le c.desc 20 4) r).foldl State.testUnit s).complete c .ok 0 0) := by
  have hnone : (testUnits true (le c.desc 20 4) r).filter (·.2) = [] := by
    refine List.filter_eq_nil_iff.2 fun x hx => ?_
    obtain ⟨row, p, rfl⟩ := testUnits_tile hpass _ x hx
    exact Bool.false_ne_true
  refine congrArg (done s) ((withCmd_of_runs hrun).trans ?_)
  simp [testCmd, hfn, hcheck, hkind, hnone]

end Commands

/-! ### The statement -/

/-- Settles O32, command by command. -/
theorem simpleHostCommands : Obligations.SimpleHostCommands := by
  unfold Obligations.SimpleHostCommands
  intro s id c r d host
  refine ⟨fun hrun hzero => ?nop, fun hrun hbad => ?nopRefused, fun hrun hzero => does_end (exec_timestamp hrun hzero),
    fun hrun hzero honly hempty => does_end (exec_fence hrun hzero (fenceDone_alone honly hempty)),
    fun hrun hoff hcount htarget hzero hfn => ?configStage, fun hrun hgroup hzero hfn hidle => ?configCommit,
    fun hrun hitem hzero hindex hdst hlen hrest => ⟨?queryTaken, ?queryRefused⟩,
    fun hrun hfn hcheck hkind hpass => ?test, fun hrun hfn hzero hcode hoff hflash => ?ackEvent⟩
  case nop =>
    have hexec := exec_nop hrun
    rw [noOperands, if_pos hzero] at hexec
    exact does_end hexec
  case nopRefused =>
    have hexec := exec_nop hrun
    rw [noOperands, if_neg (by rw [hbad]; exact Bool.false_ne_true)] at hexec
    exact does_end hexec
  case configStage =>
    refine does_of_done (exec_configStage_cfgEnable hrun hoff hcount htarget hzero hfn) rfl
      ⟨(complete_ended _ c .ok 0 0).of_host rfl rfl rfl, ?_, rfl, rfl⟩
    exact staged_setStaged_self s 0 0x28 _
  case configCommit =>
    have hexec := exec_configCommit_own hrun hgroup hzero hfn hidle
    rw [commitStart_idle hidle] at hexec
    have hunit := (unit_setUnit s 0 (s.starting 0 0 1 (some id)) 0).trans (if_pos rfl)
    exact does_of_done hexec rfl ⟨congrArg CommitUnit.busy hunit, congrArg CommitUnit.running hunit, congrArg CommitUnit.cmd hunit,
      rfl, rfl⟩
  case queryTaken =>
    have hexec := exec_query_serial hrun hitem hzero hindex hdst hlen hrest true
    rw [if_pos rfl] at hexec
    have hended := (complete_ended (s.hostWrite 0 s.serialBytes) c .ok 0 16).of_host (s := s) rfl rfl rfl
    exact does_of_done hexec rfl ⟨hended, rfl, rfl⟩
  case queryRefused => exact does_end (exec_query_serial hrun hitem hzero hindex hdst hlen hrest false)
  case test =>
    have hexec := exec_test_tile hrun hfn hcheck hkind hpass
    have hcore := testUnits_tile hpass (le d 20 4)
    obtain ⟨e, l, hunits⟩ := List.exists_cons_of_ne_nil (testUnits_tile_ne_nil (le d 20 4) r)
    rw [hunits] at hexec hcore
    obtain ⟨hframe, hcover⟩ := testUnits_core_pass e l s hcore
    generalize (e :: l).foldl State.testUnit s = u at hexec hframe hcover
    have hhost : u.host = s.host := by rw [hframe]
    refine does_of_done hexec ?_ ⟨(complete_ended u c .ok 0 0).of_host (by rw [hhost]) (by rw [hhost]) (by rw [hhost]), hcover, ?_⟩
    · unfold Leaves
      rw [complete_frame, hframe]
    · rw [complete_frame, hframe]
  case ackEvent =>
    refine does_of_done (exec_ackEvent hrun hfn hzero hcode hoff hflash) rfl ⟨(complete_ended _ c .ok 0 0).of_host rfl rfl rfl, rfl, rfl, rfl⟩

end Sys2Proof.Machine

/-!
PROOF. O39: the hot reset (R389) and the Function Level Reset (R257), the power states of a function (R252) and the link's retraining
(R252, R253).
-/

namespace Sys2Proof.Machine

/-! ### Registers dropped to their reset values (log entry 18) -/

/-- A key that is dropped reads as its default, and every other as before. -/
theorem tget_tdrop {α : Type} (d : Nat → α) (p : Nat → Bool) (t : Tab α) (k : Nat) :
    tget d (tdrop p t) k = if p k then d k else tget d t k := by
  induction t with
  | nil => simp [tdrop, tget]
  | cons e t ih =>
    obtain ⟨j, v⟩ := e
    simp only [tdrop, List.filter_cons] at ih ⊢
    by_cases hj : k = j
    · subst hj
      by_cases hp : p k = true <;> simp [hp, tget, ih]
    · cases hp : p j <;> simp [tget, hj, ih]

/-- Both copies of a register read its reset value. -/
structure AtReset (s : State) (b o : Nat) : Prop where
  reg : s.reg b o = (regReset (rkey b o)).toNat
  staged : s.staged b o = (regReset (rkey b o)).toNat

/-- The key of a register gives its block and its offset. -/
theorem rkey_div {b o : Nat} (ho : o < 0x20000) : rkey b o / 0x20000 = b := by
  unfold rkey
  omega

theorem rkey_mod {b o : Nat} (ho : o < 0x20000) : rkey b o % 0x20000 = o := by
  unfold rkey
  omega

section ResetRegs
variable {b o : Nat} (ho : o < 0x20000) (s : State) (blk : Nat) (p : Nat → Bool)
include ho

theorem reg_resetRegs : (s.resetRegs blk p).reg b o = if b = blk ∧ p o = true then (regReset (rkey b o)).toNat else s.reg b o := by
  unfold State.reg State.resetRegs
  dsimp only
  rw [tget_tdrop, rkey_div ho, rkey_mod ho]
  simp only [Bool.and_eq_true, decide_eq_true_eq]
  split <;> rfl

theorem staged_resetRegs : (s.resetRegs blk p).staged b o =
    if b = blk ∧ p o = true then (regReset (rkey b o)).toNat else s.staged b o := by
  unfold State.staged State.resetRegs
  dsimp only
  rw [tget_tdrop, rkey_div ho, rkey_mod ho]
  simp only [Bool.and_eq_true, decide_eq_true_eq]
  split <;> rfl

/-- A register is at its reset value after a reset that names it, and stays there when others are reset. -/
theorem atReset_resetRegs (h : b = blk ∧ p o = true ∨ AtReset s b o) : AtReset (s.resetRegs blk p) b o := by
  constructor
  · rw [reg_resetRegs ho]
    split
    · rfl
    · next hmiss => exact (h.resolve_left hmiss).reg
  · rw [staged_resetRegs ho]
    split
    · rfl
    · next hmiss => exact (h.resolve_left hmiss).staged

end ResetRegs

/-- Resetting every register of several blocks leaves those of each at their reset values. -/
theorem atReset_blocks {b o : Nat} (ho : o < 0x20000) (l : List Nat) (s : State) (h : b ∈ l ∨ AtReset s b o) :
    AtReset (l.foldl (fun v blk => v.resetRegs blk (fun _ => true)) s) b o := by
  induction l generalizing s with
  | nil => exact h.resolve_left List.not_mem_nil
  | cons blk l ih =>
    refine ih _ ?_
    rcases h with hmem | hs
    · rcases List.mem_cons.1 hmem with rfl | hl
      · exact .inr (atReset_resetRegs ho s _ _ (.inl ⟨rfl, rfl⟩))
      · exact .inl hl
    · exact .inr (atReset_resetRegs ho s blk _ (.inr hs))

/-- The registers of a state decide which read their reset values. -/
theorem AtReset.of_host {s t : State} {b o : Nat} (h : AtReset s b o) (hregs : t.host.regs = s.host.regs)
    (hstag : t.host.stag = s.host.stag) : AtReset t b o := by
  constructor
  · unfold State.reg
    rw [hregs]
    exact h.reg
  · unfold State.staged
    rw [hstag]
    exact h.staged

/-- Giving sites to partitions changes the tiles only. -/
theorem assignTiles_frame (s : State) (l : List Nat) : ∃ x, s.assignTiles l = { s with tiles := x } :=
  foldl_frame (·.tiles) (fun t x => { t with tiles := x }) (fun _ _ => ⟨_, rfl⟩) _ s

/-! ### The Function Level Reset (R257) -/

/-- The registers and commit units, which settling retired units leaves as they are. -/
def State.commitSide (s : State) : Tab Word × Tab Word × Tab CommitUnit := (s.host.regs, s.host.stag, s.host.units)

theorem retireNow_commitSide (s : State) (u : Nat) : (s.retireNow u).commitSide = s.commitSide := by
  unfold State.retireNow
  obtain ⟨x, hx⟩ := dropFarUnit_frame s u
  rw [hx]
  dsimp only
  obtain ⟨f, h, hf⟩ := addRepair_frame { s with
    aq.far := x, cistern.retired := s.cistern.retired ++ [u], cistern.unitsPending := s.cistern.unitsPending.filter (· != u) } 6
    (u / 1536 + 2 ^ 16 * (u % 1536))
  rw [hf]
  obtain ⟨ev, q, l, hr⟩ := raise_changes { s with
    aq.far := x, cistern.retired := s.cistern.retired ++ [u], cistern.unitsPending := s.cistern.unitsPending.filter (· != u)
    flash := f, svc.heldRepairs := h } 0x016 (2 ^ 4 * (u / 1536) + 2 ^ 16 * (u % 1536)) [] (u / 1536) false
  rw [hr]
  rfl

theorem settlePending_commitSide (s : State) : s.settlePending.commitSide = s.commitSide := by
  refine foldl_keeps State.commitSide (fun t u => ?_) _ s
  split
  · rfl
  · exact retireNow_commitSide t u

theorem carveTo_commitSide (s : State) (old new : Nat) : (s.carveTo old new).commitSide = s.commitSide := by
  unfold State.carveTo
  split <;> rfl

/-- The end of a Function Level Reset: the carve-out is released, the function's commit unit and event buffer are cleared, and the
units that nothing covers any more are retired. -/
def State.endReset (s : State) (fn old : Nat) : State :=
  let t := s.carveTo old s.carve
  ((t.setUnit fn { t.unit fn with busy := false, cmd := none }).setEvbuf fn {}).settlePending

/-- The end of a reset leaves every register as it is and the commit unit idle. -/
theorem endReset_idle (s : State) (fn old : Nat) : (s.endReset fn old).host.regs = s.host.regs ∧
    (s.endReset fn old).host.stag = s.host.stag ∧ ((s.endReset fn old).unit fn).busy = false := by
  have hcarve := carveTo_commitSide s old s.carve
  unfold State.endReset
  dsimp only
  generalize s.carveTo old s.carve = t at hcarve ⊢
  have hsettle := settlePending_commitSide ((t.setUnit fn { t.unit fn with busy := false, cmd := none }).setEvbuf fn {})
  generalize State.settlePending _ = z at hsettle ⊢
  simp only [State.commitSide, Prod.mk.injEq] at hcarve hsettle
  obtain ⟨hregs, hstag, -⟩ := hcarve
  obtain ⟨hzregs, hzstag, hzunits⟩ := hsettle
  refine ⟨hzregs.trans hregs, hzstag.trans hstag, ?_⟩
  unfold State.unit
  rw [hzunits]
  exact congrArg CommitUnit.busy (tget_tset_self ..)

/-- A Function Level Reset drops the function's work, then its registers, and ends. -/
theorem resetFn_eq (s : State) (fn : Nat) : ∃ u : State,
    s.resetFn fn = ((u.resetRegs fn (fun _ => true)).resetRegs 8 (u.ownReg fn)).endReset fn s.carve := ⟨_, rfl⟩

/-- A Function Level Reset leaves the registers of the function's own block at their reset values and its commit unit idle. -/
theorem resetFn_resets (s : State) (fn : Nat) : (∀ o, o < 0x20000 → AtReset (s.resetFn fn) fn o) ∧
    ((s.resetFn fn).unit fn).busy = false := by
  obtain ⟨u, hu⟩ := resetFn_eq s fn
  obtain ⟨hregs, hstag, hbusy⟩ := endReset_idle ((u.resetRegs fn (fun _ => true)).resetRegs 8 (u.ownReg fn)) fn s.carve
  rw [hu]
  exact ⟨fun o ho => (atReset_resetRegs ho _ 8 _ (.inr (atReset_resetRegs ho u fn _ (.inl ⟨rfl, rfl⟩)))).of_host hregs hstag, hbusy⟩

/-- CFG_ENABLE of a function resets to 0. -/
theorem regReset_cfgEnable {fn : Nat} (hfn : fn < 8) : (regReset (rkey fn 0x28)).toNat = 0 := by
  unfold regReset regSpec
  rw [rkey_div (by omega), rkey_mod (by omega), if_pos hfn]
  rfl

/-! ### The obligation -/

theorem does_pcieHotReset {s : State} (hpower : s.boot.powered = true) : Does .pcieHotReset s fun t =>
    (∀ b o, b < 9 → o < 0x20000 → t.reg b o = (regReset (rkey b o)).toNat ∧ t.staged b o = (regReset (rkey b o)).toNat) ∧
      t.boot.numVf = 0 ∧ t.boot.d3 = [] := by
  have hexec : exec .pcieHotReset s = execPcieHotReset s := rfl
  unfold execPcieHotReset at hexec
  rw [hpower] at hexec
  refine does_done hexec ?_
  dsimp only [Bool.not_true]
  generalize (List.range 8).foldl State.resetFn s = t
  have hreset (b o : Nat) (hb : b < 9) (ho : o < 0x20000) := atReset_blocks ho (List.range 9) t (.inl (List.mem_range.2 hb))
  generalize (List.range 9).foldl _ t = u at hreset ⊢
  obtain ⟨x, hx⟩ := assignTiles_frame u (List.range 8)
  rw [hx]
  exact ⟨fun b o hb ho => ⟨(hreset b o hb ho).reg, (hreset b o hb ho).staged⟩, rfl, rfl⟩

theorem does_functionLevelReset {s : State} {fn : Nat} (hpower : s.boot.powered = true) (hvf : fn ≤ s.boot.numVf) (hfn : fn < 8) :
    Does (.functionLevelReset fn) s fun t => t.reg fn 0x28 = 0 ∧ t.staged fn 0x28 = 0 ∧ (t.unit fn).busy = false := by
  have hexec : exec (.functionLevelReset fn) s = done s (s.resetFn fn) :=
    (within_of_lt hfn).trans (congrArg (done s) (if_pos (by simp [hpower, hvf])))
  obtain ⟨hreset, hbusy⟩ := resetFn_resets s fn
  obtain ⟨hreg, hstaged⟩ := hreset 0x28 (by omega)
  rw [regReset_cfgEnable hfn] at hreg hstaged
  generalize s.resetFn fn = t at hexec hreg hstaged hbusy
  exact does_done hexec ⟨hreg, hstaged, hbusy⟩

theorem does_vfEnableClear (s : State) : Does .vfEnableClear s fun t => t.boot.numVf = 0 ∧ ∀ f ∈ t.boot.d3, f = 0 := by
  have hexec : exec .vfEnableClear s = execVfEnableClear s := rfl
  unfold execVfEnableClear at hexec
  dsimp only at hexec
  generalize List.foldl State.resetFn s _ = t at hexec
  exact does_done hexec ⟨rfl, fun f hf => beq_iff_eq.1 (List.mem_filter.1 hf).2⟩

theorem does_powerStateChange {s : State} {fn : Nat} (d3 : Bool) (hpower : s.boot.powered = true) (hvf : fn ≤ s.boot.numVf)
    (hfn : fn < 8) : Does (.powerStateChange fn d3) s fun t =>
      (fn ∈ t.boot.d3 ↔ d3 = true) ∧ (∀ g, g ≠ fn → (g ∈ t.boot.d3 ↔ g ∈ s.boot.d3)) ∧ t = { s with boot.d3 := t.boot.d3 } := by
  have hup : ¬ (!s.boot.powered || decide (s.boot.numVf < fn)) = true := by simpa [hpower] using hvf
  have hexec : exec (.powerStateChange fn d3) s = done s { s with
      boot.d3 := if d3 then s.boot.d3.filter (· != fn) ++ [fn] else s.boot.d3.filter (· != fn) } :=
    (within_of_lt hfn).trans (congrArg (done s) (if_neg hup))
  refine does_done hexec ⟨?_, fun g hg => ?_, rfl⟩
  · cases d3 <;> simp
  · cases d3 <;> simp [hg]

theorem does_pcieRetrain {s : State} {gen width : Nat} (htrained : s.boot.width ≠ 0) (hrunning : s.boot.running = false)
    (hlo : 3 ≤ gen) (hhi : gen ≤ 6) (hwidth : width = 4 ∨ width = 8 ∨ width = 16) : Does (.pcieRetrain gen width) s fun t =>
      t = { s with boot.gen := gen, boot.width := width, dist.dirty := true } := by
  have hlink : ¬ (s.boot.width = 0 ∨ gen < 3 ∨ 6 < gen ∨ !(width == 4 || width == 8 || width == 16)) := by
    simp only [Bool.not_eq_true', Bool.or_eq_false_iff, beq_eq_false_iff_ne]
    omega
  have hnow : ¬ (decide (s.boot.stage ≤ 4) && s.boot.running) = true := by simp [hrunning]
  have hexec : exec (.pcieRetrain gen width) s = done s (State.markDist { s with boot.gen := gen, boot.width := width }) :=
    congrArg (done s) ((if_neg hlink).trans (if_neg hnow))
  exact does_done hexec rfl

/-- Settles O39: a reset drops the entries of its registers, which then read their reset values; the link's state is one record. -/
theorem functionResetsAndLink : Obligations.FunctionResetsAndLink := by
  intro s fn gen width d3 hpower hvf hfn
  exact ⟨does_pcieHotReset hpower, does_functionLevelReset hpower hvf hfn, does_vfEnableClear s,
    does_powerStateChange d3 hpower hvf hfn, does_pcieRetrain⟩

end Sys2Proof.Machine

/-!
PROOF. What accesses to memory, coherence transactions, and stopping and cleaning cores leave as it is (R53, R73, R199 to R226): the
tiles and the registers in force.
-/

namespace Sys2Proof.Machine

/-- The tiles and the registers in force. -/
def State.tileRegs (s : State) : Tab Tile × Tab Word := (s.tiles, s.host.regs)

@[simp] theorem tileRegs_update (s : State) (cores : Tab Core) (coh : Coh) (cis : Cistern) (svc : Service) (free : Nat)
    (mesh : Mesh) (sync : Sync) (aq : Aq) :
    ({ s with cores := cores, coh := coh, cistern := cis, svc := svc, free := free, mesh := mesh, sync := sync, aq := aq } : State).tileRegs
      = s.tileRegs := rfl

theorem tileRegs_ignoresStore : IgnoresStore State.tileRegs := fun _ _ _ _ _ _ _ => rfl

@[simp] theorem tileRegs_raise (s : State) (code payload : Nat) (fns : List Nat) (src : Nat) (inj : Bool) :
    (s.raise code payload fns src inj).tileRegs = s.tileRegs := by
  rw [raise_frame]
  rfl

@[simp] theorem tileRegs_setCore (s : State) (a : Nat) (x : Core) : (s.setCore a x).tileRegs = s.tileRegs := rfl
@[simp] theorem tileRegs_setMc (s : State) (i : Nat) (x : MCore) : (s.setMc i x).tileRegs = s.tileRegs := rfl
@[simp] theorem tileRegs_setCtl (s : State) (a : Nat) (x : CacheCtl) : (s.setCtl a x).tileRegs = s.tileRegs := rfl
@[simp] theorem tileRegs_setCent (s : State) (a e : Nat) (x : CacheEnt) : (s.setCent a e x).tileRegs = s.tileRegs := rfl
@[simp] theorem tileRegs_setDir (s : State) (i : Nat) (e : DirEnt) : (s.setDir i e).tileRegs = s.tileRegs := rfl
@[simp] theorem tileRegs_freeDir (s : State) (i : Nat) : (s.freeDir i).tileRegs = s.tileRegs := rfl
@[simp] theorem tileRegs_send (s : State) (m : CohMsg) : (s.send m).tileRegs = s.tileRegs := rfl
@[simp] theorem tileRegs_noteRefused (s : State) (a g : Nat) : (s.noteRefused a g).tileRegs = s.tileRegs := rfl
@[simp] theorem tileRegs_allocate (s : State) (i x st a : Nat) : (s.allocate i x st a).tileRegs = s.tileRegs := rfl
@[simp] theorem tileRegs_snoop (s : State) (i o : Nat) (m : CohMsg) : (s.snoop i o m).tileRegs = s.tileRegs := rfl
@[simp] theorem tileRegs_setStack (s : State) (h : Nat) (x : Stack) : (s.setStack h x).tileRegs = s.tileRegs := rfl
@[simp] theorem tileRegs_setChan (s : State) (k : Nat) (x : Chan) : (s.setChan k x).tileRegs = s.tileRegs := rfl
@[simp] theorem tileRegs_setCat (s : State) (n : Nat) (x : CatUnit) : (s.setCat n x).tileRegs = s.tileRegs := rfl
@[simp] theorem tileRegs_cancelWait (s : State) (w : Waiter) : (s.cancelWait w).tileRegs = s.tileRegs := rfl
@[simp] theorem tileRegs_dropReq (s : State) (tag : Nat) : (s.dropReq tag).tileRegs = s.tileRegs := rfl
@[simp] theorem tileRegs_zeroTcm (s : State) (a : Nat) : (s.zeroTcm a).tileRegs = s.tileRegs := rfl
@[simp] theorem tileRegs_cohErr (s : State) (a x : Nat) : (s.cohErr a x).tileRegs = s.tileRegs := tileRegs_raise s _ _ _ _ _

@[simp] theorem tileRegs_ite (p : Prop) [Decidable p] (s t : State) :
    (if p then s else t).tileRegs = if p then s.tileRegs else t.tileRegs := apply_ite State.tileRegs p s t

@[simp] theorem tileRegs_count (s : State) (a ev : Nat) : (s.count a ev).tileRegs = s.tileRegs := by
  obtain ⟨-, hframe⟩ := onlyCore_count s a ev
  rw [hframe]
  rfl

/-! ### Memory and the catchment slots -/

@[simp] theorem tileRegs_taintAcc (s : State) (x n : Nat) : (s.taintAcc x n).tileRegs = s.tileRegs :=
  foldl_keeps State.tileRegs (fun t e => by dsimp only; split <;> rfl) _ s

@[simp] theorem tileRegs_openAcc (s : State) (x : Nat) (b : Bytes) : (s.openAcc x b).1.tileRegs = s.tileRegs := by
  unfold State.openAcc
  dsimp only
  split <;> rfl

@[simp] theorem tileRegs_readGrans (s : State) (agent : Nat) (ks : List Nat) : (s.readGrans agent ks).1.tileRegs = s.tileRegs :=
  readGrans_keeps tileRegs_ignoresStore s agent ks

@[simp] theorem tileRegs_granError (s : State) (k kind agent : Nat) (inj : Bool) :
    (s.granError k kind agent inj).tileRegs = s.tileRegs :=
  granError_keeps tileRegs_ignoresStore s k kind agent inj

@[simp] theorem tileRegs_writeGrans (s : State) (hw : Bool) (agent a : Nat) (bs : Bytes) (hole : List Nat) :
    (s.writeGrans hw agent a bs hole).1.tileRegs = s.tileRegs :=
  writeGrans_keeps tileRegs_ignoresStore s hw agent a bs hole

@[simp] theorem tileRegs_poisonRange (s : State) (a n : Nat) : (s.poisonRange a n).tileRegs = s.tileRegs :=
  poisonRange_keeps tileRegs_ignoresStore s a n

@[simp] theorem tileRegs_freeRange (s : State) (a n : Nat) : (s.freeRange a n).tileRegs = s.tileRegs := by
  obtain ⟨x, hx⟩ := freeRange_frame s a n
  rw [hx]
  rfl

@[simp] theorem tileRegs_lineRead (s : State) (agent x : Nat) : (s.lineRead agent x).1.tileRegs = s.tileRegs := by
  simp [State.lineRead]

@[simp] theorem tileRegs_lineWrite (s : State) (agent x : Nat) (data : Bytes) (mask : Nat) :
    (s.lineWrite agent x data mask).tileRegs = s.tileRegs := by
  refine (foldl_keeps State.tileRegs (fun t i => ?_) _ _).trans (tileRegs_taintAcc s _ _)
  split
  · exact tileRegs_poisonRange t _ _
  · exact tileRegs_writeGrans t _ _ _ _ _

@[simp] theorem tileRegs_readU (s : State) (agent a n : Nat) : (s.readU agent a n).1.tileRegs = s.tileRegs :=
  tileRegs_readGrans s agent _

@[simp] theorem tileRegs_mergeRead (s : State) (x n : Nat) : (s.mergeRead x n).1.tileRegs = s.tileRegs := by
  obtain ⟨z, b, hframe⟩ := mergeRead_frame s x n
  rw [hframe]
  rfl

/-! ### A cache -/

@[simp] theorem tileRegs_leave (s : State) (a x : Nat) : (s.leave a x).tileRegs = s.tileRegs := by
  simp [State.leave]

@[simp] theorem tileRegs_cacheErr (s : State) (a e kind : Nat) : (s.cacheErr a e kind).tileRegs = s.tileRegs := by
  simp [State.cacheErr]

@[simp] theorem tileRegs_countCe (s : State) (a e k : Nat) : (s.countCe a e k).1.tileRegs = s.tileRegs :=
  foldl_keeps State.tileRegs (fun t _ => tileRegs_cacheErr t a e 1) _ _

@[simp] theorem tileRegs_entryOff (s : State) (a e : Nat) : (s.entryOff a e).tileRegs = s.tileRegs := by
  simp [State.entryOff]

@[simp] theorem tileRegs_writeBack (s : State) (a e : Nat) (dirty keep poison : Bool) :
    (s.writeBack a e dirty keep poison).tileRegs = s.tileRegs := by
  simp [State.writeBack]

@[simp] theorem tileRegs_evict (s : State) (a e : Nat) : (s.evict a e).tileRegs = s.tileRegs := by
  unfold State.evict
  dsimp only
  split <;> simp

@[simp] theorem tileRegs_tallyCe (s : State) (a e k : Nat) : (s.tallyCe a e k).tileRegs = s.tileRegs := by
  simp [State.tallyCe]

@[simp] theorem tileRegs_dropCopy (s : State) (a x : Nat) : (s.dropCopy a x).tileRegs = s.tileRegs := by
  unfold State.dropCopy
  dsimp only
  split
  · exact tileRegs_count s a 6
  · split <;> simp

/-! ### The homes (R204, R208 to R211, Tables 6.7 and 6.8) -/

@[simp] theorem tileRegs_stopMarch (s : State) (x n : Nat) : (s.stopMarch x n).tileRegs = s.tileRegs := by
  simp [State.stopMarch]

@[simp] theorem tileRegs_sendInv (s : State) (x : Nat) (ags : List Nat) : (s.sendInv x ags).tileRegs = s.tileRegs :=
  foldl_keeps State.tileRegs (fun t a => tileRegs_send t { kind := .inv, line := x, agent := a }) _ s

@[simp] theorem tileRegs_laterStash (s : State) (m : CohMsg) : (s.laterStash m).tileRegs = s.tileRegs := by
  unfold State.laterStash
  split <;> rfl

@[simp] theorem tileRegs_serveWrU (s : State) (m : CohMsg) : (s.serveWrU m).tileRegs = s.tileRegs := by
  simp [State.serveWrU]

@[simp] theorem tileRegs_mergeWrU (s : State) (m : CohMsg) (d : Bytes) (mask : Nat) :
    (s.mergeWrU m d mask).tileRegs = s.tileRegs := by
  unfold State.mergeWrU
  dsimp only
  rw [tileRegs_laterStash, tileRegs_send]
  refine (foldl_keeps State.tileRegs (fun t g => ?_) _ _).trans (by simp)
  split <;> simp

@[simp] theorem tileRegs_serveRdU (s : State) (m : CohMsg) : (s.serveRdU m).tileRegs = s.tileRegs := by
  simp [State.serveRdU, apply_ite Prod.fst]

@[simp] theorem tileRegs_stash (s : State) (x t : Nat) : (s.stash x t).tileRegs = s.tileRegs := by
  unfold State.stash
  dsimp only
  repeat' split
  all_goals simp

@[simp] theorem tileRegs_serveFree (s : State) (m : CohMsg) : (s.serveFree m).tileRegs = s.tileRegs := by
  unfold State.serveFree
  dsimp only
  repeat' split
  all_goals simp

@[simp] theorem tileRegs_countMet (s : State) (i : Nat) : (s.countMet i).tileRegs = s.tileRegs := by
  unfold State.countMet
  dsimp only
  repeat' split
  all_goals simp

@[simp] theorem tileRegs_invalidate (s : State) (i : Nat) (m : CohMsg) : (s.invalidate i m).tileRegs = s.tileRegs := by
  simp [State.invalidate]

@[simp] theorem tileRegs_serve (s : State) (m : CohMsg) : (s.serve m).tileRegs = s.tileRegs := by
  unfold State.serve
  dsimp only
  repeat' split
  all_goals simp

@[simp] theorem tileRegs_request (s : State) (m : CohMsg) : (s.request m).tileRegs = s.tileRegs := by
  simp [State.request]

/-- Serving the requests that waited keeps what serving one keeps. -/
theorem tileRegs_settleGo (k : Nat) (s : State) (x : Nat) : (State.settleGo k s x).tileRegs = s.tileRegs := by
  induction k generalizing s with
  | zero => rfl
  | succ k ih =>
    have hserved (l : List CohMsg) (t : State) : (l.foldl (fun t m => t.request m) t).tileRegs = t.tileRegs :=
      foldl_keeps State.tileRegs tileRegs_request l t
    unfold State.settleGo
    dsimp only
    split
    · exact (ih _).trans (hserved _ _)
    · exact hserved _ _

@[simp] theorem tileRegs_settle (s : State) (x : Nat) : (s.settle x).tileRegs = s.tileRegs := tileRegs_settleGo _ s x

@[simp] theorem tileRegs_putMemory (s : State) (m : CohMsg) : (s.putMemory m).tileRegs = s.tileRegs := by
  unfold State.putMemory
  dsimp only
  repeat' split
  all_goals simp

@[simp] theorem tileRegs_putStable (s : State) (m : CohMsg) : (s.putStable m).tileRegs = s.tileRegs := by
  unfold State.putStable
  dsimp only
  repeat' split
  all_goals simp

@[simp] theorem tileRegs_put (s : State) (m : CohMsg) : (s.put m).tileRegs = s.tileRegs := by
  unfold State.put
  dsimp only
  repeat' split
  all_goals simp

@[simp] theorem tileRegs_releasePuts (s : State) (puts : List CohMsg) : (s.releasePuts puts).tileRegs = s.tileRegs :=
  foldl_keeps State.tileRegs tileRegs_put puts s

@[simp] theorem tileRegs_stable (s : State) (i : Nat) (e : DirEnt) (puts : List CohMsg) : (s.stable i e puts).tileRegs = s.tileRegs := by
  simp [State.stable]

@[simp] theorem tileRegs_forwarded (s : State) (i : Nat) (m : CohMsg) : (s.forwarded i m).tileRegs = s.tileRegs := by
  unfold State.forwarded
  dsimp only
  repeat' split
  all_goals simp

@[simp] theorem tileRegs_snpAnswer (s : State) (m : CohMsg) : (s.snpAnswer m).tileRegs = s.tileRegs := by
  unfold State.snpAnswer
  dsimp only
  repeat' split
  all_goals simp

@[simp] theorem tileRegs_stashAnswer (s : State) (m : CohMsg) (accepted : Bool) : (s.stashAnswer m accepted).tileRegs = s.tileRegs := by
  unfold State.stashAnswer
  dsimp only
  repeat' split
  all_goals simp

/-! ### A lost or cleaned cache (R215, R226) -/

@[simp] theorem tileRegs_reclaimEnt (s : State) (a i : Nat) : (s.reclaimEnt a i).1.tileRegs = s.tileRegs := by
  unfold State.reclaimEnt
  dsimp only
  repeat' split
  all_goals simp

@[simp] theorem tileRegs_reclaim (s : State) (a : Nat) : (s.reclaim a).tileRegs = s.tileRegs := by
  unfold State.reclaim
  dsimp only
  rw [tileRegs_raise, tileRegs_setCtl, tileRegs_update]
  refine (foldl_keeps_fst State.tileRegs (fun p i => ?_) _ _).trans rfl
  exact tileRegs_reclaimEnt p.1 a i

@[simp] theorem tileRegs_flushEnt (s : State) (a e : Nat) : (s.flushEnt a e).tileRegs = s.tileRegs := by
  unfold State.flushEnt
  dsimp only
  repeat' split
  all_goals simp

@[simp] theorem tileRegs_flushCache (s : State) (a : Nat) : (s.flushCache a).tileRegs = s.tileRegs := by
  have hflush : ((List.range 48).foldl (fun u e => u.flushEnt a e) s).tileRegs = s.tileRegs :=
    foldl_keeps State.tileRegs (fun t e => tileRegs_flushEnt t a e) _ s
  simp [State.flushCache, hflush]

/-! ### Cores that stop (R53, R73, R111, R301) -/

@[simp] theorem tileRegs_endWait (s : State) (a : Nat) : (s.endWait a).tileRegs = s.tileRegs := by
  unfold State.endWait
  split <;> simp

@[simp] theorem tileRegs_stopCore (s : State) (a : Nat) : (s.stopCore a).tileRegs = s.tileRegs := by
  simp [State.stopCore]

@[simp] theorem tileRegs_quietCore (s : State) (a : Nat) : (s.quietCore a).tileRegs = s.tileRegs := by
  simp [State.quietCore]

@[simp] theorem tileRegs_stopMcore (s : State) (i : Nat) : (s.stopMcore i).tileRegs = s.tileRegs := by
  simp [State.stopMcore]

@[simp] theorem tileRegs_clearMcore (s : State) (i : Nat) : (s.clearMcore i).tileRegs = s.tileRegs := rfl

@[simp] theorem tileRegs_fenceMcore (s : State) (i : Nat) : (s.fenceMcore i).tileRegs = s.tileRegs := by
  simp [State.fenceMcore]

@[simp] theorem tileRegs_abortXfers (s : State) (agents mcores : List Nat) : (s.abortXfers agents mcores).tileRegs = s.tileRegs := by
  refine foldl_keeps State.tileRegs (fun t i => ?_) _ s
  dsimp only
  split <;> rfl

@[simp] theorem tileRegs_stopTile (s : State) (t : Nat) : (s.stopTile t).tileRegs = s.tileRegs :=
  (foldl_keeps State.tileRegs tileRegs_stopMcore _ _).trans (foldl_keeps State.tileRegs tileRegs_stopCore _ s)

@[simp] theorem tileRegs_zeroTile (s : State) (t : Nat) : (s.zeroTile t).tileRegs = s.tileRegs :=
  foldl_keeps State.tileRegs tileRegs_zeroTcm _ s

@[simp] theorem tileRegs_freeRanges (s : State) (l : List (Nat × Nat)) : (s.freeRanges l).tileRegs = s.tileRegs := by
  refine foldl_keeps State.tileRegs (fun t r => ?_) l s
  split
  · exact tileRegs_freeRange t _ _
  · rfl

/-! ### Catchment units that enter RESTRICTED (R181, R188) -/

@[simp] theorem tileRegs_setSlotAt (s : State) (n k : Nat) (x : CatSlot) : (s.setSlotAt n k x).tileRegs = s.tileRegs := rfl

@[simp] theorem tileRegs_postAdd (s : State) (src cell : Nat) (x : Word) (agent : Option Nat) :
    (s.postAdd src cell x agent).tileRegs = s.tileRegs := rfl

@[simp] theorem tileRegs_catFail (s : State) (n k : Nat) (st : Status) : (s.catFail n k st).tileRegs = s.tileRegs := by
  have hfreed (l : List Nat) (o p : Nat) : (l.foldl (fun t i => t.freeRange (p + i * o) o) s).tileRegs = s.tileRegs :=
    foldl_keeps State.tileRegs (fun t i => tileRegs_freeRange t _ _) l s
  simp [State.catFail, hfreed]

@[simp] theorem tileRegs_catRestrict (s : State) (n : Nat) : (s.catRestrict n).tileRegs = s.tileRegs := by
  refine (tileRegs_setCat _ _ _).trans (foldl_keeps State.tileRegs (fun t k => ?_) _ s)
  dsimp only
  split
  · rfl
  · split
    · exact tileRegs_catFail t n k _
    · rfl

@[simp] theorem tileRegs_enterQuiesce (s : State) (t : Nat) (core : Option (Nat × Nat)) : (s.enterQuiesce t core).tileRegs = s.tileRegs := by
  unfold State.enterQuiesce
  have quiet (l : List Nat) (u : State) : (l.foldl State.quietCore u).tileRegs = u.tileRegs :=
    foldl_keeps State.tileRegs tileRegs_quietCore l u
  have restrict (l : List Nat) (u : State) : (l.foldl State.catRestrict u).tileRegs = u.tileRegs :=
    foldl_keeps State.tileRegs tileRegs_catRestrict l u
  split
  · split
    · rfl
    · exact quiet _ s
  · split
    · exact (restrict _ _).trans (quiet _ s)
    · rfl

end Sys2Proof.Machine

/-!
PROOF. O51: units that fail and are fenced (R401, R402), REPAIR FENCE and READMIT (R287, R407), and a tile die that loses its clock
(R362, R408).
-/

namespace Sys2Proof.Machine

/-! ### A unit that is fenced (R402) -/

/-- A tile that is fenced, or one of whose cores is: its epoch advances. -/
def Tile.fence (x : Tile) (core : Option (Nat × Nat)) : Tile :=
  match core with
  | some u => { x with fencedCores := x.fencedCores ++ [u], epoch := (x.epoch + 1) % 2 ^ 32 }
  | none => { x with fenced := true, epoch := (x.epoch + 1) % 2 ^ 32 }

/-- The cores of a fenced unit stop, and what is sent to them aborts. -/
def State.stopUnit (s : State) (t : Nat) (core : Option (Nat × Nat)) : State :=
  ((unitMcores t core).foldl State.fenceMcore ((unitAgents t core).foldl State.stopCore s)).abortXfers (unitAgents t core) (unitMcores t core)

/-- The caches of a fenced unit are reclaimed, or cleaned when it is healthy. -/
def State.dropCaches (s : State) (t : Nat) (core : Option (Nat × Nat)) (healthy : Bool) : State :=
  let u := (unitAgents t core).foldl (fun u a => if healthy then u.flushCache a else u.reclaim a) s
  (unitAgents t core).foldl (fun u a => u.setCtl a { u.ctl a with invdone := false }) u

theorem tileRegs_stopUnit (s : State) (t : Nat) (core : Option (Nat × Nat)) : (s.stopUnit t core).tileRegs = s.tileRegs :=
  (tileRegs_abortXfers _ _ _).trans <| (foldl_keeps State.tileRegs tileRegs_fenceMcore _ _).trans <|
    foldl_keeps State.tileRegs tileRegs_stopCore _ s

theorem tileRegs_dropCaches (s : State) (t : Nat) (core : Option (Nat × Nat)) (healthy : Bool) :
    (s.dropCaches t core healthy).tileRegs = s.tileRegs := by
  refine (foldl_keeps State.tileRegs (fun u a => tileRegs_setCtl u a _) _ _).trans (foldl_keeps State.tileRegs (fun u a => ?_) _ s)
  split
  · exact tileRegs_flushCache u a
  · exact tileRegs_reclaim u a

/-- Releasing the tiles of a task keeps the registers. -/
theorem regs_releaseTiles (s : State) (k : Task) : (s.releaseTiles k).host.regs = s.host.regs := by
  refine foldl_keeps (fun u : State => u.host.regs) (fun u i => ?_) k.tiles (s.dropScheds k.id)
  rfl

/-- So does abandoning its LAUNCH. -/
theorem regs_abandonTask (s : State) (k : Task) (st : Status) : (s.abandonTask k st).host.regs = s.host.regs := by
  have hstop : (k.tiles.foldl (fun u t => (u.stopTile t).zeroTile t) s).tileRegs = s.tileRegs :=
    foldl_keeps State.tileRegs (fun u t => (tileRegs_zeroTile _ t).trans (tileRegs_stopTile u t)) _ s
  have hregs := congrArg Prod.snd ((tileRegs_freeRanges _ k.ranges).trans hstop)
  have hreleased := (regs_releaseTiles _ k).trans hregs
  unfold State.abandonTask
  dsimp only
  split
  · exact hreleased
  · exact hreleased

/-- Fencing a unit stops it, marks its tile, drops its caches and tells of it; a LAUNCH on the tile was abandoned before. -/
theorem fenceUnit_eq (s : State) (t : Nat) (core : Option (Nat × Nat)) (healthy : Bool) : ∃ u : State, u.host.regs = s.host.regs ∧
    s.fenceUnit t core healthy = (((u.stopUnit t core).setTile t (((u.stopUnit t core).tile t).fence core)).dropCaches t core
      healthy).markDist.raise 0x014 (unitPayload t core) := by
  cases core with
  | some u => exact ⟨s, rfl, rfl⟩
  | none =>
    unfold State.fenceUnit
    dsimp only
    generalize Option.bind _ _ = k
    cases k with
    | none => exact ⟨s, rfl, rfl⟩
    | some k => exact ⟨s.abandonTask k .aborted, regs_abandonTask s k .aborted, rfl⟩

/-- Telling of a change that the distance table shows leaves it marked, and the tiles and the registers as they are. -/
theorem markDist_raise (s : State) (code payload : Nat) :
    (s.markDist.raise code payload).dist.dirty = true ∧ (s.markDist.raise code payload).tileRegs = s.tileRegs := by
  rw [raise_frame]
  exact ⟨rfl, rfl⟩

theorem tile_of_tileRegs {s t : State} (h : s.tileRegs = t.tileRegs) (i : Nat) : s.tile i = t.tile i := by
  have htiles : s.tiles = t.tiles := congrArg Prod.fst h
  unfold State.tile
  rw [htiles]

/-- What fencing a unit leaves: the registers in force as they are, the unit fenced and the distance table marked. -/
structure Fenced (s : State) (t : Nat) (core : Option (Nat × Nat)) (u : State) : Prop where
  regs : u.host.regs = s.host.regs
  tile : ∃ x : Tile, u.tile t = x.fence core
  marked : u.dist.dirty = true

theorem fenced_fenceUnit (s : State) (t : Nat) (core : Option (Nat × Nat)) (healthy : Bool) :
    Fenced s t core (s.fenceUnit t core healthy) := by
  obtain ⟨u, hregs, hu⟩ := fenceUnit_eq s t core healthy
  rw [hu]
  have hstop := congrArg Prod.snd (tileRegs_stopUnit u t core)
  generalize u.stopUnit t core = v at hstop ⊢
  have hdrop := tileRegs_dropCaches (v.setTile t ((v.tile t).fence core)) t core healthy
  generalize State.dropCaches _ t core healthy = w at hdrop ⊢
  obtain ⟨hdirty, htold⟩ := markDist_raise w 0x014 (unitPayload t core)
  have hall := htold.trans hdrop
  generalize w.markDist.raise _ _ = z at hdirty hall ⊢
  refine ⟨(congrArg Prod.snd hall).trans (hstop.trans hregs), ⟨v.tile t, ?_⟩, hdirty⟩
  rw [tile_of_tileRegs hall, tile_setTile, if_pos rfl]

/-! ### A unit that fails (R401) -/

/-- With automatic sparing off, no recovery begins by itself. -/
theorem startRecovery_manual {s : State} (hspare : s.autospare = false) (t : Nat) (core : Option (Nat × Nat)) :
    s.startRecovery t core none = s := if_pos (by simp [hspare])

/-- The register that switches automatic sparing is kept. -/
theorem autospare_of_regs {s u : State} (hregs : u.host.regs = s.host.regs) : u.autospare = s.autospare := by
  unfold State.autospare State.reg
  rw [hregs]

/-- With automatic sparing off, fencing a unit is all that its failure does. -/
theorem recovered_fenceUnit {s : State} (hspare : s.autospare = false) (t : Nat) (core : Option (Nat × Nat)) (healthy : Bool) :
    (s.fenceUnit t core healthy).startRecovery t core none = s.fenceUnit t core healthy :=
  startRecovery_manual ((autospare_of_regs (fenced_fenceUnit s t core healthy).regs).trans hspare) t core

theorem failUnit_manual {s : State} (hspare : s.autospare = false) {t : Nat} {core : Option (Nat × Nat)}
    (hpresent : s.unitPresent t core = true) (hnew : s.unitFenced t core = false) :
    s.failUnit t core = s.fenceUnit t core false :=
  (if_neg (by simp [hpresent, hnew])).trans (recovered_fenceUnit hspare t core false)

/-- A command that fails a unit leaves it fenced. -/
theorem does_failUnit {n : Instr} {s : State} {t : Nat} {core : Option (Nat × Nat)} {P : State → Prop}
    (hexec : exec n s = done s (s.failUnit t core)) (hspare : s.autospare = false) (hpresent : s.unitPresent t core = true)
    (hnew : s.unitFenced t core = false)
    (hP : ∀ u x, State.tile u t = Tile.fence x core → u.dist.dirty = true → P u) : Does n s P := by
  rw [failUnit_manual hspare hpresent hnew] at hexec
  obtain ⟨-, ⟨x, hx⟩, hdirty⟩ := fenced_fenceUnit s t core false
  generalize s.fenceUnit t core false = u at hexec hx hdirty
  exact does_done hexec (hP _ x hx hdirty)

/-! ### REPAIR FENCE and READMIT (R287, R407) -/

/-- A REPAIR that passes its checks runs as its action says. -/
theorem repairCmd_of_ok {s : State} {id a : Nat} {c : HostCmd} (hrun : Runs s id 0xC c) (hact : rpAction c.desc = a)
    (hok : repairCheck s c.fn c.desc = .ok) (f : HostCmd → State) : s.repairCmd id a f = f c := by
  rw [State.repairCmd, withCmd_of_runs hrun]
  simp [hok, hact]

/-- A command that completes is dispatched no more. -/
theorem cmd_complete {s u : State} {id : Nat} {c : HostCmd} (hcmd : s.cmd id = some c) (st : Status) (detail result : Nat) :
    (u.complete c st detail result).cmd id = none := by
  have hfound : s.host.cmds.find? (fun x => x.id == id) = some c := hcmd
  have hid : c.id = id := by simpa using List.find?_some hfound
  obtain ⟨hcmds, -, -⟩ := complete_ended u c st detail result
  rw [State.cmd, hcmds, List.find?_eq_none]
  intro x hx
  have hne : x.id ≠ c.id := bne_iff_ne.1 (List.mem_filter.1 hx).2
  rw [← hid]
  simpa using hne

theorem does_repairFence {s : State} {i id : Nat} {c : HostCmd} (hspare : s.autospare = false) (hrun : Runs s id 0xC c)
    (hact : rpAction c.desc = 0) (hok : repairCheck s c.fn c.desc = .ok) (htile : rpTile c.desc = i) (hcore : rpCore c.desc = none) :
    Does (.repairFence id) s fun t => (t.tile i).fenced = true ∧ t.cmd id = none ∧ t.dist.dirty = true := by
  have hexec : exec (.repairFence id) s = done s ((s.fenceUnit i none true).complete c .ok 0 0) := by
    refine congrArg (done s) ((repairCmd_of_ok hrun hact hok _).trans ?_)
    rw [htile, hcore, recovered_fenceUnit hspare]
    rfl
  obtain ⟨-, ⟨x, hx⟩, hdirty⟩ := fenced_fenceUnit s i none true
  generalize s.fenceUnit i none true = u at hexec hx hdirty
  exact does_done hexec ⟨congrArg Tile.fenced hx, cmd_complete hrun.1 .ok 0 0, hdirty⟩

@[simp] theorem tileRegs_freshCore (s : State) (a : Nat) : (s.freshCore a).tileRegs = s.tileRegs := by
  have hdisarm : ((List.range 8).foldl (fun u n => u.cancelWait (.coreArm a n)) s).tileRegs = s.tileRegs :=
    foldl_keeps State.tileRegs (fun u n => tileRegs_cancelWait u (.coreArm a n)) _ s
  simp [State.freshCore, hdisarm]

@[simp] theorem tileRegs_bootScore (s : State) (a entry a1 a2 a3 cls : Nat) : (s.bootScore a entry a1 a2 a3 cls).tileRegs = s.tileRegs := by
  simp [State.bootScore]

@[simp] theorem tileRegs_readmitCore (s : State) (t a : Nat) : (s.readmitCore t a).tileRegs = s.tileRegs := by
  unfold State.readmitCore
  dsimp only
  repeat' split
  all_goals simp

/-- The cores of a re-admitted tile start afresh. -/
def State.readmitCores (s : State) (t : Nat) : State :=
  (unitAgents t none).foldl (fun u a => u.readmitCore t a) ((unitMcores t none).foldl (fun u i => u.setMc i {}) s)

theorem tileRegs_readmitCores (s : State) (t : Nat) : (s.readmitCores t).tileRegs = s.tileRegs :=
  (foldl_keeps State.tileRegs (fun u a => tileRegs_readmitCore u t a) _ _).trans
    (foldl_keeps State.tileRegs (fun u i => tileRegs_setMc u i {}) _ s)

/-- A tile that is powered is re-admitted with all its cores, and its epoch advances. -/
theorem readmit_powered {s : State} {t : Nat} (hup : (s.tile t).off = false) : s.readmit t none =
    ((s.setTile t { s.tile t with fenced := false, fencedCores := [], off := false, epoch := ((s.tile t).epoch + 1) % 2 ^ 32 }).readmitCores
      t).markDist := by
  unfold State.readmit
  simp only [hup, Option.isNone_none, Bool.and_false, Bool.false_eq_true, if_false, b2n, Nat.add_zero]
  rfl

theorem does_repairReadmit {s : State} {i id : Nat} {c : HostCmd} (hrun : Runs s id 0xC c) (hact : rpAction c.desc = 1)
    (hok : repairCheck s c.fn c.desc = .ok) (htile : rpTile c.desc = i) (hcore : rpCore c.desc = none) (hup : (s.tile i).off = false)
    (hfree : s.svc.repairs = []) : Does (.repairReadmit id) s fun t => (t.tile i).fenced = false ∧ (t.tile i).fencedCores = [] ∧
      (t.tile i).epoch = ((s.tile i).epoch + 1) % 2 ^ 32 ∧ (∀ j, j ≠ i → t.tile j = s.tile j) ∧ t.cmd id = none ∧
      t.dist.dirty = true := by
  have hexec : exec (.repairReadmit id) s =
      done s ((s.readmit i none).complete c .ok 0 ((s.readmit i none).tile i).epoch) := by
    refine congrArg (done s) ((repairCmd_of_ok hrun hact hok _).trans ?_)
    simp only [hfree, htile, hcore, List.any_nil, Bool.false_eq_true, if_false]
  rw [readmit_powered hup] at hexec
  have hcores := tileRegs_readmitCores
    (s.setTile i { s.tile i with fenced := false, fencedCores := [], off := false, epoch := ((s.tile i).epoch + 1) % 2 ^ 32 }) i
  generalize State.readmitCores _ i = u at hexec hcores
  have hall (j : Nat) : u.markDist.tile j = if j = i then
      { s.tile i with fenced := false, fencedCores := [], off := false, epoch := ((s.tile i).epoch + 1) % 2 ^ 32 } else s.tile j := by
    rw [← tile_setTile]
    exact tile_of_tileRegs (s := u.markDist) hcores j
  have hi := (hall i).trans (if_pos rfl)
  exact does_done hexec ⟨congrArg Tile.fenced hi, congrArg Tile.fencedCores hi, congrArg Tile.epoch hi,
    fun j hj => (hall j).trans (if_neg hj), cmd_complete hrun.1 .ok 0 _, rfl⟩

/-! ### A tile die that loses its clock (R362, R408) -/

/-- A running tile whose die is reset is fenced and waits for its clock, and its partition is quiesced when it runs a task. -/
theorem exec_tileDieReset {s : State} {i n : Nat} (hi : i < 32) (hsite : (s.tile i).site = some n) (hup : (s.tile i).off = false)
    (hclock : (s.tile i).clockLost = false) (hnew : (s.tile i).fenced = false) :
    ∃ u v : State, Fenced (s.setSite n { s.site n with bs := 3 }) i none u ∧
      v.tileRegs = (u.setTile i { u.tile i with clockLost := true }).tileRegs ∧ exec (.tileDieReset i) s = done s v := by
  have hfenced := fenced_fenceUnit (s.setSite n { s.site n with bs := 3 }) i none false
  have hexec : exec (.tileDieReset i) s = execTileDieReset i s := rfl
  unfold execTileDieReset at hexec
  rw [within_of_lt hi] at hexec
  simp only [hsite, hup, hclock, hnew, Bool.or_false, Bool.false_eq_true, if_false] at hexec
  refine ⟨_, _, hfenced, ?_, hexec⟩
  generalize State.fenceUnit _ i none false = u
  split
  · exact tileRegs_enterQuiesce _ _ _
  · rfl

theorem does_tileDieReset {s : State} {i n : Nat} (hi : i < 32) (hsite : (s.tile i).site = some n) (hup : (s.tile i).off = false)
    (hclock : (s.tile i).clockLost = false) (hnew : (s.tile i).fenced = false) :
    Does (.tileDieReset i) s fun t => (t.tile i).fenced = true ∧ (t.tile i).clockLost = true := by
  obtain ⟨u, v, ⟨-, ⟨x, hx⟩, -⟩, hv, hexec⟩ := exec_tileDieReset hi hsite hup hclock hnew
  have htile : v.tile i = { u.tile i with clockLost := true } := by
    rw [tile_of_tileRegs hv, tile_setTile, if_pos rfl]
  rw [hx] at htile
  exact does_done hexec ⟨congrArg Tile.fenced htile, congrArg Tile.clockLost htile⟩

/-- The end of the wait of a tile keeps the sites. -/
theorem endClockWait_ends (s : State) (t : Nat) :
    ((s.endClockWait t).tile t).clockLost = false ∧ (s.endClockWait t).sites = s.sites := by
  unfold State.endClockWait
  dsimp only
  obtain ⟨x, hx⟩ := leaveQuiesce_frame { s.setTile t { s.tile t with clockLost := false } with
    svc.repairs := (s.setTile t { s.tile t with clockLost := false }).svc.repairs.filter (fun e => e.tile != t) } t none
  rw [hx]
  exact ⟨congrArg Tile.clockLost ((tile_setTile s t _ t).trans (if_pos rfl)), rfl⟩

/-- A tile without a partition has no quiesce that ends. -/
theorem leaveQuiesce_alone {s : State} {t : Nat} (hpart : (s.tile t).part = none) (core : Option (Nat × Nat)) :
    s.leaveQuiesce t core = s := by
  unfold State.leaveQuiesce
  rw [hpart]
  cases core <;> rfl

/-- A tile without a partition, with automatic sparing off and no recovery under way, only stops waiting. -/
theorem clockFailed_alone {s : State} {i : Nat} (hspare : s.autospare = false) (hpart : (s.tile i).part = none)
    (hfree : s.svc.repairs = []) : s.clockFailed i = s.setTile i { s.tile i with clockLost := false } := by
  have hnone : s.svc.repairs.filter (fun e => e.tile != i) = s.svc.repairs := by
    rw [hfree]
    rfl
  have hwait : s.endClockWait i = s.setTile i { s.tile i with clockLost := false } := by
    unfold State.endClockWait
    dsimp only
    rw [setTile_svc, hnone]
    refine leaveQuiesce_alone ?_ none
    exact (congrArg Tile.part ((tile_setTile s i _ i).trans (if_pos rfl))).trans hpart
  have hmanual : ¬ (s.autospare && s.hasSpare i none) = true := by simp [hspare]
  unfold State.clockFailed
  rw [if_neg hmanual, hwait]
  exact startRecovery_manual (s := s.setTile i { s.tile i with clockLost := false }) hspare i none

/-- A tile whose clock does not come back, with nothing else to do, stops waiting for it. -/
theorem does_clockFailed {n : Instr} {s : State} {i : Nat} (hexec : exec n s = done s (s.clockFailed i)) (hspare : s.autospare = false)
    (hpart : (s.tile i).part = none) (hfree : s.svc.repairs = []) : Does n s fun t =>
      t.tile i = { s.tile i with clockLost := false } ∧ (∀ j, j ≠ i → t.tile j = s.tile j) ∧ t = { s with tiles := t.tiles } := by
  rw [clockFailed_alone hspare hpart hfree] at hexec
  exact does_of_done hexec rfl ⟨(tile_setTile s i _ i).trans (if_pos rfl), fun j hj => (tile_setTile s i _ j).trans (if_neg hj), rfl⟩

/-- Losing what a tile's die held keeps what zeroing and freeing memory and clearing an M-core keep. -/
theorem loseTile_keeps {β : Type} (g : State → β) (hzero : ∀ u a, g (State.zeroTcm u a) = g u)
    (hfree : ∀ u a n, g (State.freeRange u a n) = g u) (hclear : ∀ u k, g (State.clearMcore u k) = g u) (s : State) (t : Nat) :
    g (s.loseTile t) = g s := by
  unfold State.loseTile
  dsimp only
  rw [foldl_keeps g hclear]
  exact foldl_keeps g (fun u a => (hfree _ _ _).trans (hzero u a)) _ s

theorem sites_loseTile (s : State) (t : Nat) : (s.loseTile t).sites = s.sites := by
  refine loseTile_keeps State.sites (fun u a => rfl) (fun u a n => ?_) (fun u k => setMc_sites u k _) s t
  obtain ⟨x, hx⟩ := freeRange_frame u a n
  rw [hx]

theorem tileRegs_loseTile (s : State) (t : Nat) : (s.loseTile t).tileRegs = s.tileRegs :=
  loseTile_keeps State.tileRegs tileRegs_zeroTcm tileRegs_freeRange tileRegs_clearMcore s t

/-- A tile whose clock comes back and that passes its segments is back in service at its die, still fenced, with a new epoch. -/
theorem does_clockReturn {s : State} {i n : Nat} (hi : i < 32) (hsite : (s.tile i).site = some n) (hclock : (s.tile i).clockLost = true) :
    Does (.tileClockReturn i true) s fun t => (t.tile i).clockLost = false ∧ (t.site n).bs = 2 ∧ t.dist.dirty = true := by
  have hexec : exec (.tileClockReturn i true) s = execTileClockReturn i true s := rfl
  unfold execTileClockReturn at hexec
  rw [within_of_lt hi] at hexec
  simp only [hsite, hclock, Bool.not_true, Bool.false_eq_true, if_false, if_true] at hexec
  obtain ⟨hends, hbonded⟩ := endClockWait_ends (s.setSite n { s.site n with bs := 2 }) i
  generalize State.endClockWait _ i = v at hexec hends hbonded
  have htiles := tileRegs_loseTile v i
  have hsites := (sites_loseTile v i).trans hbonded
  generalize v.loseTile i = u at hexec htiles hsites
  have hbs : (u.site n).bs = 2 := by
    unfold State.site
    rw [hsites]
    exact congrArg Site.bs ((site_setSite s n _ n).trans (if_pos rfl))
  refine does_done hexec ⟨?_, hbs, rfl⟩
  refine (congrArg Tile.clockLost ((tile_setTile u i _ i).trans (if_pos rfl))).trans ?_
  rw [← hends, ← tile_of_tileRegs htiles]

/-! ### The obligation -/

/-- Settles O51: fencing marks the tile before its caches are dropped, and nothing after that touches a tile. -/
theorem fencingAndReadmission : Obligations.FencingAndReadmission := by
  intro s i n r p id c hi hsite
  refine ⟨fun hspare hnew hup => ⟨?unit, ?lock⟩, fun hspare hpresent hnew => ?core, does_repairFence, does_repairReadmit,
    fun hnew hup hclock => does_tileDieReset hi hsite hup hclock hnew, fun hclock hspare hpart hfree => ⟨?lost, ?late⟩,
    does_clockReturn hi hsite⟩
  case unit =>
    exact does_failUnit (t := i) (core := none) (within_of_lt hi) hspare (by simp [State.unitPresent, hsite])
      (by simp [State.unitFenced, hnew, hup]) fun u x hx hdirty => ⟨congrArg Tile.fenced hx, hdirty⟩
  case lock =>
    exact does_failUnit (t := i) (core := none) (within_of_lt hi) hspare (by simp [State.unitPresent, hsite])
      (by simp [State.unitFenced, hnew, hup]) fun u x hx hdirty => ⟨congrArg Tile.fenced hx, hdirty⟩
  case core =>
    refine does_failUnit (t := i) (core := some (r, p)) (within_of_lt hi) hspare hpresent hnew fun u x hx hdirty => ⟨?_, hdirty⟩
    rw [hx]
    simp [Tile.fence]
  case lost =>
    refine does_clockFailed ((within_of_lt hi).trans ?_) hspare hpart hfree
    simp [hsite, hclock]
  case late =>
    exact does_clockFailed ((within_of_lt hi).trans (congrArg (done s) (if_pos hclock))) hspare hpart hfree

end Sys2Proof.Machine

/-!
PROOF. O5, O6 and O7: the commands of a sync unit on a cell without errors (R294 to R298), and the waiters of its table and of its
queue, their WAKEs and their cancellation (R299 to R301).
-/

namespace Sys2Proof.Machine

/-! ### What an operation leaves unchanged (R294, R295) -/

/-- From `s` to `t` the sync units, the armed flips and the answer may change, and nothing else. -/
abbrev UnitFrame (s t : State) : Prop := t = { s with sync := t.sync, svc := t.svc, out := t.out }

theorem UnitFrame.leaves {s t : State} (h : UnitFrame s t) : Leaves s t t := by
  unfold Leaves
  rw [h]

theorem UnitFrame.answer {s t : State} (h : UnitFrame s t) (v : Word) (st : Status) : UnitFrame s (t.answer v st) := by
  unfold UnitFrame State.answer
  rw [h]

theorem unitFrame_putCell (s : State) (i : Nat) (v : Word) : UnitFrame s (s.putCell i v) := by
  obtain ⟨x, y, z, w, hput⟩ := putCell_frame s i v
  rw [hput]

theorem out_putCell (s : State) (i : Nat) (v : Word) : (s.putCell i v).out = s.out := by
  obtain ⟨x, y, z, w, hput⟩ := putCell_frame s i v
  rw [hput]

/-- Storing a value evaluates the waiters that stood in the table before it (R298). -/
theorem waiters_putCell (s : State) (i : Nat) (v : Word) :
    (s.putCell i v).sync.table = (s.evalCell i v).sync.table ∧ (s.putCell i v).sync.wakes = (s.evalCell i v).sync.wakes := by
  unfold State.putCell
  dsimp only
  split <;> exact ⟨rfl, rfl⟩

/-! ### The commands on a sound cell -/

section Sound
variable {s : State} {i : Nat} (h : SoundCell s i)
include h

theorem exec_cellRead_bar4 : exec (.cellRead i .bar4) s = done s (s.answer (s.cell i) .ok) := by
  obtain ⟨hi, herr, hreset⟩ := h
  refine (within_of_lt hi).trans (congrArg (done s) ?_)
  simp [State.mayRead, hreset, readCell_noError _ herr]

theorem exec_cellSet (x : Word) : exec (.cellSet i x) s = done s ((s.putCell i x).answer 0 .ok) := by
  obtain ⟨hi, -, hreset⟩ := h
  exact (within_of_lt hi).trans (congrArg (done s) (if_neg (by simp [hreset])))

theorem exec_cellAdd (x : Word) :
    exec (.cellAdd i x false) s = done s ((s.putCell i (s.cell i + x)).answer (s.cell i) .ok) := by
  refine (within_of_lt h.1).trans (congrArg (done s) ?_)
  simp [h.2.2, cellAdd_sound h]

theorem exec_cellAdd_posted (x : Word) : exec (.cellAdd i x true) s = done s (s.putCell i (s.cell i + x)) := by
  refine (within_of_lt h.1).trans (congrArg (done s) ?_)
  simp [State.performAdd, h.2.2, cellAdd_sound h]

theorem exec_cellCas (e n : Word) : exec (.cellCas i e n) s =
    done s ((if s.cell i = e then s.putCell i n else s.evalCell i (s.cell i)).answer (s.cell i) .ok) := by
  refine (within_of_lt h.1).trans (congrArg (done s) ?_)
  simp [h.2.2, cellCas_sound h]

theorem exec_cellWaitGe (b : Word) (w : Waiter) : exec (.cellWaitGe i b w) s = done s (s.unitWait ⟨i, 0, b.toNat, w⟩) :=
  within_of_lt h.1

theorem exec_cellWaitEq (b : Word) (w : Waiter) : exec (.cellWaitEq i b w) s = done s (s.unitWait ⟨i, 1, b.toNat, w⟩) :=
  within_of_lt h.1

theorem exec_cellArm (b : Word) (w : Waiter) : exec (.cellArm i b w) s = done s (s.unitWait ⟨i, 4, b.toNat, w⟩) :=
  within_of_lt h.1

/-! ### Waits on a sound cell (R298, R299) -/

/-- A registration whose condition does not hold joins the queue when its region's table is full (R299). -/
theorem register_queues {e : WaitEnt} (src : Nat) (he : e.cell = i) (hholds : waitHolds e.kind e.bound (s.cell i) = false)
    (hfull : 1024 ≤ s.waitUsed (i / 2048)) :
    s.register e src = ({ s with sync.queued := s.sync.queued ++ [e] }, .waits) := by
  subst he
  simp [State.register, State.enterWait, readCell_noError _ h.2.1, hholds, Nat.not_lt.2 hfull]

theorem unitWait_holds {kind bound : Nat} (w : Waiter) (hholds : waitHolds kind bound (s.cell i) = true) :
    s.unitWait ⟨i, kind, bound, w⟩ = s.wake w (s.cell i) .ok := by
  refine (if_neg (by simp [h.2.2])).trans ?_
  rw [register_holds h _ rfl hholds]

theorem unitWait_waits {kind bound : Nat} (w : Waiter) (hholds : waitHolds kind bound (s.cell i) = false)
    (hroom : s.waitUsed (i / 2048) < 1024) (hqueue : s.sync.queued.any (fun x => x.cell / 2048 == i / 2048) = false) :
    s.unitWait ⟨i, kind, bound, w⟩ = s.tableWait ⟨i, kind, bound, w⟩ := by
  refine (if_neg (by simp [h.2.2])).trans ?_
  rw [register_waits h _ rfl hholds hroom hqueue]

theorem unitWait_queues {kind bound : Nat} (w : Waiter) (hholds : waitHolds kind bound (s.cell i) = false)
    (hfull : 1024 ≤ s.waitUsed (i / 2048)) :
    s.unitWait ⟨i, kind, bound, w⟩ = { s with sync.queued := s.sync.queued ++ [⟨i, kind, bound, w⟩] } := by
  refine (if_neg (by simp [h.2.2])).trans ?_
  rw [register_queues h _ rfl hholds hfull]

end Sound

/-- Settles O5, clause by clause: the read, the three operations that store, and CAS that stores or only evaluates the waiters. -/
theorem syncCellArithmetic : Obligations.SyncCellArithmetic := by
  unfold Obligations.SyncCellArithmetic
  intro s c x e n h only
  have honly (v : Word) : only (s.putCell c v) :=
    ⟨fun j hj => (cell_putCell s c j v).trans (if_neg hj), unitFrame_putCell s c v⟩
  have hself (v : Word) : (s.putCell c v).cell c = v := (cell_putCell s c c v).trans (if_pos rfl)
  have answered {u : State} (hu : only u) (v : Word) : only (u.answer v .ok) := ⟨hu.1, UnitFrame.answer hu.2 v .ok⟩
  refine ⟨?read, ?set, ?add, ?posted, ?cas⟩
  case read => exact does_of_done (exec_cellRead_bar4 h) rfl rfl
  case set =>
    have hset := answered (honly x) 0
    exact does_of_done (exec_cellSet h x) (UnitFrame.leaves hset.2) ⟨hself x, hset⟩
  case add =>
    have hadd := answered (honly (s.cell c + x)) (s.cell c)
    exact does_of_done (exec_cellAdd h x) (UnitFrame.leaves hadd.2) ⟨hself _, rfl, hadd⟩
  case posted =>
    exact does_of_done (exec_cellAdd_posted h x) (UnitFrame.leaves (honly _).2) ⟨hself _, out_putCell s c _, honly _⟩
  case cas =>
    have hexec := exec_cellCas h e n
    by_cases hv : s.cell c = e
    · rw [if_pos hv] at hexec ⊢
      have hcas := answered (honly n) (s.cell c)
      exact does_of_done hexec (UnitFrame.leaves hcas.2) ⟨hself n, rfl, hcas⟩
    · rw [if_neg hv] at hexec ⊢
      have hcas := answered (u := s.evalCell c (s.cell c)) ⟨fun _ _ => rfl, rfl⟩ (s.cell c)
      exact does_of_done hexec (UnitFrame.leaves hcas.2) ⟨rfl, rfl, hcas⟩

/-- Settles O6: the operations that store, and the three registrations that end at once or enter the table. -/
theorem syncCellWakesWaiters : Obligations.SyncCellWakesWaiters := by
  unfold Obligations.SyncCellWakesWaiters
  intro s c x w h hit woken registers ge
  have hput (v : Word) : woken v (s.putCell c v) := waiters_putCell s c v
  have waits {n : Instr} {kind : Nat} {holds : Bool} (hexec : exec n s = done s (s.unitWait ⟨c, kind, x.toNat, w⟩))
      (hcond : waitHolds kind x.toNat (s.cell c) = holds) : Does n s (registers holds kind) := by
    cases holds with
    | true =>
      rw [unitWait_holds h w hcond] at hexec
      exact does_of_done hexec rfl ⟨fun _ => rfl, nofun⟩
    | false =>
      refine ⟨_, hexec, nofun, fun _ hroom hqueue => ?_⟩
      rw [unitWait_waits h w hcond hroom hqueue]
      exact ⟨rfl, rfl, rfl, rfl, rfl⟩
  refine ⟨?set, ?add, ?posted, ?ge, ?eq, ?arm⟩
  case set => exact does_of_done (exec_cellSet h x) ((unitFrame_putCell s c _).answer _ _).leaves (hput x)
  case add => exact does_of_done (exec_cellAdd h x) ((unitFrame_putCell s c _).answer _ _).leaves (hput _)
  case posted => exact does_of_done (exec_cellAdd_posted h x) (unitFrame_putCell s c _).leaves (hput _)
  case ge => exact waits (exec_cellWaitGe h x w) (waitHolds_ge _ _)
  case eq => exact waits (exec_cellWaitEq h x w) (waitHolds_eq _ _)
  case arm => exact waits (exec_cellArm h x w) (waitHolds_arm _ _)

/-! ### The queue and the WAKEs (R299, R300) -/

/-- The oldest queued registration of a region whose table has room enters it when its condition does not hold. -/
theorem exec_waiterQueuedEnter_enters {s : State} {n : Nat} {e : WaitEnt} (hn : n < 36)
    (hfind : s.sync.queued.find? (fun e => e.cell / 2048 == n) = some e) (hroom : s.waitUsed n < 1024) (h : SoundCell s e.cell)
    (hholds : waitHolds e.kind e.bound (s.cell e.cell) = false) :
    exec (.waiterQueuedEnter n) s = done s ({ s with sync.queued := s.sync.queued.erase e }.tableWait e) := by
  obtain ⟨-, herr, hreset⟩ := h
  have hentered : exec (.waiterQueuedEnter n) s = done s _ := within_of_lt hn
  have hread := readCell_noError (s := { s with sync.queued := s.sync.queued.erase e }) n herr
  rw [hfind] at hentered
  refine hentered.trans (congrArg (done s) ((if_neg (Nat.not_le.2 hroom)).trans ((if_neg (Bool.eq_false_iff.1 hreset)).trans ?_)))
  rw [hread]
  exact if_neg (Bool.eq_false_iff.1 hholds)

/-- A waiter's WAKE is taken and ends its wait. -/
theorem exec_waitWake {s : State} {w : Waiter} {k : Wake} (hfind : s.sync.wakes.find? (fun x => x.w == w) = some k) :
    exec (.waitWake w) s = done s ({ s with sync.wakes := s.sync.wakes.erase k }.woken k) := by
  have hwoken : exec (.waitWake w) s = done s _ := rfl
  rw [hfind] at hwoken
  exact hwoken

/-- A WAKE with a value retires the instruction of the core that waits on a cell for that register. -/
theorem woken_core {s : State} {a rd c : Nat} (hwait : (s.core a).wait = .cell c rd) (v : Word) (k : Nat) :
    s.woken ⟨.core a rd, v, .ok, k⟩ = s.cellRet a rd v := by
  simp [State.woken, hwait]

/-- The instruction of a core that is not stopping is over: its pc moves by 4 and it waits no more. -/
theorem retire_notStopping {c : Core} (hstop : c.stopping = false) : c.retire = { c with pc := c.pc + 4, wait := .none } := by
  unfold Core.retire Core.step
  rw [hstop]
  rfl

theorem retire_setX_notStopping {c : Core} (hstop : c.stopping = false) (x : Tab Nat) (rd : Nat) (v : Word) :
    (Core.setX { c with hpm := x } rd v).retire = { c.setX rd v with pc := c.pc + 4, wait := .none, hpm := x } := by
  refine (retire_notStopping ?_).trans ?_
  · rw [core_setX_stopping]
    exact hstop
  · unfold Core.setX
    split <;> rfl

/-- The core after a sync-cell instruction, when it is not stopping: only its counters may have moved besides. -/
theorem core_cellRet_notStopping {s : State} {a : Nat} (hstop : (s.core a).stopping = false) (rd : Nat) (v : Word) :
    ∃ x, (s.cellRet a rd v).core a =
      { (s.core a).setX rd v with pc := (s.core a).pc + 4, wait := .none, hpm := x } := by
  obtain ⟨x, hcore⟩ := core_cellRet s a rd v
  exact ⟨x, hcore.trans (retire_setX_notStopping hstop x rd v)⟩

/-- Settles O7, clause by clause: the wait that is queued, the queued registration that enters, the WAKE of a core, and the cancel. -/
theorem waitersQueueWakeAndCancel : Obligations.WaitersQueueWakeAndCancel := by
  unfold Obligations.WaitersQueueWakeAndCancel
  intro s w n c a rd k e b v
  refine ⟨fun h hne hfull => ?queued, fun hn hfind hroom h hholds => ?enters, fun hwait hstop hfind => ?wakes, ?cancelled⟩
  case queued =>
    have hexec := exec_cellWaitEq h b w
    rw [unitWait_queues h w ((waitHolds_eq _ b).trans hne) hfull] at hexec
    exact does_of_done hexec rfl rfl
  case enters =>
    exact does_of_done (exec_waiterQueuedEnter_enters hn hfind hroom h hholds) rfl ⟨rfl, rfl, rfl, rfl, rfl⟩
  case wakes =>
    let u := { s with sync.wakes := s.sync.wakes.erase ⟨.core a rd, v, .ok, k⟩ }
    have hexec : exec (.waitWake (.core a rd)) s = done s (u.cellRet a rd v) :=
      (exec_waitWake hfind).trans (congrArg (done s) (woken_core (s := u) hwait v k))
    obtain ⟨x, hself⟩ := core_cellRet_notStopping (s := u) hstop rd v
    obtain ⟨hothers, hframe⟩ := onlyCore_cellRet u a rd v
    generalize u.cellRet a rd v = t at hexec hself hothers hframe
    have hleaves : Leaves s t t := by
      unfold Leaves
      rw [hframe]
    exact does_of_done hexec hleaves ⟨by rw [hframe], by rw [hself]; rfl, hothers, by rw [hframe]⟩
  case cancelled => exact does_of_done (t := s.cancelWait w) rfl rfl rfl

end Sys2Proof.Machine

/-!
PROOF. What the module sends over Aquifer (R329, R330, R334, R342): a port that takes a message, or sends what it holds, moves its
transmit side only, and the flits sent leave the module.
-/

namespace Sys2Proof.Machine

/-! ### The transmit side of the ports -/

/-- A port but for its transmit side: what the messages that it holds, numbers and counts for replay and credit do not touch. -/
def AqPort.link (x : AqPort) : AqPort := { x with txq := [], txSeq := 0, unacked := [], used := [] }

/-- Ports alike but for the transmit side are in one state, of one width, and have lost the same lanes. -/
theorem reads_of_link {x y : AqPort} (h : x.link = y.link) : x.st = y.st ∧ x.width = y.width ∧ x.lanes = y.lanes := by
  have hst : x.link.st = y.link.st := by rw [h]
  have hwidth : x.link.width = y.link.width := by rw [h]
  have hlanes : x.link.lanes = y.link.lanes := by rw [h]
  exact ⟨hst, hwidth, hlanes⟩

/-- From `s` to `t` the transmit sides of the ports and the messages that have left the module may change, and nothing else. -/
structure Sends (s t : State) : Prop where
  frame : t = { s with aq.ports := t.aq.ports, out := t.out }
  link : ∀ k, (t.port k).link = (s.port k).link

theorem Sends.refl (s : State) : Sends s s := ⟨rfl, fun _ => rfl⟩

theorem Sends.trans {s t u : State} (h1 : Sends s t) (h2 : Sends t u) : Sends s u := by
  obtain ⟨hframe1, hlink1⟩ := h1
  obtain ⟨hframe2, hlink2⟩ := h2
  constructor
  · rw [hframe1] at hframe2
    exact hframe2
  · exact fun k => (hlink2 k).trans (hlink1 k)

theorem Sends.outside {s t : State} (h : Sends s t) : t.outside = s.outside := by
  rw [h.frame]
  rfl

/-- A fold whose every step only sends only sends. -/
theorem sends_foldl {α : Type} {f : State → α → State} (h : ∀ t a, Sends t (f t a)) (l : List α) (s : State) :
    Sends s (l.foldl f s) := by
  induction l generalizing s with
  | nil => exact .refl s
  | cons a l ih => exact (h s a).trans (ih (f s a))

/-- One port's transmit side moves, and flits leave. -/
theorem sends_setPort (s : State) (p : Nat) (q : List AqMsg) (n : Nat) (w : List (Nat × AqMsg)) (c : Tab Nat) (o : Out) :
    Sends s { s.setPort p { s.port p with txq := q, txSeq := n, unacked := w, used := c } with out := o } := by
  refine ⟨rfl, fun k => (congrArg AqPort.link (port_setPort s p _ k)).trans ?_⟩
  split
  next hk =>
    rw [hk]
    rfl
  next => rfl

/-- A port sends what its credits and its replay buffer allow (R329, R330). -/
theorem sends_flushPort (p k : Nat) (s : State) : Sends s (s.flushPort p k) := by
  induction k generalizing s with
  | zero => exact .refl s
  | succ k ih =>
    unfold State.flushPort
    dsimp only
    split
    · exact .refl s
    · split
      · exact (sends_setPort s p _ _ _ _ _).trans (ih _)
      · exact .refl s

/-- A message is handed to a port (R326). -/
theorem sends_transmit (s : State) (p : Nat) (m : AqMsg) : Sends s (s.transmit p m) := by
  unfold State.transmit
  dsimp only
  split
  · exact .refl s
  · exact (sends_setPort s p _ (s.port p).txSeq (s.port p).unacked (s.port p).used s.out).trans (sends_flushPort p _ _)

/-- A message of this module is sent by its route (R334). -/
theorem sends_aqSend (s : State) (m : AqMsg) : Sends s (s.aqSend m) := by
  unfold State.aqSend
  split
  · exact sends_transmit s _ _
  · exact .refl s

/-- A slow notice goes to the neighbours, and to the members of armed groups (R342). -/
theorem sends_slowNotice (s : State) (cause delay : Nat) : Sends s (s.slowNotice cause delay) :=
  (sends_foldl (fun t _ => sends_transmit t _ _) _ s).trans (sends_foldl (fun t _ => sends_aqSend t _) _ _)

/-- The answer to a request that came by a port leaves by a port. -/
theorem sends_reply (s : State) {p : Nat} (hp : p < 12) (m x : AqMsg) : Sends s (s.reply p m x) := by
  unfold State.reply
  dsimp only
  rw [if_pos hp]
  exact sends_aqSend s _

/-! ### Commands that end in sending -/

/-- A command whose meaning works out `t` leaves it. -/
theorem does_leaves {n : Instr} {s t : State} (hexec : exec n s = done s t) : Does n s (Leaves s t) := ⟨_, hexec, rfl⟩

end Sys2Proof.Machine

/-!
PROOF. O57: errors and retrains of a bond (R353, R355, R356), the flits and the lanes of an Aquifer port (R326, R328 to R330), and a
port that trains with its peer (R333, R380).
-/

namespace Sys2Proof.Machine

/-! ### A beat received with an error (R353, R355) -/

/-- Direction `d` reads as set, and the other as before. -/
theorem bond_setBond (s : State) (n p d e : Nat) (x : BondDir) :
    (s.setBond n p d x).bond n p e = if e = d then x else s.bond n p e := by
  unfold State.bond State.setBond
  split
  next h => rw [h, tget_tset_self]
  next h => exact tget_tset_ne _ _ _ (by omega)

/-- The bond after another error in direction `d`: it is counted, and with the errors of the last millisecond. -/
def State.countCrc (s : State) (n p d : Nat) : State :=
  s.setBond n p d { s.bond n p d with
    crc := satAdd (s.bond n p d).crc 1 0xFFFFFFFF
    recent := (s.bond n p d).recent.filter (fun u => decide (s.now < u + 1000000)) ++ [s.now] }

theorem bond_countCrc (s : State) (n p d e : Nat) : (s.countCrc n p d).bond n p e = if e = d then { s.bond n p d with
    crc := satAdd (s.bond n p d).crc 1 0xFFFFFFFF
    recent := (s.bond n p d).recent.filter (fun u => decide (s.now < u + 1000000)) ++ [s.now] } else s.bond n p e :=
  bond_setBond s n p d e _

/-- The error just counted is one more within the last millisecond of its port. -/
theorem recentCrc_countCrc (s : State) (n p : Nat) {d : Nat} (hd : d < 2) :
    (s.countCrc n p d).recentCrc n p = s.recentCrc n p + 1 := by
  have hnow : (s.countCrc n p d).now = s.now := rfl
  unfold State.recentCrc
  rw [bond_countCrc, bond_countCrc, hnow]
  obtain rfl | rfl : d = 0 ∨ d = 1 := by omega
  · simp [List.filter_append]
    omega
  · simp [List.filter_append]
    omega

/-- Both directions of a port that starts a retrain retrain, with their counts as before. -/
theorem bond_startRetrain (s : State) (n p : Nat) {d : Nat} (hd : d < 2) :
    (s.startRetrain n p).bond n p d = { s.bond n p d with recent := [], retraining := true } := by
  unfold State.startRetrain
  simp only [List.foldl_cons, List.foldl_nil, bond_setBond]
  obtain rfl | rfl : d = 0 ∨ d = 1 := by omega
  · rfl
  · rfl

theorem startRetrain_frame (s : State) (n p : Nat) : s.startRetrain n p = { s with bonds := (s.startRetrain n p).bonds } := rfl

section Nak
variable {s : State} {n p d : Nat} {data : Bytes} {frame : BitVec 48} (hn : n < 36) (hp : p < 32) (hd : d < 2)
include hn hp hd

theorem exec_bondNakRetry_good (hok : beatOk data frame = true) : exec (.bondNakRetry n p ⟨d, data, frame⟩) s = done s s :=
  (within_of_lt hn).trans <| (within_of_lt hp).trans <| (within_of_lt hd).trans <| congrArg (done s) (if_pos (.inr (.inr hok)))

theorem exec_bondNakRetry_bad (hbad : beatOk data frame = false) (hlive : (s.site n).bs = 2) (hst : (s.bond n p d).st ≠ 2) :
    exec (.bondNakRetry n p ⟨d, data, frame⟩) s = done s
      (if 3 ≤ s.recentCrc n p then (s.countCrc n p d).startRetrain n p else s.countCrc n p d) := by
  have hcond : ¬ ((s.site n).bs ≠ 2 ∨ (s.bond n p d).st = 2 ∨ beatOk data frame = true) := by
    simp [hbad, hlive, hst]
  have hfourth : (4 ≤ (s.countCrc n p d).recentCrc n p) = (3 ≤ s.recentCrc n p) := by
    rw [recentCrc_countCrc s n p hd]
    exact propext (by omega)
  refine (within_of_lt hn).trans <| (within_of_lt hp).trans <| (within_of_lt hd).trans <| congrArg (done s) ((if_neg hcond).trans ?_)
  change (if 4 ≤ (s.countCrc n p d).recentCrc n p then _ else _) = _
  simp only [hfourth]
  rfl

end Nak

/-! ### The end of a retrain (R355, R356) -/

/-- A direction without a failed lane trains as whole. -/
theorem trainDir_whole (x : BondDir) : (trainDir x [] 0).st = 0 := rfl

/-- A change that leaves the state of a direction raises nothing. -/
theorem bondChanged_same (s : State) {n p d was : Nat} (h : (s.bond n p d).st = was) : s.bondChanged n p d was = s := if_pos h

/-- A direction after a retrain that has found no failed lane. -/
def BondDir.retrained (x : BondDir) : BondDir :=
  { trainDir { x with retrains := satAdd x.retrains 1 0xFFFF } [] 0 with retraining := false, fails := 0 }

theorem exec_bondRetrain_whole {s : State} {f : PortFind} (hn : f.region < 36) (hp : f.port < 32) (hd : f.dir < 2)
    (hgroups : f.groups = []) (hframe : f.frame = 0) (hretraining : (s.bond f.region f.port f.dir).retraining = true)
    (hst : (s.bond f.region f.port f.dir).st = 0) :
    exec (.bondRetrain f true) s = done s (s.setBond f.region f.port f.dir (s.bond f.region f.port f.dir).retrained) := by
  refine (within_of_lt hn).trans <| (within_of_lt hp).trans <| (within_of_lt hd).trans <| congrArg (done s) ?_
  simp only [hretraining, hgroups, hframe, Bool.not_true, Bool.false_eq_true, if_false, if_true]
  refine bondChanged_same _ ?_
  rw [bond_setBond, if_pos rfl, hst]
  rfl

/-! ### Flits (R328 to R330) -/

/-- A port after a flit with this FEC result: corrected and uncorrectable codewords are counted. -/
def AqPort.countFec (y : AqPort) (fec : Nat) : AqPort :=
  { y with fecce := satAdd y.fecce (b2n (fec == 1)) 0xFFFFFFFF, fecue := satAdd y.fecue (b2n (fec == 2)) 0xFFFFFFFF }

/-- A port that has taken a flit: its sequence number, what it acknowledges and its credits are noted. -/
def AqPort.take (y : AqPort) (fec : Nat) (flit : Bytes) : AqPort :=
  { y.countFec fec with
    rxSeq := bits (le flit 0 2) 11 0
    nak := false
    rxPart := (y.stream flit).2
    unacked := ackFlits y.unacked (bits (le flit 2 2) 11 0)
    used := (y.credited (flitCreds flit)).used }

section Flit
variable {s : State} {port fec : Nat} {fseq ack : BitVec 16} {creds : BitVec 32} {body : Bytes} {crc : Word}
  (hport : port < 12) (hfec : fec < 3)
include hport hfec

theorem exec_aqFlitReceive_notUp (hst : (s.port port).st ≠ 2) :
    exec (.aqFlitReceive port fec fseq ack creds body crc) s = done s s :=
  (within_of_lt hport).trans <| (within_of_lt hfec).trans <| congrArg (done s) (if_pos hst)

theorem exec_aqFlitReceive_refused (hst : (s.port port).st = 2) (hbad : fec = 2 ∨ flitOk (flitOf fseq ack creds body crc) = false ∨
      ¬ bits (le (flitOf fseq ack creds body crc) 0 2) 11 0 = ((s.port port).rxSeq + 1) % 4096) :
    exec (.aqFlitReceive port fec fseq ack creds body crc) s =
      done s (s.setPort port { (s.port port).countFec fec with nak := true }) := by
  refine (within_of_lt hport).trans <| (within_of_lt hfec).trans <| congrArg (done s) ((if_neg (not_not.2 hst)).trans (if_pos ?_))
  simpa only [Bool.not_eq_true'] using hbad

theorem exec_aqFlitReceive_taken (hst : (s.port port).st = 2) (hgood : fec ≠ 2)
    (hok : flitOk (flitOf fseq ack creds body crc) = true)
    (horder : bits (le (flitOf fseq ack creds body crc) 0 2) 11 0 = ((s.port port).rxSeq + 1) % 4096)
    (hreplay : bit (le (flitOf fseq ack creds body crc) 2 2) 12 = false) (hidle : (s.port port).txq = []) :
    exec (.aqFlitReceive port fec fseq ack creds body crc) s = done s
      (((s.port port).stream (flitOf fseq ack creds body crc)).1.foldl (fun u m => u.deliver port m)
        (s.setPort port ((s.port port).take fec (flitOf fseq ack creds body crc)))) := by
  have hlength : (s.port port).txq.length = 0 := by rw [hidle, List.length_nil]
  refine (within_of_lt hport).trans <| (within_of_lt hfec).trans <| congrArg (done s) ((if_neg (not_not.2 hst)).trans ?_)
  rw [if_neg (by simp [hgood, hok, horder]), hreplay, hlength]
  rfl

end Flit

/-! ### Lanes and training (R326, R380) -/

/-- LINK_DEGRADED changes the event buffers and the log's buffer only. -/
theorem aqEvent_frame (s : State) (p : Nat) :
    ∃ ev q l, s.aqEvent p = { s with host.evbuf := ev, svc.logq := q, svc.logLost := l } := by
  unfold State.aqEvent
  exact raise_changes s _ _ _ _ _

/-- The port, memory, and what no command changes, of a state whose port tells of a change. -/
theorem aqEvent_reads (s : State) (p : Nat) : (∀ k, (s.aqEvent p).port k = s.port k) ∧ (s.aqEvent p).mem = s.mem ∧
    (s.aqEvent p).dist = s.dist ∧ (s.aqEvent p).outside = s.outside := by
  obtain ⟨ev, q, l, hevent⟩ := aqEvent_frame s p
  rw [hevent]
  exact ⟨fun _ => rfl, rfl, rfl, rfl⟩

section Lane
variable {s : State} {port lane : Nat} (hport : port < 12) (hlane : lane < 8)
include hport hlane

theorem exec_aqLaneFail_known (h : (s.port port).st ≠ 2 ∨ bit (s.port port).lanes lane = true) :
    exec (.aqLaneFail port lane) s = done s s :=
  (within_of_lt hport).trans <| (within_of_lt hlane).trans <| congrArg (done s) (if_pos h)

theorem exec_aqLaneFail_narrows (hst : (s.port port).st = 2) (hnew : bit (s.port port).lanes lane = false)
    (hleft : max (s.port port).width (widestGroup ((s.port port).lanes ||| 2 ^ lane)) < 3) :
    exec (.aqLaneFail port lane) s = done s ((((s.setPort port { s.port port with
      lanes := (s.port port).lanes ||| 2 ^ lane
      width := max (s.port port).width (widestGroup ((s.port port).lanes ||| 2 ^ lane)) }).aqEvent port).markDist).slowNotice 2 1000) := by
  refine (within_of_lt hport).trans <| (within_of_lt hlane).trans <| congrArg (done s) ((if_neg (by simp [hst, hnew])).trans ?_)
  unfold State.laneFail
  dsimp only
  rw [if_pos hleft]

end Lane

section Train
variable {s : State} {port : Nat} {tr : PortTrain} (hport : port < 12)
include hport

theorem exec_aqPeerTrain_fails (hup : tr.up = false) : exec (.aqPeerTrain port tr) s = done s s :=
  (within_of_lt hport).trans <| congrArg (done s) (if_pos (.inr (.inr (.inr (by simp [hup])))))

/-- A port that its peer lets train comes up as training finds it, and the S8 report takes it. -/
theorem exec_aqPeerTrain_trains (hst : (s.port port).st = 0) (hready : s.boot.ready = true) (hshut : s.boot.shut = false)
    (hup : tr.up = true) (hcode : s.portCode port tr ≠ 2) : ∃ b, exec (.aqPeerTrain port tr) s =
      done s (({ s.setPort port ((s.port port).train tr) with boot := b }.markDist).aqEvent port) := by
  have htrain : s.trainPort port tr = s.setPort port ((s.port port).train tr) := by
    have hsame : ({ tr with up := tr.up && s.portCode port tr != 2 } : PortTrain) = tr := by
      have hcomesUp : (tr.up && s.portCode port tr != 2) = tr.up := by simp [hup, hcode]
      rw [hcomesUp]
    unfold State.trainPort
    rw [hsame]
  have hexec : exec (.aqPeerTrain port tr) s = done s _ :=
    (within_of_lt hport).trans <| congrArg (done s) (if_neg (by simp [hst, hready, hshut, hup]))
  rw [hexec]
  dsimp only
  rw [htrain]
  split
  · exact ⟨s.boot, rfl⟩
  · exact ⟨_, rfl⟩

end Train

/-! ### The statement -/

/-- Settles O57, clause by clause: the beats and the retrain of a bond, the flits that a port takes, refuses or does not look at, its
lanes, and its training. -/
theorem bondsAndPorts : Obligations.BondsAndPorts := by
  unfold Obligations.BondsAndPorts
  intro s n p d port fec lane fseq ack creds body data crc frame f tr hn hp hd hport hlane x y flit inOrder counted took
  refine ⟨fun hok => ?good, fun hbad hlive hst hthree => ?fourth, fun hbad hlive hst hfew => ?counted,
    fun hregion hpt hdir hgroups hfr hretraining hst => ?whole, fun hst hfec hok horder hreplay hidle => ?taken,
    fun hst hfec hbad => ?refused, fun hst hfec => ?notUp, fun hknown => ?known, fun hst hnew hleft => ?narrows,
    fun hup => ?fails, fun hst hready hshut hup hcode => ?trains⟩
  case good => exact does_of_done (exec_bondNakRetry_good hn hp hd hok) rfl rfl
  case fourth =>
    have hexec := exec_bondNakRetry_bad hn hp hd hbad hlive hst
    rw [if_pos hthree] at hexec
    refine does_of_done hexec rfl ⟨?_, ?_, ?_, rfl⟩
    · rw [bond_startRetrain _ n p hd, bond_countCrc, if_pos rfl]
      rfl
    · rw [bond_startRetrain _ n p Nat.two_pos]
    · rw [bond_startRetrain _ n p Nat.one_lt_two]
  case counted =>
    have hexec := exec_bondNakRetry_bad hn hp hd hbad hlive hst
    rw [if_neg (Nat.not_le.2 hfew)] at hexec
    have hbond := (bond_countCrc s n p d d).trans (if_pos rfl)
    refine does_of_done hexec rfl ⟨?_, ?_, ?_, rfl⟩
    · rw [hbond]
      rfl
    · rw [hbond]
    · rw [hbond]
  case whole =>
    subst hregion hpt hdir
    have hbond := (bond_setBond s f.region f.port f.dir f.dir x.retrained).trans (if_pos rfl)
    exact does_of_done (exec_bondRetrain_whole hn hp hd hgroups hfr hretraining hst) rfl
      ⟨congrArg BondDir.st hbond, congrArg BondDir.retraining hbond, congrArg BondDir.retrains hbond, rfl⟩
  case taken => exact does_leaves (exec_aqFlitReceive_taken hport (by omega) hst (by omega) hok horder hreplay hidle)
  case refused => exact does_of_done (exec_aqFlitReceive_refused hport hfec hst hbad) rfl rfl
  case notUp => exact does_of_done (exec_aqFlitReceive_notUp hport hfec hst) rfl rfl
  case known => exact does_of_done (exec_aqLaneFail_known hport hlane hknown) rfl rfl
  case narrows =>
    have hexec := exec_aqLaneFail_narrows hport hlane hst hnew hleft
    obtain ⟨hports, hmem, -, hout⟩ := aqEvent_reads (s.setPort port { y with
      lanes := y.lanes ||| 2 ^ lane, width := max y.width (widestGroup (y.lanes ||| 2 ^ lane)) }) port
    generalize State.aqEvent _ port = u at hexec hports hmem hout
    have hsends := sends_slowNotice u.markDist 2 1000
    have hself := (hports port).trans ((port_setPort s port _ port).trans (if_pos rfl))
    obtain ⟨hst', hwidth, hlanes⟩ := reads_of_link (hsends.link port)
    refine does_of_done hexec (leaves_of_outside (hsends.outside.trans hout)) ⟨?_, ?_, ?_, ?_, ?_⟩
    · exact hlanes.trans (congrArg AqPort.lanes hself)
    · exact hwidth.trans (congrArg AqPort.width hself)
    · exact hst'.trans ((congrArg AqPort.st hself).trans hst)
    · rw [hsends.frame]
      rfl
    · rw [hsends.frame]
      exact hmem
  case fails => exact does_of_done (exec_aqPeerTrain_fails hport hup) rfl rfl
  case trains =>
    obtain ⟨b, hexec⟩ := exec_aqPeerTrain_trains hport hst hready hshut hup hcode
    obtain ⟨hports, hmem, hdist, hout⟩ := aqEvent_reads ({ s.setPort port (y.train tr) with boot := b }.markDist) port
    have hset (k : Nat) := (hports k).trans (port_setPort s port (y.train tr) k)
    exact does_of_done hexec (leaves_of_outside hout) ⟨(hset port).trans (if_pos rfl), fun k hk => (hset k).trans (if_neg hk),
      congrArg Dist.dirty hdist, hmem⟩

end Sys2Proof.Machine

/-!
PROOF. O58: the requests that arrive by an Aquifer port (R335, R337, R338), the replies that end this module's own and their deadline
(R341), and slow notices (R342, R343).
-/

namespace Sys2Proof.Machine

/-! ### Messages for this module and for others (R335) -/

section Arrives
variable {s : State} {p : Nat} {m : AqMsg} (hp : p < 12)
include hp

theorem onRequest_here (hvalid : s.aq.valid = true) (hhere : m.dmod = s.aq.modid) (r : AqMsg) (f : State) :
    s.onRequest p m r f = f := by
  simp [State.onRequest, hp, hvalid, hhere]

/-- A request for another module goes on by its route, one level up. -/
theorem onRequest_elsewhere (hvalid : s.aq.valid = true) (helse : m.dmod ≠ s.aq.modid) {q : Nat} (hroute : s.route m.dmod = some q)
    (hlevel : m.level < 3) (r : AqMsg) (f : State) :
    s.onRequest p m r f = s.transmit q { m with level := m.level + 1 } := by
  simp [State.onRequest, State.forwardMsg, hp, hvalid, helse, hroute, hlevel]

theorem onMessage_here (hhere : m.dmod = s.aq.modid) (f : State) : s.onMessage p m f = f := by
  simp [State.onMessage, Nat.not_le.2 hp, hhere]

/-- A command of a port whose meaning answers the message, without touching what no command changes. -/
theorem does_reply {n : Instr} {u : State} {x : AqMsg} {P : State → Prop} (hexec : exec n s = done s (u.reply p m x))
    (hout : u.outside = s.outside) (h : P (u.reply p m x)) : Does n s P :=
  does_of_done hexec (leaves_of_outside ((sends_reply u hp m x).outside.trans hout)) h

end Arrives

/-! ### Reads and writes of memory (R338) -/

/-- Past the module's own addresses nothing is found. -/
theorem placeLocal_far {a : Nat} (h : 2 ^ 48 ≤ a) : placeLocal a = .bad := by
  have hhbm : ¬ a < hbmEnd := by unfold hbmEnd; omega
  have hcistern : ¬ (cisternBase ≤ a ∧ a < cisternEnd) := by unfold cisternEnd cisternBase blockBytes; omega
  have hcell : ¬ (cellBase ≤ a ∧ a < cellBase + 8 * nCells) := by unfold cellBase nCells; omega
  have hlocal : ¬ (localBase ≤ a ∧ a < diagBase) := by unfold localBase diagBase; omega
  have htcm : ¬ (tcmBase ≤ a ∧ a < tcmBase + 384 * 0x20000) := by unfold tcmBase; omega
  have hpriv : ¬ (privBase ≤ a ∧ a < privBase + 0x10000000) := by unfold privBase; omega
  have hdiag : ¬ (diagBase ≤ a ∧ a < diagBase + 0x100000000) := by unfold diagBase; omega
  simp only [placeLocal, hhbm, hcistern, hcell, hlocal, htcm, hpriv, hdiag, if_false]

/-- An address that leads somewhere without a module number leads there in this module. -/
theorem place_of_placeLocal (s : State) {a : Nat} (h : placeLocal a ≠ .bad) : s.place a = placeLocal a := by
  have hnear : a < 2 ^ 48 := Nat.lt_of_not_le fun hfar => h (placeLocal_far hfar)
  unfold State.place State.localAddr
  rw [if_pos hnear]

/-- A remote access that is admitted is one to the Cistern or to HBM. -/
theorem inMem_of_remoteCheck {s : State} {p : Nat} {m : AqMsg} {k : AccKind} {n : Nat} (h : s.remoteCheck p m k n = .ok) :
    inMem s m.addr = true := by
  unfold State.remoteCheck at h
  unfold inMem
  split at h
  next hplace => rw [place_of_placeLocal s (by simp [hplace]), hplace]
  next hplace => rw [place_of_placeLocal s (by simp [hplace]), hplace]
  next => cases h

section Memory
variable {s : State} {p : Nat} {m : AqMsg} (hclean : Clean s)
include hclean

/-- A read that is admitted takes the bytes of a clean memory. -/
theorem serveRead_clean (hcheck : s.remoteCheck p m .load m.len = .ok) (hlen : 0 < m.len) : ∃ z, s.serveRead p m =
    ({ s with cistern := z } : State).reply p m { kind := .rdr, len := m.len, data := s.rawBytes m.addr m.len } := by
  obtain ⟨z, hread⟩ := cohRead_clean hclean (inMem_of_remoteCheck hcheck) (agentId s (portMaster p m)) m.len false m.cls
  refine ⟨z, ?_⟩
  unfold State.serveRead
  simp only [hcheck, if_neg (Nat.pos_iff_ne_zero.1 hlen), State.uRead, settled_clean hclean, hread]

/-- A write that is admitted stores its bytes in a clean memory. -/
theorem serveWrite_clean (hcheck : s.remoteCheck p m .store m.data.length = .ok) (hdata : m.data ≠ []) :
    ∃ u, Stored s m.addr m.data u ∧ s.serveWrite p m = u.reply p m { kind := .wrack } := by
  obtain ⟨u, hwrite, hstored⟩ := uWrite_clean hclean (inMem_of_remoteCheck hcheck) (agentId s (portMaster p m)) m.data m.cls
  refine ⟨u, hstored, ?_⟩
  unfold State.serveWrite
  simp only [hcheck, if_neg hdata, hwrite]

end Memory

theorem Stored.outside {s t : State} {a : Nat} {b : Bytes} (h : Stored s a b t) : t.outside = s.outside := by
  obtain ⟨-, hframe⟩ := h
  rw [hframe]
  rfl

/-! ### Sync cells and contributions (R303, R184, R338) -/

/-- Storing a cell's value changes the sync units and the armed flips only. -/
theorem putCell_changes (s : State) (i : Nat) (v : Word) :
    s.putCell i v = { s with sync := (s.putCell i v).sync, svc := (s.putCell i v).svc } := by
  obtain ⟨x, y, z, w, hput⟩ := putCell_frame s i v
  rw [hput]

section Cell
variable {s : State} {p i : Nat} {m : AqMsg} (hcell : le m.data 8 8 = i)
include hcell

theorem serveSync_add (hop : le m.data 0 8 = 1) (h : SoundCell s i) (hopen : s.cellOpen p m i = true) : s.serveSync p m =
    (s.putCell i (s.cell i + BitVec.ofNat 64 (le m.data 16 8))).reply p m (syncrMsg .ok (s.cell i)) := by
  obtain ⟨-, -, hreset⟩ := id h
  unfold State.serveSync
  simp only [hcell, hopen, hreset, hop, cellAdd_sound h, Bool.not_true, Bool.false_eq_true, if_false, State.syncEnd]

theorem serveSync_closed (hp : p < 12) (hclosed : s.cellOpen p m i = false) :
    s.serveSync p m = s.reply p m { syncrMsg .ok 0 with status := .permission } := by
  unfold State.serveSync
  simp only [hcell, hclosed, Bool.not_false, if_true, State.refuse, if_pos hp]

end Cell

/-- A contribution into an open block starts its flight. -/
theorem serveCatc_open {s : State} {p q n : Nat} {m : AqMsg} (hplace : placeLocal m.addr = .cistern n)
    (hpart : s.regionPart (cisPlace m.addr).n = some q) (hopen : bit (s.reg 9 (0x40 + 8 * q)) 3 = true)
    (hlo : bits (s.reg 9 (0x40 + 8 * q)) 27 16 ≤ m.smod) (hhi : m.smod ≤ bits (s.reg 9 (0x40 + 8 * q)) 43 32)
    (hreset : s.placeResetting m.addr 1 = false) (hrange : s.catRange m.addr 1 = true) (c : Contrib) : s.serveCatc p m c =
    ({ s with mesh.flights := s.mesh.flights ++ [{ c with addr := m.addr }] } : State).reply p m { kind := .wrack } := by
  simp [State.serveCatc, hplace, hpart, hopen, hlo, hhi, hreset, hrange]

/-! ### Replies to this module's requests (R341) -/

theorem replyTo_outstanding {s : State} {m : AqMsg} {r : RemReq} {ks : List MKind} (hreq : s.req m.tag = some r)
    (hmod : r.dmod = m.smod) (hkind : r.kind ∈ ks) : s.replyTo m ks = some r := by
  simp only [State.replyTo, hreq, if_pos (And.intro hmod hkind)]

/-- The state in which request `r` is over and core `a` waits for it no more. -/
def State.freed (s : State) (r : RemReq) (a : Nat) : State :=
  (s.dropReq r.tag).setCore a { s.core a with wait := .none }

theorem coreEnd_ok {s : State} {a tag : Nat} (hawaits : s.awaits a tag = true) (k : AccKind) (f : State → State) :
    s.coreEnd a tag k .ok f = f (s.setCore a { s.core a with wait := .none }) := by
  simp [State.coreEnd, hawaits]

section CoreEnd
variable {s : State} {r : RemReq} {a : Nat} (hfar : r.far = none) (hawaits : s.awaits a r.tag = true)
include hfar hawaits

theorem endReq_load {ad n rd : Nat} (huser : r.user = .load a ad n rd false) (v : Word) (b : Bytes) :
    s.endReq r .ok v b = (s.freed r a).ret a rd (loadVal n false b) := by
  unfold State.endReq
  simp only [hfar, huser]
  exact coreEnd_ok (s := s.dropReq r.tag) hawaits _ _

theorem endReq_store (huser : r.user = .store a) (v : Word) (b : Bytes) : s.endReq r .ok v b = (s.freed r a).ret a 0 0 := by
  unfold State.endReq
  simp only [hfar, huser]
  exact coreEnd_ok (s := s.dropReq r.tag) hawaits _ _

theorem endReq_cell {rd : Nat} (huser : r.user = .cell a rd) (v : Word) (b : Bytes) :
    s.endReq r .ok v b = (s.freed r a).ret a rd v := by
  unfold State.endReq
  simp only [hfar, huser]
  exact coreEnd_ok (s := s.dropReq r.tag) hawaits _ _

end CoreEnd

/-- The request of a host command that is not answered in time ends the command. -/
theorem endReq_hostTimeout {s : State} {r : RemReq} {id : Nat} {h : HostCmd} (hfar : r.far = none) (huser : r.user = .host id)
    (hcmd : s.cmd id = some h) : s.endReq r .timeout 0 [] = (s.dropReq r.tag).complete h .timeout 0 0 := by
  have hstill : (s.dropReq r.tag).cmd id = some h := hcmd
  unfold State.endReq
  simp only [hfar, huser, hstill]
  rfl

/-- Core `a`, whose request `r` is over, has retired with `v` in register `k`; nothing else has changed. -/
def CoreServed (s t : State) (r : RemReq) (a : Nat) (v : Word) (k : Nat) : Prop :=
  t.core a = { (s.core a).setX k v with pc := (s.core a).pc + 4, wait := .none } ∧
  t.aq.reqs = s.aq.reqs.filter (fun x => x.tag != r.tag) ∧ (∀ b, b ≠ a → t.core b = s.core b) ∧
  t = { s with cores := t.cores, aq := t.aq }

theorem coreServed_freed {s : State} {a : Nat} (hstop : (s.core a).stopping = false) (r : RemReq) (v : Word) (k : Nat) :
    CoreServed s ((s.freed r a).ret a k v) r a v k := by
  have hfreed : (s.freed r a).core a = { s.core a with wait := .none } := core_setCore_self _ a _
  refine ⟨?_, rfl, fun b hb => ?_, rfl⟩
  · rw [State.ret, core_setCore_self, hfreed]
    refine (retire_notStopping ?_).trans ?_
    · rw [core_setX_stopping]
      exact hstop
    · unfold Core.setX
      split <;> rfl
  · exact ((onlyCore_ret _ a k v).1 b hb).trans ((onlyCore_setCore (s.dropReq r.tag) a _).1 b hb)

/-- A reply that ends the request of a core. -/
theorem does_coreServed {n : Instr} {s t : State} {r : RemReq} {a k : Nat} {v : Word} (hexec : exec n s = done s t)
    (hstop : (s.core a).stopping = false) (hend : t = (s.freed r a).ret a k v) : Does n s (fun t => CoreServed s t r a v k) := by
  subst hend
  exact does_of_done hexec rfl (coreServed_freed hstop r v k)

section Replies
variable {s : State} {p : Nat} {m : AqMsg} {r : RemReq} (hp : p < 12) (hhere : m.dmod = s.aq.modid)
  (hreq : s.req m.tag = some r) (hmod : r.dmod = m.smod)
include hp hhere hreq hmod

theorem exec_rdr (hkind : r.kind = .rd) : exec (.rdr p m) s = done s (s.endReq r m.status 0 m.data) := by
  refine (within_of_lt (by omega)).trans (congrArg (done s) ((onMessage_here hp hhere _).trans ?_))
  rw [replyTo_outstanding hreq hmod (by simp [hkind])]

theorem exec_wrack (hkind : r.kind = .wr) : exec (.wrack p m) s = done s (s.endReq r m.status 0 []) := by
  refine (within_of_lt (by omega)).trans (congrArg (done s) ((onMessage_here hp hhere _).trans ?_))
  rw [replyTo_outstanding hreq hmod (by simp [hkind])]

theorem exec_syncr (hkind : r.kind = .sync) :
    exec (.syncr p m) s = done s (s.endReq r m.status (BitVec.ofNat 64 (le m.data 0 8)) []) := by
  refine (within_of_lt (by omega)).trans (congrArg (done s) ((onMessage_here hp hhere _).trans ?_))
  rw [replyTo_outstanding hreq hmod (by simp [hkind])]

end Replies

/-! ### Deadlines and slow notices (R341 to R343) -/

theorem exec_remoteTimeout {s : State} {tag : Nat} {r : RemReq} (hreq : s.req tag = some r) (htimed : r.timed = true)
    (hlate : s.reqDeadline r ≤ s.now) : exec (.remoteTimeout tag) s = done s (s.endReq r .timeout 0 []) := by
  have hexec : exec (.remoteTimeout tag) s = done s _ := rfl
  rw [hreq] at hexec
  exact hexec.trans (congrArg (done s) (if_pos ⟨htimed, hlate⟩))

theorem exec_slow {s : State} {p : Nat} {m : AqMsg} (hp : p < 12) (hhere : m.dmod = s.aq.modid) : exec (.slow p m) s = done s
    (({ s with aq.expiry := tset (fun _ => 0) s.aq.expiry m.smod (s.now + 1000 * bits (le m.data 0 8) 15 0) } : State).setPort p
      { s.port p with slow := satAdd (s.port p).slow 1 0xFFFF }) :=
  (within_of_lt (by omega)).trans (congrArg (done s) (onMessage_here hp hhere _))

section SlowRenew
variable {s : State}

theorem exec_slowRenew_quiet (hnotice : s.aq.slow = false) (hcause : s.slowNow = false) : exec .slowRenew s = done s s := by
  have hexec : exec .slowRenew s = done s _ := rfl
  rw [hexec]
  simp [hnotice, hcause, State.slowStart]

/-- While its cause lasts the notice is sent, the first time and again. -/
theorem exec_slowRenew_lasts (hcause : s.slowNow = true) :
    exec .slowRenew s = done s (({ s with aq.slow := true } : State).slowNotice 1 1000) := by
  have hexec : exec .slowRenew s = done s _ := rfl
  rw [hexec]
  cases hnotice : s.aq.slow with
  | false => simp [hcause, hnotice, State.slowStart]
  | true =>
    have hsame : ({ s with aq.slow := true } : State) = s := by rw [← hnotice]
    simp [hcause, hsame]

theorem exec_slowRenew_ends (hnotice : s.aq.slow = true) (hcause : s.slowNow = false) :
    exec .slowRenew s = done s (({ s with aq.slow := false } : State).slowNotice 1 0) := by
  have hexec : exec .slowRenew s = done s _ := rfl
  rw [hexec]
  simp [hnotice, hcause]

end SlowRenew

/-! ### The statement -/

/-- Settles O58, clause by clause: the requests that this module serves, the one it forwards, the replies that end its own, their
deadline, and the slow notices. -/
theorem remoteRequestsAndReplies : Obligations.RemoteRequestsAndReplies := by
  unfold Obligations.RemoteRequestsAndReplies
  intro s p q a rd ad n i tag id m c r h hp hvalid here answer waits ended
  have arrives {f : State} (x : AqMsg) (hhere : here) : within "port" p 14 (done s (s.onRequest p m x f)) = done s f :=
    (within_of_lt (by omega)).trans (congrArg (done s) (onRequest_here hp hvalid hhere x f))
  refine ⟨fun hhere hclean hcheck hlen => ?read, fun helse hroute hlevel => ?forward, fun hhere hclean hcheck hdata => ?write,
    fun hhere hop hcell hsound hopen => ?add, fun hhere hcell hclosed => ?closed,
    fun hhere hplace hpart hopen hlo hhi hreset hrange => ?contribution, fun hwaits hkind => ?rdr, fun hwaits hkind => ?wrack,
    fun hwaits hkind => ?syncr, fun hreq htag htimed hlate huser hfar hcmd => ?timeout, fun hhere => ?slow,
    fun hnotice hcause => ?quiet, fun hcause => ?lasts, fun hnotice hcause => ?ends⟩
  case read =>
    obtain ⟨z, hserve⟩ := serveRead_clean hclean hcheck hlen
    exact does_reply hp ((arrives _ hhere).trans (congrArg (done s) hserve)) rfl ⟨_, rfl, rfl⟩
  case forward =>
    refine does_of_done ((within_of_lt (by omega)).trans
      (congrArg (done s) (onRequest_elsewhere hp hvalid helse hroute hlevel _ _))) ?_ rfl
    exact leaves_of_outside (sends_transmit s q _).outside
  case write =>
    obtain ⟨u, hstored, hserve⟩ := serveWrite_clean hclean hcheck hdata
    exact does_reply hp ((arrives _ hhere).trans (congrArg (done s) hserve)) hstored.outside ⟨u, hstored.1, hstored.2, rfl⟩
  case add =>
    have hcells := fun j => cell_putCell s i j (s.cell i + BitVec.ofNat 64 (le m.data 16 8))
    have hframe := putCell_changes s i (s.cell i + BitVec.ofNat 64 (le m.data 16 8))
    exact does_reply hp ((arrives _ hhere).trans (congrArg (done s) (serveSync_add hcell hop hsound hopen))) (by rw [hframe]; rfl)
      ⟨_, (hcells i).trans (if_pos rfl), fun j hj => (hcells j).trans (if_neg hj), hframe, rfl⟩
  case closed =>
    exact does_reply hp ((arrives _ hhere).trans (congrArg (done s) (serveSync_closed hcell hp hclosed))) rfl rfl
  case contribution =>
    have hserve := serveCatc_open (p := p) hplace hpart hopen hlo hhi hreset hrange c
    have hexec : exec (.catc p m c) s = within "port" p 14 (done s (s.onRequest p m { kind := .wrack } (s.serveCatc p m c))) :=
      congrArg (fun t => within "port" p 14 (done s t)) (if_neg (Nat.not_le.2 hp))
    exact does_reply hp (hexec.trans ((arrives _ hhere).trans (congrArg (done s) hserve))) rfl rfl
  case rdr =>
    obtain ⟨hhere, hreq, hmod, huser, hfar, htag, hok, hawaits, hstop⟩ := hwaits
    rw [← htag] at hawaits
    exact does_coreServed (exec_rdr hp hhere hreq hmod hkind) hstop (by rw [hok, endReq_load hfar hawaits huser])
  case wrack =>
    obtain ⟨hhere, hreq, hmod, huser, hfar, htag, hok, hawaits, hstop⟩ := hwaits
    rw [← htag] at hawaits
    exact does_coreServed (exec_wrack hp hhere hreq hmod hkind) hstop (by rw [hok, endReq_store hfar hawaits huser])
  case syncr =>
    obtain ⟨hhere, hreq, hmod, huser, hfar, htag, hok, hawaits, hstop⟩ := hwaits
    rw [← htag] at hawaits
    exact does_coreServed (exec_syncr hp hhere hreq hmod hkind) hstop (by rw [hok, endReq_cell hfar hawaits huser])
  case timeout =>
    subst htag
    have hexec := (exec_remoteTimeout hreq htimed hlate).trans (congrArg (done s) (endReq_hostTimeout hfar huser hcmd))
    exact does_of_done hexec rfl ⟨complete_ended (s.dropReq r.tag) h .timeout 0 0, rfl, rfl⟩
  case slow =>
    refine does_of_done (exec_slow hp hhere) rfl ⟨tget_tset_self _ _ _ _, ?_, rfl⟩
    rw [port_setPort, if_pos rfl]
    rfl
  case quiet => exact does_of_done (exec_slowRenew_quiet hnotice hcause) rfl rfl
  case lasts => exact does_leaves (exec_slowRenew_lasts hcause)
  case ends => exact does_leaves (exec_slowRenew_ends hnotice hcause)

end Sys2Proof.Machine

/-!
PROOF. O1: a step runs the command at the front of the queue (log entry 10).
-/

namespace Sys2Proof.Machine

/-- Settles O1: a queue with a front command is not idle. -/
theorem stepRunsFrontCommand : Obligations.StepRunsFrontCommand := by
  unfold Obligations.StepRunsFrontCommand
  intro c rest s hqueue
  unfold step
  rw [hqueue]

end Sys2Proof.Machine

/-!
PROOF. O46: the instructions of the module TAP (R460, R461).
-/

namespace Sys2Proof.Machine

/-! ### An instruction is shifted in (R460) -/

/-- The state in which the TAP has loaded instruction `ir`. -/
def State.loadIr (s : State) (ir : Nat) : State :=
  { s with
    mgmt := { s.mgmt with ir := ir, refused := false, driven := ir == 3 }
    out.capture := if s.mgmt.refused then 5 else 1 }

/-- The state in which the TAP has loaded BYPASS in place of an instruction that it refuses. -/
def State.refuseIr (s : State) : State :=
  { s with
    mgmt := { s.mgmt with ir := 1, refused := true, driven := false }
    out.capture := if s.mgmt.refused then 5 else 1 }

section Tap
variable {s : State} (hpower : s.boot.powered = true)
include hpower

theorem tap_allowed (ir : Nat) (f : State → State) : s.tap ir true f = f (s.loadIr ir) := by
  simp [State.tap, State.loadIr, hpower]

theorem tap_refused (ir : Nat) (f : State → State) : s.tap ir false f = s.refuseIr := by
  simp [State.tap, State.refuseIr, hpower]

theorem exec_idcode : exec .idcode s = done s ((s.loadIr 0).answer (BitVec.ofNat 64 s.idcode) .ok) :=
  congrArg (done s) (tap_allowed hpower 0 _)

theorem exec_bypass : exec .bypass s = done s (s.loadIr 1) := congrArg (done s) (tap_allowed hpower 1 _)

theorem exec_samplePreload (b : Bytes) : exec (.samplePreload b) s =
    done s ({ s.loadIr 2 with free := s.free + 1, mgmt.boundary := b }.says .ok (Config.pinSample s.free)) :=
  congrArg (done s) (tap_allowed hpower 2 _)

/-- EXTEST is loaded while the port is open and PERST# asserted (Table 15.4). -/
theorem exec_extest : exec .extest s = done s (if (s.jtagOpen && s.boot.perst) = true then s.loadIr 3 else s.refuseIr) := by
  refine congrArg (done s) ?_
  cases s.jtagOpen && s.boot.perst with
  | true => exact tap_allowed hpower 3 _
  | false => exact tap_refused hpower 3 _

theorem exec_diesel_open {i : Nat} (hopen : s.jtagOpen = true) (hreach : s.dieReached i = true) :
    exec (.diesel i) s = done s { s.loadIr 4 with mgmt.die := some i } := by
  have hallowed : (s.jtagOpen && s.dieReached i) = true := by rw [hopen, hreach]; rfl
  refine congrArg (done s) ?_
  rw [hallowed]
  exact tap_allowed hpower 4 _

theorem exec_diesel_shut (i : Nat) (hshut : s.jtagOpen = false) : exec (.diesel i) s = done s s.refuseIr := by
  have hrefused : (s.jtagOpen && s.dieReached i) = false := by rw [hshut]; rfl
  refine congrArg (done s) ?_
  rw [hrefused]
  exact tap_refused hpower 4 _

end Tap

/-! ### The wrapper of a die (R461) -/

/-- What DIESCAN shifts out of a wrapper: as many bytes as are shifted in, the busy bit clear. -/
def wrapperOut (i free n : Nat) : Bytes :=
  match (Config.wrapperBits i free ++ zeros n).take n with
  | x :: r => (x &&& 0xFE) :: r
  | [] => []

theorem length_wrapperOut (i free n : Nat) : (wrapperOut i free n).length = n := by
  have hlen : ((Config.wrapperBits i free ++ zeros n).take n).length = n := by simp
  unfold wrapperOut
  split
  · next x r heq => exact (congrArg List.length heq).symm.trans hlen
  · next heq => exact (congrArg List.length heq).symm.trans hlen

section Scan
variable {s : State} {i : Nat} (hpower : s.boot.powered = true) (hopen : s.jtagOpen = true) (hdie : s.mgmt.die = some i)
include hpower hopen hdie

/-- DIESCAN of a selected die scans its wrapper, or reads ones while the Wellkeeper holds it. -/
theorem exec_diescan (b : Bytes) : exec (.diescan b) s = done s (
    if s.wrapperHeld i then (s.loadIr 5).says .ok (List.replicate b.length 0xFF)
    else { s.loadIr 5 with free := s.free + 1, mgmt.wrapper := tset (fun _ => []) s.mgmt.wrapper i b }.says .ok
      (wrapperOut i s.free b.length)) := by
  have hallowed : (s.jtagOpen && s.mgmt.die.isSome) = true := by rw [hopen, hdie]; rfl
  have hloaded : (s.loadIr 5).mgmt.die = some i := hdie
  refine congrArg (done s) ?_
  rw [hallowed, tap_allowed hpower]
  dsimp only
  rw [hloaded]
  rfl

theorem exec_diescan_free (b : Bytes) (hfree : s.wrapperHeld i = false) : exec (.diescan b) s = done s
    ({ s.loadIr 5 with free := s.free + 1, mgmt.wrapper := tset (fun _ => []) s.mgmt.wrapper i b }.says .ok
      (wrapperOut i s.free b.length)) := by
  rw [exec_diescan hpower hopen hdie, hfree]
  rfl

theorem exec_diescan_held (b : Bytes) (hheld : s.wrapperHeld i = true) : exec (.diescan b) s = done s
    ((s.loadIr 5).says .ok (List.replicate b.length 0xFF)) := by
  rw [exec_diescan hpower hopen hdie, hheld]
  rfl

end Scan

/-! ### The statement -/

/-- Settles O46: each instruction that is loaded, and EXTEST and DIESEL refused. -/
theorem testAccessPort : Obligations.TestAccessPort := by
  unfold Obligations.TestAccessPort
  intro s b i hpower ir refused only
  refine ⟨?idcode, ?bypass, ?sample, fun hopen hperst => ?extest, fun hshut => ?extestRefused, fun hopen hreach => ?diesel,
    fun hshut => ?dieselRefused, fun hopen hdie hfree => ?scan, fun hopen hdie hheld => ?scanHeld⟩
  case idcode => exact does_of_done (exec_idcode hpower) rfl ⟨⟨rfl, rfl, rfl, rfl⟩, rfl, rfl⟩
  case bypass => exact does_of_done (exec_bypass hpower) rfl ⟨⟨rfl, rfl, rfl, rfl⟩, rfl⟩
  case sample => exact does_of_done (exec_samplePreload hpower b) rfl ⟨⟨rfl, rfl, rfl, rfl⟩, rfl, rfl, rfl⟩
  case extest =>
    have hexec := exec_extest hpower
    rw [if_pos (by rw [hopen, hperst]; rfl)] at hexec
    exact does_of_done hexec rfl ⟨⟨rfl, rfl, rfl, rfl⟩, rfl⟩
  case extestRefused =>
    have hexec := exec_extest hpower
    rw [if_neg (by simpa [or_iff_not_imp_left] using hshut)] at hexec
    exact does_of_done hexec rfl ⟨⟨rfl, rfl, rfl⟩, rfl⟩
  case diesel => exact does_of_done (exec_diesel_open hpower hopen hreach) rfl ⟨⟨rfl, rfl, rfl, rfl⟩, rfl, rfl⟩
  case dieselRefused => exact does_of_done (exec_diesel_shut hpower i hshut) rfl ⟨⟨rfl, rfl, rfl⟩, rfl, rfl⟩
  case scan =>
    refine does_of_done (exec_diescan_free hpower hopen hdie b hfree) rfl ⟨⟨rfl, rfl, rfl, rfl⟩, ?_, ?_, rfl⟩
    · exact tget_tset_self _ _ _ _
    · exact length_wrapperOut i s.free b.length
  case scanHeld =>
    exact does_of_done (exec_diescan_held hpower hopen hdie b hheld) rfl ⟨⟨rfl, rfl, rfl, rfl⟩, rfl, rfl, rfl⟩

end Sys2Proof.Machine

/-!
PROOF. O44: the levels of the Wellhead monitor (R457 to R459).
-/

namespace Sys2Proof.Machine

/-! ### A command line of the monitor (R458) -/

section Monitor
variable {s : State} (hup : s.keeperUp = true)
include hup

/-- A command line is run at its level or above. -/
theorem monitor_allowed {level : Nat} (hlevel : level ≤ s.mgmt.level) (f : State → State) : s.monitor level f = f s := by
  simp [State.monitor, hup, hlevel]

/-- Below it, it is refused. -/
theorem monitor_refused {level : Nat} (hlevel : s.mgmt.level < level) (f : State → State) :
    s.monitor level f = s.says .permission [] := by
  simp [State.monitor, hup, hlevel]

/-- A command of level 0 runs. -/
theorem monitor_zero (f : State → State) : s.monitor 0 f = f s := monitor_allowed hup (Nat.zero_le _) f

/-! ### UNLOCK, LOCK and BAUD (R458, R459) -/

theorem exec_unlockChallenge (k : Nat) : exec (.unlockChallenge k) s = done s
    (if k = 0 ∨ highestLevel s.fuse.lifecycle < k ∨ s.now < s.mgmt.lockUntil then s.says .permission []
     else { s with free := s.free + 1, mgmt.chal := some (Config.challenge s.free, k, s.now) }.says .ok
      (hexDigits 8 (Config.challenge s.free).toNat)) :=
  congrArg (done s) (monitor_zero hup _)

theorem exec_unlockResponse (k : Nat) (code : BitVec 32) : exec (.unlockResponse k code) s = done s
    (if s.now < s.mgmt.lockUntil then s.says .permission []
     else if s.unlocks k code then
      ({ s with mgmt.level := k, mgmt.fails := 0, mgmt.chal := none }.logRec 0x1083 0xFF k).says .ok []
     else s.unlockFails k) :=
  congrArg (done s) (monitor_zero hup _)

theorem exec_lock : exec .lock s = done s ({ s with mgmt.level := 0 }.says .ok []) :=
  congrArg (done s) (monitor_zero hup _)

theorem exec_unlockExpire : exec .unlockExpire s = done s { s with mgmt.level := min s.mgmt.level s.fuse.monLevel } :=
  congrArg (done s) (if_pos hup)

theorem exec_baud (rate : Nat) : exec (.baud rate) s = done s
    (if [230400, 460800, 921600, 1500000, 3000000].contains rate then { s with mgmt.baud := rate }.says .ok []
     else s.says .range []) :=
  congrArg (done s) (monitor_zero hup _)

end Monitor

/-- The third wrong answer in a row bars UNLOCK for ten minutes. -/
theorem unlockFails_third {s : State} (hfails : s.mgmt.fails = 2) (k : Nat) : ∃ q l, s.unlockFails k =
    { s with
      mgmt.fails := 0, mgmt.lockUntil := s.now + 600000000000, mgmt.chal := none
      svc.logq := q, svc.logLost := l }.says .permission [] := by
  obtain ⟨q, l, hlog⟩ := logRec_changes s 0x1084 0xFF (k % 4 + 2 ^ 8 * 3)
  refine ⟨q, l, ?_⟩
  simp only [State.unlockFails, hfails, hlog]
  rfl

/-! ### The statement -/

/-- Settles O44: a challenge that is made and one that is refused, an answer that is right, wrong for the third time and barred, the
two ways back to a lower level, and the rates. -/
theorem monitorLevels : Obligations.MonitorLevels := by
  unfold Obligations.MonitorLevels
  intro s k rate code hup only
  refine ⟨fun hlow hhigh hopen => ?challenge, ?zero, fun hopen hright => ?right, fun hopen hwrong hthird => ?wrong,
    fun hbarred => ?barred, ?lock, ?expire, fun hrate => ?rate, fun hrate => ?otherRate⟩
  case challenge =>
    have hexec := exec_unlockChallenge hup k
    rw [if_neg (by omega)] at hexec
    exact does_of_done hexec rfl ⟨rfl, rfl, rfl, rfl, rfl⟩
  case zero =>
    have hexec := exec_unlockChallenge hup 0
    rw [if_pos (.inl rfl)] at hexec
    exact does_of_done hexec rfl ⟨rfl, rfl, rfl⟩
  case right =>
    have hexec := exec_unlockResponse hup k code
    obtain ⟨q, l, hlog⟩ := logRec_changes { s with mgmt.level := k, mgmt.fails := 0, mgmt.chal := none } 0x1083 0xFF k
    rw [if_neg hopen.not_gt, if_pos hright, hlog] at hexec
    exact does_of_done hexec rfl ⟨rfl, rfl, rfl, rfl, rfl⟩
  case wrong =>
    have hexec := exec_unlockResponse hup k code
    obtain ⟨q, l, hfails⟩ := unlockFails_third hthird k
    rw [if_neg hopen.not_gt, if_neg (by rw [hwrong]; decide), hfails] at hexec
    exact does_of_done hexec rfl ⟨rfl, rfl, rfl, rfl⟩
  case barred =>
    have hexec := exec_unlockResponse hup k code
    rw [if_pos hbarred] at hexec
    exact does_of_done hexec rfl ⟨rfl, rfl, rfl⟩
  case lock => exact does_of_done (exec_lock hup) rfl ⟨rfl, rfl, rfl⟩
  case expire => exact does_of_done (exec_unlockExpire hup) rfl ⟨rfl, rfl⟩
  case rate =>
    have hexec := exec_baud hup rate
    rw [if_pos (List.contains_iff_mem.2 hrate)] at hexec
    exact does_of_done hexec rfl ⟨rfl, rfl, rfl⟩
  case otherRate =>
    have hexec := exec_baud hup rate
    rw [if_neg (fun h => hrate (List.contains_iff_mem.1 h))] at hexec
    exact does_of_done hexec rfl ⟨rfl, rfl, rfl⟩

end Sys2Proof.Machine

/-!
PROOF. O42: an update of the firmware bank that is not in use (R454 to R456).
-/

namespace Sys2Proof.Machine

/-! ### The two banks of flash (R454) -/

/-- The mark and the image of a bank. -/
def Flash.bankAt (f : Flash) (b : Nat) : Bool × Bytes := if b = 0 then (f.ok0, f.bank0) else (f.ok1, f.bank1)

/-- Flash with the mark and the image of a bank. -/
def Flash.withBank (f : Flash) (b : Nat) (ok : Bool) (image : Bytes) : Flash :=
  if b = 0 then { f with ok0 := ok, bank0 := image } else { f with ok1 := ok, bank1 := image }

/-- Flash with a bank marked not good. -/
def Flash.spoil (f : Flash) (b : Nat) : Flash := if b = 0 then { f with ok0 := false } else { f with ok1 := false }

theorem bankAt_withBank (f : Flash) (b : Nat) (ok : Bool) (image : Bytes) : (f.withBank b ok image).bankAt b = (ok, image) := by
  unfold Flash.bankAt Flash.withBank
  split <;> rfl

theorem ok_spoil (f : Flash) (b : Nat) : if b = 0 then (f.spoil b).ok0 = false else (f.spoil b).ok1 = false := by
  unfold Flash.spoil
  split <;> rfl

theorem setBank_eq (s : State) (b : Nat) (ok : Bool) (image : Bytes) :
    s.setBank b ok image = { s with flash := s.flash.withBank b ok image } := by
  unfold State.setBank Flash.withBank
  split <;> rfl

/-! ### The commands (R455, R456) -/

section Update
variable {s : State} (hup : s.updateUp = true) (hrec : s.recovery = false)

section Normal
include hrec

/-- Outside recovery an update goes into the bank that is not in use. -/
theorem inactive_of_normal : s.inactive = 1 - s.boot.bank := by simp [State.inactive, hrec]

include hup

theorem exec_requestUpdate (hok : s.flashOk = true) (hnone : s.mgmt.update = none) : ∃ q l, exec .requestUpdate s = done s
    ({ s with
      flash := { s.flash.withBank (1 - s.boot.bank) false [] with active := s.boot.bank }
      mgmt.update := some ⟨[], false⟩, svc.logq := q, svc.logLost := l }.pldm 0) := by
  let u : State := { s with
    flash := { s.flash.withBank (1 - s.boot.bank) false [] with active := s.boot.bank }
    mgmt.update := some ⟨[], false⟩ }
  obtain ⟨q, l, hlog⟩ := logRec_changes u 0x1080 0xFF (1 - s.boot.bank)
  have hexec : exec .requestUpdate s = done s ((u.logRec 0x1080 0xFF (1 - s.boot.bank)).pldm 0) := by
    change done s _ = _
    simp only [hup, hok, hnone, hrec, inactive_of_normal hrec, setBank_eq, Option.isSome_none, Bool.not_true, Bool.or_self,
      Bool.false_eq_true, if_false]
    rfl
  exact ⟨q, l, by rw [hexec, hlog]⟩

section Image
variable {u : Update} (hupdate : s.mgmt.update = some u)
include hupdate

section Unverified
variable (hok : s.flashOk = true) (hnew : u.verified = false)
include hok hnew

theorem exec_firmwareTransfer (data : Bytes) : exec (.firmwareTransfer data) s = done s
    { s with
      flash := s.flash.withBank (1 - s.boot.bank) false (u.data ++ data)
      mgmt.update := some ⟨u.data ++ data, false⟩ } := by
  change done s _ = _
  simp only [hupdate, hup, hok, hnew, inactive_of_normal hrec, setBank_eq, Bool.not_true, Bool.or_self, Bool.false_eq_true, if_false]

/-- VERIFY_COMPLETE marks the bank good when the checksum and the signature are right; otherwise the update is dropped. -/
theorem exec_verifyComplete (crc : BitVec 32) : exec (.verifyComplete crc) s = done s
    (if crc32c u.data = crc.toNat ∧ Config.signatureOk u.data = true then
      { s with flash := s.flash.withBank (1 - s.boot.bank) true u.data, mgmt.update := some ⟨u.data, true⟩ }.pldm 0
    else { s with mgmt.update := none }.pldm 4) := by
  change done s _ = _
  simp only [hupdate, hup, hok, hnew, inactive_of_normal hrec, setBank_eq, Bool.not_true, Bool.or_self, Bool.false_eq_true, if_false]

end Unverified

theorem exec_activateFirmware (hok : s.flashOk = true) (hverified : u.verified = true) (hstage : s.boot.stage = 9) :
    ∃ q l, exec (.activateFirmware true) s = done s
      ({ s with
        flash.active := 1 - s.boot.bank, boot.bank := 1 - s.boot.bank
        mgmt.update := none, mgmt.chal := none, mgmt.trial := some s.now, svc.logq := q, svc.logLost := l }.pldm 0) := by
  let v : State := { s with
    flash.active := 1 - s.boot.bank, boot.bank := 1 - s.boot.bank
    mgmt.update := none, mgmt.chal := none, mgmt.trial := some s.now }
  obtain ⟨q, l, hlog⟩ := logRec_changes v 0x1081 0xFF (1 - s.boot.bank)
  have hexec : exec (.activateFirmware true) s = done s ((v.logRec 0x1081 0xFF (1 - s.boot.bank)).pldm 0) := by
    change done s _ = _
    simp only [hupdate, hup, hok, hverified, hstage, inactive_of_normal hrec, Bool.not_true, Bool.or_self, Bool.false_eq_true,
      if_false, BEq.rfl, Bool.true_or, if_true]
    rfl
  exact ⟨q, l, by rw [hexec, hlog]⟩

end Image
end Normal

theorem exec_cancelUpdate (hup : s.updateUp = true) : exec .cancelUpdate s = done s ({ s with mgmt.update := none }.pldm 0) :=
  congrArg (done s) (if_pos hup)

end Update

theorem exec_fwFallback {s : State} (htrial : s.mgmt.trial ≠ none) (hpower : s.boot.powered = true) : ∃ q l,
    exec .fwFallback s = done s { s with
      flash := { s.flash.spoil s.boot.bank with active := 1 - s.boot.bank }
      boot.bank := 1 - s.boot.bank
      mgmt.update := none, mgmt.chal := none, mgmt.trial := none, svc.logq := q, svc.logLost := l } := by
  let u : State := { s with
    flash := { s.flash.spoil s.boot.bank with active := 1 - s.boot.bank }
    boot.bank := 1 - s.boot.bank
    mgmt.update := none, mgmt.chal := none, mgmt.trial := none }
  obtain ⟨q, l, hlog⟩ := logRec_changes u 0x1082 0xFF s.boot.bank
  have hspoil : (if s.boot.bank = 0 then { s with flash.ok0 := false } else { s with flash.ok1 := false }) =
      { s with flash := s.flash.spoil s.boot.bank } := by
    unfold Flash.spoil
    split <;> rfl
  have hexec : exec .fwFallback s = done s (u.logRec 0x1082 0xFF s.boot.bank) := by
    change done s _ = _
    simp only [hspoil, Option.isNone_eq_false_iff.2 (Option.isSome_iff_ne_none.2 htrial), hpower, Bool.not_true, Bool.or_self,
      Bool.false_eq_true, if_false]
    rfl
  exact ⟨q, l, by rw [hexec, hlog]⟩

/-! ### The statement -/

/-- Settles O42: the update begins, takes data, is verified or dropped, starts, falls back, and is cancelled. -/
theorem firmwareUpdate : Obligations.FirmwareUpdate := by
  unfold Obligations.FirmwareUpdate
  intro s u data crc hup hrec _ hok b bank same
  refine ⟨fun hnone => ?request, fun hupdate hnew => ?transfer, fun hupdate hnew hcrc => ?verify, fun hupdate hnew hcrc => ?drop,
    fun hupdate hverified hstage => ?activate, fun htrial hpower => ?fallback, ?cancel⟩
  case request =>
    obtain ⟨q, l, hexec⟩ := exec_requestUpdate hup hrec hok hnone
    exact does_of_done hexec rfl ⟨bankAt_withBank s.flash b false [], rfl, rfl, rfl, rfl⟩
  case transfer =>
    exact does_of_done (exec_firmwareTransfer hup hrec hupdate hok hnew data) rfl ⟨bankAt_withBank s.flash b false _, rfl, rfl⟩
  case verify =>
    have hexec := exec_verifyComplete hup hrec hupdate hok hnew crc
    by_cases hsig : Config.signatureOk u.data = true
    · rw [if_pos ⟨hcrc, hsig⟩] at hexec
      refine does_of_done hexec rfl ⟨rfl, ?_⟩
      rw [if_pos hsig]
      exact ⟨bankAt_withBank s.flash b true u.data, rfl, rfl⟩
    · rw [if_neg fun h => hsig h.2] at hexec
      refine does_of_done hexec rfl ⟨rfl, ?_⟩
      rw [if_neg hsig]
      exact ⟨rfl, rfl, rfl⟩
  case drop =>
    have hexec := exec_verifyComplete hup hrec hupdate hok hnew crc
    rw [if_neg fun h => hcrc h.1] at hexec
    exact does_of_done hexec rfl ⟨rfl, rfl, rfl, rfl⟩
  case activate =>
    obtain ⟨q, l, hexec⟩ := exec_activateFirmware hup hrec hupdate hok hverified hstage
    exact does_of_done hexec rfl ⟨rfl, rfl, rfl, rfl, rfl, rfl⟩
  case fallback =>
    obtain ⟨q, l, hexec⟩ := exec_fwFallback htrial hpower
    exact does_of_done hexec rfl ⟨rfl, rfl, rfl, ok_spoil s.flash s.boot.bank, rfl⟩
  case cancel => exact does_of_done (exec_cancelUpdate hup) rfl ⟨rfl, rfl, rfl⟩

end Sys2Proof.Machine

/-!
PROOF. O40: the input leaves and enters its band, a converter phase fails, and a droop comes and goes (R420, R421, R424).
-/

namespace Sys2Proof.Machine

/-- A throttle event for a function whose events are enabled, with room in its buffer, is the newest that waits there. -/
theorem throttleAll_posts {s : State} (hen : s.evtEn 0 = true) (hroom : (s.evbuf 0).waiting.length < 256) (entry : Bool) (cause : Nat) :
    ∃ p ev q l, s.throttleAll entry cause = { s with host.evbuf := ev, svc.logq := q, svc.logLost := l } ∧
      (tget (fun _ => ({} : EvBuf)) ev 0).waiting = (s.evbuf 0).waiting ++ [⟨0x019, p⟩] := by
  let p := 0xFF + 2 ^ 8 * ofInt 8 s.hottest.1 + 2 ^ 16 * b2n entry + 2 ^ 17 * cause + 2 ^ 24 * s.goodPhases
  let b : EvBuf := { s.evbuf 0 with waiting := (s.evbuf 0).waiting ++ [⟨0x019, p⟩] }
  have hpost : s.postTo 0 0x019 p = s.setEvbuf 0 b := by
    simp only [State.postTo, hen, Bool.true_or, if_true, if_pos hroom, b]
  have hraise : s.throttleAll entry cause = (s.setEvbuf 0 b).logRec 0x019 mgmtNode p := by
    rw [← hpost]
    rfl
  obtain ⟨q, l, hlog⟩ := logRec_changes (s.setEvbuf 0 b) 0x019 mgmtNode p
  refine ⟨p, (s.setEvbuf 0 b).host.evbuf, q, l, hraise.trans hlog, ?_⟩
  exact congrArg EvBuf.waiting ((evbuf_setEvbuf s 0 b 0).trans (if_pos rfl))

/-- Retiming every tile changes the islands only. -/
theorem retimeAll_frame (s : State) : ∃ x, s.retimeAll = { s with islands := x } :=
  foldl_frame (·.islands) (fun t x => { t with islands := x }) retimeTile_frame _ s

section Powered
variable {s : State} (hpower : s.boot.powered = true)
include hpower

/-- INPUT_BAND_CHANGE to the other side of the band is recorded and told. -/
theorem exec_inputBandChange {mv : Nat} {out : Bool}
    (hband : (decide (30000 ≤ mv) && decide (mv < 33000) || decide (52000 < mv) && decide (mv ≤ 54000)) = out)
    (hchange : s.power.outBand = !out) :
    exec (.inputBandChange mv) s = done s ({ s with power.outBand := out }.throttleAll out 4) := by
  have hnew : (!s.boot.powered || out == s.power.outBand) = false := by simp [hpower, hchange]
  change done s (if (!s.boot.powered || _ == s.power.outBand) = true then s else _) = _
  rw [hband, hnew]
  rfl

/-- PHASE_FAIL that leaves at least 16 good phases is recorded and told. -/
theorem exec_phaseFail {ph : Nat} (hph : ph < 24) (hnew : s.power.failed.contains ph = false) (hleft : s.power.failed.length ≤ 7) :
    exec (.phaseFail ph) s = done s ({ s with power.failed := s.power.failed ++ [ph] }.throttleAll true 3) := by
  let t := { s with power.failed := s.power.failed ++ [ph] }.throttleAll true 3
  have hkept : t.power.failed = s.power.failed ++ [ph] := by
    change (State.raise _ _ _ _ _).power.failed = _
    rw [raise_frame]
  have hgood : ¬ t.goodPhases < 16 := by
    rw [State.goodPhases, hkept, List.length_append, List.length_singleton]
    omega
  refine (within_of_lt hph).trans (congrArg (done s) ?_)
  simp only [hpower, hnew, Bool.not_true, Bool.or_self, Bool.false_eq_true, if_false]
  exact if_neg fun h : t.goodPhases < 16 ∧ t.watching = true => hgood h.1

/-- DROOP with none remembered retimes the tiles, notes its time and is told. -/
theorem exec_droop (hfirst : s.power.droopAt = none) : ∃ x, exec .droop s = done s
    ({ s with
      power := { s.power with droop := true, droops := min (s.power.droops + 1) 0xFFFF, droopAt := some s.now }
      islands := x }.throttleAll true 2) := by
  obtain ⟨x, hretime⟩ := retimeAll_frame { s with power.droop := true, power.droops := satAdd s.power.droops 1 0xFFFF }
  refine ⟨x, ?_⟩
  change done s _ = _
  simp only [hpower, hretime, Bool.not_true, Bool.false_eq_true, if_false]
  rw [hfirst]
  rfl

end Powered

theorem exec_droopEnd {s : State} (hdroop : s.power.droop = true) :
    ∃ x, exec .droopEnd s = done s { s with power.droop := false, islands := x } := by
  obtain ⟨x, hretime⟩ := retimeAll_frame { s with power.droop := false }
  exact ⟨x, congrArg (done s) ((if_pos hdroop).trans hretime)⟩

/-- Settles O40: the input leaves and enters its band, a phase fails, and a droop begins and ends. -/
theorem inputPower : Obligations.InputPower := by
  unfold Obligations.InputPower
  intro s mv ph hpower hen hroom told
  refine ⟨fun hin hmv => ?leaves, fun hout hlow hhigh => ?enters, fun hph hnew hleft => ?phase, fun hfirst => ?droop, fun hdroop => ?ends⟩
  case leaves =>
    have hexec := exec_inputBandChange hpower (mv := mv) (out := true) (by simpa using hmv) hin
    obtain ⟨p, ev, q, l, htold, hnewest⟩ := throttleAll_posts (s := { s with power.outBand := true }) hen hroom true 4
    rw [htold] at hexec
    exact does_of_done hexec rfl ⟨⟨p, hnewest⟩, rfl⟩
  case enters =>
    have hband : (decide (30000 ≤ mv) && decide (mv < 33000) || decide (52000 < mv) && decide (mv ≤ 54000)) = false := by
      simp [hlow.not_gt, hhigh.not_gt]
    have hexec := exec_inputBandChange hpower hband hout
    obtain ⟨p, ev, q, l, htold, hnewest⟩ := throttleAll_posts (s := { s with power.outBand := false }) hen hroom false 4
    rw [htold] at hexec
    exact does_of_done hexec rfl ⟨⟨p, hnewest⟩, rfl⟩
  case phase =>
    have hexec := exec_phaseFail hpower hph hnew hleft
    obtain ⟨p, ev, q, l, htold, hnewest⟩ :=
      throttleAll_posts (s := { s with power.failed := s.power.failed ++ [ph] }) hen hroom true 3
    rw [htold] at hexec
    exact does_of_done hexec rfl ⟨⟨p, hnewest⟩, rfl⟩
  case droop =>
    obtain ⟨x, hexec⟩ := exec_droop hpower hfirst
    obtain ⟨p, ev, q, l, htold, hnewest⟩ := throttleAll_posts (s := { s with
      power := { s.power with droop := true, droops := min (s.power.droops + 1) 0xFFFF, droopAt := some s.now }
      islands := x }) hen hroom true 2
    rw [htold] at hexec
    exact does_of_done hexec rfl ⟨⟨p, hnewest⟩, rfl, rfl, rfl, rfl⟩
  case ends =>
    obtain ⟨x, hexec⟩ := exec_droopEnd hdroop
    exact does_of_done hexec rfl ⟨rfl, rfl⟩

end Sys2Proof.Machine

/-!
PROOF. O41: the end of a hold (R387), the expected topology record (R383, R450) and endpoint IDs (R447).
-/

namespace Sys2Proof.Machine

/-! ### The catchment units in service (R384, R387) -/

/-- Every unit of a list is put in service. -/
def State.serveCats (s : State) (l : List Nat) : State := l.foldl (fun u n => u.setCat n { u.cat n with service := true }) s

theorem enterService_eq (s : State) : s.enterService = { s.serveCats (List.range 36) with aq.valid := s.boot.topo.isSome } := rfl

theorem serveCats_frame (s : State) (l : List Nat) : ∃ x, s.serveCats l = { s with mesh.cats := x } :=
  foldl_frame (·.mesh.cats) (fun t x => { t with mesh.cats := x }) (fun _ _ => ⟨_, rfl⟩) l s

theorem service_serveCats (s : State) (l : List Nat) (n : Nat) :
    ((s.serveCats l).cat n).service = (decide (n ∈ l) || (s.cat n).service) := by
  induction l generalizing s with
  | nil => simp [State.serveCats]
  | cons k l ih =>
    change (((s.setCat k { s.cat k with service := true }).serveCats l).cat n).service = _
    rw [ih, cat_setCat]
    by_cases hn : n = k
    · simp [hn]
    · simp [hn]

/-- Entering service changes the catchment units and the validity of the module ID. -/
theorem enterService_frame (s : State) : ∃ x, s.enterService = { s with mesh.cats := x, aq.valid := s.boot.topo.isSome } := by
  obtain ⟨x, hx⟩ := serveCats_frame s (List.range 36)
  rw [enterService_eq, hx]
  exact ⟨x, rfl⟩

/-- Every catchment unit is then in service. -/
theorem service_enterService (s : State) {n : Nat} (hn : n < 36) : (s.enterService.cat n).service = true := by
  have hserved := service_serveCats s (List.range 36) n
  rw [decide_eq_true (List.mem_range.2 hn), Bool.true_or] at hserved
  rw [enterService_eq]
  generalize s.serveCats (List.range 36) = u at hserved
  exact hserved

/-! ### The end of a hold (R387) -/

section Repair
variable {s : State} {id : Nat} {c : HostCmd} (hrun : Runs s id 0xC c) (hok : repairCheck s c.fn c.desc = .ok)
include hrun hok

/-- ACCEPT_TOPOLOGY ends the hold, changes the S9 report and puts the units in service. -/
theorem exec_acceptTopology (hact : le c.desc 16 1 = 3) : ∃ rep x, exec (.acceptTopology id) s = done s
    ({ s with boot.held := false, boot.reports := rep, mesh.cats := x, aq.valid := s.boot.topo.isSome }.complete c .ok 0 0) := by
  let rep := tset (fun _ => []) s.boot.reports 9 (sealReport (putAt (s.report 9) 1 [1]))
  obtain ⟨x, hx⟩ := enterService_frame { s with boot.held := false, boot.reports := rep }
  refine ⟨rep, x, congrArg (done s) ((repairCmd_of_ok hrun hact hok _).trans ?_)⟩
  exact congrArg (fun u : State => u.complete c .ok 0 0) hx

/-- REJECT_TOPOLOGY ends the hold and start-up. -/
theorem exec_rejectTopology (hact : le c.desc 16 1 = 4) : exec (.rejectTopology id) s = done s
    ({ s with boot.held := false, boot.rejected := true, boot.failed := true }.complete c .ok 0 0) :=
  congrArg (done s) (repairCmd_of_ok hrun hact hok _)

end Repair

/-! ### The expected topology record (R383, R450) -/

/-- The record in use is the first copy when it is not the second. -/
theorem topo0_of_topo {f : Flash} {x : Bytes} (h : f.topo = some (x, false)) : f.topo0 = some x := by
  unfold Flash.topo at h
  cases hfirst : f.topo0.filter topoValid with
  | none => cases hsecond : f.topo1.filter topoValid <;> simp [hfirst, hsecond] at h
  | some a =>
    have ha : f.topo0 = some a := (Option.filter_eq_some_iff.1 hfirst).1
    cases hsecond : f.topo1.filter topoValid with
    | none =>
      rw [hfirst, hsecond] at h
      simpa [ha] using h
    | some b =>
      rw [hfirst, hsecond] at h
      by_cases hseq : topoSeq a < topoSeq b
      · simp [hseq] at h
      · simpa [hseq, ha] using h

/-- Flash with a record written over the copy that is not in use. -/
def Flash.renewTopo (f : Flash) (b : Bytes) : Flash :=
  match f.topo with
  | some (_, false) => { f with topo1 := some b }
  | _ => { f with topo0 := some b }

theorem renewTopo_first {f : Flash} {x : Bytes} (h : f.topo = some (x, false)) (b : Bytes) :
    f.renewTopo b = { f with topo1 := some b } := by
  unfold Flash.renewTopo
  rw [h]

theorem renewTopo_other {f : Flash} (h : ∀ x, f.topo ≠ some (x, false)) (b : Bytes) : f.renewTopo b = { f with topo0 := some b } := by
  unfold Flash.renewTopo
  split
  · next x htopo => exact absurd htopo (h x)
  · rfl

section Binding
variable {s : State} (hup : s.keeperUp = true) (hbind : s.bindingUp false = true) {b : Bytes}
include hup hbind

/-- WRITE_TOPOLOGY of a record that fails a check answers its status. -/
theorem exec_writeTopology_refused {st : Status} (hcheck : s.topoCheck b = st) (hst : st ≠ .ok) :
    exec (.writeTopology false b) s = done s (s.says st []) := by
  subst hcheck
  refine congrArg (done s) ?_
  simp only [hup, hbind, Bool.not_true, Bool.or_self, Bool.false_eq_true, if_false]
  exact if_pos hst

/-- WRITE_TOPOLOGY of a record that passes writes it over the copy not in use and logs it. -/
theorem exec_writeTopology (hcheck : s.topoCheck b = .ok) : ∃ q l, exec (.writeTopology false b) s = done s
    ({ s with flash := s.flash.renewTopo b, svc.logq := q, svc.logLost := l }.says .ok []) := by
  obtain ⟨q, l, hlog⟩ := logRec_changes { s with flash := s.flash.renewTopo b } 0x1085 0xFF (topoSeq b + 2 ^ 32 * b2n false)
  refine ⟨q, l, ?_⟩
  rw [← hlog]
  refine congrArg (done s) ?_
  simp only [hup, hbind, hcheck, Bool.not_true, Bool.or_self, Bool.false_eq_true, if_false, ne_eq, not_true_eq_false,
    Flash.renewTopo]
  rcases s.flash.topo with _ | ⟨x, second⟩
  · rfl
  · cases second <;> rfl

end Binding

/-- A record of another form fails the first check. -/
theorem topoCheck_badForm {s : State} {b : Bytes} (hform : topoForm b = false) : s.topoCheck b = .badField := by
  simp [State.topoCheck, firstFail, hform]

/-! ### Endpoint IDs (R447) -/

section Endpoint
variable {s : State} (hup : s.keeperUp = true) {e : BitVec 8} (hzero : e ≠ 0) (hall : e ≠ 0xFF)
include hup hzero hall

theorem exec_setEndpointId_pcie (hlink : s.boot.width ≠ 0) : ∃ q l, exec (.setEndpointId true e) s = done s
    ({ s with mgmt.eidPcie := some e.toNat, svc.logq := q, svc.logLost := l }.pldm 0) := by
  obtain ⟨q, l, hlog⟩ := logRec_changes { s with mgmt.eidPcie := some e.toNat } 0x1088 0xFF (e.toNat + 2 ^ 8 * b2n true)
  refine ⟨q, l, ?_⟩
  rw [← hlog]
  refine congrArg (done s) ?_
  simp only [hup, beq_eq_false_iff_ne.2 hlink, Bool.true_or, Bool.not_true, Bool.and_false, Bool.or_self, Bool.false_eq_true, if_false]
  exact if_neg (not_or.2 ⟨hzero, hall⟩)

theorem exec_setEndpointId_smbus : ∃ q l, exec (.setEndpointId false e) s = done s
    ({ s with mgmt.eidSmbus := some e.toNat, svc.logq := q, svc.logLost := l }.pldm 0) := by
  obtain ⟨q, l, hlog⟩ := logRec_changes { s with mgmt.eidSmbus := some e.toNat } 0x1088 0xFF (e.toNat + 2 ^ 8 * b2n false)
  refine ⟨q, l, ?_⟩
  rw [← hlog]
  refine congrArg (done s) ?_
  simp only [hup, Bool.true_or, Bool.not_true, Bool.false_and, Bool.or_self, Bool.false_eq_true, if_false]
  exact if_neg (not_or.2 ⟨hzero, hall⟩)

end Endpoint

/-! ### The statement -/

/-- Settles O41: the two ends of a hold, a record that is written and one of another form, and the two bindings. -/
theorem topologyAndEndpoints : Obligations.TopologyAndEndpoints := by
  unfold Obligations.TopologyAndEndpoints
  intro s id c b e
  refine ⟨fun hrun hact hok => ?accept, fun hrun hact hok => ?reject, fun hup hbind hcheck => ?write, fun hup hbind hform => ?form,
    fun hup hlink hzero hall => ?pcie, fun hup hzero hall => ?smbus⟩
  case accept =>
    obtain ⟨rep, x, hexec⟩ := exec_acceptTopology hrun hok hact
    exact does_of_done hexec rfl ⟨(complete_ended _ c .ok 0 0).of_host rfl rfl rfl, rfl, rfl, rfl⟩
  case reject =>
    exact does_of_done (exec_rejectTopology hrun hok hact) rfl ⟨(complete_ended _ c .ok 0 0).of_host rfl rfl rfl, rfl, rfl, rfl, rfl⟩
  case write =>
    obtain ⟨q, l, hexec⟩ := exec_writeTopology hup hbind hcheck
    refine does_of_done hexec rfl ⟨rfl, ?_, rfl⟩
    split
    · next x htopo =>
      have hfirst := topo0_of_topo htopo
      rw [renewTopo_first htopo]
      exact ⟨rfl, hfirst⟩
    · next hother =>
      rw [renewTopo_other fun x hx => hother x hx]
      exact ⟨rfl, rfl⟩
  case form =>
    exact does_of_done (exec_writeTopology_refused hup hbind (topoCheck_badForm hform) (by decide)) rfl ⟨rfl, rfl⟩
  case pcie =>
    obtain ⟨q, l, hexec⟩ := exec_setEndpointId_pcie hup hzero hall hlink
    exact does_of_done hexec rfl ⟨rfl, rfl, rfl, rfl⟩
  case smbus =>
    obtain ⟨q, l, hexec⟩ := exec_setEndpointId_smbus hup hzero hall
    exact does_of_done hexec rfl ⟨rfl, rfl, rfl, rfl⟩

end Sys2Proof.Machine

/-!
PROOF. O43: what the management endpoints and the monitor read (R382, R449, R452, R458, R464), and the effecter (R453).
-/

namespace Sys2Proof.Machine

/-! ### Vendor commands and the monitor's reads (R449, R458) -/

/-- An endpoint that answers has the Wellkeeper running behind it. -/
theorem keeperUp_of_mctpUp {s : State} (hup : s.mctpUp = true) : s.keeperUp = true := (Bool.and_eq_true_iff.1 hup).1

section Answers
variable {s : State} (hup : s.mctpUp = true)
include hup

theorem exec_getIdentity (k : Nat) : exec (.getIdentity k) s = done s (s.answerBytes (s.identityReply k)) :=
  congrArg (done s) (if_pos hup)

theorem exec_getStageReport (k : Nat) : exec (.getStageReport k) s = done s (s.answerBytes (s.stageReply k)) :=
  congrArg (done s) (if_pos hup)

theorem exec_getLog (f : BitVec 32) (n : Nat) : exec (.getLog f n) s = done s (s.answerBytes (s.logReply f.toNat n)) :=
  congrArg (done s) (if_pos hup)

theorem exec_getSnapshot : exec .getSnapshot s = done s (s.says .ok s.snapReply) := congrArg (done s) (if_pos hup)

theorem exec_getLifecycle : exec .getLifecycle s = done s (s.says .ok (toLe 1 s.fuse.lifecycle)) := congrArg (done s) (if_pos hup)

end Answers

section Lines
variable {s : State} (hup : s.keeperUp = true)
include hup

theorem exec_monStage (k : Nat) : exec (.monStage k) s = done s (s.answerBytes (s.stageReply k)) :=
  congrArg (done s) (monitor_zero hup _)

theorem exec_monLog (f : BitVec 32) (n : Nat) : exec (.monLog f n) s = done s (s.answerBytes (s.logReply f.toNat n)) :=
  congrArg (done s) (monitor_zero hup _)

theorem exec_monSensors : exec .monSensors s = done s (s.says .ok s.snapReply) := congrArg (done s) (monitor_zero hup _)

theorem exec_monLcs : exec .monLcs s = done s (s.says .ok (toLe 1 s.fuse.lifecycle)) := congrArg (done s) (monitor_zero hup _)

theorem exec_monHelp : exec .monHelp s = done s (s.says .ok monCommands) := congrArg (done s) (monitor_zero hup _)

/-- The identities that ID lists, an absent die's as zeros. -/
def State.idTable (s : State) : Bytes := (List.range 45 ++ [73, 74]).flatMap (fun i => (s.identity i).getD (zeros 32))

theorem exec_monId : exec .monId s = done s (s.says .ok (s.idTable ++ (s.fuse.serial ++ zeros 16).take 16)) :=
  congrArg (done s) (monitor_zero hup _)

end Lines

/-- What a read answers. -/
theorem identityReply_serial (s : State) : s.identityReply 75 = .ok ((s.fuse.serial ++ zeros 16).take 16) := rfl

theorem identityReply_range {s : State} {k : Nat} (hlow : 45 ≤ k) (hA : k ≠ 73) (hB : k ≠ 74) (hserial : k ≠ 75) :
    s.identityReply k = .error .range :=
  (if_neg hserial).trans (if_neg (by omega))

theorem stageReply_known {s : State} {k : Nat} (hk : k < 10) : s.stageReply k = .ok (s.report k) := if_pos hk

theorem stageReply_range {s : State} {k : Nat} (hk : 10 ≤ k) : s.stageReply k = .error .range := if_neg hk.not_gt

theorem logReply_known {s : State} {n : Nat} (hlow : 1 ≤ n) (hhigh : n ≤ 16) (first : Nat) :
    s.logReply first n = .ok (s.logRead first n) := if_pos ⟨hlow, hhigh⟩

/-- What is known of a die, cut or padded to the length of an identity, and zeros in place of nothing. -/
theorem length_padded (b : Bytes) : ((if b = [] then none else some ((b ++ zeros 32).take 32)).getD (zeros 32)).length = 32 := by
  split <;> simp

/-- An identity has 32 bytes. -/
theorem length_identity (s : State) (i : Nat) : ((s.identity i).getD (zeros 32)).length = 32 := length_padded _

theorem length_idTable (s : State) : s.idTable.length = 32 * 47 := by
  simp [State.idTable, List.length_flatMap, length_identity]

/-! ### Sensors (R452) -/

theorem sensor_input {s : State} (hsnap : s.power.snapshot ≠ []) : s.sensor 1 = .ok (le s.power.snapshot 12 2) := by
  simp [State.sensor, hsnap]

theorem sensor_unknown {s : State} {k : Nat} (hk : 208 < k) : s.sensor k = .error 1 := by
  unfold State.sensor
  dsimp only
  by_cases hsnap : s.power.snapshot = []
  · rw [if_pos hsnap, if_pos (by omega)]
  · rw [if_neg hsnap, if_neg (by omega), if_neg (by omega), if_neg (by omega), if_neg (by omega), if_neg (by omega),
      if_neg (by omega), if_neg (by omega)]

section Sensor
variable {s : State} (hup : s.mctpUp = true)
include hup

theorem exec_pldmSensorRead_value {k : Nat} {v : Int} (hvalue : s.sensor k = .ok v) :
    exec (.pldmSensorRead k) s = done s { s.pldm 0 with out.rdata := BitVec.ofInt 64 v } := by
  refine congrArg (done s) ?_
  simp only [hup, hvalue, Bool.not_true, Bool.false_eq_true, if_false]

theorem exec_pldmSensorRead_none {k c : Nat} (hnone : s.sensor k = .error c) :
    exec (.pldmSensorRead k) s = done s (s.pldm c) := by
  refine congrArg (done s) ?_
  simp only [hup, hnone, Bool.not_true, Bool.false_eq_true, if_false]

end Sensor

/-! ### The effecter (R453) -/

/-- The end of the effecter's commit of the power group, from the state in which the group is in force and the unit `x` as it was. -/
def State.effected (s : State) (x : CommitUnit) : State :=
  let u := (s.pldm 0).setUnit 11 { x with running := 1 }
  u.setUnit 11 (({ x with running := 1 } : CommitUnit).ended 0 0xFFFF)

theorem unit_effected (s : State) (x : CommitUnit) :
    (s.effected x).unit 11 = ({ x with running := 1 } : CommitUnit).ended 0 0xFFFF := (unit_setUnit _ 11 _ 11).trans (if_pos rfl)

/-- With no commit of the power block under way, a good CAP is committed with the shares in force. -/
theorem exec_pldmEffecterWrite {s : State} (hup : s.mctpUp = true) (hidle : (s.unit 11).busy = false) (hcmd : (s.unit 11).cmd = none)
    {v : BitVec 16} (hgood : pwrVerdict s 1 (powerGroup v.toNat (s.reg 12 0x18)) = none) : exec (.pldmEffecterWrite v) s =
      done s ((s.applyPwr 1 (powerGroup v.toNat (s.reg 12 0x18))).effected (s.unit 11)) := by
  have hrun : s.commitRun 11 = s := by simp [State.commitRun, hidle]
  have hend (u : State) : ((u.pldm 0).setUnit 11 { s.unit 11 with running := 1 }).commitEnd 11 none = u.effected (s.unit 11) := by
    have hunit := (unit_setUnit (u.pldm 0) 11 { s.unit 11 with running := 1 } 11).trans (if_pos rfl)
    rw [commitEnd_none (by rw [hunit, hcmd]), hunit]
    rfl
  rw [← hend]
  refine congrArg (done s) ?_
  simp only [hup, hrun, Bool.not_true, Bool.false_eq_true, if_false]
  rw [hgood]

/-- The power group in force after the write, and its outcome in the unit. -/
theorem effected_reads {s : State} {v : BitVec 16} (hlow : bits (s.reg 12 0x18) 7 0 ≤ 150)
    (hhigh : bits (s.reg 12 0x18) 15 8 ≤ 150) (hshare : s.reg 12 0x18 < 2 ^ 16) :
    let t := (s.applyPwr 1 (powerGroup v.toNat (s.reg 12 0x18))).effected (s.unit 11)
    t.reg 12 0x10 = v.toNat ∧ t.reg 12 0x18 = s.reg 12 0x18 ∧ t.out.pldm = 0 ∧ (t.unit 11).code = 0 ∧
    (t.unit 11).seq = ((s.unit 11).seq + 1) % 2 ^ 16 ∧
    t = { s with host := t.host, out := t.out, psites := t.psites, power := t.power } := by
  have hmod : s.reg 12 0x18 % 256 ≤ 150 := by simpa [bits] using hlow
  have hdiv : s.reg 12 0x18 / 256 ≤ 150 := by simp only [bits] at hhigh; omega
  obtain ⟨hcap, hkept, -, hframe⟩ := applyPwr_reads s v.isLt hshare hmod hdiv
  generalize s.applyPwr 1 (powerGroup v.toNat (s.reg 12 0x18)) = u at hcap hkept hframe ⊢
  have hunit := unit_effected u (s.unit 11)
  refine ⟨hcap, hkept, rfl, congrArg CommitUnit.code hunit, congrArg CommitUnit.seq hunit, ?_⟩
  rw [hframe]
  rfl

/-! ### The statement -/

/-- Settles O43: the reads on an endpoint and by the monitor, the sensors that exist and that do not, and the write of CAP. -/
theorem managementReads : Obligations.ManagementReads := by
  unfold Obligations.ManagementReads
  intro s k n f w hup answers snap serial
  have hkeeper := keeperUp_of_mctpUp hup
  have answered {c : Instr} {st : Status} {b : Bytes} (hexec : exec c s = done s (s.says st b)) : Does c s (answers st b) :=
    does_of_done hexec rfl ⟨rfl, rfl, rfl⟩
  have bytes {c : Instr} {r : Except Status Bytes} {b : Bytes} (hexec : exec c s = done s (s.answerBytes r)) (hr : r = .ok b) :
      Does c s (answers .ok b) := by
    subst hr
    exact answered hexec
  have status {c : Instr} {r : Except Status Bytes} {st : Status} (hexec : exec c s = done s (s.answerBytes r))
      (hr : r = .error st) : Does c s (answers st []) := by
    subst hr
    exact answered hexec
  refine ⟨bytes (exec_getIdentity hup 75) (identityReply_serial s),
    fun hlow hA hB hserial => status (exec_getIdentity hup k) (identityReply_range hlow hA hB hserial),
    fun hk => ⟨bytes (exec_getStageReport hup k) (stageReply_known hk), bytes (exec_monStage hkeeper k) (stageReply_known hk)⟩,
    fun hk => status (exec_getStageReport hup k) (stageReply_range hk),
    fun hlow hhigh => ⟨bytes (exec_getLog hup f n) (logReply_known hlow hhigh _),
      bytes (exec_monLog hkeeper f n) (logReply_known hlow hhigh _)⟩,
    answered (exec_getSnapshot hup), answered (exec_monSensors hkeeper), answered (exec_getLifecycle hup), answered (exec_monLcs hkeeper),
    answered (exec_monHelp hkeeper), ?id, fun hsnap => ?sensor, fun hk => ?noSensor,
    fun hidle hcmd hne hmin hmax hlow hhigh hshare => ?effecter⟩
  case id => exact does_of_done (exec_monId hkeeper) rfl ⟨⟨s.idTable, rfl, length_idTable s⟩, rfl, rfl⟩
  case sensor =>
    refine does_of_done (exec_pldmSensorRead_value hup (sensor_input hsnap)) rfl ⟨?_, rfl, rfl⟩
    exact BitVec.ofInt_natCast 64 _
  case noSensor => exact does_of_done (exec_pldmSensorRead_none hup (sensor_unknown hk)) rfl ⟨rfl, rfl⟩
  case effecter =>
    have hgood : pwrVerdict s 1 (powerGroup w.toNat (s.reg 12 0x18)) = none := by
      simp only [bits] at hlow hhigh
      rw [pwrVerdict_group1 s w.isLt hshare, if_neg (by omega), if_neg (by omega)]
    have hexec := exec_pldmEffecterWrite hup hidle hcmd hgood
    obtain ⟨hcap, hkept, hcode, hunit, hseq, hframe⟩ := effected_reads (s := s) (v := w) hlow hhigh hshare
    refine does_of_done hexec ?_ ⟨hcap, hkept, hcode, hunit, hseq, hframe⟩
    unfold Leaves
    rw [hframe]

end Sys2Proof.Machine

/-!
PROOF. O45: the commands of the monitor that reach into the module (R458, R459).
-/

namespace Sys2Proof.Machine

/-! ### Lines below their level -/

section Refused
variable {s : State} (hup : s.keeperUp = true)
include hup

/-- A line of a command below its level answers ST_PERMISSION and nothing else. -/
theorem does_refused {c : Instr} {level : Nat} {f : State → State} (hlevel : s.mgmt.level < level)
    (hexec : exec c s = done s (s.monitor level f)) :
    Does c s fun t => t.out.status = .permission ∧ t.out.reply = [] ∧ t = { s with out := t.out } :=
  does_of_done (hexec.trans (congrArg (done s) (monitor_refused hup hlevel f))) rfl ⟨rfl, rfl, rfl⟩

end Refused

/-! ### PEEK, DRIZZLE and TG (level 1) -/

section Level1
variable {s : State} (hup : s.keeperUp = true) (hlevel : 1 ≤ s.mgmt.level)
include hup hlevel

/-- PEEK of one word that can be read answers it. -/
theorem exec_monPeek {a : Nat} {t : State} {w : Bytes} (halign : a % 8 = 0) (hword : s.peekWord a = (t, .ok w)) :
    exec (.monPeek a 1) s = done s (t.says .ok w) := by
  refine congrArg (done s) ((monitor_allowed hup hlevel _).trans ?_)
  rw [if_neg (not_not.2 halign), if_neg (by decide)]
  simp only [State.peekWords, hword, List.nil_append]

theorem exec_monDrizzle {u : TestUnit} (hready : s.boot.ready = true) (hmay : s.segmentMay u = true) (hnew : u ∉ s.svc.segments)
    (pass : Bool) : exec (.monDrizzle u pass) s = done s (((s.startSegment u).segmentEnd u pass).says .ok []) := by
  have hfree : (!s.boot.ready || !s.segmentMay u || s.svc.segments.contains u) = false := by simp [hready, hmay, hnew]
  refine congrArg (done s) ((monitor_allowed hup hlevel _).trans ?_)
  rw [hfree]
  rfl

theorem exec_monDrizzle_locked {u : TestUnit} (hmay : s.segmentMay u = false) (pass : Bool) :
    exec (.monDrizzle u pass) s = done s (s.says .locked []) := by
  have hlocked : (!s.boot.ready || !s.segmentMay u || s.svc.segments.contains u) = true := by simp [hmay]
  exact congrArg (done s) ((monitor_allowed hup hlevel _).trans (if_pos hlocked))

/-- TG of a march on a channel, within the operands' ranges, runs the test that TEST makes and answers the channel's status. -/
theorem exec_monTg {k c base len : Nat} {seed : BitVec 32} {r : TestFind} (hk : k < 8) (hc : c < 32) (hbase : base < 2 ^ 32)
    (hlen : len < 2 ^ 32) (hcheck : testCheck s (tgDesc k c 0 0 2 seed.toNat base len) = .ok) :
    exec (.monTg k c 0 0 2 seed base len r) s = done s ((s.channelTest (tgDesc k c 0 0 2 seed.toNat base len) r).says .ok
      (toLe 8 ((s.channelTest (tgDesc k c 0 0 2 seed.toNat base len) r).hcWord (32 * k + c) 5))) := by
  refine congrArg (done s) ((monitor_allowed hup hlevel _).trans ?_)
  rw [if_neg (by omega)]
  exact if_neg (not_not.2 hcheck)

end Level1

/-- A segment that passes is not overdue. -/
theorem overdue_segmentEnd (s : State) (u : TestUnit) : u ∉ (s.segmentEnd u true).svc.overdue := by
  have hcovers (t : State) : (t.covers u).svc.overdue = t.svc.overdue.filter (· != u) := by
    unfold State.covers
    cases u with
    | core x r p => dsimp only; split <;> rfl
    | spare n => rfl
    | march sl line => rfl
    | region n => rfl
  change u ∉ (State.covers _ u).svc.overdue
  rw [hcovers]
  simp

/-! ### POKE and DIEMODE (level 2) -/

/-- The bytes of a number are those of its low part. -/
theorem toLe_mod (n v : Nat) : toLe n (v % 2 ^ (8 * n)) = toLe n v := by
  induction n generalizing v with
  | zero => rfl
  | succ n ih =>
    have hhigh : v % 2 ^ (8 * (n + 1)) / 256 = v / 256 % 2 ^ (8 * n) := by
      rw [show 2 ^ (8 * (n + 1)) = 256 * 2 ^ (8 * n) by ring, Nat.mod_mul_right_div_self]
    have hlow : BitVec.ofNat 8 (v % 2 ^ (8 * (n + 1))) = BitVec.ofNat 8 v := by
      apply BitVec.eq_of_toNat_eq
      rw [BitVec.toNat_ofNat, BitVec.toNat_ofNat, Nat.mod_mod_of_dvd _ (pow_dvd_pow 2 (by omega))]
    rw [toLe, toLe, hlow, hhigh, ih]

/-- The address of a sync cell leads to it. -/
theorem place_cell (s : State) {i : Nat} (hi : i < nCells) : s.place (cellBase + 8 * i) = .cell i := by
  have hlocal : placeLocal (cellBase + 8 * i) = .cell i := by
    have hhbm : ¬ cellBase + 8 * i < hbmEnd := by unfold hbmEnd cellBase; omega
    have hcistern : ¬ (cisternBase ≤ cellBase + 8 * i ∧ cellBase + 8 * i < cisternEnd) := by
      unfold cisternEnd cisternBase blockBytes cellBase; omega
    have hcell : cellBase ≤ cellBase + 8 * i ∧ cellBase + 8 * i < cellBase + 8 * nCells := by omega
    rw [placeLocal, if_neg hhbm, if_neg hcistern, if_pos hcell]
    congr 1
    omega
  rw [place_of_placeLocal s (by simp [hlocal]), hlocal]

section Level2
variable {s : State} (hup : s.keeperUp = true) (hlevel : 2 ≤ s.mgmt.level)
include hup hlevel

theorem exec_poke_unaligned {a : Nat} (halign : a % 8 ≠ 0) (v : Word) : exec (.poke a v) s = done s (s.says .align []) :=
  congrArg (done s) ((monitor_allowed hup hlevel _).trans (if_pos halign))

theorem exec_poke_cell {i : Nat} (hi : i < nCells) (v : Word) :
    exec (.poke (cellBase + 8 * i) v) s = done s (s.says .permission []) := by
  have halign : (cellBase + 8 * i) % 8 = 0 := by unfold cellBase; omega
  refine congrArg (done s) ((monitor_allowed hup hlevel _).trans ?_)
  rw [if_neg (not_not.2 halign)]
  simp only [place_cell s hi]

/-- POKE of an aligned word of a clean memory, which the monitor may write, stores it. -/
theorem exec_poke_memory {a : Nat} (hclean : Clean s) (halign : a % 8 = 0) (hmem : inMem s a = true)
    (hcheck : s.memCheck .monitor .store a 8 = .ok) (v : Word) :
    ∃ t, exec (.poke a v) s = done s (t.says .ok []) ∧ Stored s a (toLe 8 v.toNat) t := by
  obtain ⟨t, hwrite, hstored⟩ := uWrite_clean hclean hmem 506 (toLe 8 v.toNat) 0
  refine ⟨t, congrArg (done s) ((monitor_allowed hup hlevel _).trans ?_), hstored⟩
  rw [if_neg (not_not.2 halign)]
  obtain ⟨x, hplace | hplace⟩ := place_of_inMem hmem
  · simp only [hplace, hcheck, hwrite]
  · simp only [hplace, hcheck, hwrite]

/-- DIEMODE of a site without a tile sets its mode. -/
theorem exec_diemode {i k : Nat} (hlow : 1 ≤ i) (hhigh : i ≤ 36) (hk : k ≤ 2) (hfree : s.tileAt (i - 1) = none) :
    exec (.diemode i k) s = done s ((s.setSite (i - 1) { s.site (i - 1) with dieMode := k }).says .ok []) := by
  refine congrArg (done s) ((monitor_allowed hup hlevel _).trans ?_)
  rw [if_neg (by omega)]
  simp only [hfree, Bool.false_eq_true, if_false]

end Level2

/-! ### The statement -/

/-- Settles O45: the lines below their level, each command at its level, and what DRIZZLE and POKE refuse. -/
theorem monitorAccess : Obligations.MonitorAccess := by
  unfold Obligations.MonitorAccess
  intro s a v i k c u pass r seed base len t' w hup answers d
  have answered {c : Instr} {st : Status} (hexec : exec c s = done s (s.says st [])) : Does c s (answers st) :=
    does_of_done hexec rfl ⟨rfl, rfl, rfl⟩
  refine ⟨fun hlevel => ?below1, fun hlevel => ⟨does_refused hup hlevel rfl, does_refused hup hlevel rfl⟩,
    fun hlevel halign hword hpending hfuse hnow => ?peek, fun hlevel hready hmay hnew => ?drizzle,
    fun hlevel hclean halign hmem hcheck => ?poke, fun hlevel hmay => answered (exec_monDrizzle_locked hup hlevel hmay true),
    fun hlevel hk hc hbase hlen hcheck => ?tg, fun hlevel hi => answered (exec_poke_cell hup hlevel hi _),
    fun hlevel halign => answered (exec_poke_unaligned hup hlevel halign _), fun hlevel hlow hhigh hk hfree => ?diemode⟩
  case below1 =>
    have hbelow : s.mgmt.level < 1 := by omega
    exact ⟨does_refused hup hbelow rfl, does_refused hup hbelow rfl, does_refused hup hbelow rfl⟩
  case peek =>
    refine does_of_done (exec_monPeek hup hlevel halign hword) ?_ ⟨rfl, rfl, rfl⟩
    unfold Leaves
    rw [← hpending, ← hfuse, ← hnow]
    rfl
  case drizzle =>
    refine does_done (exec_monDrizzle hup hlevel hready hmay hnew pass) ⟨rfl, rfl, fun hpass => ?_, rfl⟩
    subst hpass
    exact overdue_segmentEnd (s.startSegment u) u
  case poke =>
    obtain ⟨t, hexec, hmem', -⟩ := exec_poke_memory hup hlevel hclean halign hmem hcheck (BitVec.ofNat 64 v)
    refine does_done hexec ⟨rfl, ?_⟩
    have hbytes : toLe 8 (BitVec.ofNat 64 v).toNat = toLe 8 v := by
      rw [BitVec.toNat_ofNat]
      exact toLe_mod 8 v
    rw [← hbytes]
    exact hmem'
  case tg => exact does_done (exec_monTg hup hlevel hk hc hbase hlen hcheck) ⟨rfl, rfl, rfl⟩
  case diemode =>
    have hsite := site_setSite s (i - 1) { s.site (i - 1) with dieMode := k }
    refine does_of_done (exec_diemode hup hlevel hlow hhigh hk hfree) rfl ⟨?_, fun j hj => (hsite j).trans (if_neg hj), rfl⟩
    exact congrArg Site.dieMode ((hsite (i - 1)).trans (if_pos rfl))

end Sys2Proof.Machine

/-!
PROOF. O47: what a tile asks for, the budget round, and what a grant and its absence set (R354, R425 to R427).
-/

namespace Sys2Proof.Machine

/-! ### Points of a site's islands (R426, R427) -/

/-- The island with the operating point that its budget allows. -/
def Island.setPoint (p : Nat) (x : Island) : Island := { x with point := p }

/-- The M-row islands of a site. -/
def siteRows (n : Nat) : List Nat := (List.range 4).map (mIsland n)

theorem mIsland_mem_siteRows (n : Nat) {r : Nat} (hr : r < 4) : mIsland n r ∈ siteRows n :=
  List.mem_map.2 ⟨r, List.mem_range.2 hr, rfl⟩

theorem mIsland_ne_vsIsland {n r : Nat} (hn : n < 36) (hr : r < 4) : mIsland n r ≠ vsIsland n := by
  unfold mIsland vsIsland
  omega

theorem not_mem_siteRows {n k : Nat} (hrow : ∀ r, r < 4 → k ≠ mIsland n r) : k ∉ siteRows n := by
  intro hk
  obtain ⟨r, hr, rfl⟩ := List.mem_map.1 hk
  exact hrow r (List.mem_range.1 hr) rfl

theorem vsIsland_not_mem_siteRows {n : Nat} (hn : n < 36) : vsIsland n ∉ siteRows n :=
  not_mem_siteRows fun _ hr => (mIsland_ne_vsIsland hn hr).symm

theorem not_mem_siteIslands {n k : Nat} (hrow : ∀ r, r < 4 → k ≠ mIsland n r) (hvs : k ≠ vsIsland n) : k ∉ siteIslands n := by
  intro hk
  obtain hk | hk := List.mem_append.1 hk
  · exact not_mem_siteRows hrow hk
  · exact hvs (List.mem_singleton.1 hk)

/-- Retiming a tile sets clocks of its own site's islands, or changes nothing. -/
theorem retimeTile_site {s : State} {i n : Nat} (hsite : (s.tile i).site = some n) : s.retimeTile i = s ∨ ∃ clk halved vclk,
    s.retimeTile i = (s.onIslands (Island.retime clk halved) (siteRows n)).setIsland (vsIsland n)
      { (s.onIslands (Island.retime clk halved) (siteRows n)).island (vsIsland n) with clk := vclk } := by
  unfold State.retimeTile
  rw [hsite]
  dsimp only
  split
  · exact .inl rfl
  · exact .inr ⟨_, _, _, rfl⟩

/-- It leaves the points of all islands, and the islands of other sites. -/
theorem retimeTile_reads {s : State} {i n : Nat} (hsite : (s.tile i).site = some n) :
    (∀ j, ((s.retimeTile i).island j).point = (s.island j).point) ∧
    (∀ j, j ∉ siteIslands n → (s.retimeTile i).island j = s.island j) := by
  refine ⟨fun j => ?_, fun j hj => ?_⟩
  · obtain ⟨clk, halved, hclock⟩ := island_retimeTile s i j
    rw [hclock]
    rfl
  · have hrow : j ∉ siteRows n := fun h => hj (List.mem_append_left _ h)
    have hvs : j ≠ vsIsland n := fun h => hj (h ▸ vsIsland_mem_siteIslands n)
    obtain h | ⟨clk, halved, vclk, h⟩ := retimeTile_site hsite
    · rw [h]
    · rw [h, island_setIsland, if_neg hvs, island_onIslands s (φ := Island.retime clk halved) (fun _ => rfl), if_neg hrow]

/-- The points that a grant sets: the M-row islands' when the ceiling allows it, and the V/S island's. -/
def State.grantPoints (s : State) (n m v : Nat) : State :=
  let u := if m ≤ s.boot.ceilMhz then s.onIslands (Island.setPoint (max 500 m)) (siteRows n) else s
  u.setIsland (vsIsland n) ((u.island (vsIsland n)).setPoint (max 400 v))

theorem grantPoints_frame (s : State) (n m v : Nat) : ∃ x, s.grantPoints n m v = { s with islands := x } := by
  obtain ⟨x, hx⟩ := onIslands_frame s (Island.setPoint (max 500 m)) (siteRows n)
  unfold State.grantPoints
  rw [hx]
  split <;> exact ⟨_, rfl⟩

section Points
variable (s : State) {n : Nat} (m v : Nat)

/-- The islands of the rows alone, as a grant leaves them. -/
theorem island_grantPoints (j : Nat) (hj : j ≠ vsIsland n) : (s.grantPoints n m v).island j =
    if m ≤ s.boot.ceilMhz ∧ j ∈ siteRows n then (s.island j).setPoint (max 500 m) else s.island j := by
  unfold State.grantPoints
  dsimp only
  rw [island_setIsland, if_neg hj]
  by_cases hceil : m ≤ s.boot.ceilMhz
  · rw [if_pos hceil, island_onIslands s (φ := Island.setPoint (max 500 m)) (fun _ => rfl)]
    simp only [hceil, true_and]
  · simp only [hceil, if_false, false_and]

theorem point_grantPoints_vs : ((s.grantPoints n m v).island (vsIsland n)).point = max 400 v := by
  unfold State.grantPoints
  dsimp only
  rw [island_setIsland, if_pos rfl]
  rfl

end Points

/-! ### The commands (R425, R426) -/

/-- Of a list of asks with one entry, the entry is all. -/
theorem filterMap_range_single {β : Type} {f : Nat → Option β} {b : β} {i : Nat} (hi : f i = some b) (n : Nat) (hn : i < n)
    (hnone : ∀ j ∈ List.range n, j ≠ i → f j = none) : (List.range n).filterMap f = [b] := by
  induction n with
  | zero => omega
  | succ n ih =>
    rw [List.range_succ, List.filterMap_append]
    have hbefore (j : Nat) (hj : j ∈ List.range n) : j ∈ List.range (n + 1) :=
      List.mem_range.2 (Nat.lt_succ_of_lt (List.mem_range.1 hj))
    by_cases hlast : i = n
    · have hempty : (List.range n).filterMap f = [] := by
        refine List.filterMap_eq_nil_iff.2 fun j hj => hnone j (hbefore j hj) ?_
        rw [hlast]
        exact (List.mem_range.1 hj).ne
      rw [hempty, ← hlast]
      simp [hi]
    · rw [ih (by omega) fun j hj hji => hnone j (hbefore j hj) hji]
      simp [hnone n (List.mem_range.2 n.lt_succ_self) (Ne.symm hlast)]

/-- A tile that asks alone gets what it asks, or all there is. -/
theorem budgetLoop_alone (k : Nat) (avail : Rat) (i a : Nat) :
    budgetLoop (k + 2) avail [(i, a)] [] = [(i, if (a : Rat) ≤ avail then a else avail.floor.toNat)] := by
  by_cases hfits : (a : Rat) ≤ avail
  · simp [budgetLoop, hfits]
  · simp [budgetLoop, hfits]

section Tile
variable {s : State} {i n : Nat} (hi : i < 32) (hsite : (s.tile i).site = some n)

/-- BUDGET_ROUND with one ask sends one grant. -/
theorem exec_budgetRound {a : Nat} (hi : i < 32) (hask : (s.tile i).ask = some a)
    (halone : ∀ j ∈ List.range 32, j ≠ i → (s.tile j).ask = none) : exec .budgetRound s = done s (s.setTile i
      { s.tile i with sent := some (if (a : Rat) ≤ s.avail then a else s.avail.floor.toNat), ask := none }) := by
  have hasks : (List.range 32).filterMap (fun t => ((s.tile t).ask).map (fun a => (t, a))) = [(i, a)] := by
    refine filterMap_range_single ?_ 32 hi fun j hj hji => ?_
    · simp [hask]
    · simp [halone j hj hji]
  have hgrants : s.grants = [(i, if (a : Rat) ≤ s.avail then a else s.avail.floor.toNat)] := by
    rw [State.grants, hasks, budgetLoop_alone 31]
  refine congrArg (done s) ?_
  rw [hgrants]
  rfl

include hi hsite

/-- PWR_REQ while both power ports are out changes nothing. -/
theorem exec_pwrReq_unheard (hports : s.sidePorts n = []) (w a : Nat) : exec (.pwrReq i w a) s = done s s := by
  refine (within_of_lt hi).trans (congrArg (done s) ?_)
  dsimp only
  rw [hsite]
  dsimp only
  rw [hports]
  exact if_pos (Bool.or_true _)

/-- PWR_REQ of a tile in use keeps its report and its ask. -/
theorem exec_pwrReq (hon : (s.tile i).off = false) (hports : s.sidePorts n ≠ []) (w a : Nat) :
    exec (.pwrReq i w a) s = done s (s.setTile i { s.tile i with meas := w, ask := some a }) := by
  have hheard : ((s.tile i).off || s.sidePorts n == []) = false := by
    rw [hon, beq_eq_false_iff_ne.2 hports]
    rfl
  refine (within_of_lt hi).trans (congrArg (done s) ?_)
  dsimp only
  rw [hsite]
  dsimp only
  rw [hheard]
  rfl

/-- So does PWR_GRANT. -/
theorem exec_pwrGrant_unheard (hports : s.sidePorts n = []) (mhz vs gate : Nat) : exec (.pwrGrant i mhz vs gate) s = done s s := by
  refine (within_of_lt hi).trans (congrArg (done s) ?_)
  dsimp only
  rw [hsite]
  cases (s.tile i).sent with
  | none => rfl
  | some g => exact if_pos hports

/-- PWR_GRANT of a grant that was sent puts it in force and sets the points that fit it. -/
theorem exec_pwrGrant {g : Nat} (hsent : (s.tile i).sent = some g) (hports : s.sidePorts n ≠ []) (mhz vs gate : Nat) :
    exec (.pwrGrant i mhz vs gate) s = done s (((s.setTile i { s.tile i with
      grant := some g, sent := none, gated := min gate 1000 }).grantPoints n (mhz / 25 * 25) (min 1800 (vs / 25 * 25))).retimeTile i) := by
  refine (within_of_lt hi).trans (congrArg (done s) ?_)
  dsimp only
  rw [hsent, hsite]
  exact if_neg hports

/-- GRANT_TIMEOUT takes the grant back and sets the points of the site's islands to 0. -/
theorem exec_grantTimeout : exec (.grantTimeout i) s = done s (((s.setTile i { s.tile i with grant := none }).onIslands
    (Island.setPoint 0) (siteIslands n)).retimeTile i) := by
  refine (within_of_lt hi).trans (congrArg (done s) ?_)
  rw [hsite]
  rfl

end Tile

/-- A command that ends in retiming a tile leaves its entry, the points, and the islands of other sites as they were before that. -/
theorem does_retimed {c : Instr} {s u : State} {i n : Nat} {P : State → Prop} (hexec : exec c s = done s (u.retimeTile i))
    (hsite : (u.tile i).site = some n) (hframe : u = { s with tiles := u.tiles, islands := u.islands })
    (h : ∀ t : State, t.tile i = u.tile i → (∀ j, (t.island j).point = (u.island j).point) →
      (∀ j, j ∉ siteIslands n → t.island j = u.island j) → t = { s with tiles := t.tiles, islands := t.islands } → P t) :
    Does c s P := by
  obtain ⟨hpoint, hother⟩ := retimeTile_reads hsite
  obtain ⟨isl, hretime⟩ := retimeTile_frame u i
  have hleft : u.retimeTile i = { s with tiles := (u.retimeTile i).tiles, islands := (u.retimeTile i).islands } := by
    rw [hretime, hframe]
  have htile : (u.retimeTile i).tile i = u.tile i := by
    rw [hretime]
    rfl
  generalize u.retimeTile i = t at hexec hpoint hother hleft htile
  refine does_of_done hexec ?_ (h t htile hpoint hother hleft)
  unfold Leaves
  rw [hleft]

/-! ### The statement -/

/-- Settles O47: the request and the grant unheard, the request, the round with one ask, the grant, and its timeout. -/
theorem powerGrants : Obligations.PowerGrants := by
  unfold Obligations.PowerGrants
  intro s i n g w a mhz vs gate hi hsite hn hon x m elsewhere
  have htile (y : Tile) (j : Nat) : (s.setTile i y).tile j = if j = i then y else s.tile j := tile_setTile s i y j
  refine ⟨fun hports => ⟨?reqUnheard, ?grantUnheard⟩, fun hports => ?request, fun hask halone => ?round, fun hsent hports => ?grant,
    ?timeout⟩
  case reqUnheard => exact does_of_done (exec_pwrReq_unheard hi hsite hports w a) rfl rfl
  case grantUnheard => exact does_of_done (exec_pwrGrant_unheard hi hsite hports mhz vs gate) rfl rfl
  case request =>
    exact does_of_done (exec_pwrReq hi hsite hon hports w a) rfl
      ⟨(htile _ i).trans (if_pos rfl), fun j hj => (htile _ j).trans (if_neg hj), rfl⟩
  case round =>
    exact does_of_done (exec_budgetRound hi hask halone) rfl
      ⟨(htile _ i).trans (if_pos rfl), fun j hj => (htile _ j).trans (if_neg hj), rfl⟩
  case grant =>
    let y : Tile := { x with grant := some g, sent := none, gated := min gate 1000 }
    obtain ⟨isl, hframe⟩ := grantPoints_frame (s.setTile i y) n m (min 1800 (vs / 25 * 25))
    have hrows := island_grantPoints (s.setTile i y) (n := n) m (min 1800 (vs / 25 * 25))
    have hvs := point_grantPoints_vs (s.setTile i y) (n := n) m (min 1800 (vs / 25 * 25))
    have hexec := exec_pwrGrant hi hsite hsent hports mhz vs gate
    change exec _ s = done s (((s.setTile i y).grantPoints n m (min 1800 (vs / 25 * 25))).retimeTile i) at hexec
    generalize (s.setTile i y).grantPoints n m (min 1800 (vs / 25 * 25)) = u at hexec hframe hrows hvs
    have hy : u.tile i = y := by
      rw [hframe]
      exact (htile y i).trans (if_pos rfl)
    refine does_retimed hexec (by rw [hy]; exact hsite) (by rw [hframe]; rfl) fun t hsame hpoint hother hleft =>
      ⟨by rw [hsame, hy], by rw [hsame, hy], by rw [hsame, hy], fun r hr => ?_, ?_, fun k hrow hk => ?_, hleft⟩
    · rw [hpoint, hrows _ (mIsland_ne_vsIsland hn hr)]
      by_cases hceil : m ≤ s.boot.ceilMhz
      · rw [if_pos hceil, if_pos ⟨hceil, mIsland_mem_siteRows n hr⟩]
        rfl
      · rw [if_neg hceil, if_neg fun h => hceil h.1]
        rfl
    · rw [hpoint, hvs]
    · rw [hother k (not_mem_siteIslands hrow hk), hrows k hk, if_neg fun h => not_mem_siteRows hrow h.2]
      rfl
  case timeout =>
    let y : Tile := { x with grant := none }
    obtain ⟨isl, hframe⟩ := onIslands_frame (s.setTile i y) (Island.setPoint 0) (siteIslands n)
    have hset := island_onIslands (s.setTile i y) (φ := Island.setPoint 0) (fun _ => rfl) (siteIslands n)
    have hexec := exec_grantTimeout hi hsite
    change exec _ s = done s (((s.setTile i y).onIslands (Island.setPoint 0) (siteIslands n)).retimeTile i) at hexec
    generalize (s.setTile i y).onIslands (Island.setPoint 0) (siteIslands n) = u at hexec hframe hset
    have hy : u.tile i = y := by
      rw [hframe]
      exact (htile y i).trans (if_pos rfl)
    refine does_retimed hexec (by rw [hy]; exact hsite) (by rw [hframe]; rfl) fun t hsame hpoint hother hleft =>
      ⟨by rw [hsame, hy], fun r hr => ?_, ?_, fun k hrow hk => ?_, hleft⟩
    · rw [hpoint, hset, if_pos (mIsland_mem_siteIslands n hr)]
      rfl
    · rw [hpoint, hset, if_pos (vsIsland_mem_siteIslands n)]
      rfl
    · rw [hother k (not_mem_siteIslands hrow hk), hset, if_neg (not_mem_siteIslands hrow hk)]
      rfl

end Sys2Proof.Machine

/-!
PROOF. O50: the budget of a partner site (R371), its lanes (R372), and its die that is lost and comes back (R366, R373).
-/

namespace Sys2Proof.Machine

/-! ### Grants and places of a site (R366, R371) -/

/-- A grant to a site changes the site and the grants in force. -/
theorem grantSite_frame (s : State) (k w : Nat) : ∃ p q, s.grantSite k w = { s with psites := p, power := q } := by
  unfold State.grantSite
  dsimp only
  split <;> exact ⟨_, _, rfl⟩

/-- The grant in force of the site is the one given. -/
theorem power_grantSite (s : State) (k w : Nat) :
    (if k = 0 then (s.grantSite k w).power.grantA else (s.grantSite k w).power.grantB) = w := by
  unfold State.grantSite
  dsimp only
  split <;> rfl

/-- Placing a site changes the site, the grants in force and the agents of the coherent domain. -/
theorem placeSite_frame (s : State) (k : Nat) (y : PSite) :
    ∃ p q l, s.placeSite k y = { s with psites := p, power := q, coh.partners := l } := by
  obtain ⟨p, q, hgrant⟩ := grantSite_frame (s.setPsite k y) k y.pgrant
  unfold State.placeSite
  rw [hgrant]
  exact ⟨p, q, _, rfl⟩

/-- The site placed reads as given, and every other as before. -/
theorem psite_placeSite (s : State) (k : Nat) (y : PSite) (j : Nat) :
    (s.placeSite k y).psite j = if j = k then y else s.psite j := by
  have hgrant := psite_grantSite (s.setPsite k y) k y.pgrant j
  rw [psite_setPsite, psite_setPsite, if_pos rfl] at hgrant
  refine Eq.trans ?_ (hgrant.trans ?_)
  · rfl
  · split <;> rfl

/-! ### The commands (R371 to R373) -/

section Site
variable {s : State} {k : Nat} (hk : k < 2)
include hk

section Up
variable (hup : (s.psite k).st = 2)
include hup

theorem exec_pwrAsk (w : Nat) : exec (.pwrAsk k w) s = done s (s.grantSite k (min w (s.askCap k))) :=
  (within_of_lt hk).trans (congrArg (done s) (if_pos hup))

theorem exec_pwrTele (w temp : Nat) : exec (.pwrTele k w temp) s =
    done s (s.setPsite k { s.psite k with pmeas := w % 2 ^ 16, tmeas := temp % 2 ^ 8 }) :=
  (within_of_lt hk).trans (congrArg (done s) (if_pos hup))

/-- PARTNER_OVERRUN that has not lasted cuts the grant to the stated minimum. -/
theorem exec_partnerOverrun : exec (.partnerOverrun k false) s = done s
    ((s.setPsite k { s.psite k with overrun := true }).grantSite k (min (s.psite k).pgrant (pdMin (s.psite k).desc))) :=
  (within_of_lt hk).trans (congrArg (done s) (if_neg (not_not.2 hup)))

theorem exec_partnerFence : exec (.partnerFence k) s = done s (s.fenceSite k) :=
  (within_of_lt hk).trans (congrArg (done s) (if_pos hup))

end Up

/-- PARTNER_DIE_RETURN of a die that trains with a good descriptor places its site FENCED, with the next epoch. -/
theorem exec_partnerDieReturn {f : PartnerFind} (hfenced : (s.psite k).st = 3) (hlost : (s.psite k).desc = [])
    (htrained : f.trained = true) (hgood : s.descFails k f.desc = 0) : exec (.partnerDieReturn k f) s =
      done s (s.placeSite k { s.negotiated k f.desc (((s.psite k).epoch + 1) % 2 ^ 32) with
        st := 3, drop := (s.psite k).drop }).markDist := by
  have htrain : (s.trainSite k f (((s.psite k).epoch + 1) % 2 ^ 32)).1 =
      s.negotiated k f.desc (((s.psite k).epoch + 1) % 2 ^ 32) := by
    simp [State.trainSite, htrained, hgood]
  refine (within_of_lt hk).trans (congrArg (done s) ((if_neg (by simp [hfenced, hlost])).trans ?_))
  rw [htrain]
  rfl

/-- A lane that a redundant one replaces changes nothing. -/
theorem exec_ucieLaneFail_repaired {m : Nat} (hm : m < 4) : exec (.ucieLaneFail k m true) s = done s s :=
  (within_of_lt hk).trans (within_of_lt hm)

/-- A lane that none replaces narrows a module at full width. -/
theorem exec_ucieLaneFail {m : Nat} (hm : m < 4) (hup : (s.psite k).st = 2) (hrole : ((s.psite k).mods.getD m {}).role ≠ 7)
    (hwidth : ((s.psite k).mods.getD m {}).width = 0) (hports : s.slowPorts = []) (htargets : s.slowTargets = []) :
    ∃ ev q l, exec (.ucieLaneFail k m false) s = done s
      { (s.setPsite k { s.psite k with mods := (s.psite k).mods.set m { (s.psite k).mods.getD m {} with width := 1 } }).markDist with
        host.evbuf := ev, svc.logq := q, svc.logLost := l } := by
  let y : PSite := { s.psite k with mods := (s.psite k).mods.set m { (s.psite k).mods.getD m {} with width := 1 } }
  let p := 1 + 2 ^ 4 * k + 2 ^ 5 * m + 2 ^ 8 * 1 + 2 ^ 10 * ((s.psite k).mods.getD m {}).rate
  obtain ⟨ev, q, l, hraise⟩ := raise_changes (s.setPsite k y).markDist 0x01D p [] 0xFF false
  obtain ⟨hports', htargets'⟩ := slowAudience_congr (s := s) (t := (s.setPsite k y).markDist.raise 0x01D p)
    (by rw [hraise]; rfl) (by rw [hraise]; rfl)
  have hdegrade : ((s.psite k).mods.getD m {}).degrade = { (s.psite k).mods.getD m {} with width := 1 } := if_pos hwidth
  have hfails : (false || (s.psite k).st != 2 || ((s.psite k).mods.getD m {}).role == 7 ||
      ((s.psite k).mods.getD m {}).width == 3) = false := by
    rw [hup, hwidth, beq_eq_false_iff_ne.2 hrole]
    rfl
  refine ⟨ev, q, l, (within_of_lt hk).trans ((within_of_lt hm).trans (congrArg (done s) ?_))⟩
  dsimp only
  rw [hfails, hdegrade]
  exact (slowNotice_nobody (hports'.trans hports) (htargets'.trans htargets) 2 1000).trans hraise

end Site

/-- A fenced site is FENCED and without a descriptor. -/
theorem psite_fenceSite (s : State) (k : Nat) : ∃ x : PSite, (s.fenceSite k).psite k = { x with st := 3, desc := [] } := by
  obtain ⟨t, ht⟩ : ∃ t : State, s.fenceSite k = (t.setPsite k { t.psite k with st := 3, desc := [] }).markDist := ⟨_, rfl⟩
  rw [ht, psite_markDist, psite_setPsite, if_pos rfl]
  exact ⟨t.psite k, rfl⟩

/-! ### The statement -/

/-- Settles O50: the ask, the telemetry, the overrun, the fence, a lane with and without a replacement, and the return. -/
theorem partnerSites : Obligations.PartnerSites := by
  unfold Obligations.PartnerSites
  intro s k w temp m f hk x others
  have hset (y : PSite) (j : Nat) : (s.setPsite k y).psite j = if j = k then y else s.psite j := psite_setPsite s k y j
  refine ⟨fun hup => ?ask, fun hup => ?tele, fun hup => ?overrun, fun hup => ?fence,
    fun hup hm hrole hwidth _ hports htargets => ?lane, fun hm => ?repaired, fun hst hdesc htrained hgood => ?returns⟩
  case ask =>
    have hsite := psite_grantSite s k (min w (s.askCap k))
    have hgrant := power_grantSite s k (min w (s.askCap k))
    obtain ⟨p, q, hframe⟩ := grantSite_frame s k (min w (s.askCap k))
    have hexec := exec_pwrAsk hk hup w
    generalize s.grantSite k (min w (s.askCap k)) = u at hexec hsite hgrant hframe
    refine does_of_done hexec (by rw [hframe]; rfl)
      ⟨(hsite k).trans (if_pos rfl), fun j hj => (hsite j).trans (if_neg hj), hgrant, by rw [hframe]⟩
  case tele =>
    exact does_of_done (exec_pwrTele hk hup w temp) rfl
      ⟨(hset _ k).trans (if_pos rfl), fun j hj => (hset _ j).trans (if_neg hj), rfl⟩
  case overrun =>
    let y : PSite := { x with overrun := true }
    have hsite := psite_grantSite (s.setPsite k y) k (min x.pgrant (pdMin x.desc))
    obtain ⟨p, q, hframe⟩ := grantSite_frame (s.setPsite k y) k (min x.pgrant (pdMin x.desc))
    have hexec := exec_partnerOverrun hk hup
    change exec _ s = done s ((s.setPsite k y).grantSite k (min x.pgrant (pdMin x.desc))) at hexec
    generalize (s.setPsite k y).grantSite k (min x.pgrant (pdMin x.desc)) = u at hexec hsite hframe
    refine does_of_done hexec (by rw [hframe]; rfl) ⟨?_, fun j hj => ?_, by rw [hframe]; rfl⟩
    · rw [hsite, if_pos rfl, hset, if_pos rfl]
    · rw [hsite, if_neg hj, hset, if_neg hj]
  case fence =>
    obtain ⟨y, hy⟩ := psite_fenceSite s k
    have hexec := exec_partnerFence hk hup
    generalize s.fenceSite k = u at hexec hy
    exact does_done hexec ⟨congrArg PSite.st hy, congrArg PSite.desc hy⟩
  case lane =>
    obtain ⟨ev, q, l, hexec⟩ := exec_ucieLaneFail hk hm hup hrole hwidth hports htargets
    exact does_of_done hexec rfl ⟨(hset _ k).trans (if_pos rfl), fun j hj => (hset _ j).trans (if_neg hj), rfl, rfl⟩
  case repaired => exact does_of_done (exec_ucieLaneFail_repaired hk hm) rfl rfl
  case returns =>
    let y : PSite := { s.negotiated k f.desc ((x.epoch + 1) % 2 ^ 32) with st := 3, drop := x.drop }
    have hsite := psite_placeSite s k y
    obtain ⟨p, q, l, hframe⟩ := placeSite_frame s k y
    have hexec := exec_partnerDieReturn hk hst hdesc htrained hgood
    change exec _ s = done s (s.placeSite k y).markDist at hexec
    generalize s.placeSite k y = u at hexec hsite hframe
    have hy : u.markDist.psite k = y := (hsite k).trans (if_pos rfl)
    refine does_of_done hexec (by rw [hframe]; rfl) ⟨?_, ?_, ?_, ?_, fun j hj => (hsite j).trans (if_neg hj), by rw [hframe]; rfl⟩
    · rw [hy]
    · rw [hy]
      rfl
    · rw [hy]
      rfl
    · rw [hy]

end Sys2Proof.Machine

/-!
PROOF. O38: the loss of input power (R420) and the resets of the module (R375, R381, R389, R449, R458).
-/

namespace Sys2Proof.Machine

/-! ### The input stops (R420) -/

/-- A command that restarts the timebase leaves what it worked out, with the queue and the fuses of `s` and the timebase it says. -/
theorem does_doneAt {c : Instr} {s t : State} {ns : Nat} {P : State → Prop} (hexec : exec c s = doneAt s t ns)
    (h : P { t with pending := s.pending, fuse := s.fuse, now := ns }) : Does c s P :=
  ⟨_, hexec, h⟩

section Powered
variable {s : State} (hpower : s.boot.powered = true)
include hpower

theorem exec_undervoltageStop {mv : Nat} (hmv : mv < 30000) : exec (.undervoltageStop mv) s = doneAt s s.dark 0 :=
  if_pos (by simp [hpower, hmv])

theorem exec_overvoltageStop {mv : Nat} (hmv : 54000 < mv) : exec (.overvoltageStop mv) s = doneAt s s.dark 0 :=
  if_pos (by simp [hpower, hmv])

/-! ### The module resets (R389) -/

theorem exec_perstAssert (hperst : s.boot.perst = false) :
    exec .perstAssert s = done s { s.moduleReset with boot := { s.moduleReset.boot with perst := true } } := by
  refine congrArg (done s) ?_
  simp only [hperst, hpower, Bool.not_true, Bool.false_eq_true, if_false]

/-- PERST_RELEASE of a module that is down and has neither failed nor shut down starts it. -/
theorem exec_perstRelease (hperst : s.boot.perst = true) (hidle : s.boot.running = false) (hready : s.boot.ready = false)
    (hfailed : s.boot.failed = false) (hshut : s.boot.shut = false) :
    exec .perstRelease s = done s ({ s with boot.perst := false } : State).startUp := by
  refine congrArg (done s) ?_
  dsimp only
  rw [hperst, hpower, hidle, hready, hfailed, hshut]
  rfl

end Powered

section Keeper
variable {s : State} (hup : s.keeperUp = true)
include hup

theorem exec_resetModule {pcie : Bool} (hbind : s.bindingUp pcie = true) (hquiet : s.activating = false) : ∃ q l,
    exec (.resetModule pcie 0xA5) s =
      done s (({ s with svc.logq := q, svc.logLost := l }.says .ok []).moduleReset).startUp := by
  obtain ⟨q, l, hlog⟩ := logRec_changes s 0x1087 0xFF (b2n pcie)
  refine ⟨q, l, ?_⟩
  rw [← hlog]
  refine congrArg (done s) ?_
  rw [hup, hbind, hquiet]
  rfl

theorem exec_monReset (hlevel : 2 ≤ s.mgmt.level) : ∃ q l,
    exec .monReset s = done s (({ s with svc.logq := q, svc.logLost := l }.says .ok []).moduleReset).startUp := by
  obtain ⟨q, l, hlog⟩ := logRec_changes s 0x1087 0xFF 2
  refine ⟨q, l, ?_⟩
  rw [← hlog]
  exact congrArg (done s) (monitor_allowed hup hlevel _)

end Keeper

/-- A module reset keeps the bytes of HBM; every other byte reads zero. -/
theorem byte_moduleReset (s : State) (a : Nat) : s.moduleReset.byte a = if hbmEnd ≤ a then 0 else s.byte a := by
  refine (tget_tdrop memDefault (fun a => decide (hbmEnd ≤ a)) s.mem a).trans ?_
  simp only [decide_eq_true_eq]
  rfl

/-- What holds of `t` after a module reset of `s`: no work is left, HBM, fuses and flash are as before, and no other byte is. -/
def WasReset (s t : State) : Prop :=
  t.boot.powered = true ∧ t.boot.ready = false ∧ t.cores = [] ∧ t.mcores = [] ∧ t.tasks = [] ∧ t.parts = [] ∧ t.sync = {} ∧
  t.coh = {} ∧ t.tiles = [] ∧ t.tcmErrs = [] ∧ (∀ a, a < hbmEnd → t.byte a = s.byte a) ∧ (∀ a, hbmEnd ≤ a → t.byte a = 0) ∧
  t.fuse = s.fuse ∧ t.flash = s.flash ∧ t.now = s.now

/-- It holds whatever becomes of start-up, of what the Wellkeeper keeps, and of what was answered before. -/
theorem wasReset_of_moduleReset {s t : State} (hpower : t.boot.powered = true) (hready : t.boot.ready = false)
    (hframe : t = { s.moduleReset with boot := t.boot, power := t.power, svc := t.svc, out := t.out }) : WasReset s t := by
  have hbyte (a : Nat) : t.byte a = if hbmEnd ≤ a then 0 else s.byte a := by
    rw [← byte_moduleReset, hframe]
    rfl
  refine ⟨hpower, hready, ?_, ?_, ?_, ?_, ?_, ?_, ?_, ?_, fun a ha => by rw [hbyte, if_neg ha.not_ge],
    fun a ha => by rw [hbyte, if_pos ha], ?_, ?_, ?_⟩
  all_goals
    rw [hframe]
    rfl

/-! ### The statement -/

/-- Settles O38: the two stops, PERST# asserted and released, and the two resets that start at once. -/
theorem powerLossAndModuleReset : Obligations.PowerLossAndModuleReset := by
  unfold Obligations.PowerLossAndModuleReset
  intro s mv pcie hpower dark reset starts
  have hdark : dark { s.dark with pending := s.pending, fuse := s.fuse, now := 0 } :=
    ⟨rfl, rfl, rfl, rfl, rfl, rfl, rfl, rfl, rfl, rfl, rfl⟩
  refine ⟨fun hmv => does_doneAt (exec_undervoltageStop hpower hmv) hdark,
    fun hmv => does_doneAt (exec_overvoltageStop hpower hmv) hdark, fun hperst => ?assert,
    fun hperst hidle hready hfailed hshut => ?release, fun hup hbind hquiet => ?reset, fun hup hlevel => ?monitor⟩
  case assert =>
    exact does_of_done (exec_perstAssert hpower hperst) rfl ⟨wasReset_of_moduleReset hpower rfl rfl, rfl, rfl⟩
  case release =>
    exact does_of_done (exec_perstRelease hpower hperst hidle hready hfailed hshut) rfl ⟨⟨rfl, rfl⟩, rfl, rfl, rfl⟩
  case reset =>
    obtain ⟨q, l, hexec⟩ := exec_resetModule hup hbind hquiet
    exact does_of_done hexec rfl ⟨wasReset_of_moduleReset hpower rfl rfl, rfl, rfl⟩
  case monitor =>
    obtain ⟨q, l, hexec⟩ := exec_monReset hup hlevel
    exact does_of_done hexec rfl ⟨wasReset_of_moduleReset hpower rfl rfl, ⟨rfl, rfl⟩, rfl⟩

end Sys2Proof.Machine

/-!
PROOF. O37: stages of start-up in general (R377, R378, R382), the partner sites (R365, R366), the ports (R333, R384) and the end of
start-up (R385 to R387).
-/

namespace Sys2Proof.Machine

/-! ### Stages (R377, R378) -/

section Stage
variable {s : State} {k dur : Nat} (hpower : s.boot.powered = true) (hrunning : s.boot.running = true) (hstage : s.boot.stage = k)
include hpower hrunning hstage

/-- The stage in progress runs within its bound. -/
theorem stage_inTime (hdur : dur ≤ stageBound k) (f : State → State) : s.stage k dur f = f s := by
  simp [State.stage, hpower, hrunning, hstage, hdur]

/-- Past its bound it ends FAILED with ST_TIMEOUT. -/
theorem stage_late (hdur : stageBound k < dur) (f : State → State) :
    s.stage k dur f = s.endStage k 3 { dur := dur, status := stCode .timeout } := by
  simp [State.stage, hpower, hrunning, hstage, hdur]

end Stage

/-- The report of a stage is written; one that did not pass is logged. -/
def State.reportStage (s : State) (k res : Nat) (r : StageRep) : State :=
  let b := stageBytes k res s.flash.boots s.boot.start r
  let t := { s with boot.reports := tset (fun _ => []) s.boot.reports k b }
  if res = 0 then t else t.logRec 0x1007 0xFF (le b 0 8) ((b.drop 8).take 24)

theorem reportStage_frame (s : State) (k res : Nat) (r : StageRep) : ∃ q l, s.reportStage k res r = { s with
    boot.reports := tset (fun _ => []) s.boot.reports k (stageBytes k res s.flash.boots s.boot.start r)
    svc.logq := q, svc.logLost := l } := by
  unfold State.reportStage
  dsimp only
  split
  · exact ⟨_, _, rfl⟩
  · rw [logRec_frame]
    exact ⟨_, _, rfl⟩

theorem endStage_eq (s : State) (k res : Nat) (r : StageRep) : s.endStage k res r =
    if res = 3 then { s.reportStage k res r with
      boot := { (s.reportStage k res r).boot with failed := true, running := false } }
    else if k = 9 then { s.reportStage k res r with boot := { (s.reportStage k res r).boot with running := false } }
    else { s.reportStage k res r with boot := { (s.reportStage k res r).boot with stage := k + 1, start := s.now } } := rfl

/-- A stage that fails ends start-up. -/
theorem endStage_failed (s : State) (k : Nat) (r : StageRep) : ∃ q l, s.endStage k 3 r = { s with
    boot := { s.boot with
      reports := tset (fun _ => []) s.boot.reports k (stageBytes k 3 s.flash.boots s.boot.start r), failed := true, running := false }
    svc.logq := q, svc.logLost := l } := by
  obtain ⟨q, l, hreport⟩ := reportStage_frame s k 3 r
  rw [endStage_eq, if_pos rfl, hreport]
  exact ⟨q, l, rfl⟩

/-- S9 that does not fail ends start-up too. -/
theorem endStage_last (s : State) {res : Nat} (hres : res ≠ 3) (r : StageRep) : ∃ rep q l, s.endStage 9 res r = { s with
    boot := { s.boot with reports := rep, running := false }, svc.logq := q, svc.logLost := l } := by
  obtain ⟨q, l, hreport⟩ := reportStage_frame s 9 res r
  rw [endStage_eq, if_neg hres, if_pos rfl, hreport]
  exact ⟨_, q, l, rfl⟩

/-- A stage that passes enters the next one. -/
theorem passStage_enters (s : State) {k : Nat} (hk : k ≠ 9) (r : StageRep) (degraded : Bool) : ∃ rep q l,
    s.passStage k r degraded = { s with
      boot := { s.boot with reports := rep, stage := k + 1, start := s.now }, svc.logq := q, svc.logLost := l } := by
  unfold State.passStage
  generalize hres : (if (degraded || r.failed != 0 || r.spared != 0) = true then 1 else 0) = res
  have hpassed : res ≠ 3 := by
    rw [← hres]
    split <;> decide
  obtain ⟨q, l, hreport⟩ := reportStage_frame s k res r
  rw [endStage_eq, if_neg hpassed, if_neg hk, hreport]
  exact ⟨_, q, l, rfl⟩

/-- A status that the spec leaves open takes a free value. -/
theorem openStatus_frame (s : State) (failed : Bool) : ∃ n, (s.openStatus failed).2 = { s with free := n } := by
  cases failed with
  | true => exact ⟨_, rfl⟩
  | false => exact ⟨_, rfl⟩

/-- Stage `k` has passed from state `s`: beside start-up's place and reports, it moved the free values and the log only. -/
def Entered (k : Nat) (s t : State) : Prop :=
  ∃ n rep q l, t = { s with
    free := n, boot := { s.boot with reports := rep, stage := k + 1, start := s.now }, svc.logq := q, svc.logLost := l }

/-- A stage passes with a status that the spec leaves open. -/
theorem entered_openStatus (s : State) {k : Nat} (hk : k ≠ 9) (failed : Bool) (r : StageRep) (degraded : Bool) :
    Entered k s ((s.openStatus failed).2.passStage k r degraded) := by
  obtain ⟨n, hopen⟩ := openStatus_frame s failed
  obtain ⟨rep, q, l, hpass⟩ := passStage_enters (s.openStatus failed).2 hk r degraded
  rw [hpass, hopen]
  exact ⟨n, rep, q, l, rfl⟩

/-! ### S7 (R365, R366) -/

/-- The partner sites as S7 finds and trains them. -/
def State.trainSites (s : State) (a b : PartnerFind) : State :=
  ((s.placeSite 0 (s.trainSite 0 a 0).1).placeSite 1 (s.trainSite 1 b 0).1).markDist

theorem entered_s7Run (s : State) (a b : PartnerFind) (dur : Nat) : Entered 7 (s.trainSites a b) (s.s7Run a b dur) :=
  entered_openStatus (s.trainSites a b) (by decide) _ _ _

theorem trainSites_reads (s : State) (a b : PartnerFind) : let t := s.trainSites a b
    t.psite 0 = (s.trainSite 0 a 0).1 ∧ t.psite 1 = (s.trainSite 1 b 0).1 ∧
    ∃ p w l, t = { s with psites := p, power := w, coh.partners := l, dist.dirty := true } := by
  intro t
  have hplace (j : Nat) := psite_placeSite (s.placeSite 0 (s.trainSite 0 a 0).1) 1 (s.trainSite 1 b 0).1 j
  refine ⟨?_, (hplace 1).trans (if_pos rfl), ?_⟩
  · exact ((hplace 0).trans (if_neg (by decide))).trans ((psite_placeSite s 0 _ 0).trans (if_pos rfl))
  · obtain ⟨p, w, l, hfirst⟩ := placeSite_frame s 0 (s.trainSite 0 a 0).1
    obtain ⟨p', w', l', hsecond⟩ := placeSite_frame (s.placeSite 0 (s.trainSite 0 a 0).1) 1 (s.trainSite 1 b 0).1
    refine ⟨p', w', l', ?_⟩
    change State.markDist _ = _
    rw [hsecond, hfirst]
    rfl

/-! ### S8 (R333, R384) -/

/-- The ports of a list train, each with what is found of it. -/
def State.trainPorts (s : State) (find : Nat → PortTrain) (l : List Nat) : State := l.foldl (fun v p => v.trainPort p (find p)) s

theorem trainPorts_frame (s : State) (find : Nat → PortTrain) (l : List Nat) :
    ∃ x, s.trainPorts find l = { s with aq.ports := x } :=
  foldl_frame (·.aq.ports) (fun t x => { t with aq.ports := x }) (fun _ _ => ⟨_, rfl⟩) l s

/-- Each port of the list is trained once, by what R333 says of it; the others are as before. -/
theorem port_trainPorts (s : State) (find : Nat → PortTrain) {l : List Nat} (hl : l.Nodup) (j : Nat) :
    (s.trainPorts find l).port j =
      if j ∈ l then (s.port j).train { find j with up := (find j).up && s.portCode j (find j) != 2 } else s.port j := by
  induction l generalizing s with
  | nil => rfl
  | cons i l ih =>
    obtain ⟨hi, hl⟩ := List.nodup_cons.1 hl
    have hset : (s.trainPort i (find i)).port j =
        if j = i then (s.port i).train { find i with up := (find i).up && s.portCode i (find i) != 2 } else s.port j :=
      port_setPort s i _ j
    have hcode : (s.trainPort i (find i)).portCode = s.portCode := rfl
    change ((s.trainPort i (find i)).trainPorts find l).port j = _
    rw [ih _ hl, hset, hcode]
    by_cases hj : j = i
    · subst hj
      simp [hi]
    · simp [hj]

/-- The module number that the topology record gives, 0 without one. -/
def State.recordId (s : State) : Nat :=
  match s.boot.topo with
  | some b => bits (le b 6 2) 11 0
  | none => 0

theorem entered_s8Run (s : State) (ports : List PortTrain) (dur : Nat) :
    Entered 8 (({ s with aq.modid := s.recordId } : State).trainPorts (s.portFind ports) (List.range 12)).markDist
      (s.s8Run ports dur) :=
  entered_openStatus (({ s with aq.modid := s.recordId } : State).trainPorts (s.portFind ports) (List.range 12)).markDist
    (by decide) _ _ _

/-! ### S9 (R385 to R387) -/

/-- The module is ready, held or not. -/
def State.becomeReady (s : State) (held off : Bool) : State :=
  { s with boot := { s.boot with ready := true, held := held, computeOff := off } }

/-- What S9 makes of its finds: a mismatch is told, a match puts the module in service. -/
def State.s9Found (s : State) (held : Bool) : State :=
  (if held then s.raise 0x01C s.mismatch else s.enterService).becomeReady held s.boot.shutPending

/-- S9 ends start-up, ready and held by what it found. -/
theorem s9Run_ends {s : State} {held : Bool} (hheld : (s.mismatch != 0) = held) (dur : Nat) : ∃ n rep q l, s.s9Run dur =
    { s.s9Found held with
      free := n, boot := { (s.s9Found held).boot with reports := rep, running := false }, svc.logq := q, svc.logLost := l } := by
  obtain ⟨r, hrun⟩ : ∃ r, s.s9Run dur = ((s.s9Found held).openStatus held).2.endStage 9 (if held then 2 else 0) r := by
    subst hheld
    exact ⟨_, rfl⟩
  obtain ⟨n, hopen⟩ := openStatus_frame (s.s9Found held) held
  obtain ⟨rep, q, l, hend⟩ := endStage_last ((s.s9Found held).openStatus held).2 (res := if held then 2 else 0)
    (by cases held <;> decide) r
  rw [hrun, hend, hopen]
  exact ⟨n, rep, q, l, rfl⟩

/-! ### The statement -/

section Exec
variable {s : State} {k dur : Nat} (hruns : s.boot.powered = true ∧ s.boot.running = true ∧ s.boot.stage = k)
  (hdur : dur ≤ stageBound k)
include hruns hdur

/-- A stage's command, of the stage in progress and within its bound, runs the stage. -/
theorem stage_runs (f : State → State) : s.stage k dur f = f s := by
  obtain ⟨hpower, hrunning, hstage⟩ := hruns
  exact stage_inTime hpower hrunning hstage hdur f

end Exec

/-- Settles O37: S7, S8, and S9 with and without a mismatch. -/
theorem lateStages : Obligations.LateStages := by
  unfold Obligations.LateStages
  intro s a b ports dur runs next id find
  refine ⟨fun hruns hdur => ?s7, fun hruns hdur => ?s8, fun hruns hdur hmatch => ?s9, fun hruns hdur hwrong => ?held⟩
  case s7 =>
    have hexec : exec (.stageS7 a b dur) s = done s (s.s7Run a b dur) := congrArg (done s) (stage_runs hruns hdur _)
    obtain ⟨n, rep, q, l, hrun⟩ := entered_s7Run s a b dur
    obtain ⟨hA, hB, p, w, l', hframe⟩ := trainSites_reads s a b
    rw [hrun] at hexec
    generalize s.trainSites a b = u at hexec hA hB hframe
    obtain ⟨hpower, hrunning, hstage⟩ := hruns
    refine does_of_done hexec (by rw [hframe]; rfl) ⟨⟨rfl, ?_, ?_, ?_⟩, hA, hB, ?_, ?_⟩
    · rw [hframe]
      exact hrunning
    all_goals
      rw [hframe]
  case s8 =>
    have hexec : exec (.stageS8 ports dur) s = done s (s.s8Run ports dur) := congrArg (done s) (stage_runs hruns hdur _)
    obtain ⟨n, rep, q, l, hrun⟩ := entered_s8Run s ports dur
    have hport := port_trainPorts { s with aq.modid := s.recordId } (s.portFind ports) (List.nodup_range (n := 12))
    obtain ⟨x, hframe⟩ := trainPorts_frame { s with aq.modid := s.recordId } (s.portFind ports) (List.range 12)
    rw [hrun] at hexec
    generalize State.trainPorts _ _ (List.range 12) = u at hexec hport hframe
    obtain ⟨hpower, hrunning, hstage⟩ := hruns
    refine does_of_done hexec (by rw [hframe]; rfl) ⟨⟨rfl, ?_, ?_, ?_⟩, ?_, fun p hp => ?_, ?_, ?_⟩
    · rw [hframe]
      exact hrunning
    · rw [hframe]
      rfl
    · rw [hframe]
      rfl
    · rw [hframe]
      rfl
    · exact (hport p).trans (if_pos (List.mem_range.2 hp))
    · rw [hframe]
      rfl
    · rw [hframe]
      rfl
  case s9 =>
    have hexec : exec (.stageS9 dur) s = done s (s.s9Run dur) := congrArg (done s) (stage_runs hruns hdur _)
    obtain ⟨n, rep, q, l, hrun⟩ := s9Run_ends (s := s) (held := false) (by rw [hmatch]; rfl) dur
    obtain ⟨x, hframe⟩ := enterService_frame s
    have hservice (n : Nat) (hn : n < 36) := service_enterService s hn
    have hfound : s.s9Found false = s.enterService.becomeReady false s.boot.shutPending := rfl
    rw [hrun, hfound] at hexec
    generalize s.enterService = u at hexec hframe hservice
    obtain ⟨hpower, hrunning, hstage⟩ := hruns
    refine does_of_done hexec (by rw [hframe]; rfl) ⟨rfl, rfl, rfl, ?_, rfl, ?_, hservice, ?_⟩
    · rw [hframe]
      exact hstage
    · rw [hframe]
      rfl
    · rw [hframe]
      rfl
  case held =>
    have hexec : exec (.stageS9 dur) s = done s (s.s9Run dur) := congrArg (done s) (stage_runs hruns hdur _)
    obtain ⟨n, rep, q, l, hrun⟩ := s9Run_ends (s := s) (held := true) (bne_iff_ne.2 hwrong) dur
    obtain ⟨ev, q', l', hraise⟩ := raise_changes s 0x01C s.mismatch [] 0xFF false
    have hfound : s.s9Found true = (s.raise 0x01C s.mismatch).becomeReady true s.boot.shutPending := rfl
    rw [hrun, hfound, hraise] at hexec
    obtain ⟨hpower, hrunning, hstage⟩ := hruns
    exact does_of_done hexec rfl ⟨rfl, rfl, rfl, hstage, rfl, rfl, rfl⟩

end Sys2Proof.Machine

/-!
PROOF. O35: the reports of stages (R382), power-on (R375), S0 (R376, R381), S1 (R378) and the bound of a stage (R377).
-/

namespace Sys2Proof.Machine

/-! ### Fields of a record -/

theorem le_append_right (a b : Bytes) {m : Nat} (ha : a.length = m) (off n : Nat) : le (a ++ b) (m + off) n = le b off n := by
  unfold le
  rw [← List.drop_drop, List.drop_left' ha]

/-- The field that a record begins with. -/
theorem le_toLe_append (n v : Nat) (b : Bytes) : le (toLe n v ++ b) 0 n = v % 2 ^ (8 * n) := by
  unfold le
  rw [List.drop_zero, List.take_left' (length_toLe n v), ofLe_toLe]

/-! ### Stage reports (Table 12.2) -/

theorem sealReport_of_length {b : Bytes} (hb : b.length = 252) : sealReport b = b ++ toLe 4 (crc32c b) := by
  unfold sealReport
  rw [List.take_of_length_le hb.le]

/-- Where the stage, its result and its status stand in a report. -/
theorem stageBytes_eq (k res boot start : Nat) (r : StageRep) : ∃ mid tail : Bytes, mid.length = 26 ∧ tail.length = 227 ∧
    stageBytes k res boot start r = toLe 1 k ++ (toLe 1 res ++ (mid ++ (toLe 1 r.status ++ tail))) := by
  unfold stageBytes
  rw [sealReport_of_length (by simp)]
  generalize toLe 4 (crc32c _) = crc, length_toLe 4 (crc32c _) = hcrc
  refine ⟨toLe 2 r.hold ++ toLe 4 boot ++ toLe 8 start ++ toLe 4 r.dur ++ toLe 2 r.found ++ toLe 2 r.tested ++ toLe 2 r.failed ++
    toLe 2 r.spared, zeros 35 ++ (r.detail ++ zeros 188).take 188 ++ crc, by simp, by simp [hcrc], ?_⟩
  simp only [List.append_assoc]

theorem stageBytes_reads {k res boot start : Nat} {r : StageRep} (hk : k < 256) (hres : res < 256) (hstatus : r.status < 256) :
    let b := stageBytes k res boot start r
    (b.length = 256 ∧ le b 0 1 = k ∧ le b 1 1 = res) ∧ le b 28 1 = r.status := by
  intro b
  obtain ⟨mid, tail, hmid, htail, hbytes⟩ := stageBytes_eq k res boot start r
  have hb : b = toLe 1 k ++ (toLe 1 res ++ (mid ++ (toLe 1 r.status ++ tail))) := hbytes
  have hskip (rest : Bytes) (n : Nat) : le (toLe 1 k ++ (toLe 1 res ++ rest)) (1 + (1 + n)) 1 = le rest n 1 := by
    rw [le_append_right _ _ (length_toLe 1 k), le_append_right _ _ (length_toLe 1 res)]
  rw [hb]
  refine ⟨⟨by simp [hmid, htail], ?_, ?_⟩, ?_⟩
  · exact (le_toLe_append 1 k _).trans (Nat.mod_eq_of_lt hk)
  · exact (le_append_right _ _ (length_toLe 1 k) 0 1).trans ((le_toLe_append 1 res _).trans (Nat.mod_eq_of_lt hres))
  · refine (hskip _ 26).trans ?_
    exact (le_append_right _ _ hmid 0 1).trans ((le_toLe_append 1 r.status tail).trans (Nat.mod_eq_of_lt hstatus))

/-- A report that has been written is what is read of its stage. -/
theorem report_of_written {s : State} {k : Nat} {b : Bytes} {reports : Tab Bytes} (hb : b.length = 256)
    (hreports : s.boot.reports = tset (fun _ => []) reports k b) : s.report k = b := by
  unfold State.report
  rw [hreports, tget_tset_self]
  cases b with
  | nil => cases hb
  | cons x xs => rfl

/-- What holds of `t` when start-up of `s` has failed in stage `k`: its report says so, with the status. -/
def FailedAt (k status : Nat) (s t : State) : Prop :=
  (t.boot.failed = true ∧ t.boot.running = false ∧
    ((t.report k).length = 256 ∧ le (t.report k) 0 1 = k ∧ le (t.report k) 1 1 = 3) ∧ le (t.report k) 28 1 = status) ∧
  t.boot.width = s.boot.width ∧ t.mem = s.mem ∧ t.host = s.host

theorem failedAt_endStage (s : State) {k : Nat} (hk : k < 10) (r : StageRep) (hstatus : r.status < 256) :
    FailedAt k r.status s (s.endStage k 3 r) ∧ Leaves s (s.endStage k 3 r) (s.endStage k 3 r) := by
  obtain ⟨q, l, hend⟩ := endStage_failed s k r
  have hreads := stageBytes_reads (boot := s.flash.boots) (start := s.boot.start) (hk.trans (by decide)) (by decide : 3 < 256) hstatus
  rw [hend]
  refine ⟨⟨⟨rfl, rfl, ?_⟩, rfl, rfl, rfl⟩, rfl⟩
  rw [report_of_written hreads.1.1 rfl]
  exact hreads

/-- A stage past its bound fails with ST_TIMEOUT. -/
theorem failedAt_timeout (s : State) {k : Nat} (hk : k < 10) (dur : Nat) :
    let t := s.endStage k 3 { dur := dur, status := stCode .timeout }
    FailedAt k 11 s t ∧ Leaves s t t :=
  failedAt_endStage s hk { dur := dur, status := stCode .timeout } (show stCode .timeout < 256 by decide)

/-! ### S0 (R376, R381) -/

theorem eraseAcked_frame (s : State) : ∃ a b, s.eraseAcked = { s with flash.shutRec := a, flash.shutAck := b } := by
  unfold State.eraseAcked
  split
  · exact ⟨_, _, rfl⟩
  · exact ⟨_, _, rfl⟩

theorem restorePlans_frame (s : State) : ∃ x, s.restorePlans = { s with islands := x } := by
  refine foldl_frame (·.islands) (fun t x => { t with islands := x }) (fun t p => ?_) (s.repairs 9) s
  dsimp only
  split
  · exact ⟨_, rfl⟩
  · exact ⟨_, rfl⟩

theorem powerEdges_frame (s : State) : ∃ x, s.powerEdges = { s with islands := x } :=
  foldl_frame (·.islands) (fun t x => { t with islands := x }) (fun _ _ => ⟨_, rfl⟩) _ s

/-- The clocks of the islands as S0 leaves them. -/
theorem s0Islands_frame (s : State) (cold : Bool) :
    ∃ x, (if cold then s.restorePlans else s).powerEdges = { s with islands := x } := by
  obtain ⟨x, hedges⟩ := powerEdges_frame (if cold then s.restorePlans else s)
  refine ⟨x, hedges.trans ?_⟩
  cases cold with
  | false => rfl
  | true =>
    obtain ⟨y, hplans⟩ := restorePlans_frame s
    simp only [hplans, if_true]

/-- What S0 leaves when a bank starts: the variant's limits, the timebase at 0, and S1 next. -/
theorem s0Pass_frame (s : State) (r : S0Find) (bank : Nat) (fell : Bool) : ∃ a b x topo wait rep q l,
    s.s0Pass r bank fell = { s with
      flash.shutRec := a, flash.shutAck := b, islands := x, now := 0, svc.logq := q, svc.logLost := l
      boot := { s.boot with
        bank := bank, fallback := fell, limitW := (variantLimits s.fuse.variant).1, ceilMhz := (variantLimits s.fuse.variant).2
        topo := topo, shutPending := wait, aqclk := r.aqclk, ticking := true, reports := rep, stage := 1, start := 0 } } := by
  obtain ⟨a, b, herase⟩ := eraseAcked_frame s
  unfold State.s0Pass
  rw [herase]
  dsimp only
  generalize Option.map (·.1) (Flash.topo _) = topo, Option.isSome (Flash.shutWaits _) = wait
  obtain ⟨x, hislands⟩ := s0Islands_frame _ s.boot.cold
  rw [hislands]
  obtain ⟨rep, q, l, hpass⟩ := passStage_enters _ (k := 0) (by decide) _ fell
  rw [hpass]
  exact ⟨a, b, x, topo, wait, rep, q, l, rfl⟩

/-- A good active bank is the one started. -/
theorem pickBank_active {active : Nat} {ok0 ok1 : Bool} (h : (if active = 0 then ok0 else ok1) = true) :
    pickBank active ok0 ok1 = some (active, false) := by
  simp [pickBank, h]

/-- With neither bank good none is. -/
theorem pickBank_none {active : Nat} {ok0 ok1 : Bool} (h : (if active = 0 then ok0 else ok1) = false)
    (hother : (if 1 - active = 0 then ok0 else ok1) = false) : pickBank active ok0 ok1 = none := by
  simp only [pickBank, h, hother]
  rfl

/-- A good active bank passes S0, start-up counted. -/
theorem s0Run_good {s : State} {r : S0Find} (hcold : s.boot.cold = true)
    (hbank : (if s.flash.active = 0 then r.bank0Ok && s.flash.ok0 else r.bank1Ok && s.flash.ok1) = true) :
    s.s0Run r = ({ s with flash.boots := (s.flash.boots + 1) % 2 ^ 32 } : State).s0Pass r s.flash.active false := by
  unfold State.s0Run
  rw [hcold, pickBank_active hbank]
  rfl

/-- S0 with both banks bad fails, start-up counted. -/
theorem s0Run_bad {s : State} {r : S0Find} (hcold : s.boot.cold = true)
    (hbank : (if s.flash.active = 0 then r.bank0Ok && s.flash.ok0 else r.bank1Ok && s.flash.ok1) = false)
    (hother : (if 1 - s.flash.active = 0 then r.bank0Ok && s.flash.ok0 else r.bank1Ok && s.flash.ok1) = false) :
    ∃ n rep, rep.status < 256 ∧ s.s0Run r =
      State.endStage { s with flash.boots := (s.flash.boots + 1) % 2 ^ 32, free := n } 0 3 rep := by
  unfold State.s0Run
  rw [hcold, pickBank_none hbank hother]
  exact ⟨_, _, (Config.freeByte s.free).isLt, rfl⟩

/-! ### S1 (R378, R381) -/

/-- A trained x16 link passes S1. -/
theorem s1Run_trained (s : State) {r : S1Find} (htrained : r.trained = true) (hlow : 3 ≤ r.gen) (hhigh : r.gen ≤ 6)
    (hwidth : r.width = 16) : ∃ n rep q l, s.s1Run r = { s with
      free := n, svc.logq := q, svc.logLost := l
      boot := { s.boot with gen := r.gen, width := r.width, reports := rep, stage := 2, start := s.now } } := by
  unfold State.s1Run
  have hok : (r.trained && decide (3 ≤ r.gen) && decide (r.gen ≤ 6) && (r.width == 4 || r.width == 8 || r.width == 16)) = true := by
    simp [htrained, hlow, hhigh, hwidth]
  rw [hok]
  obtain ⟨n, hopen⟩ := openStatus_frame s (!true || ones 16 r.lanesFailed != 0)
  dsimp only
  rw [if_pos rfl, hopen]
  obtain ⟨rep, q, l, hpass⟩ := passStage_enters _ (k := 1) (by decide) _ false
  rw [hpass]
  exact ⟨n, rep, q, l, rfl⟩

/-! ### The statement -/

theorem exec_powerOn {s : State} {vin : Nat} (hpower : s.boot.powered = false) (hlow : 33000 ≤ vin) (hhigh : vin ≤ 52000) :
    exec (.powerOn vin true) s = doneAt s { s.dark with
      boot := { s.dark.boot with powered := true, refclk := true, cold := true }
      power.vin := vin, mgmt.level := s.fuse.monLevel }.startUp 0 :=
  if_neg (by simp [hpower, hlow, hhigh])

/-- Once PERST# is released S1 is a stage like the others. -/
theorem exec_stageS1 {s : State} (hperst : s.boot.perst = false) (r : S1Find) :
    exec (.stageS1 r) s = done s (s.stage 1 r.dur (·.s1Run r)) := by
  refine congrArg (done s) ?_
  rw [hperst]
  rfl

/-- The stage in progress fails at its bound. -/
theorem exec_stageTimeout {s : State} (hrunning : s.boot.running = true) (hperst : s.boot.stage = 1 → s.boot.perst = false) :
    exec .stageTimeout s =
      done s (s.endStage s.boot.stage 3 { dur := stageBound s.boot.stage, status := stCode .timeout }) := by
  refine congrArg (done s) (if_neg ?_)
  simpa [hrunning] using hperst

/-- Settles O35: power-on, S0 with a good bank and with none, S1 trained and late, and a stage past its bound. -/
theorem powerAndEarlyStages : Obligations.PowerAndEarlyStages := by
  unfold Obligations.PowerAndEarlyStages
  intro s vin r0 r1 runs report bankOk
  refine ⟨fun hpower hlow hhigh => ?power, fun hruns hcold hdur _ hbank => ?good, fun hruns hcold hdur hbank hother => ?bad,
    fun hruns hperst hdur htrained hlow hhigh hwidth => ?trained, fun hruns hperst hdur => ?late, fun k hruns hk hperst => ?timeout⟩
  case power =>
    exact does_doneAt (exec_powerOn hpower hlow hhigh) ⟨rfl, rfl, rfl, rfl, rfl, rfl⟩
  case good =>
    have hexec : exec (.stageS0 r0) s = doneAt s _ _ := congrArg (fun t => doneAt s t t.now) (stage_runs hruns hdur _)
    obtain ⟨a, b, x, topo, wait, rep, q, l, hpass⟩ :=
      s0Pass_frame { s with flash.boots := (s.flash.boots + 1) % 2 ^ 32 } r0 s.flash.active false
    rw [s0Run_good hcold hbank, hpass] at hexec
    obtain ⟨hpower, hrunning, hstage⟩ := hruns
    exact does_doneAt hexec ⟨rfl, rfl, rfl, rfl, rfl, rfl, rfl, hrunning, rfl, rfl, rfl⟩
  case bad =>
    have hexec : exec (.stageS0 r0) s = doneAt s _ _ := congrArg (fun t => doneAt s t t.now) (stage_runs hruns hdur _)
    obtain ⟨n, rep, hstatus, hend⟩ := s0Run_bad hcold hbank hother
    rw [hend] at hexec
    obtain ⟨⟨⟨hfailed, hstopped, hreport, _⟩, _, hmem, hhost⟩, _⟩ :=
      failedAt_endStage { s with flash.boots := (s.flash.boots + 1) % 2 ^ 32, free := n } (k := 0) (by decide) rep hstatus
    exact does_doneAt hexec ⟨hfailed, hstopped, hreport, hmem, hhost⟩
  case trained =>
    have hexec := exec_stageS1 hperst r1
    obtain ⟨n, rep, q, l, hrun⟩ := s1Run_trained s htrained hlow hhigh hwidth
    rw [stage_runs hruns hdur, hrun] at hexec
    obtain ⟨hpower, hrunning, hstage⟩ := hruns
    exact does_of_done hexec rfl ⟨rfl, hwidth, rfl, hrunning, rfl, rfl, rfl⟩
  case late =>
    have hexec := exec_stageS1 hperst r1
    obtain ⟨hpower, hrunning, hstage⟩ := hruns
    rw [stage_late hpower hrunning hstage hdur] at hexec
    obtain ⟨⟨⟨hfailed, hstopped, hreport, hcode⟩, hwidth, hmem, hhost⟩, hleaves⟩ :=
      failedAt_timeout s (k := 1) (by decide) r1.dur
    exact does_of_done hexec hleaves ⟨hfailed, hstopped, hreport, hcode, hwidth, hmem, hhost⟩
  case timeout =>
    obtain ⟨hpower, hrunning, rfl⟩ := hruns
    obtain ⟨⟨⟨hfailed, hstopped, hreport, hcode⟩, _, hmem, hhost⟩, hleaves⟩ :=
      failedAt_timeout s hk (stageBound s.boot.stage)
    exact does_of_done (exec_stageTimeout hrunning hperst) hleaves ⟨hfailed, hstopped, hreport, hcode, hmem, hhost⟩

end Sys2Proof.Machine

/-!
PROOF. The stages of O36 (R18, R19, R361, R377, R469), which stays open: S2, S3, S4 and S6 do what it says of them, and S5 does all of it
but for the host's side, which is as the stopped runs of the traffic generators leave it.
-/

namespace Sys2Proof.Machine

/-! ### A stage that ran -/

/-- `t` is in stage `k`, entered at the time of `s`. -/
def InStage (k : Nat) (s t : State) : Prop :=
  t.boot.stage = k ∧ t.boot.running = true ∧ t.boot.failed = s.boot.failed ∧ t.boot.start = s.now

/-- The command of a stage that made `u` of the state and passed. -/
theorem does_entered {c : Instr} {k : Nat} {s u v : State} {P : State → Prop} (hexec : exec c s = done s v) (hpassed : Entered k u v)
    (hruns : s.boot.powered = true ∧ s.boot.running = true ∧ s.boot.stage = k) (hboot : u.boot = s.boot)
    (houtside : u.outside = s.outside) (hp : ∀ t, Entered k u t → P t) : Does c s fun t => InStage (k + 1) s t ∧ P t := by
  obtain ⟨-, hrunning, -⟩ := hruns
  have hnow : u.now = s.now := congrArg (·.2.2) houtside
  have hleaves : v.outside = s.outside ∧ InStage (k + 1) s v := by
    obtain ⟨n, rep, q, l, rfl⟩ := hpassed
    exact ⟨houtside, rfl, (congrArg Boot.running hboot).trans hrunning, (congrArg Boot.failed hboot :), hnow⟩
  exact does_of_done hexec (leaves_of_outside hleaves.1) ⟨hleaves.2, hp v hpassed⟩

/-! ### S2 (R395, R397, R469) -/

/-- What no repair of the Cistern touches. -/
def State.besideMending (s : State) : State :=
  { s with flash := {}, cistern := {}, svc := {}, host.evbuf := [], aq := {} }

theorem besideMending_addRepair (s : State) (kind payload : Nat) : (s.addRepair kind payload).besideMending = s.besideMending := by
  obtain ⟨f, h, hrepair⟩ := addRepair_frame s kind payload
  rw [hrepair]
  rfl

theorem besideMending_raise (s : State) (code payload : Nat) (fns : List Nat) (src : Nat) :
    (s.raise code payload fns src).besideMending = s.besideMending := by
  rw [raise_frame]
  rfl

theorem besideMending_retireNow (s : State) (u : Nat) : (s.retireNow u).besideMending = s.besideMending := by
  obtain ⟨far, hdrop⟩ := dropFarUnit_frame s u
  unfold State.retireNow
  dsimp only
  rw [hdrop, besideMending_raise, besideMending_addRepair]
  rfl

theorem besideMending_retireUnit (s : State) (u : Nat) : (s.retireUnit u).besideMending = s.besideMending := by
  unfold State.retireUnit
  split
  · rfl
  · split
    · split
      · rfl
      · exact besideMending_raise _ _ _ _ _
    · exact besideMending_retireNow s u

theorem besideMending_spareRow (found : Bool) (s : State) (r : Nat × Nat × Nat) :
    (s.spareRow found r).besideMending = s.besideMending := by
  unfold State.spareRow
  dsimp only
  split
  · rfl
  · split
    · exact besideMending_retireUnit s _
    · split
      · exact besideMending_addRepair _ _ _
      · rfl

theorem besideMending_spareCol (found : Bool) (s : State) (c : Nat × Nat × Nat) :
    (s.spareCol found c).besideMending = s.besideMending := by
  unfold State.spareCol
  dsimp only
  split
  · rfl
  · split
    · exact foldl_keeps State.besideMending (fun t u => besideMending_retireUnit t _) _ s
    · split
      · exact besideMending_addRepair _ _ _
      · rfl

/-- Spares and retired units change flash, the Cistern's record, the far cache, and what tells of them. -/
theorem besideMending_mendCistern (s : State) (r : S2Find) : (s.mendCistern r).besideMending = s.besideMending := by
  unfold State.mendCistern
  dsimp only
  rw [foldl_keeps State.besideMending (besideMending_spareCol true), foldl_keeps State.besideMending (besideMending_spareRow true),
    foldl_keeps State.besideMending (besideMending_spareCol false), foldl_keeps State.besideMending (besideMending_spareRow false)]
  rfl

theorem powerRegions_frame (s : State) : ∃ x, s.powerRegions = { s with islands := x } :=
  foldl_frame (·.islands) (fun t x => { t with islands := x }) (fun _ _ => ⟨_, rfl⟩) _ s

/-- An island runs at the nominal operating point of a region. -/
def Island.nominal (x : Island) : Prop := x.off = false ∧ x.point = 1600

/-- Islands that a fold sets to the nominal point have it. -/
theorem nominal_foldl {f : State → Nat → State} (hstep : ∀ t q, ∃ x, Island.nominal x ∧ f t q = t.setIsland q x) {l : List Nat}
    {s : State} {q : Nat} (h : q ∈ l ∨ (s.island q).nominal) : ((l.foldl f s).island q).nominal := by
  induction l generalizing s with
  | nil => exact h.resolve_left List.not_mem_nil
  | cons i l ih =>
    obtain ⟨x, hx, hset⟩ := hstep s i
    refine ih ?_
    rw [hset, island_setIsland]
    split
    · exact .inr hx
    · next hne => exact h.imp_left fun hq => (List.mem_cons.1 hq).resolve_left hne

theorem powerRegions_nominal (s : State) {q : Nat} (hq : q < 4) : (s.powerRegions.island q).nominal :=
  nominal_foldl (fun _ _ => ⟨_, ⟨rfl, rfl⟩, rfl⟩) (.inl (List.mem_range.2 hq))

theorem entered_s2Run {s : State} {r : S2Find} (hfatal : r.fatal = false) :
    Entered 2 ((s.powerRegions.mendCistern r).zeroRange cisternBase cisternEnd) (s.s2Run r) := by
  unfold State.s2Run
  rw [hfatal]
  exact entered_openStatus _ (by decide) _ _ _

/-- STAGE_S2 without a fatal fault zeroes the Cistern and gives the regions their nominal point. -/
theorem does_stageS2 {s : State} {r : S2Find} (hruns : s.boot.powered = true ∧ s.boot.running = true ∧ s.boot.stage = 2)
    (hdur : r.dur ≤ 1200000) (hfatal : r.fatal = false) : Does (.stageS2 r) s fun t => InStage 3 s t ∧
      (∀ a, cisternBase ≤ a → a < cisternEnd → t.byte a = 0) ∧ ∀ q, q < 4 → (t.island q).nominal := by
  have hexec : exec (.stageS2 r) s = done s (s.s2Run r) := congrArg (done s) (stage_runs hruns hdur _)
  have hmend := besideMending_mendCistern s.powerRegions r
  obtain ⟨x, hislands⟩ := powerRegions_frame s
  have hkept : (s.powerRegions.mendCistern r).besideMending = { s.besideMending with islands := x } := by
    rw [hmend, hislands]
    rfl
  refine does_entered hexec (entered_s2Run hfatal) hruns (congrArg State.boot hkept :) (congrArg State.outside hkept :) ?_
  rintro _ ⟨n, rep, ql, l, rfl⟩
  refine ⟨fun a hlo hhi => ?_, fun q hq => ?_⟩
  · exact (byte_zeroMem (s.powerRegions.mendCistern r) cisternBase cisternEnd a).trans (if_pos ⟨hlo, hhi⟩)
  · have hisland : (s.powerRegions.mendCistern r).island q = s.powerRegions.island q := (congrArg (State.island · q) hmend :)
    have hnominal := powerRegions_nominal s hq
    rwa [← hisland] at hnominal

/-! ### Sites set together -/

/-- Each site of a list becomes what `φ` makes of it. -/
def State.judgeSites (s : State) (φ : Nat → Site → Site) (l : List Nat) : State :=
  l.foldl (fun v n => v.setSite n (φ n (v.site n))) s

theorem judgeSites_frame (s : State) (φ : Nat → Site → Site) (l : List Nat) : ∃ x, s.judgeSites φ l = { s with sites := x } :=
  foldl_frame (·.sites) (fun t x => { t with sites := x }) (fun _ _ => ⟨_, rfl⟩) l s

theorem site_judgeSites (s : State) (φ : Nat → Site → Site) {l : List Nat} (hl : l.Nodup) (j : Nat) :
    (s.judgeSites φ l).site j = if j ∈ l then φ j (s.site j) else s.site j := by
  induction l generalizing s with
  | nil => rfl
  | cons i l ih =>
    obtain ⟨hi, hl⟩ := List.nodup_cons.1 hl
    rw [State.judgeSites, List.foldl_cons, ← State.judgeSites, ih _ hl, site_setSite]
    by_cases hj : j = i
    · subst hj
      simp [hi]
    · simp [hj]

/-- The sites of a list are switched on or off. -/
def State.powerSites (s : State) (l : List Nat) (on : Bool) : State := l.foldl (fun u n => u.powerSite n on) s

theorem powerSites_frame (s : State) (l : List Nat) (on : Bool) :
    ∃ x : Tab Site × Tab Island, s.powerSites l on = { s with sites := x.1, islands := x.2 } := by
  refine foldl_frame (fun t => (t.sites, t.islands)) (fun t x => { t with sites := x.1, islands := x.2 }) (fun t n => ?_) l s
  obtain ⟨x, y, hpower⟩ := powerSite_frame t n on
  exact ⟨(x, y), hpower⟩

/-- A switched site keeps everything but its power. -/
theorem site_powerSites (s : State) (l : List Nat) (on : Bool) (j : Nat) :
    (s.powerSites l on).site j = if j ∈ l then { s.site j with powered := on } else s.site j := by
  induction l generalizing s with
  | nil => rfl
  | cons i l ih =>
    rw [State.powerSites, List.foldl_cons, ← State.powerSites, ih, site_powerSite]
    by_cases hj : j = i
    · subst hj
      simp
    · simp [hj]

/-! ### S3 (R361) -/

theorem trainBonds_frame (s : State) (fs : List PortFind) : ∃ x, s.trainBonds fs = { s with bonds := x } := by
  refine foldl_frame (·.bonds) (fun t x => { t with bonds := x }) (fun t f => ?_) fs { s with bonds := [] }
  dsimp only
  split <;> exact ⟨_, rfl⟩

theorem site_trainBonds (s : State) (fs : List PortFind) (n : Nat) : (s.trainBonds fs).site n = s.site n := by
  obtain ⟨x, hbonds⟩ := trainBonds_frame s fs
  rw [hbonds]
  rfl

/-- Setting one direction of a port leaves every other direction of the module. -/
theorem bond_setBond_ne (s : State) {n p d m o e : Nat} (hp : p < 32) (hd : d < 2) (ho : o < 32) (he : e < 2)
    (hne : ¬(n = m ∧ p = o ∧ d = e)) (x : BondDir) : (s.setBond n p d x).bond m o e = s.bond m o e :=
  tget_tset_ne _ _ _ (by omega)

/-- A direction for which nothing is found trains FULL and without faults. -/
theorem bond_trainBonds (s : State) {fs : List PortFind} {n p d : Nat} (hp : p < 32) (hd : d < 2)
    (hnone : ∀ f ∈ fs, ¬(f.region = n ∧ f.port = p ∧ f.dir = d)) : (s.trainBonds fs).bond n p d = {} := by
  have hfresh : State.bond { s with bonds := [] } n p d = {} := rfl
  unfold State.trainBonds
  generalize ({ s with bonds := [] } : State) = u at hfresh ⊢
  induction fs generalizing u with
  | nil => exact hfresh
  | cons f fs ih =>
    obtain ⟨hf, hnone⟩ := List.forall_mem_cons.1 hnone
    refine ih hnone _ ?_
    dsimp only
    split
    · next hport =>
      obtain ⟨-, hfp, hfd⟩ := hport
      exact (bond_setBond_ne u hfp hfd hp hd hf _).trans hfresh
    · exact hfresh

/-- What S3 makes of a site, with the sites that the repair record lists and the ports that failed. -/
def s3Judge (r : S3Find) (listed dead : List Nat) (n : Nat) (x : Site) : Site :=
  let broken := dead.any (fun k => k / 32 == n)
  { x with good := !listed.contains n && !r.badSites.contains n && !broken, bs := if broken then 0 else 2, dieMode := 0 }

theorem s3Judge_bad {r : S3Find} {n : Nat} (hbad : n ∈ r.badSites) (listed dead : List Nat) (x : Site) :
    (s3Judge r listed dead n x).good = false := by
  simp [s3Judge, hbad]

/-- The sites powered and their ports trained. -/
def State.trainAll (s : State) (r : S3Find) : State := (s.powerSites (List.range 36) true).trainBonds r.ports

theorem trainAll_frame (s : State) (r : S3Find) : ∃ x y z, s.trainAll r = { s with sites := x, islands := y, bonds := z } := by
  obtain ⟨x, hpower⟩ := powerSites_frame s (List.range 36) true
  obtain ⟨z, hbonds⟩ := trainBonds_frame { s with sites := x.1, islands := x.2 } r.ports
  rw [State.trainAll, hpower, hbonds]
  exact ⟨x.1, x.2, z, rfl⟩

/-- Training leaves every site powered. -/
theorem powered_trainAll (s : State) (r : S3Find) {n : Nat} (hn : n < 36) : ((s.trainAll r).site n).powered = true := by
  rw [State.trainAll, site_trainBonds, site_powerSites, if_pos (List.mem_range.2 hn)]

theorem entered_s3Run (s : State) (r : S3Find) : ∃ listed dead,
    Entered 3 ((s.trainAll r).judgeSites (s3Judge r listed dead) (List.range 36)) (s.s3Run r) := by
  unfold State.s3Run
  extract_lets t dead folded spares listed u
  exact ⟨listed, dead, entered_openStatus u (by decide) _ _ _⟩

/-- STAGE_S3 powers the sites, trains their ports and marks the bad sites. -/
theorem does_stageS3 {s : State} {r : S3Find} (hruns : s.boot.powered = true ∧ s.boot.running = true ∧ s.boot.stage = 3)
    (hdur : r.dur ≤ 1500000) : Does (.stageS3 r) s fun t => InStage 4 s t ∧ t.mem = s.mem ∧ t.host = s.host ∧
      (∀ n, n < 36 → (t.site n).powered = true ∧ (n ∈ r.badSites → (t.site n).good = false)) ∧
      ∀ n p d, n < 36 → p < 32 → d < 2 → (∀ f ∈ r.ports, ¬(f.region = n ∧ f.port = p ∧ f.dir = d)) → t.bond n p d = {} := by
  have hexec : exec (.stageS3 r) s = done s (s.s3Run r) := congrArg (done s) (stage_runs hruns hdur _)
  obtain ⟨listed, dead, hpassed⟩ := entered_s3Run s r
  have hpowered (n : Nat) (hn : n < 36) := powered_trainAll s r hn
  have hbond (n p d : Nat) (hp : p < 32) (hd : d < 2) (hnone : ∀ f ∈ r.ports, ¬(f.region = n ∧ f.port = p ∧ f.dir = d)) :
      (s.trainAll r).bond n p d = {} := bond_trainBonds _ hp hd hnone
  obtain ⟨x, y, z, htrain⟩ := trainAll_frame s r
  rw [htrain] at hpassed hpowered hbond
  have hsite (n : Nat) (hn : n < 36) := (site_judgeSites { s with sites := x, islands := y, bonds := z }
    (s3Judge r listed dead) List.nodup_range n).trans (if_pos (List.mem_range.2 hn))
  obtain ⟨w, hsites⟩ := judgeSites_frame { s with sites := x, islands := y, bonds := z } (s3Judge r listed dead) (List.range 36)
  rw [hsites] at hpassed hsite
  refine does_entered hexec hpassed hruns rfl rfl ?_
  rintro _ ⟨n, rep, q, l, rfl⟩
  refine ⟨rfl, rfl, fun n hn => ⟨?_, fun hbad => ?_⟩, fun n p d _ hp hd hnone => hbond n p d hp hd hnone⟩
  · exact (congrArg Site.powered (hsite n hn)).trans (hpowered n hn)
  · exact (congrArg Site.good (hsite n hn)).trans (s3Judge_bad hbad _ _ _)

/-! ### S4 (R17 to R19) -/

/-- What S4 makes of a site, with the core positions that fail. -/
def s4Judge (r : S4Find) (bad : List (Nat × Nat × Nat)) (n : Nat) (x : Site) : Site :=
  { x with good := x.good && !r.badSites.contains n, badPos := ((bad.filter (fun b => b.1 == n)).map (·.2)).eraseDups }

/-- Tile `k` takes the site that `g` gives it, when a fold sets it. -/
theorem tileSite_foldl_setTile {f : State → Nat → State} {key : Nat → Nat} {g : Nat → Option Nat}
    (hstep : ∀ u i, ∃ x : Tile, x.site = g (key i) ∧ f u i = u.setTile (key i) x) (l : List Nat) (s : State) (k : Nat) :
    ((l.foldl f s).tile k).site = if k ∈ l.map key then g k else (s.tile k).site := by
  induction l generalizing s with
  | nil => rfl
  | cons i l ih =>
    obtain ⟨x, hx, hset⟩ := hstep s i
    rw [List.foldl_cons, ih, hset, tile_setTile]
    by_cases hk : k = key i
    · subst hk
      simp [hx]
    · simp [hk]

/-- Tiles and the record of spares, which numbering changes. -/
def State.putNumbers (s : State) (x : Tab Tile × Dist) : State := { s with tiles := x.1, dist := x.2 }

/-- The step of numbering a quadrant: index `i` takes its site, or none. -/
def State.placeTile (u : State) (act : List Nat) (q i : Nat) : State :=
  match act[i]? with
  | some n =>
    let rows := (List.range 6).map (u.site n).rowMap
    let shifted := (List.range 6).filter (fun r => (rows.getD r []).contains (some (rowLogical r)))
    u.setTile (8 * q + i) { site := some n, rows := rows, shifted := shifted }
  | none => u.setTile (8 * q + i) {}

theorem placeTile_sets (u : State) (act : List Nat) (q i : Nat) :
    ∃ x : Tile, x.site = act[i]? ∧ u.placeTile act q i = u.setTile (8 * q + i) x := by
  unfold State.placeTile
  split
  · next n h => exact ⟨_, h.symm, rfl⟩
  · next h => exact ⟨_, h.symm, rfl⟩

theorem numberQuad_eq (s : State) (q spare : Nat) : ∃ d, s.numberQuad q spare =
    { (List.range 8).foldl (fun u i => u.placeTile (s.quadActive q spare) q i) s with dist := d } := by
  unfold State.numberQuad
  exact ⟨_, rfl⟩

theorem numberQuad_frame (s : State) (q spare : Nat) : ∃ x, s.numberQuad q spare = s.putNumbers x := by
  obtain ⟨d, h⟩ := numberQuad_eq s q spare
  obtain ⟨x, hx⟩ := foldl_frame (·.tiles) (fun t x => { t with tiles := x }) (f := fun u i => u.placeTile (s.quadActive q spare) q i)
    (fun t i => by
      obtain ⟨y, -, hy⟩ := placeTile_sets t (s.quadActive q spare) q i
      exact ⟨_, hy⟩) (List.range 8) s
  rw [h, hx]
  exact ⟨(x, d), rfl⟩

/-- The sites of a quadrant that serve depend on the sites alone. -/
theorem quadActive_putNumbers (s : State) (x : Tab Tile × Dist) : (s.putNumbers x).quadActive = s.quadActive := rfl

/-- The record of spares is beside the tiles. -/
theorem tile_putDist (s : State) (d : Dist) (k : Nat) : State.tile { s with dist := d } k = s.tile k := rfl

/-- The tiles of a quadrant are eight. -/
theorem mem_quadTiles (q k : Nat) : k ∈ (List.range 8).map (8 * q + ·) ↔ k / 8 = q := by
  simp only [List.mem_map, List.mem_range]
  constructor
  · rintro ⟨i, hi, rfl⟩
    omega
  · rintro rfl
    exact ⟨k % 8, Nat.mod_lt _ (by decide), Nat.div_add_mod k 8⟩

/-- Numbering a quadrant gives its tiles their sites and leaves those of the others. -/
theorem tileSite_numberQuad (s : State) (q spare k : Nat) :
    ((s.numberQuad q spare).tile k).site = if k / 8 = q then (s.quadActive q spare)[k % 8]? else (s.tile k).site := by
  obtain ⟨d, h⟩ := numberQuad_eq s q spare
  have hfold := tileSite_foldl_setTile (key := (8 * q + ·)) (g := fun j => (s.quadActive q spare)[j - 8 * q]?)
    (f := fun u i => u.placeTile (s.quadActive q spare) q i)
    (fun u i => by simpa using placeTile_sets u (s.quadActive q spare) q i) (List.range 8) s k
  rw [h, tile_putDist, hfold]
  simp only [mem_quadTiles]
  split
  · next hk => rw [show k - 8 * q = k % 8 by omega]
  · rfl

/-- The quadrants of a list are numbered, each with its spare site. -/
def State.numberQuads (s : State) (spare : Nat → Nat) (l : List Nat) : State := l.foldl (fun t q => t.numberQuad q (spare q)) s

theorem numberQuads_frame (s : State) (spare : Nat → Nat) (l : List Nat) : ∃ x, s.numberQuads spare l = s.putNumbers x :=
  foldl_frame (fun t => (t.tiles, t.dist)) State.putNumbers (fun t q => numberQuad_frame t q (spare q)) l s

theorem tileSite_numberQuads (s : State) (spare : Nat → Nat) (l : List Nat) (k : Nat) :
    ((s.numberQuads spare l).tile k).site =
      if k / 8 ∈ l then (s.quadActive (k / 8) (spare (k / 8)))[k % 8]? else (s.tile k).site := by
  induction l generalizing s with
  | nil => rfl
  | cons q l ih =>
    obtain ⟨x, hframe⟩ := numberQuad_frame s q (spare q)
    rw [State.numberQuads, List.foldl_cons, ← State.numberQuads, ih, tileSite_numberQuad, hframe, quadActive_putNumbers]
    by_cases hk : k / 8 = q
    · subst hk
      simp
    · simp [hk]

/-- Giving sites to partitions leaves the site of every tile. -/
theorem tileSite_assignTiles (s : State) (changed : List Nat) (k : Nat) : ((s.assignTiles changed).tile k).site = (s.tile k).site := by
  refine foldl_keeps (fun t => (t.tile k).site) (fun t i => ?_) _ s
  dsimp only
  rw [tile_setTile]
  split
  · next h => rw [h]
  · rfl

/-- The logical tiles numbered: each takes its site of the quadrant's active ones (R18, R19). -/
theorem numberTiles_numbers (s : State) : (∃ x, s.numberTiles = s.putNumbers x) ∧ ∀ k, k < 32 →
    (s.numberTiles.tile k).site = (s.quadActive (k / 8) (s.chooseSpares.getD (k / 8) 0))[k % 8]? := by
  obtain ⟨d, h⟩ : ∃ d, s.numberTiles =
    (State.numberQuads { s with dist := d } (fun q => s.chooseSpares.getD q 0) (List.range 4)).assignTiles (List.range 8) := ⟨_, rfl⟩
  obtain ⟨x, hx⟩ := numberQuads_frame { s with dist := d } (fun q => s.chooseSpares.getD q 0) (List.range 4)
  obtain ⟨y, hy⟩ := assignTiles_frame (State.putNumbers { s with dist := d } x) (List.range 8)
  refine ⟨⟨(y, x.2), ?_⟩, fun k hk => ?_⟩
  · rw [h, hx, hy]
    rfl
  · rw [h, tileSite_assignTiles, tileSite_numberQuads, if_pos (List.mem_range.2 (by omega))]
    rfl

/-- What an update of the distance table may change. -/
theorem updateTable_changes (s : State) : ∃ d ev v w, s.updateTable = { s with dist := d, host.evbuf := ev, svc := v, vane := w } := by
  unfold State.updateTable
  dsimp only
  obtain ⟨ev, q, l, hraise⟩ := raise_changes _ _ _ _ _ _
  rw [hraise]
  obtain ⟨w, hnotice⟩ := notice_frame _ _ _
  rw [hnotice]
  exact ⟨_, _, _, _, rfl⟩

/-- The distance table written after the sites of a list are switched off and the clocks are set. -/
def State.settleSites (s : State) (l : List Nat) : State := (s.powerSites l false).retimeAll.updateTable

theorem settleSites_frame (s : State) (l : List Nat) : ∃ y i d ev v w, s.settleSites l =
    { s with sites := y, islands := i, dist := d, host.evbuf := ev, svc := v, vane := w } := by
  obtain ⟨x, hpower⟩ := powerSites_frame s l false
  obtain ⟨i, hretime⟩ := retimeAll_frame { s with sites := x.1, islands := x.2 }
  obtain ⟨d, ev, v, w, hupdate⟩ := updateTable_changes { s with sites := x.1, islands := i }
  rw [State.settleSites, hpower, hretime, hupdate]
  exact ⟨x.1, i, d, ev, v, w, rfl⟩

/-- Which sites are good stays as it is. -/
theorem good_settleSites (s : State) (l : List Nat) (n : Nat) : ((s.settleSites l).site n).good = (s.site n).good := by
  have hgood : ((s.powerSites l false).site n).good = (s.site n).good := by
    rw [site_powerSites]
    split <;> rfl
  obtain ⟨i, hretime⟩ := retimeAll_frame (s.powerSites l false)
  obtain ⟨d, ev, v, w, hupdate⟩ := updateTable_changes { s.powerSites l false with islands := i }
  rw [State.settleSites, hretime, hupdate]
  exact hgood

/-- The sites judged, the tiles numbered and the rest settled. -/
theorem entered_s4Run (s : State) (r : S4Find) : ∃ bad l,
    Entered 4 ((s.judgeSites (s4Judge r bad) (List.range 36)).numberTiles.settleSites l) (s.s4Run r) := by
  unfold State.s4Run
  extract_lets bad t used u v
  exact ⟨bad, (List.range 36).filter (fun n => !used.contains n), entered_openStatus v (by decide) _ _ _⟩

/-- The sites that serve a quadrant are good sites of it. -/
theorem mem_quadActive {s : State} {q spare n : Nat} (h : n ∈ s.quadActive q spare) : n ∈ quadSites q ∧ (s.site n).good = true := by
  unfold State.quadActive at h
  dsimp only at h
  have hgood : n ∈ (quadSites q).filter (fun n => (s.site n).good) := by
    split at h
    · exact List.mem_of_mem_filter h
    · exact h
  exact List.mem_filter.1 hgood

/-- Which sites serve a quadrant depends on which sites are good. -/
theorem quadActive_congr {s t : State} (h : ∀ n, (t.site n).good = (s.site n).good) (q spare : Nat) :
    t.quadActive q spare = s.quadActive q spare := by
  simp only [State.quadActive, h]

/-- STAGE_S4 numbers the tiles of each quadrant over its good sites. -/
theorem does_stageS4 {s : State} {r : S4Find} (hruns : s.boot.powered = true ∧ s.boot.running = true ∧ s.boot.stage = 4)
    (hdur : r.dur ≤ 2000000) : Does (.stageS4 r) s fun t => InStage 5 s t ∧ t.mem = s.mem ∧
      (∀ i n, i < 32 → (t.tile i).site = some n → n ∈ quadSites (i / 8) ∧ (t.site n).good = true) ∧
      ∀ q j, q < 4 → j < 8 → (t.tile (8 * q + j)).site = (t.quadActive q (s.chooseSpares.getD q 0))[j]? := by
  have hexec : exec (.stageS4 r) s = done s (s.s4Run r) := congrArg (done s) (stage_runs hruns hdur _)
  obtain ⟨bad, off, hpassed⟩ := entered_s4Run s r
  obtain ⟨x, hjudge⟩ := judgeSites_frame s (s4Judge r bad) (List.range 36)
  rw [hjudge] at hpassed
  obtain ⟨⟨y, hnumber⟩, htiles⟩ := numberTiles_numbers { s with sites := x }
  rw [hnumber] at hpassed htiles
  have hgood := good_settleSites (State.putNumbers { s with sites := x } y) off
  obtain ⟨z, i, d, ev, v, w, hsettle⟩ := settleSites_frame (State.putNumbers { s with sites := x } y) off
  rw [hsettle] at hpassed hgood
  refine does_entered hexec hpassed hruns rfl rfl ?_
  rintro _ ⟨n, rep, ql, l, rfl⟩
  refine ⟨rfl, fun i n hi hn => ?_, fun q j hq hj => ?_⟩
  · have hserves := mem_quadActive (List.mem_of_getElem? ((htiles i hi).symm.trans hn))
    exact ⟨hserves.1, (hgood n).trans hserves.2⟩
  · have htile := htiles (8 * q + j) (by omega)
    rw [show (8 * q + j) / 8 = q by omega, show (8 * q + j) % 8 = j by omega] at htile
    exact htile.trans (congrArg (·[j]?) (quadActive_congr hgood q _).symm)

/-! ### S5 (R228, R237, R469) -/

/-- What no run of a traffic generator touches. -/
def State.besideRuns (s : State) : State :=
  { s with mem := [], grans := [], cistern := {}, chans := [], host.evbuf := [], svc := {}, free := 0, seals := [] }

theorem besideRuns_ignoresStore : IgnoresStore State.besideRuns := fun _ _ _ _ _ _ _ => rfl

theorem besideRuns_tgCheck (s : State) (k : Nat) (r : TgRun) (off a : Nat) (b : Bytes) (i : Nat) :
    (s.tgCheck k r off a b i).besideRuns = s.besideRuns := by
  have hread := readGrans_keeps besideRuns_ignoresStore s 505 [(a + 32 * i) / 32]
  unfold State.tgCheck
  dsimp only
  split
  · exact hread
  · split
    · exact hread
    · exact hread

theorem besideRuns_tgPut (s : State) (a : Nat) (b : Bytes) : (s.tgPut a b).besideRuns = s.besideRuns := by
  have hwrite := writeGrans_keeps besideRuns_ignoresStore s false 505 a b []
  unfold State.tgPut
  dsimp only
  generalize (s.writeGrans false 505 a b).1 = t at hwrite ⊢
  exact hwrite

theorem besideRuns_tgStep (k : Nat) (r : TgRun) (s : State) (e : TgStep) : (s.tgStep k r e).besideRuns = s.besideRuns := by
  unfold State.tgStep
  split
  · exact besideRuns_tgPut s _ _
  · exact foldl_keeps State.besideRuns (fun t i => besideRuns_tgCheck t k r _ _ _ i) _ s

theorem besideRuns_tgHalt (s : State) (k : Nat) : (s.tgHalt k).besideRuns = s.besideRuns := by
  unfold State.tgHalt
  split
  · rfl
  · next r _ => exact foldl_keeps State.besideRuns (besideRuns_tgStep k r) _ s.freshNat.2

/-- The runs of the traffic generators are stopped. -/
def State.haltRuns (s : State) : State := (tkeys s.chans).foldl State.tgHalt s

theorem besideRuns_haltRuns (s : State) : s.haltRuns.besideRuns = s.besideRuns :=
  foldl_keeps State.besideRuns besideRuns_tgHalt _ s

/-- The stacks of a list train. -/
def State.trainStacks (s : State) (r : S5Find) (l : List Nat) : State := l.foldl (fun u h => u.trainStack r h) s

theorem trainStacks_frame (s : State) (r : S5Find) (l : List Nat) : ∃ x, s.trainStacks r l = { s with hbms := x } :=
  foldl_frame (·.hbms) (fun t x => { t with hbms := x }) (fun _ _ => ⟨_, rfl⟩) l s

theorem rate_trainStack (s : State) (r : S5Find) (i h : Nat) : ((s.trainStack r i).stack h).rate =
    if h = i then max (min 3 (r.rates.getD h 3)) (s.rateCap h) else (s.stack h).rate := by
  unfold State.trainStack
  dsimp only
  rw [stack_setStack]
  split
  · next heq => rw [heq]
  · rfl

/-- A stack of the list trains to the slower of what was found and its cap. -/
theorem rate_trainStacks (s : State) (r : S5Find) (l : List Nat) (h : Nat) : ((s.trainStacks r l).stack h).rate =
    if h ∈ l then max (min 3 (r.rates.getD h 3)) (s.rateCap h) else (s.stack h).rate := by
  induction l generalizing s with
  | nil => rfl
  | cons i l ih =>
    have hcap : (s.trainStack r i).rateCap = s.rateCap := rfl
    rw [State.trainStacks, List.foldl_cons, ← State.trainStacks, ih, rate_trainStack, hcap]
    by_cases hi : h = i
    · subst hi
      simp
    · simp [hi]

/-- What settling HBM does not touch. -/
def State.besideHbm (s : State) : State := { s with mem := [], grans := [], cistern := {}, free := 0, seals := [] }

theorem besideHbm_freeRange (s : State) (a n : Nat) : (s.freeRange a n).besideHbm = s.besideHbm := by
  obtain ⟨x, hx⟩ := freeRange_frame s a n
  rw [hx]
  rfl

theorem besideHbm_settleHbm (s : State) (r : S5Find) : (s.settleHbm r).besideHbm = s.besideHbm := by
  unfold State.settleHbm
  dsimp only
  split
  · rfl
  · refine foldl_keeps State.besideHbm (fun t e => ?_) r.tested s
    split
    · rfl
    · exact foldl_keeps State.besideHbm (fun u i => besideHbm_freeRange (u.zeroRange _ _) _ _) _ t

/-- The bytes that `zeroIf` selects read zero. -/
theorem byte_zeroIf {s : State} {inside : Nat → Bool} {a : Nat} (ha : inside a = true) : (s.zeroIf inside).byte a = 0 := by
  unfold State.zeroIf State.byte tdrop
  dsimp only
  induction s.mem with
  | nil => rfl
  | cons e m ih =>
    obtain ⟨i, b⟩ := e
    rw [List.filter_cons]
    split
    · next hi =>
      have hne : ¬a = i := by
        rintro rfl
        simp [ha] at hi
      simpa [tget, hne] using ih
    · exact ih

/-- After a power-on every byte of a trained stack reads zero. -/
theorem byte_settleHbm_cold {s : State} (hcold : s.boot.cold = true) (r : S5Find) {a : Nat} (ha : a < hbmEnd)
    (htrained : (s.stack (dramOf a).h).rate ≠ 3) : (s.settleHbm r).byte a = 0 := by
  unfold State.settleHbm
  rw [hcold]
  exact byte_zeroIf (by simp [State.trained, ha, htrained])

/-- The stacks trained and HBM settled, with the distance table marked. -/
def State.trainHbm (s : State) (r : S5Find) : State := ((s.trainStacks r (List.range 8)).settleHbm r).markDist

theorem trainHbm_reads (s : State) (r : S5Find) : let u := s.trainHbm r
    (u.boot = s.boot ∧ u.outside = s.outside ∧ u.host = s.host ∧ u.seals = []) ∧
    (∀ h, h < 8 → (u.stack h).rate = max (min 3 (r.rates.getD h 3)) (s.rateCap h)) ∧
    (s.boot.cold = true → ∀ a, a < hbmEnd → (u.stack (dramOf a).h).rate ≠ 3 → u.byte a = 0) := by
  intro u
  have hrate (h : Nat) (hh : h < 8) := (rate_trainStacks s r (List.range 8) h).trans (if_pos (List.mem_range.2 hh))
  obtain ⟨x, htrain⟩ := trainStacks_frame s r (List.range 8)
  rw [htrain] at hrate
  have hu : u = (State.settleHbm { s with hbms := x } r).markDist := by rw [← htrain]; rfl
  have hbeside := besideHbm_settleHbm { s with hbms := x } r
  have hseals : (State.settleHbm { s with hbms := x } r).seals = [] := rfl
  have hstack : (State.settleHbm { s with hbms := x } r).stack = State.stack { s with hbms := x } :=
    (congrArg State.stack hbeside :)
  have hzero (hcold : s.boot.cold = true) {a : Nat} := byte_settleHbm_cold (s := { s with hbms := x }) hcold r (a := a)
  rw [hu]
  generalize State.settleHbm { s with hbms := x } r = v at hbeside hseals hstack hzero ⊢
  refine ⟨⟨(congrArg State.boot hbeside :), (congrArg State.outside hbeside :), (congrArg State.host hbeside :), hseals⟩,
    fun h hh => ?_, fun hcold a ha htrained => hzero hcold ha ?_⟩
  · exact (congrArg (fun f => (f h).rate) hstack).trans (hrate h hh)
  · rwa [← hstack]

/-- Marking the distance table and drawing a status do not meet. -/
theorem openStatus_markDist (s : State) (failed : Bool) : (s.openStatus failed).2.markDist = (s.markDist.openStatus failed).2 := by
  cases failed <;> rfl

/-- The runs stopped, the stacks trained and the distance table marked. -/
theorem entered_s5Run (s : State) (r : S5Find) : Entered 5 (s.haltRuns.trainHbm r) (s.s5Run r) := by
  unfold State.s5Run
  extract_lets s1 t
  rw [openStatus_markDist]
  exact entered_openStatus t.markDist (by decide) _ _ _

/-- STAGE_S5 trains the stacks and zeroes HBM after a power-on; the host's side is as the stopped runs leave it. -/
theorem does_stageS5 {s : State} {r : S5Find} (hruns : s.boot.powered = true ∧ s.boot.running = true ∧ s.boot.stage = 5)
    (hdur : r.dur ≤ 4000000) : Does (.stageS5 r) s fun t => InStage 6 s t ∧ t.seals = [] ∧ t.host = s.haltRuns.host ∧
      (∀ h, h < 8 → (t.stack h).rate = max (min 3 (r.rates.getD h 3)) (s.rateCap h)) ∧
      (s.boot.cold = true → ∀ a, a < hbmEnd → (t.stack (dramOf a).h).rate ≠ 3 → t.byte a = 0) := by
  have hexec : exec (.stageS5 r) s = done s (s.s5Run r) := congrArg (done s) (stage_runs hruns hdur _)
  have hpassed := entered_s5Run s r
  have hbeside := besideRuns_haltRuns s
  have hboot : s.haltRuns.boot = s.boot := (congrArg State.boot hbeside :)
  have houtside : s.haltRuns.outside = s.outside := (congrArg State.outside hbeside :)
  have hcap : s.haltRuns.rateCap = s.rateCap := (congrArg State.rateCap hbeside :)
  obtain ⟨⟨hboot', houtside', hhost, hseals⟩, hrate, hzero⟩ := trainHbm_reads s.haltRuns r
  rw [hcap] at hrate
  rw [hboot] at hzero
  generalize s.haltRuns.trainHbm r = u at *
  refine does_entered hexec hpassed hruns (hboot'.trans hboot) (houtside'.trans houtside) ?_
  rintro _ ⟨n, rep, q, l, rfl⟩
  exact ⟨hseals, hhost, hrate, hzero⟩

/-! ### S6 -/

/-- The directories, the sync cells and the waiter tables are clear. -/
def State.clearHomes (s : State) : State :=
  { s with coh := { s.coh with dir := [], waiting := [] }, sync := {}, mesh.phases := [0, 0, 0, 0] }

theorem entered_s6Run (s : State) (r : S6Find) : Entered 6 s.clearHomes (s.s6Run r) :=
  entered_openStatus s.clearHomes (by decide) _ _ _

/-- STAGE_S6 clears the homes. -/
theorem does_stageS6 {s : State} {r : S6Find} (hruns : s.boot.powered = true ∧ s.boot.running = true ∧ s.boot.stage = 6)
    (hdur : r.dur ≤ 300000) : Does (.stageS6 r) s fun t => InStage 7 s t ∧ (∀ i, t.cell i = 0) ∧ t.coh.dir = [] ∧
      t.sync.table = [] ∧ t.mem = s.mem ∧ t.host = s.host := by
  have hexec : exec (.stageS6 r) s = done s (s.s6Run r) := congrArg (done s) (stage_runs hruns hdur _)
  refine does_entered hexec (entered_s6Run s r) hruns rfl rfl ?_
  rintro _ ⟨n, rep, q, l, rfl⟩
  exact ⟨fun _ => rfl, rfl, rfl, rfl, rfl⟩

end Sys2Proof.Machine

/-!
PROOF. On O36, which these proofs do not settle: it holds exactly when the free value that says how far a stopped run of a traffic
generator has come (log entries 1 and 31) is always 0. In S5 a run that has come further may read a granule with an error, which is told
to the host, and O36 says that S5 leaves the host's side as it is. The value is opaque, so neither O36 nor its negation follows.
-/

namespace Sys2Proof.Machine

/-! ### A run that meets an error -/

/-- A generator's check of `len` units from the first of channel 0. -/
def firstUnits (len : Nat) : TgRun := ⟨0, 2, 0, 0, 0, len, []⟩

/-- S5 is due, channel 0 runs a check of as many units as the next free number says, and the first granule has an on-die error. -/
def errorUnderRun (n : Nat) : State :=
  { boot := { powered := true, running := true, stage := 5 }
    free := n
    grans := [(0, { ode := 2 })]
    chans := [(0, { run := some (firstUnits (Config.freeNat n)) })] }

/-- An event waits for the host. -/
def State.Waits (s : State) : Prop := (s.evbuf 0).waiting ≠ []

/-- A function's event keeps what waits, and one for the host from S2 on waits (R379). -/
theorem waits_postTo {s : State} {f : Nat} (h : f = 0 ∧ s.boot.running = true ∧ 2 ≤ s.boot.stage ∨ s.Waits) (code payload : Nat) :
    (s.postTo f code payload).Waits := by
  unfold State.postTo
  dsimp only
  split
  · unfold State.Waits
    rw [evbuf_setEvbuf]
    split
    · next hf =>
      split
      · simp
      · next hfull =>
        intro hnone
        have hempty : (s.evbuf f).waiting = [] := hnone
        exact hfull (by simp [hempty])
    · next hf => exact h.resolve_left fun h => hf h.1.symm
  · next hclosed =>
    refine h.resolve_left fun ⟨_, hrunning, hstage⟩ => hclosed ?_
    simp [hrunning, hstage]

theorem waits_foldl_postTo {s : State} (h : s.Waits) (fns : List Nat) (code payload : Nat) :
    (fns.foldl (fun t f => t.postTo f code payload) s).Waits := by
  induction fns generalizing s with
  | nil => exact h
  | cons f fns ih => exact ih (waits_postTo (.inr h) code payload)

/-- An event that start-up raises is kept for the host (R379). -/
theorem waits_raise {s : State} (hrunning : s.boot.running = true) (hstage : 2 ≤ s.boot.stage) (code payload : Nat) (fns : List Nat)
    (src : Nat) (inj : Bool) : (s.raise code payload fns src inj).Waits := by
  have hposts : ((0 :: fns).eraseDups.foldl (fun t f => t.postTo f code payload) s).Waits := by
    rw [List.eraseDups_cons]
    exact waits_foldl_postTo (waits_postTo (.inl ⟨rfl, hrunning, hstage⟩) code payload) _ _ _
  unfold State.raise
  dsimp only
  split
  · exact hposts
  · unfold State.Waits State.evbuf
    rw [logRec_frame]
    exact hposts

/-- No granule holds an error that a read would report. -/
def State.Told (s : State) : Prop := ∀ g, (s.gran g).poison = true ∨ s.gran g = {}

theorem readGrans_one_told {s : State} (htold : s.Told) (agent g : Nat) : (s.readGrans agent [g]).1 = s := by
  change (s.readGran g agent).1 = s
  unfold State.readGran
  obtain h | h := htold g
  · simp [h]
  · simp [h]

/-- Checks find nothing to tell then, and change channel blocks only. -/
theorem tgCheck_told {s : State} (htold : s.Told) (k : Nat) (r : TgRun) (off a : Nat) (b : Bytes) (i : Nat) :
    ∃ x, s.tgCheck k r off a b i = { s with chans := x } := by
  unfold State.tgCheck
  dsimp only
  rw [readGrans_one_told htold]
  split
  · exact ⟨_, rfl⟩
  · split
    · exact ⟨s.chans, rfl⟩
    · exact ⟨_, rfl⟩

theorem tgChecks_told {s : State} (htold : s.Told) (k : Nat) (r : TgRun) (l : List (TgStep × Nat)) :
    ∃ x, s.tgChecks k r l = { s with chans := x } := by
  induction l generalizing s with
  | nil => exact ⟨s.chans, rfl⟩
  | cons q l ih =>
    obtain ⟨x, hx⟩ := tgCheck_told htold k r q.1.2.1 q.1.2.2.1 q.1.2.2.2 q.2
    change ∃ y, State.tgChecks (s.tgCheck k r q.1.2.1 q.1.2.2.1 q.1.2.2.2 q.2) k r l = _
    rw [hx]
    obtain ⟨y, hy⟩ := ih (s := { s with chans := x }) htold
    exact ⟨y, hy⟩

/-- An uncorrectable error of HBM during start-up is told (R234, R379). -/
theorem waits_granError {s : State} (hrunning : s.boot.running = true) (hstage : 2 ≤ s.boot.stage) {g : Nat} (hhbm : 32 * g < hbmEnd)
    (agent : Nat) (inj : Bool) : (s.granError g 2 agent inj).Waits := by
  unfold State.granError
  dsimp only
  rw [if_pos hhbm, if_neg (by decide)]
  exact waits_raise (s := s.setChan (chanNo (32 * g)) _) hrunning hstage _ _ _ _ _

/-- A read that meets an error of the stack's on-die code poisons the granule and tells of it. -/
theorem readGrans_onDie {s : State} {g : Nat} (hclean : (s.gran g).poison = false) (honDie : (s.gran g).ode = 2) (agent : Nat) :
    (s.readGrans agent [g]).1 =
      (s.setGran g { s.gran g with poison := true, flips := [], ode := 0 }).granError g 2 agent (s.gran g).injected := by
  change (s.readGran g agent).1 = _
  simp [State.readGran, hclean, honDie]

/-- A check changes what its read changes, and a channel block. -/
theorem tgCheck_reads (s : State) (k : Nat) (r : TgRun) (off a : Nat) (b : Bytes) (i : Nat) :
    ∃ x, s.tgCheck k r off a b i = { (s.readGrans 505 [(a + 32 * i) / 32]).1 with chans := x } := by
  unfold State.tgCheck
  dsimp only
  split
  · exact ⟨_, rfl⟩
  · split
    · exact ⟨_, rfl⟩
    · exact ⟨_, rfl⟩

/-- The state once a free number has been drawn. -/
def State.drawn (s : State) : State := s.freshNat.2

/-- The first check finds the error: no other will, and an event waits. -/
theorem tgCheck_errorUnderRun (n : Nat) (r : TgRun) (off : Nat) (b : Bytes) :
    let t := (errorUnderRun n).drawn.tgCheck 0 r off 0 b 0
    t.Told ∧ t.Waits := by
  intro t
  obtain ⟨x, hcheck⟩ := tgCheck_reads (errorUnderRun n).drawn 0 r off 0 b 0
  have hread := readGrans_onDie (s := (errorUnderRun n).drawn) (g := 0) rfl rfl 505
  have hwaits : State.Waits ((errorUnderRun n).drawn.readGrans 505 [0]).1 := by
    rw [hread]
    exact waits_granError (s := (errorUnderRun n).drawn.setGran 0 _) rfl (show 2 ≤ 5 by decide) (by decide) 505 _
  have hgrans : ((errorUnderRun n).drawn.readGrans 505 [0]).1.grans = [(0, { poison := true })] := by
    rw [hread, granError_frame]
    rfl
  generalize ((errorUnderRun n).drawn.readGrans 505 [0]).1 = u at hcheck hwaits hgrans
  have ht : t = { u with chans := x } := hcheck
  rw [ht]
  refine ⟨fun g => ?_, hwaits⟩
  unfold State.gran
  rw [hgrans]
  by_cases hg : g = 0
  · subst hg
    exact .inl rfl
  · exact .inr (if_neg hg)

theorem length_tgSteps_firstUnits (len : Nat) : (tgSteps 0 0 (firstUnits len)).length = len := by
  simp [tgSteps, tgUnits, tgPasses, firstUnits]

/-- A run over at least one unit begins with the check of the unit at address 0. -/
theorem tgSteps_firstUnits {len : Nat} (hlen : len ≠ 0) : ∃ b rest, tgSteps 0 0 (firstUnits len) = (false, 0, 0, b) :: rest := by
  obtain ⟨m, rfl⟩ := Nat.exists_eq_succ_of_ne_zero hlen
  simp [tgSteps, tgUnits, tgPasses, firstUnits, List.range_succ_eq_map, globalOf, bits]

/-- A run of checks whose free value is the number of its steps is stopped after them all. -/
theorem host_tgHalt_whole {s : State} {k : Nat} {r : TgRun} (hrun : (s.chan k).run = some r) (hop : r.op = 2)
    (hall : Config.freeNat s.free = (tgSteps (k / 32) (k % 32) r).length) :
    (s.tgHalt k).host = (s.drawn.tgChecks k r (tgGrans (tgSteps (k / 32) (k % 32) r))).host := by
  have htake : (tgSteps (k / 32) (k % 32) r).take (Config.freeNat s.free % ((tgSteps (k / 32) (k % 32) r).length + 1)) =
      tgSteps (k / 32) (k % 32) r := by
    rw [hall, Nat.mod_eq_of_lt (Nat.lt_succ_self _), List.take_length]
  rw [← foldl_tgStep k r s.drawn (tgSteps_check hop _ _)]
  unfold State.tgHalt
  rw [hrun]
  change (List.foldl _ s.drawn (List.take (Config.freeNat s.free % _) _)).host = _
  rw [htake]

/-- A free value other than 0 takes the run to its first unit, and the host is told. -/
theorem haltRuns_errorUnderRun {n : Nat} (hn : Config.freeNat n ≠ 0) : (errorUnderRun n).haltRuns.host ≠ (errorUnderRun n).host := by
  have hhalt : (errorUnderRun n).haltRuns.host = _ :=
    host_tgHalt_whole (s := errorUnderRun n) (k := 0) rfl rfl (length_tgSteps_firstUnits _).symm
  obtain ⟨b, rest, hsteps⟩ := tgSteps_firstUnits hn
  obtain ⟨htold, hwaits⟩ := tgCheck_errorUnderRun n (firstUnits (Config.freeNat n)) 0 b
  obtain ⟨x, hrest⟩ := tgChecks_told htold 0 (firstUnits (Config.freeNat n)) (tgGrans ((false, 0, 0, b) :: rest)).tail
  have hfirst : ((errorUnderRun n).drawn.tgChecks 0 (firstUnits (Config.freeNat n))
      (tgGrans (tgSteps 0 0 (firstUnits (Config.freeNat n))))).host =
      ((errorUnderRun n).drawn.tgCheck 0 (firstUnits (Config.freeNat n)) 0 0 b 0).host := by
    rw [hsteps]
    exact (congrArg State.host hrest :)
  intro hsame
  have hsame' := hfirst.symm.trans (hhalt.symm.trans hsame)
  unfold State.Waits State.evbuf at hwaits
  rw [hsame'] at hwaits
  exact hwaits rfl

/-! ### What O36 turns on -/

/-- Runs that are stopped before their first step leave the host's side. -/
theorem host_haltRuns (hzero : ∀ n, Config.freeNat n = 0) (s : State) : s.haltRuns.host = s.host := by
  refine foldl_keeps State.host (fun t k => ?_) _ s
  unfold State.tgHalt State.freshNat
  split
  · rfl
  · dsimp only
    rw [hzero, Nat.zero_mod]
    rfl

/-- The stages do what O36 says when stopped runs leave the host's side. -/
theorem middleStages_of_host (hhost : ∀ s : State, s.haltRuns.host = s.host) : Obligations.MiddleStages := by
  unfold Obligations.MiddleStages
  intro s r2 r3 r4 r5 r6 runs next
  refine ⟨does_stageS2, does_stageS3, does_stageS4, fun hruns hdur => ?_, does_stageS6⟩
  have hdoes := does_stageS5 hruns hdur
  rwa [hhost s] at hdoes

/-- A free value that takes the run on makes S5 tell the host of the error. -/
theorem host_of_middleStages (h : Obligations.MiddleStages) (n : Nat) :
    (errorUnderRun n).haltRuns.host = (errorUnderRun n).host := by
  unfold Obligations.MiddleStages at h
  obtain ⟨-, -, -, hs5, -⟩ := h (errorUnderRun n) ⟨false, [], [], 0⟩ ⟨[], [], 0⟩ ⟨[], [], 0⟩ ⟨[], [], [], [], 0⟩ ⟨0, 0, 0, 0⟩
  obtain ⟨t, hexec, -, -, hsame, -⟩ := hs5 ⟨rfl, rfl, rfl⟩ (Nat.zero_le _)
  obtain ⟨u, hexec', -, -, hhalted, -⟩ := does_stageS5 (s := errorUnderRun n) (r := ⟨[], [], [], [], 0⟩) ⟨rfl, rfl, rfl⟩ (Nat.zero_le _)
  obtain rfl : t = u := by simpa [hexec] using hexec'
  exact hhalted.symm.trans hsame

/-- O36 holds exactly when no stopped run has come further than its start. -/
theorem middleStages_iff : Obligations.MiddleStages ↔ ∀ n, Config.freeNat n = 0 := by
  refine ⟨fun h n => ?_, fun hzero => middleStages_of_host (host_haltRuns hzero)⟩
  by_contra hn
  exact haltRuns_errorUnderRun hn (host_of_middleStages h n)

end Sys2Proof.Machine
